-- ==== Sys2Proof/Word.lean ====
section
/-! DEFINITION. The word types of the register space and of every byte string the module sends or receives. -/

namespace Sys2Proof

/-- A byte. Multi-byte fields are held most significant byte first (R10). -/
abbrev Byte := BitVec 8

/-- A register: 32 bits on a 4-byte boundary (R11). -/
abbrev Word := BitVec 32

/-- The timestamp of records, frames and registers: bits [47:0] of the extended time base (R22). -/
abbrev Stamp := BitVec 48

/-- One bit as a number. -/
def b2n (b : Bool) : Nat := if b then 1 else 0

end Sys2Proof
end

