-- ==== Sys2Proof/Config.lean ====
section
/-! DEFINITION. What a module, its firmware or its vendor fixes and this manual leaves open: constants without a body,
so that no proof can see a value of them. -/

namespace Sys2Proof

/-- MOD_ID.HW_ISSUE, "Per module" (R340): 03h issue C and later (R1). Free value, log 4. -/
opaque Config.hwIssue : Byte

/-- Hardware serial number, "set in production" (R340). Free value, log 4. -/
opaque Config.hwSerial : BitVec 48

/-- Release within its line of the vital firmware with a check value, "Per firmware" (R340). Free value, log 4. -/
opaque Config.vitalRelease : (check : BitVec 64) → BitVec 16

/-- Release of the Pewter firmware within its line, "Per firmware" (R340). Free value, log 4. -/
opaque Config.mgtRelease : BitVec 16

/-- Check value of the vital firmware a module runs first (R339, R282). Free value, log 4. -/
opaque Config.firmwareCheck : BitVec 64

/-- Expected CRC-32C signature of test step `step` (1 to 15) for a test of kind `kind`, held in the signed firmware
image (R302). Free value, log 8. -/
opaque Config.expectedSignature : (kind step : Nat) → Word

/-- Of the two equal largest taps of resampler phase set 32, whether tap 7 is the one adjusted (R92 names one largest tap).
Free value, log 9. -/
opaque Config.phase32First : Bool

/-- A free value: the `n`-th draw, for a value that the manual names and does not state (log 3). -/
opaque Config.freeNat : Nat → Nat

/-- Order code of the T64-00 (R340). -/
def Config.orderCode : BitVec 16 := 0x0040

/-- Release line of the vital and Pewter firmware this manual covers (R1). -/
def Config.firmwareLine : Byte := 0x04

end Sys2Proof
end

