-- ==== Sys2Proof/Machine/Types.lean ====
section
/-! DEFINITION. The data that commands carry and that State is made of: records, requests, fault kinds and the decoded
configuration image. Plain data only. -/

namespace Sys2Proof.Machine

/-- Coil system of a head (Table 0-4). -/
inductive Sys where
  | cs1
  | cs2
  deriving DecidableEq, Repr

/-- An axle record (R122, Table 4-2), field by field. `rsvA` and `rsvB` are the reserved bits, 0 in every record the
module forms; a record from a neighbour is kept exactly as received (R137). -/
structure AxleRec where
  ts : Stamp := 0
  dir : BitVec 2 := 0
  point : BitVec 6 := 0
  speed : BitVec 11 := 0
  rsvA : BitVec 5 := 0
  depth : Byte := 0
  length : Byte := 0
  asym : Byte := 0
  ratio : Byte := 0
  modAddr : BitVec 11 := 0
  cause : BitVec 5 := 0
  uncertain : Bool := false
  test : Bool := false
  scm : Bool := false
  dwell : Bool := false
  rsvB : BitVec 4 := 0
  deriving DecidableEq, Repr

/-- Who asks for an opcode's execution (R225, R227): a vote of lanes (`exempt` when a packet accepted without check 9
opened or joined it, R197), a management source 2000h + id, or a Gethitar session 3000h + id. -/
inductive Who where
  | lanes (exempt : Bool)
  | mgt (id : BitVec 4)
  | tool (id : BitVec 3)
  deriving DecidableEq, Repr

/-- The opcodes of Table 8-8 with their parameters, as the interpreter hands them to an executor. -/
inductive Op where
  | getStatus
  | getSection (gid : Word)
  | getAxles (gid : Word) (first : BitVec 16) (count : Byte) (list : Byte)
  | resetDirect (gid : Word)
  | resetPreparatory (gid : Word)
  | resetCancel (gid : Word)
  | faultAck (input : Byte)
  | cfgBegin (len : Word)
  | cfgBlock (off : Word) (data : List Byte)
  | cfgEnd (crc : Word)
  | cfgConfirm (check : BitVec 64)
  | cfgRevert (mode : Byte)
  | bankLoad (bank : Bool) (first : Byte) (coefs : List (BitVec 24))
  | bankClose (bank : Bool) (crc : Word)
  | bankSwap (first last : BitVec 6) (bank : Bool)
  | presetSelect (first last : BitVec 6) (sel : Option (BitVec 2)) (mode : Option Bool)
  | syncReset (first last : BitVec 6)
  | engineSplit (src tgt : Fin 4)
  | engineJoin (e : Fin 4)
  | debugAttach (e : Fin 4)
  | debugDetach (e : Fin 4)
  | selftestShutdown (windowed : Bool)
  | selftestPort (n : Fin 64)
  | loopback (target index kind : Byte)
  | timebaseStatus
  | logRead (log count : Byte) (first : BitVec 48)
  | fwStage (off : Word) (data : List Byte)
  | fwStageClose (len : Word)
  | fwActivate (check : BitVec 64)
  deriving DecidableEq, Repr

/-- Events that fail an engine frame (Table 6-4), with CEN_RESTART.LAST_KIND 01h to 08h in this order (R181). -/
inductive FrameFail where
  | mismatch
  | noncode
  | parity
  | ecc
  | overrun
  | cycles
  | canary
  | token
  deriving DecidableEq, Repr

/-- An upset that a frame meets before its commit (R153, R157, R165, R166, R38): what it changes in the engine that runs the frame.
Whether it fails the frame, and as what, follows from the checks of the schedule. -/
inductive Upset where
  /-- A word of the plain or of the coded working store. -/
  | plain (pos : Fin 16384) (v : BitVec 48)
  | coded (pos : Fin 16384) (w : BitVec 64)
  /-- One bit of a word of the checkpoint that the frame loads. -/
  | load (pos : Fin 16384) (bit : Fin 64)
  /-- Bits of a delay register; its parity bits stay. -/
  | delay (i : Fin 1440) (mask : BitVec 64)
  /-- Bits of a companion word (word 1 where `hi`), or of a plain byte, of a pool slot. -/
  | pool (slot : Fin 65536) (hi : Bool) (mask : BitVec 64)
  | poolPlain (slot : Fin 65536) (i : Fin 16) (mask : Byte)
  /-- Bits of a word of the hand-over buffer's part that this engine has written or is to load. -/
  | buffer (i : Fin 16384) (mask : BitVec 64)
  /-- A coded link safety code. -/
  | linkCode (i : Fin 16) (w : BitVec 64)
  /-- The comparator does not report a canary as injected, or reports another difference during S5. -/
  | canary (i : Fin 5)
  | extra
  /-- An uncorrectable error in a word that the engine reads. -/
  | ecc (word : Fin 524288)
  deriving DecidableEq, Repr

/-- What the flash makes of a page (R318, R319): it holds it; its block fails to program or erase and gives way to a spare one; it
holds it, and the page fails its check when it is read. -/
inductive PageFate where
  | written
  | retired
  | decays
  deriving DecidableEq, Repr

/-- The kinds of upsets, as FRAME_FAILURE names them beside a place and a word of bits. -/
inductive UpsetKind where
  | plain
  | coded
  | load (bit : Fin 64)
  | delay
  | pool (hi : Bool)
  | poolPlain (i : Fin 16)
  | buffer
  | linkCode
  | canary
  | extra
  | ecc
  deriving DecidableEq, Repr

/-- The number of places that a kind of upset can meet. -/
def UpsetKind.places (k : UpsetKind) : Nat :=
  match k with
  | .plain => 16384
  | .coded => 16384
  | .load _ => 16384
  | .delay => 1440
  | .pool _ => 65536
  | .poolPlain _ => 65536
  | .buffer => 16384
  | .linkCode => 16
  | .canary => 5
  | .extra => 1
  | .ecc => 524288

/-- The upset of a kind at the place `p` (taken modulo the number of its places) with the bits `v`. -/
def Upset.of (k : UpsetKind) (p : Nat) (v : BitVec 64) : Upset :=
  match k with
  | .plain => .plain (Fin.ofNat 16384 p) (v.setWidth 48)
  | .coded => .coded (Fin.ofNat 16384 p) v
  | .load bit => .load (Fin.ofNat 16384 p) bit
  | .delay => .delay (Fin.ofNat 1440 p) v
  | .pool hi => .pool (Fin.ofNat 65536 p) hi v
  | .poolPlain i => .poolPlain (Fin.ofNat 65536 p) i (v.setWidth 8)
  | .buffer => .buffer (Fin.ofNat 16384 p) v
  | .linkCode => .linkCode (Fin.ofNat 16 p) v
  | .canary => .canary (Fin.ofNat 5 p)
  | .extra => .extra
  | .ecc => .ecc (Fin.ofNat 524288 p)

/-- What the session of an engine under debug does in the frame that a tick ends (R179): it stops the plain pass, lets it run, lets
it run for one frame, or writes a word of the plain working store. -/
inductive DebugAct where
  | stop
  | run
  | step
  | write (pos : Fin 16384) (v : BitVec 48)
  deriving DecidableEq, Repr

/-- What the scrubber finds in a word of the ECC store (R38). -/
inductive EccOutcome where
  | clean
  | single
  | double
  deriving DecidableEq, Repr

/-- Loop conditions of Table 2-3, by coil system where they have one. -/
inductive LoopCond where
  | supply
  | openC (y : Sys)
  | overC (y : Sys)
  deriving DecidableEq, Repr

/-- Supervised rails with a state of R287. -/
inductive Rail where
  | v33
  | core
  | field
  deriving DecidableEq, Repr

/-- What one comparator reads of one contact return: at or above 8.0 V, at or below 3.0 V, or between (R350). -/
inductive Level where
  | closed
  | opened
  | between
  deriving DecidableEq, Repr

/-- One contact of one input at a read instant, as the two independent evaluators see it (R247). -/
structure ContactRead where
  evA : Level
  evB : Level
  deriving DecidableEq, Repr

/-- A stream with a period (R194, R198): the neighbour's STATUS stream, a lane's COMMAND stream, or the received AREA
stream with the given number. -/
inductive StreamRef where
  | status (k : Fin 8)
  | command (k : Fin 3)
  | area (i : Nat)
  deriving DecidableEq, Repr

/-- The path a packet came by (R225): a lane's own link, or the Pewter mailbox. -/
inductive Path where
  | lane (i : Fin 3)
  | mailbox
  deriving DecidableEq, Repr

/-- The packet of a COMMAND_PACKET step: the oldest one waiting at the interpreter (reassembled from COMMAND frames or
left by MGT_COMMAND), or one written to the mailbox or reassembled outside this model's frames. -/
inductive PacketSrc where
  | waiting
  | direct (path : Path) (bytes : List Byte)
  deriving DecidableEq, Repr

/-- A sender of management datagrams: IPv4 address and UDP port (R324). -/
structure Endpoint where
  ip : Word
  port : BitVec 16
  deriving DecidableEq, Repr

/-- Sensors of Table 12-2 that have a warning level. -/
inductive Sensor where
  | tCore
  | tMgt
  | tInlet
  | humidity
  deriving DecidableEq, Repr

/-- Ethernet traffic outside the management transport (R324). -/
inductive EthFrame where
  | arp
  | icmpEcho
  | other
  | badFcs
  deriving DecidableEq, Repr

/-- The partner that an Ethernet link change finds (R324). -/
inductive EthPartner where
  | auto100
  | auto10
  | parallel10
  | parallel100
  | down
  deriving DecidableEq, Repr

/-- Instructions of the test access port on X7 (R353). -/
inductive TapOp where
  | bypass
  | idcode
  | other
  /-- One switch of an output is closed alone, the low side or the high side; both are opened (R366). -/
  | closeAlone (j : Fin 8) (low : Bool)
  | openBoth (j : Fin 8)
  deriving DecidableEq, Repr

/-- The two readers that have a latch of their own (R337). -/
inductive Reader where
  | pewter
  | interpreter
  deriving DecidableEq, Repr

/-- Access width (R330). -/
inductive Width where
  | w8
  | w16
  | w32
  deriving DecidableEq, Repr

/-- What the module's own measurements give at a tick: engine cycles between the last two ticks and the cycle at which
S8 ended, per engine (R27, CEN_CYCLES; of a frame that overruns, the cycle that its schedule has reached), the logic rails in mV (SUP_LOGIC) and the logic input in 0.1 V and mA (SUP_INPUT). -/
structure TickMeas where
  cyc : Vector (BitVec 16) 4 := Vector.replicate 4 61133
  sched : Vector (BitVec 16) 4 := Vector.replicate 4 60927
  v33 : BitVec 16 := 3300
  vcore : BitVec 16 := 900
  vin : BitVec 16 := 240
  iin : BitVec 16 := 400
  /-- What the sessions of the engines under debug did since the last tick. -/
  sessions : List (Fin 4 × DebugAct) := []
  deriving DecidableEq, Repr

/-! ### The configuration image, decoded (R266, R267, Table 10-3) -/

/-- A member point of a section (R131): one word of GET_SECTION. -/
structure Member where
  modAddr : BitVec 11
  point : BitVec 6
  sense : Bool
  deriving DecidableEq, Repr

/-- A SECTION item. -/
structure SecDef where
  idx : Fin 256
  cfg : Word
  tol : Word
  plaus : Word
  members : List Member
  deriving DecidableEq, Repr

/-- A STREAM item: one AREA stream (R194). `ms4` is period code 01h. -/
structure StreamDef where
  recv : Bool
  link : Fin 8
  peer : BitVec 11
  ms4 : Bool
  slot : Byte
  mask : BitVec 64
  deriving DecidableEq, Repr

/-- A RELAY item (R202). -/
structure RelayDef where
  src : BitVec 16
  dst : BitVec 16
  inLink : Fin 8
  outLink : Fin 8
  slot : Byte
  ms4 : Bool
  deriving DecidableEq, Repr

/-- Every CFG field of the module, as register words in the encoding of their register fields (R267). -/
structure Cfg where
  modAddr : BitVec 11
  serial : BitVec 64
  prtCfg : Vector Word 64
  prtHead : Vector Word 64
  fltCfg : Vector Word 128
  fltPhase : Vector Word 128
  bankCoef : Vector (List (BitVec 24)) 2
  bankCrc : Vector Word 2
  wduHead : Vector Word 64
  wduLevels : Vector Word 64
  wduThr1 : Vector Word 64
  wduThr2 : Vector Word 64
  cenCfg : Vector Word 4
  secs : List SecDef
  lnkCfg : Vector Word 8
  lnkAsym : Vector Word 8
  seed : Word
  streams : List StreamDef
  relays : List RelayDef
  remotes : List (BitVec 19)
  tbsCfg : Word
  viCfg : Vector Word 8
  voCfg : Vector Word 8
  deriving DecidableEq, Repr

/-- The CFG fields while no image is active: the Reset columns (R14, Tables 13-6 to 13-11). VI_CFG.USE of VI6 and VI7
and PRT_CFG.CODE are read only for their element and are added where a register is read. -/
def Cfg.reset : Cfg where
  modAddr := 0
  serial := 0
  prtCfg := Vector.replicate 64 0
  prtHead := Vector.replicate 64 0
  fltCfg := Vector.replicate 128 0x2C030064
  fltPhase := Vector.replicate 128 0
  bankCoef := Vector.replicate 2 []
  bankCrc := Vector.replicate 2 0
  wduHead := Vector.replicate 64 0x008C1B58
  wduLevels := Vector.replicate 64 0x00961B58
  wduThr1 := Vector.replicate 64 0x01C2012C
  wduThr2 := Vector.replicate 64 0x01C2012C
  cenCfg := Vector.replicate 4 0
  secs := []
  lnkCfg := Vector.replicate 8 0x00001400
  lnkAsym := Vector.replicate 8 0
  seed := 0
  streams := []
  relays := []
  remotes := []
  tbsCfg := 0
  viCfg := Vector.replicate 8 0x00000064
  voCfg := Vector.replicate 8 0

/-- A configuration image in a slot: its bytes, its settings, and its check value (R264, R273). -/
structure CfgImage where
  bytes : List Byte
  cfg : Cfg
  check : BitVec 64
  deriving DecidableEq, Repr

end Sys2Proof.Machine
end

