-- ==== Sys2Proof/Syntax.lean ====
section
/-! DEFINITION. The commands of the block: one constructor per row of spec/opcode_table.json, in the table's order.
`dt` is the real time in ns since the command before (log 2); a row without it happens at an instant the frame fixes. -/

namespace Sys2Proof
open Sys2Proof.Machine

/-- One indivisible step of the module (95_what_each_step_holds.md). The rule a row belongs to stands beside it. -/
inductive Instr where
  /-- R294. `bootOk`: the ROM's digest and signature check (R281); `slotOk`: the active slot will read back as stored at its check (R279). -/
  | moduleResetRelease (dt : Nat) (bootOk slotOk : Bool)
  /-- R296 -/
  | startFieldStep (dt : Nat)
  /-- R299 -/
  | startSequenceEnd (dt : Nat)
  /-- R19 to R28 -/
  | tick (m : TickMeas)
  /-- R147 -/
  | pendingExitExpiry (sx : Fin 256)
  /-- R163, R170. `token`: the 32 bits that the engine formed in S8. -/
  | frameCommit (e : Fin 4) (token : Word)
  /-- R165 to R169. `u`: the upset that the open frame meets; the checks of the schedule find it or not. -/
  | frameFailure (e : Fin 4) (k : UpsetKind) (p : Nat) (v : BitVec 64)
  /-- R171 -/
  | tokenExpiry (e : Fin 4)
  /-- R174 -/
  | handoverFrame
  /-- R174, R176 -/
  | handoverSwitch
  /-- R176 -/
  | splitSlotsStart (e : Fin 4)
  /-- R180, R255 -/
  | debugKeyEnd
  /-- R38. `word`: 64-bit word of the ECC store. -/
  | eccScrub (word : Fin 524288) (o : EccOutcome)
  /-- R31 -/
  | referenceAbsent (dt : Nat)
  /-- R31 -/
  | rootPllOutOfLock (dt : Nat)
  /-- R31 -/
  | tickPeriodFault (dt : Nat)
  /-- R24, R210 -/
  | timeBaseStep
  /-- R211 -/
  | timeBaseExtLoad
  /-- R77. `ws`: the 1,536 words of the superframe that this tick ends, word 0 first. -/
  | laneSuperframe (k : Fin 8) (ws : List (BitVec 20))
  /-- R34 -/
  | laneResyncTimeout (dt : Nat) (k : Fin 8)
  /-- R78 -/
  | laneReturnSyncReset (k : Fin 8)
  /-- R35 -/
  | returnLaneFailure (dt : Nat) (r : Fin 2)
  /-- R35 -/
  | returnLaneTimeout (dt : Nat) (r : Fin 2)
  /-- R35 -/
  | returnLaneRestored (dt : Nat) (r : Fin 2)
  /-- R49 -/
  | supplyRampEnd (dt : Nat) (n : Fin 64)
  /-- R75. `codes`: the 12-bit code of each of the 64 inputs for the slot of this tick. -/
  | sarConversion (codes : Vector (BitVec 12) 64)
  /-- R54 -/
  | loopConditionDetected (dt : Nat) (n : Fin 64) (q : LoopCond)
  /-- R55 -/
  | pointFailureEnd (dt : Nat) (n : Fin 64)
  /-- R58, R59 -/
  | codePeriodEnd
  /-- R61 -/
  | portTestEligible (dt : Nat) (n : Fin 64)
  /-- R61, R62 -/
  | runtimeTestStart (dt : Nat)
  /-- R62 -/
  | runtimeTestWindowOpen (dt : Nat)
  /-- R62 -/
  | runtimeTestSinkStep (dt : Nat)
  /-- R63 -/
  | runtimeTestSinkOff (dt : Nat)
  /-- R62, R64 -/
  | runtimeTestSettle (dt : Nat)
  /-- R62 -/
  | runtimeTestComplete (dt : Nat)
  /-- R62 -/
  | runtimeTestCs2Start (dt : Nat)
  /-- R66 -/
  | runtimeTestOverdue (dt : Nat) (n : Fin 64)
  /-- R68. `uA`: the clamp current in µA. -/
  | surgeDetected (dt : Nat) (n : Fin 64) (uA : Nat)
  /-- R68 -/
  | surgeEnd (dt : Nat) (n : Fin 64)
  /-- R68. `uA`: the clamp current. -/
  | surgeLong (dt : Nat) (x : Fin 64 × Nat)
  /-- R69 -/
  | lb0Step (dt : Nat) (n : Fin 64)
  /-- R70 -/
  | lb1Step (dt : Nat) (n : Fin 64)
  /-- R71 -/
  | portLoopbackEnd (dt : Nat) (n : Fin 64)
  /-- R74. `bits`: the last 64 outputs of the modulator. -/
  | modulatorOverload (dt : Nat) (x : Fin 128 × BitVec 64)
  /-- R99. `words`: the words of the channel's isolator lane (R76) that have arrived since the last event that brought words of that
  lane, oldest first. -/
  | outputSample (c : Fin 128) (words : List (BitVec 20))
  /-- R101 -/
  | saturationEnd (dt : Nat) (c : Fin 128)
  /-- R86 -/
  | fadeComplete (c : Fin 128)
  /-- R98 -/
  | scmFillEnd (dt : Nat) (c : Fin 128)
  /-- R98 -/
  | scmChangeover (dt : Nat) (c : Fin 128)
  /-- R100, R90 -/
  | syncResetSettled (c : Fin 128)
  /-- R103 -/
  | lb2PhaseChange (dt : Nat) (n : Fin 64)
  /-- R103 -/
  | lb2End (dt : Nat) (n : Fin 64)
  /-- R104 -/
  | lb3Run (dt : Nat) (n : Fin 64)
  /-- R104 -/
  | lb3End (dt : Nat) (n : Fin 64)
  /-- R79 -/
  | laneEchoEnd (dt : Nat) (k : Fin 8)
  /-- R118 -/
  | pairedSample (n : Fin 64)
  /-- R113 -/
  | negativeDampingTimeout (dt : Nat) (n : Fin 64) (y : Sys)
  /-- R116 -/
  | activeHoldEnd (dt : Nat) (c : Fin 128)
  /-- R126 -/
  | axleRecordDelivered (n : Fin 64)
  /-- R184. `pairs`: consecutive idle pairs at one character boundary. -/
  | linkSyncAcquired (dt : Nat) (k : Fin 8) (pairs : Nat)
  /-- R184. `bad`: which of the last 16 characters are invalid or violate the disparity. -/
  | linkSyncLoss (dt : Nat) (k : Fin 8) (bad : BitVec 16)
  /-- R185 -/
  | linkSlotStart (k : Fin 8)
  /-- R191. `lineOk`: no code or disparity error; `sof`: the receive timestamp of the SOF (R184). The step is the
  acceptance instant. -/
  | frameReceived (dt : Nat) (k : Fin 8) (lineOk : Bool) (sof : Stamp) (bytes : List Byte)
  /-- R198 -/
  | streamPeriodEnd (dt : Nat) (t : StreamRef)
  /-- R212 -/
  | holdoverExpiry (dt : Nat)
  /-- R206 -/
  | voteWindowEnd (dt : Nat)
  /-- R216. `intact`: every frame accepted with payload intact; `delay`, `ref`: measured loop delay and internal reference, ns. -/
  | lbaEnd (dt : Nat) (k : Fin 8) (errs : List (Fin 80 × Fin 2048)) (delay ref : BitVec 24)
  /-- R217. Whether each of the two hardware checkers computes the safety code aright. -/
  | lbfRun (dt : Nat) (k : Fin 8) (crc : Word) (sc : Word × Word)
  /-- R217 -/
  | lbfNoSlot (dt : Nat) (k : Fin 8)
  /-- R218 -/
  | lbrRequestTimeout (dt : Nat) (k : Fin 8)
  /-- R218 -/
  | lbrLoopStart (dt : Nat) (k : Fin 8)
  /-- R218. `intact`: every TEST frame returned intact; `delay`: measured round-trip delay, ns. -/
  | lbrEnd (dt : Nat) (k : Fin 8) (errs : List (Fin 200 × Fin 2048)) (delay : BitVec 24)
  /-- R228 -/
  | commandPacket (dt : Nat) (p : PacketSrc)
  /-- R240 01h -/
  | getStatus (who : Who)
  /-- R240 02h -/
  | getSection (who : Who) (gid : Word)
  /-- R240 03h -/
  | getAxles (who : Who) (gid : Word) (first : BitVec 16) (count list : Byte)
  /-- R143 -/
  | resetDirect (who : Who) (gid : Word)
  /-- R143 -/
  | resetPreparatory (who : Who) (gid : Word)
  /-- R143 -/
  | resetCancel (who : Who) (gid : Word)
  /-- R254 -/
  | faultAck (who : Who) (input : Byte)
  /-- R269 -/
  | cfgBegin (who : Who) (len : Word)
  /-- R269, R270 -/
  | cfgBlock (who : Who) (off : Word) (data : List Byte)
  /-- R271 -/
  | cfgEnd (who : Who) (crc : Word)
  /-- R271. `readBackOk`: the staged slot reads back as written (step 7). -/
  | cfgVerificationEnd (dt : Nat) (readBackOk : Bool)
  /-- R275 -/
  | cfgConfirm (who : Who) (check : BitVec 64)
  /-- R276 -/
  | imageActivation
  /-- R277 -/
  | cfgRevertDiscard (who : Who)
  /-- R277 -/
  | cfgRevertPrevious (who : Who)
  /-- R278 -/
  | stagedImageExpiry (dt : Nat)
  /-- R85 -/
  | bankLoad (who : Who) (bank : Bool) (first : Byte) (coefs : List (BitVec 24))
  /-- R85 -/
  | bankLoadClose (who : Who) (bank : Bool) (crc : Word)
  /-- R86 -/
  | bankSwap (who : Who) (first last : BitVec 6) (bank : Bool)
  /-- R96 -/
  | presetSelect (who : Who) (first last : BitVec 6) (sel : Option (BitVec 2)) (mode : Option Bool)
  /-- R100 -/
  | syncReset (who : Who) (first last : BitVec 6)
  /-- R173 -/
  | engineSplit (who : Who) (src tgt : Fin 4)
  /-- R177 -/
  | engineJoin (who : Who) (e : Fin 4)
  /-- R179 -/
  | debugAttach (who : Who) (e : Fin 4)
  /-- R180 -/
  | debugDetach (who : Who) (e : Fin 4)
  /-- R304 -/
  | selftestShutdown (who : Who) (windowed : Bool)
  /-- R61 -/
  | selftestPort (who : Who) (n : Fin 64)
  /-- R69 -/
  | loopbackSetLb0 (who : Who) (n : Fin 64)
  /-- R70 -/
  | loopbackSetLb1 (who : Who) (n : Fin 64)
  /-- R103 -/
  | loopbackSetLb2 (who : Who) (n : Fin 64)
  /-- R104 -/
  | loopbackSetLb3 (who : Who) (n : Fin 64)
  /-- R79 -/
  | loopbackSetEcho (who : Who) (k : Fin 8)
  /-- R216 -/
  | loopbackSetLba (who : Who) (k : Fin 8)
  /-- R217 -/
  | loopbackSetLbf (who : Who) (k : Fin 8)
  /-- R218 -/
  | loopbackSetLbr (who : Who) (k : Fin 8)
  /-- R240 60h -/
  | timebaseStatus (who : Who)
  /-- R323 -/
  | logRead (who : Who) (log count : Byte) (first : BitVec 48)
  /-- R326 -/
  | fwStage (who : Who) (off : Word) (data : List Byte)
  /-- R326 -/
  | fwStageClose (who : Who) (len : Word)
  /-- R326. Outcomes of the cryptographic checks 3, 4 and 5. -/
  | fwStageVerifyEnd (dt : Nat) (digestOk keyOk sigOk : Bool)
  /-- R280 -/
  | fwActivate (who : Who) (check : BitVec 64)
  /-- R280 -/
  | firmwareActivation
  /-- R243 -/
  | crcStart (u : Fin 4)
  /-- R243 -/
  | crcData (u : Fin 4) (w : Word)
  /-- R243 -/
  | crcDataB (u : Fin 4) (b : Byte)
  /-- R243 -/
  | crcFinish (u : Fin 4)
  /-- R247. The contacts A and B of each input at the read instant. -/
  | inputRead (a b : Vector ContactRead 8)
  /-- R248 -/
  | feedGap
  /-- R250 -/
  | discrepancyTimeout (dt : Nat) (i : Fin 8)
  /-- R250 -/
  | discrepantEnd (dt : Nat) (i : Fin 8)
  /-- R253 -/
  | stuckDeclaration (dt : Nat) (i : Fin 8)
  /-- R247 -/
  | evaluatorFault (i : Fin 8)
  /-- R247 -/
  | evaluatorFaultEnd (dt : Nat) (i : Fin 8)
  /-- R248 -/
  | feedFaultEnd (i : Fin 8)
  /-- R251 -/
  | pressReportEnd (dt : Nat) (i : Fin 8)
  /-- R258 -/
  | outputReadbackFault (dt : Nat) (j : Fin 8)
  /-- R258 -/
  | overcurrentTrip (dt : Nat) (j : Fin 8)
  /-- R258 -/
  | overcurrentTripEnd (dt : Nat) (j : Fin 8)
  /-- R259 -/
  | offPulseTestStart (j : Fin 8)
  /-- R259, R261 -/
  | offPulseWindowClose (dt : Nat) (j : Fin 8)
  /-- R259 -/
  | offPulseCheck (dt : Nat) (j : Fin 8)
  /-- R262 -/
  | restartButtonPress (dt : Nat)
  /-- R341 -/
  | restartButtonRelease (dt : Nat)
  /-- R287. `upper`: the rail lies above its upper limit; `reading` in mV for a logic rail, in 0.1 V for the field bus. -/
  | railWarning (dt : Nat) (r : Rail) (upper : Bool) (reading : BitVec 16)
  /-- R287. `reading`: mV for a logic rail, 10 mV for the field bus. -/
  | railRecovering (dt : Nat) (r : Rail) (reading : Nat)
  /-- R287 -/
  | railNormal (dt : Nat) (r : Rail)
  /-- R292. `core`: the core rail; `upper`: its upper threshold. -/
  | logicRailReset (dt : Nat) (core upper : Bool)
  /-- R293. `above`: above 160 V. -/
  | fieldBusCutoff (dt : Nat) (above : Bool)
  /-- R287. `reading`: the field bus at the release, in 10 mV. -/
  | cutoffRelease (dt : Nat) (reading : Nat)
  /-- R293 -/
  | portStage (dt : Nat)
  /-- R288 -/
  | fieldReadingDeviation (dt : Nat) (n : Fin 64)
  /-- R289 -/
  | inputLow
  /-- R302. `result`: the segment's 32-bit result word. -/
  | testSegmentEnd (dt : Nat) (result : Word)
  /-- R304 -/
  | selftestFirstSegment (dt : Nat)
  /-- R305 -/
  | testPauseEnd (dt : Nat)
  /-- R315 -/
  | pewterWatchdog (dt : Nat)
  /-- R315 -/
  | pewterRestartComplete (dt : Nat)
  /-- R316. Temperatures in °C, two's complement, and humidity in % RH. -/
  | sensorSample (dt : Nat) (tCore tMgt tInlet humidity : Byte)
  /-- R316 -/
  | sensorWarning (dt : Nat) (q : Sensor)
  /-- R316 -/
  | sensorWarningEnd (dt : Nat) (q : Sensor)
  /-- R319. `axles`: the axle ring; `fate`: what the flash makes of the page. -/
  | recorderPageWrite (dt : Nat) (axles : Bool) (fate : PageFate)
  /-- R320 -/
  | axleEntryWritten (n : Fin 64)
  /-- R321 -/
  | holdCopy (dt : Nat) (slot : Fin 16)
  /-- R324 01h -/
  | mgtCommand (dt : Nat) (ep : Endpoint) (bytes : List Byte)
  /-- R324 03h -/
  | sessionOpen (dt : Nat) (ep : Endpoint)
  /-- R324 04h -/
  | sessionClose (dt : Nat) (ep : Endpoint) (id : BitVec 16)
  /-- R324 05h -/
  | recorderRead (dt : Nat) (ep : Endpoint) (num : BitVec 48)
  /-- R322, R324 06h -/
  | clockSet (dt : Nat) (ep : Endpoint) (utc : BitVec 48)
  /-- R321, R324 07h -/
  | hold (dt : Nat) (ep : Endpoint) (inst : Stamp)
  /-- R321, R324 08h -/
  | release (dt : Nat) (ep : Endpoint) (slot : Byte)
  /-- R326, R324 09h. `bootOk`: the Pewter boot ROM verifies the image. -/
  | fwRestart (dt : Nat) (ep : Endpoint) (bootOk : Bool)
  /-- R324 0Ah -/
  | netSet (dt : Nat) (ep : Endpoint) (addr : Word) (plen : Byte) (gw : Word)
  /-- R324. Client 2000h + id. -/
  | clientTimeout (dt : Nat) (id : BitVec 4)
  /-- R324. Session 3000h + id. -/
  | sessionTimeout (dt : Nat) (id : BitVec 3)
  /-- R325. `net`: selected from the network. -/
  | ethLoopbackMac (dt : Nat) (net : Bool)
  /-- R325 -/
  | ethLoopbackPhy (dt : Nat) (net : Bool)
  /-- R325. `back`: test frames returned intact within 100 ms. -/
  | ethLoopbackEnd (dt : Nat) (back : Nat)
  /-- R334 -/
  | cenSlotWrite (e : Fin 4) (w : Word)
  /-- R13, R331. Bit j of `inc`: an event increments the RC field of place j of the register, counted from the low end, in the clock
  cycle of the read. -/
  | rcRead (rd : Reader) (addr : BitVec 20) (inc : BitVec 4)
  /-- R337 -/
  | latchingRead (rd : Reader) (addr : BitVec 20)
  /-- R332, R13. `ev`: bits that an event sets in the clock cycle of the write. -/
  | w1cWrite (addr : BitVec 20) (v ev : Word)
  /-- R313, R333. Any other write by Pewter. -/
  | registerWrite (addr : BitVec 20) (v : Word) (wd : Width)
  /-- R330 -/
  | unalignedAccess (rd : Reader) (addr : BitVec 20) (wd : Width) (wr : Bool)
  /-- R353 -/
  | tapInstruction (dt : Nat) (op : TapOp)
  /-- R78. `chk`: the word's CHK fails; otherwise lane synchronisation is lost. -/
  | laneWordFault (dt : Nat) (k : Fin 8) (chk : Bool)
  /-- R258. `volt` in 10 mV, `curr` in 0.1 mA. -/
  | outputReadbackSample (dt : Nat) (j : Fin 8) (volt curr : BitVec 16)
  /-- R341, R339 -/
  | powerOn (dt : Nat)
  /-- R324 -/
  | ethernetFrame (dt : Nat) (f : EthFrame)
  /-- R324 -/
  | ethernetLinkChange (dt : Nat) (p : EthPartner)
  /-- R308 -/
  | selftestAbortComplete (dt : Nat)
  deriving DecidableEq, Repr

end Sys2Proof
end

