-- ==== Sys2Proof/Machine/Bits.lean ====
section
/-! DEFINITION. Rounding, saturation, byte strings and check values: the arithmetic that the chapters share. -/

namespace Sys2Proof.Machine

/-- `n / d` to the nearest integer, ties to the even one: convergent rounding (R80). -/
def roundConv (n : Int) (d : Nat) : Int :=
  let q := n / (d : Int)
  let r := n % (d : Int)
  if 2 * r > (d : Int) ∨ (2 * r = (d : Int) ∧ q % 2 = 1) then q + 1 else q

/-- reduce(v, k) of R80: drop k low bits with convergent rounding. -/
def reduce (v : Int) (k : Nat) : Int :=
  roundConv v (2 ^ k)

/-- Clamp to [lo, hi]. -/
def clampInt (lo hi v : Int) : Int :=
  if v < lo then lo else if v > hi then hi else v

/-- Saturate to a two's complement number of `n` bits (R80). -/
def satInt (n : Nat) (v : Int) : Int :=
  clampInt (-(2 ^ (n - 1))) (2 ^ (n - 1) - 1) v

/-- Add 1 and stop at the largest value. -/
def satInc {n : Nat} (v : BitVec n) : BitVec n :=
  if v = BitVec.allOnes n then v else v + 1

/-- Add `k` and stop at the largest value. -/
def satAdd {n : Nat} (v : BitVec n) (k : Nat) : BitVec n :=
  if v.toNat + k ≥ 2 ^ n then BitVec.allOnes n else v + BitVec.ofNat n k

/-- A number as a field of `n` bits that saturates. -/
def satNat (n v : Nat) : BitVec n :=
  if v ≥ 2 ^ n then BitVec.allOnes n else BitVec.ofNat n v

/-- Set bit `i` of a word. -/
def setBit (w : Word) (i : Nat) : Word :=
  w ||| (1 <<< i)

/-- Set bit `i` of a word if `c`. -/
def setBitIf (c : Bool) (w : Word) (i : Nat) : Word :=
  if c then setBit w i else w

/-- A field of `len` bits from bit `lo` of a register word, as a number. -/
def fieldNat (w : Word) (lo len : Nat) : Nat :=
  (w.toNat / 2 ^ lo) % 2 ^ len

/-- The value `v` placed with its bit 0 at bit `lo` of a register word. -/
def at32 (v lo : Nat) : Word :=
  BitVec.ofNat 32 (v * 2 ^ lo)

/-- One bit placed at bit `lo` of a register word. -/
def bitAt (b : Bool) (lo : Nat) : Word :=
  if b then BitVec.ofNat 32 (2 ^ lo) else 0

/-- `n` bytes of a number, most significant first (R10). -/
def toBytes : (n v : Nat) → List Byte
  | 0, _ => []
  | n + 1, v => BitVec.ofNat 8 (v / 256 ^ n) :: toBytes n v

/-- The number that bytes hold, most significant first (R10). -/
def ofBytes (bs : List Byte) : Nat :=
  bs.foldl (fun a b => a * 256 + b.toNat) 0

/-- Bytes `i` to `i + n - 1` of a string, as a number. -/
def bytesAt (bs : List Byte) (i n : Nat) : Nat :=
  ofBytes ((bs.drop i).take n)

/-- Byte `i` of a string. -/
def byteAt (bs : List Byte) (i : Nat) : Byte :=
  bs.getD i 0

/-- `bs` filled with zero bytes to length `n`, cut where longer. -/
def padTo (n : Nat) (bs : List Byte) : List Byte :=
  bs.take n ++ List.replicate (n - bs.length) 0

/-- One bit of a number. -/
def natBit (v i : Nat) : Bool :=
  (v / 2 ^ i) % 2 = 1

/-- Two's complement of a number in `n` bits. -/
def signed (n v : Nat) : Int :=
  if v < 2 ^ (n - 1) then (v : Int) else (v : Int) - 2 ^ n

/-- diff48(a, b) = (a − b) mod 2^48 (R139). -/
def diff48 (a b : Stamp) : Nat :=
  (a - b).toNat

/-- `a` lies before `b` (R139). -/
def before48 (a b : Stamp) : Bool :=
  let d := diff48 b a
  decide (0 < d) && decide (d < 2 ^ 47)

/-- Bit-reversed division step of the reflected algorithms of Table 8-10: one bit. -/
def crcBitR {n : Nat} (poly acc : BitVec n) : BitVec n :=
  if acc.getLsbD 0 then (acc >>> 1) ^^^ poly else acc >>> 1

/-- One byte into a reflected CRC. -/
def crcByteR {n : Nat} (poly acc : BitVec n) (b : Byte) : BitVec n :=
  (List.range 8).foldl (fun a _ => crcBitR poly a) (acc ^^^ b.setWidth n)

/-- One byte into CRC-16/IBM-3740. -/
def crcByte16 (acc : BitVec 16) (b : Byte) : BitVec 16 :=
  (List.range 8).foldl
    (fun a _ => if a.getLsbD 15 then (a <<< 1) ^^^ 0x1021 else a <<< 1)
    (acc ^^^ ((b.setWidth 16 : BitVec 16) <<< 8))

/-- CRC-32C polynomial, reflected. -/
def poly32c : Word := 0x82F63B78

/-- CRC-32/ISO-HDLC polynomial, reflected. -/
def poly32 : Word := 0xEDB88320

/-- CRC-64/XZ polynomial, reflected. -/
def poly64 : BitVec 64 := 0xC96C5795D7870F42

/-- CRC-32C (Table 8-10). -/
def crc32c (bs : List Byte) : Word :=
  bs.foldl (crcByteR poly32c) 0xFFFFFFFF ^^^ 0xFFFFFFFF

/-- CRC-32/ISO-HDLC (Table 8-10). -/
def crc32 (bs : List Byte) : Word :=
  bs.foldl (crcByteR poly32) 0xFFFFFFFF ^^^ 0xFFFFFFFF

/-- CRC-64/XZ (Table 8-10). -/
def crc64 (bs : List Byte) : BitVec 64 :=
  bs.foldl (crcByteR poly64) 0xFFFFFFFFFFFFFFFF ^^^ 0xFFFFFFFFFFFFFFFF

/-- CRC-16/IBM-3740 (Table 8-10). -/
def crc16 (bs : List Byte) : BitVec 16 :=
  bs.foldl crcByte16 0xFFFF

/-- The prime of the safety code (R190). -/
def scPrime : Nat := 4294967291

/-- The safety code over 16-bit words of `bs` (R190). -/
def scFold : (h : Nat) → List Byte → Nat
  | h, a :: b :: rest => scFold ((h * 65519 + (a.toNat * 256 + b.toNat)) % scPrime) rest
  | h, _ => h

/-- The safety code SC of a frame over its bytes 0 to 243 (R190). -/
def safetyCode (seed : Word) (frame : List Byte) : Word :=
  BitVec.ofNat 32 (scFold (seed.toNat % scPrime) (frame.take 244))

/-- Bits of a byte string's words as a list, most significant first. -/
def bitsMsb (n v : Nat) : List Bool :=
  (List.range n).map (fun i => natBit v (n - 1 - i))

/-- The number that bits hold, most significant first. -/
def ofBits (bs : List Bool) : Nat :=
  bs.foldl (fun a b => a * 2 + b2n b) 0

/-- Count of the true values. -/
def countTrue (l : List Bool) : Nat :=
  (l.filter id).length

/-! ### Plain values (R151) -/

/-- A plain value has at most 48 bits (R151). -/
def isPlain (v : Nat) : Bool := decide (v < 2 ^ 48)

/-- The plain value of a signed quantity of `w` bits, its two's complement (R151). -/
def plainInt (w : Nat) (x : Int) : Nat := (x % 2 ^ w).toNat

/-- A value of 64 bits as two plain values of 32 bits, high half first (R151): the products of R139 and R140. -/
def halves (x : Nat) : Nat × Nat := (x / 2 ^ 32 % 2 ^ 32, x % 2 ^ 32)

/-- The value that two halves carry. -/
def ofHalves (h : Nat × Nat) : Nat := h.1 * 2 ^ 32 + h.2

/-- A product formed in 64 bits and carried as two plain values (R139, R151). -/
def product64 (a b : Nat) : Nat := ofHalves (halves (a * b))

end Sys2Proof.Machine
end

