-- ==== Sys2Proof/Machine/Memory.lean ====
section
/-! DEFINITION. The addressed buffers: the configuration load buffer (R264) and the firmware staging store (R326). A byte
that nothing has written is not listed and has no value (R271 step 1 asks for exactly that). -/

namespace Sys2Proof.Machine

/-- A memory: written bytes by rising address. -/
abbrev Memory := List Host.Cell

/-- Addresses rise strictly. An unlisted address reads as no value, so no entry equals what an unlisted address reads. -/
def Memory.wf : Memory → Bool
  | [] => true
  | [_] => true
  | a :: b :: rest => decide (a.1 < b.1) && Memory.wf (b :: rest)

/-- The byte at an address, none where nothing has written it. -/
def Memory.read : Memory → Nat → Option Byte
  | [], _ => none
  | (a, b) :: rest, x => if a = x then some b else Memory.read rest x

/-- Write one byte. -/
def Memory.write : Memory → Nat → Byte → Memory
  | [], x, v => [(x, v)]
  | (a, b) :: rest, x, v =>
    if x < a then (x, v) :: (a, b) :: rest
    else if x = a then (x, v) :: rest
    else (a, b) :: Memory.write rest x v

/-- Write consecutive bytes. -/
def Memory.writeBytes : Memory → Nat → List Byte → Memory
  | m, _, [] => m
  | m, x, v :: vs => Memory.writeBytes (Memory.write m x v) (x + 1) vs

/-- Bytes `x` to `x + n - 1`, none where one of them has not been written. -/
def Memory.readBytes (m : Memory) (x n : Nat) : Option (List Byte) :=
  (List.range n).mapM (fun i => Memory.read m (x + i))

/-- Bytes written at least once below `n`. -/
def Memory.countBelow (m : Memory) (n : Nat) : Nat :=
  (m.filter (fun c => decide (c.1 < n))).length

end Sys2Proof.Machine
end

