-- ==== Sys2Proof/Machine/TypesDetect.lean ====
section
/-! DEFINITION. State of the clock, the isolator lanes, the detection ports, the channel pipelines and the wheel
detection units (01 to 04). Plain data; every default is the value at reset. -/

namespace Sys2Proof.Machine

/-- The clock (R22 to R24, R210, R211). `elapsed` counts real ns and is the model's own (log 2). -/
structure Clk where
  elapsed : Nat := 0
  /-- Extended time base at the last tick, ns (R22). -/
  tickTb : Nat := 0
  /-- `elapsed` at the last tick. -/
  tickAt : Nat := 0
  /-- Extended time base at the tick before the last one, which opened the superframe just ended (R77). -/
  prevTb : Nat := 0
  /-- A decided time-base step in ns, applied at a tick (R24). -/
  stepDue : Option Int := none
  /-- Bits [63:48] that a follower loads at its next tick (R211). -/
  extDue : Option (BitVec 16) := none
  /-- The frame that runs contains a step (R24, R25). -/
  stepFrame : Bool := false
  /-- Production test mode (R30, R366). -/
  prodTest : Bool := false
  /-- Time base of the last code-period end evaluated (R58). -/
  codeEnd : Nat := 0
  /-- `tickAt` of the frame whose input read (R247), and whose SAR conversion (R75), has been made. -/
  inputRead : Option Nat := none
  sarRead : Option Nat := none
  /-- Rate of the reference that holds in this frame, in 0.1 ppb above nominal (R209), and the fraction of a ns, in 10^-10, by which
  the tick's instant lies after the time base's multiple of 250,000 ns. -/
  rate : Int := 0
  frac : Nat := 0
  /-- A signing engine existed at the last tick (R197). -/
  signed : Bool := false
  /-- Extended time base at the publication tick of the newest image published (R199). -/
  imageTb : Nat := 0
  /-- Draws of free values (log 3). -/
  free : Nat := 0
  deriving DecidableEq, Repr

/-- Lane echo running (R79). `mismatch`: a CH bit differed; `frames`: superframes compared; `prbs`: generator state. -/
structure Echo where
  begin : Nat
  frames : Nat := 0
  prbs : BitVec 15
  mismatch : Bool := false
  deriving DecidableEq, Repr

/-- What the field side put into a superframe when it opened (Table 3-2): the flags of the lane's ports, the overloads of the
superframe before, the failed return lanes and the closed switches. The SAR words are `Port.convRun` and `Port.convEnd`. -/
structure SfStat where
  surge : Byte := 0
  regOn : Byte := 0
  ovl : BitVec 16 := 0
  ret : BitVec 2 := 0
  switch : Byte := 0
  deriving DecidableEq, Repr

/-- An isolator lane (R34, R76 to R79). -/
structure Lane where
  /-- The last words received, newest first (R76), the number received since module reset, and how many of them lie in the
  superframe whose end has not been taken yet. -/
  rx : List (BitVec 20) := []
  got : Nat := 0
  inSf : Nat := 0
  /-- Field side: the content of the superframe that runs and of the one before it (R77). -/
  sfRun : SfStat := {}
  sfEnd : SfStat := {}
  synced : Bool := false
  /-- Consecutive complete superframes free of failures while in FAULT. -/
  good : Nat := 0
  /-- Tick number at which the synchronising reset after the return is due (R78). -/
  resetDue : Option Nat := none
  /-- `elapsed` at the entry into FAULT. -/
  faultAt : Option Nat := none
  /-- The 10 ms of R34 have passed in this FAULT. -/
  timedOut : Bool := false
  /-- A fault was met in the superframe that runs. -/
  dirty : Bool := false
  /-- Tick number at which the last superframe was taken. -/
  lastSf : Option Nat := none
  wordErr : BitVec 16 := 0
  syncLoss : BitVec 8 := 0
  /-- STAT words of Table 3-2 as last taken. -/
  surgeStat : Byte := 0
  regOn : Byte := 0
  retFail : BitVec 2 := 0
  hkLow : Bool := false
  switch : Byte := 0
  seqEcho : BitVec 16 := 0
  echo : Option Echo := none
  deriving DecidableEq, Repr

/-- A return lane (R35): `failedAt` is the instant of its failure; `off`: its ports' regulators have been switched off;
`reportAt`: the instant at which the logic side took the first report of the failure. -/
structure RetLane where
  failed : Bool := false
  failedAt : Nat := 0
  off : Bool := false
  reportAt : Option Nat := none
  /-- The 10 ms of R34 have passed in this failure. -/
  timedOut : Bool := false
  deriving DecidableEq, Repr

/-- Loopbacks of a port (R69, R70, R103). -/
inductive LbKind where
  | lb0
  | lb1
  | lb2
  deriving DecidableEq, Repr

/-- A port loopback running. `phase` counts the steps or patterns ended; `ok`: no deviation so far. -/
structure PortLb where
  kind : LbKind
  begin : Nat
  phase : Nat := 0
  ok : Bool := true
  deriving DecidableEq, Repr

/-- A SAR conversion: its slot, its code, and the value in V of the chip that the port's train carried (R52, R75). -/
structure Conv where
  slot : Fin 4 := 0
  code : BitVec 12 := 0
  chip : Int := 0
  deriving DecidableEq, Repr

/-- A detection port and its supervision (02). -/
structure Port where
  supplyOn : Bool := false
  /-- Setpoint held on the field side, 0.1 V. -/
  setpoint : BitVec 9 := 0
  pulsesOn : Bool := false
  /-- `elapsed` at which the running ramp ends (R49), and where and when it began: the supply moves by 0.1 V in 50 µs. -/
  rampEnd : Option Nat := none
  rampFrom : Nat := 0
  rampAt : Nat := 0
  /-- Port stage (Table 11-4): the instant at which the port's group ramps, and whether its channels await the synchronising
  reset that ends the stage. -/
  stageAt : Option Nat := none
  stageOn : Bool := false
  /-- Blind until 2 ms after a ramp (R49, R35). -/
  blindUntil : Nat := 0
  /-- Blind by a return lane failure from the report on (R35). -/
  retBlind : Bool := false
  supplyBad : Bool := false
  open1 : Bool := false
  open2 : Bool := false
  over1 : Bool := false
  over2 : Bool := false
  /-- Since when each condition of Table 2-3 has held (its minimum duration runs from here). -/
  supplySince : Option Nat := none
  open1Since : Option Nat := none
  open2Since : Option Nat := none
  over1Since : Option Nat := none
  over2Since : Option Nat := none
  xshort : Bool := false
  residual : Bool := false
  pulseFault : Bool := false
  surge : Bool := false
  surgeSince : Nat := 0
  surgeLong : Bool := false
  lb0Fail : Bool := false
  lb1Fail : Bool := false
  /-- The point is failed (R55); `failEnd`: 1 s after its last condition ended. -/
  failed : Bool := false
  failEnd : Option Nat := none
  /-- PRT_FAULT. -/
  fault : Word := 0
  /-- Field side: the last conversion of each slot (R52, R75) and the one before. -/
  sar : Vector (BitVec 12) 4 := Vector.replicate 4 0
  sarPrev : Vector (BitVec 12) 4 := Vector.replicate 4 0
  /-- Conversions of slot 0 to 3 made since reset (two consecutive readings, R54). -/
  sarCount : Nat := 0
  /-- Field side: the newest conversion, the one carried by the superframe that runs, and by the one before it (R75). -/
  conv : Conv := {}
  convRun : Conv := {}
  convEnd : Conv := {}
  /-- PRT_MEAS_* (Table 2-8). -/
  fieldV : BitVec 16 := 0
  supplyV : BitVec 16 := 0
  loopV1 : BitVec 16 := 0
  loopV2 : BitVec 16 := 0
  loopI1 : BitVec 16 := 0
  loopI2 : BitVec 16 := 0
  /-- The last supply reading lay outside the regulation band (two consecutive readings, R54). -/
  supplyPrev : Bool := false
  /-- Consecutive supply readings outside the chip band (R60). -/
  pulseBad : Nat := 0
  /-- Since when the field bus reading has been off the median (R288). -/
  diffSince : Option Nat := none
  excluded : Bool := false
  agreeSince : Option Nat := none
  xcorr : Word := 0
  /-- `elapsed` at the last completed test of both systems, and since when the port is assigned (R66). -/
  lastTest : Option Nat := none
  assignedAt : Nat := 0
  testRes : BitVec 4 := 0
  abandoned : Byte := 0
  overdue : Bool := false
  /-- Since when the conditions of R61 have held. -/
  quietSince : Option Nat := none
  eligible : Bool := false
  surgeCnt : BitVec 16 := 0
  lb : Option PortLb := none
  /-- Field side: the sink or loopback switch of the port is closed (R62, R69, R70). -/
  switchOn : Bool := false
  deriving DecidableEq, Repr

/-- Stages of a run-time test of one system (Table 2-5). -/
inductive RtStage where
  /-- Sink at +3.50 mA, window A not yet open. -/
  | sinkA
  | winA
  /-- Sink at +7.00 mA, window B not yet open. -/
  | sinkB
  | winB
  /-- Sink off, current decaying. -/
  | decay
  /-- Single-cycle settling. -/
  | settle
  /-- CS1 complete; waiting for the test of CS2. -/
  | gap
  deriving DecidableEq, Repr

/-- The run-time test that runs (R62 to R64). Sums are of absolute taps in 4 nA · 2^-16. -/
structure RunTest where
  port : Fin 64
  sys : Sys := .cs1
  stage : RtStage := .sinkA
  /-- Start of the test on this system; sink steps at `origin`, 6 ms and 12 ms. -/
  origin : Nat
  /-- End of the stage that lasts a fixed time (decay, gap), or instant of the last sink step. -/
  mark : Nat
  steps : List Nat := []
  /-- Sum and number of taps of the 10 ms before the origin, for the tested and for the other system. -/
  preSum : Int := 0
  preCnt : Nat := 0
  othSum : Int := 0
  othCnt : Nat := 0
  sumA : Int := 0
  cntA : Nat := 0
  sumB : Int := 0
  cntB : Nat := 0
  /-- The other system lay more than 150 µA off its mean at its last sample. -/
  off : Bool := false
  /-- The tested system stands abandoned. -/
  abandoned : Bool := false
  stepFail : Bool := false
  /-- FAIL_CROSS (R64). -/
  crossFail : Bool := false
  deriving DecidableEq, Repr

/-- A coefficient bank (R84 to R86, R106). -/
structure Bank where
  coef : Vector (BitVec 24) 256 := Vector.replicate 256 0
  valid : Bool := false
  /-- Loaded by BANK_LOAD. -/
  command : Bool := false
  loading : Bool := false
  crc : Word := 0
  deriving DecidableEq, Repr

/-- A fade that runs (R86): FIR outputs completed, the target bank, and the FIR outputs still to come whose instants lie before
the effective tick. -/
structure Fade where
  target : Bool
  done : Nat := 0
  wait : Nat := 0
  deriving DecidableEq, Repr

/-- Single-cycle mode of a channel (R98): samples emitted since t0. -/
structure Scm where
  count : Nat := 0
  deriving DecidableEq, Repr

/-- Chip sums of one code period (R58): its number, the sums of its chips, newest first, and whether it overlaps a
blind interval. -/
structure Corr where
  period : Nat := 0
  sums : List Int := []
  chip : Nat := 0
  cur : Int := 0
  blind : Bool := true
  deriving DecidableEq, Repr

/-- A sample word (R99). -/
structure Sample where
  valid : Bool := false
  path : BitVec 2 := 0
  value : BitVec 24 := 0
  deriving DecidableEq, Repr

/-- A channel pipeline (03). Histories are newest first; what lies beyond them is 0 (a reset clears them). -/
structure Chan where
  /-- SEL_NOW. -/
  sel : BitVec 2 := 2
  dcFrozen : Bool := false
  bank : Bool := false
  fade : Option Fade := none
  integ : Vector (BitVec 27) 5 := Vector.replicate 5 0
  comb : Vector (BitVec 27) 5 := Vector.replicate 5 0
  /-- Modulator periods into the CIC decimation, CIC outputs into the FIR decimation. -/
  cicPhase : Nat := 0
  firPhase : Nat := 0
  /-- FIR outputs since the last tick, the one at the tick included. -/
  firCount : Nat := 0
  xHist : List Nat := []
  tapHist : List Int := []
  yHist : List Int := []
  scmWin : List Bool := []
  /-- Baseline b, 48 fractional bits (R88). -/
  base : Int := 0
  out : Sample := {}
  /-- Next output instant j of the frame. -/
  outIdx : Nat := 0
  settling : Bool := false
  settleLeft : Nat := 0
  /-- A synchronising reset was issued at the tick; it clears at the first output instant, after that instant's bits. -/
  resetNow : Bool := false
  /-- The reset carries a baseline load (R90); `loadDue`: it is due at the next sample. -/
  baseLoad : Bool := false
  loadDue : Bool := false
  scm : Option Scm := none
  /-- The fill of single-cycle mode has ended (R98). -/
  filled : Bool := false
  /-- Samples left of the saturation blind interval, and the interval itself (R101). -/
  satLeft : Nat := 0
  sat : Bool := false
  /-- Lane words taken since module reset. -/
  used : Nat := 0
  /-- Field side: overload flagged for the next superframe, and the instant at which the modulator integrators were last
  cleared (R74). -/
  ovlFlag : Bool := false
  integClear : Option Nat := none
  /-- Overload being handled; `ovlNew`: single-cycle mode is entered after the next sample. -/
  ovl : Bool := false
  ovlNew : Bool := false
  /-- FLT_FAULT. -/
  fault : Word := 0
  satCnt : BitVec 16 := 0
  blindCnt : BitVec 16 := 0
  lb2Res : BitVec 4 := 0
  /-- Modulator periods and samples since the start of the LB2 pattern; a tap or an output has deviated. -/
  lb2Mod : Nat := 0
  lb2Out : Nat := 0
  lb2Bad : Bool := false
  /-- Absolute number of the next modulator period (1,536 per tick). -/
  modIdx : Nat := 0
  corr : Corr := {}
  /-- Chip sums of the last complete code period. -/
  corrDone : Option Corr := none
  /-- Ports whose coefficient exceeded its limit in the code period last evaluated. -/
  prevX : BitVec 64 := 0
  prevOwn : Bool := false
  lastX : List Int := []
  /-- ACTIVE report of the WDU for this channel (R116) and the last instant at or above FREEZE_LVL. -/
  active : Bool := false
  aboveAt : Nat := 0
  deriving DecidableEq, Repr

/-- Phases of a trajectory (R118). -/
inductive Phase where
  | idle
  | approach
  | track
  | spent
  deriving DecidableEq, Repr

/-- Position regions (Table 4-1). -/
inductive Region where
  | none
  | near
  | mid
  | far
  deriving DecidableEq, Repr

/-- What the WDU follows of one system: its state, its damping at the last sample, its crossing instants (R115) and the
pulse since its last t_on (R121). Instants are ns of the time base. -/
structure SysTrack where
  s : Bool := false
  d : Int := 0
  /-- The last aligned sample was valid. -/
  valid : Bool := false
  on : Int := 0
  off : Int := 0
  /-- Largest d+ since t_on while on, and the instant of the sample that first held it. -/
  peak : Int := 0
  /-- In 1/27,720 ns. -/
  peakAt : Nat := 0
  /-- Largest d+ of CS1 and of CS2 since this t_on. -/
  max1 : Int := 0
  max2 : Int := 0
  /-- A sample since this t_on came from the single-cycle path. -/
  scm : Bool := false
  /-- Paired samples from the one at t_on. -/
  count : Nat := 0
  deriving DecidableEq, Repr

/-- A WDU context (R114 to R121): the live one or the LB3 test context. -/
structure Ctx where
  phase : Phase := .idle
  /-- Entry end: false CS1, true CS2. -/
  entry : Bool := false
  q : BitVec 2 := 0
  region : Region := .none
  lastRegion : Region := .none
  nearSeen : Bool := false
  c1 : SysTrack := {}
  c2 : SysTrack := {}
  /-- t_x0 of the present trajectory. -/
  x0 : Option Int := none
  /-- Instant of the last paired sample in 1/27,720 ns, and whether the position was defined on it. -/
  inst : Nat := 0
  xdef : Bool := false
  afterBlind : Bool := false
  basePending : Bool := false
  deriving DecidableEq, Repr

/-- A record on its way from the WDU (R126) with its entry number (R320). -/
structure OutRec where
  record : AxleRec
  num : Nat
  deriving DecidableEq, Repr

/-- One paired sample of the snippet history (R320). -/
structure HistItem where
  d1 : BitVec 16
  d2 : BitVec 16
  v1 : Bool
  v2 : Bool
  scm : Bool
  deriving DecidableEq, Repr

/-- An axle entry that waits for the later part of its snippet (R320): `left` paired samples to go, then its 64 samples.
`taken`: Pewter's queue has taken the record. -/
structure Snip where
  record : AxleRec
  num : Nat
  stride : Nat
  left : Nat
  rate : Nat := 12
  items : List HistItem := []
  taken : Bool := false
  deriving DecidableEq, Repr

/-- LB3 that runs (R104): the run, its start on `elapsed`, its context, and the records of the three runs. -/
structure Lb3 where
  run : Nat := 1
  begin : Nat := 0
  ctx : Ctx := {}
  /-- Paired samples fed since the start of the run. -/
  k : Nat := 0
  res1 : List AxleRec := []
  res2 : List AxleRec := []
  res3 : List AxleRec := []
  deriving DecidableEq, Repr

/-- A wheel detection unit (04). -/
structure Wdu where
  ctx : Ctx := {}
  lb3 : Option Lb3 := none
  /-- Latest sample of each channel, not yet paired. -/
  in1 : Option Sample := none
  in2 : Option Sample := none
  /-- Instant of the latest sample in 1/27,720 ns. -/
  inInst : Nat := 0
  /-- Delay line of the delayed channel (R108), oldest first. -/
  line : List Sample := []
  alignN : BitVec 6 := 0
  alignCh : Bool := false
  /-- A blind interval of either channel has begun since ALIGN_N was last set; a changeover of R98 sets it anew. -/
  realign : Bool := true
  realignNow : Bool := false
  suspect : Bool := false
  baseDamped : Bool := false
  /-- Since when d of each system has been below −150 ‰ on every valid sample (R113). -/
  neg1 : Option Nat := none
  neg2 : Option Nat := none
  /-- d1 and d2 of the last valid sample of each system (R116). -/
  last1 : Int := 0
  last2 : Int := 0
  /-- WDU_FAULT. -/
  fault : Word := 0
  cntFwd : Word := 0
  cntRev : Word := 0
  lastCause : BitVec 5 := 0
  uncCnt : BitVec 16 := 0
  lastRec : Option AxleRec := none
  outQ : List OutRec := []
  hist : List HistItem := []
  snips : List Snip := []
  lb3Res : BitVec 4 := 0
  lb3Speed : BitVec 11 := 0
  deriving DecidableEq, Repr

end Sys2Proof.Machine
end

