-- ==== Sys2Proof/Machine/TypesEngine.lean ====
section
/-! DEFINITION. State of the sections and the counting engines (05, 06). Plain data; every default is the value at
reset. -/

namespace Sys2Proof.Machine

/-- Section states (Table 5-2) but UNPROVEN, which is a list of causes that is not empty (R149). -/
inductive SecSt where
  | clear
  | occupied
  | disturbed
  | resetPending
  deriving DecidableEq, Repr

/-- THROUGH or REVERSE (R139). -/
inductive PairKind where
  | through
  | reverse
  deriving DecidableEq, Repr

/-- A pair of a ledger entry and an exit (R139). -/
structure Pair where
  e : AxleRec
  x : AxleRec
  kind : PairKind
  deriving DecidableEq, Repr

/-- A pending exit; `expiry` on `elapsed` (R147). -/
structure Pend where
  x : AxleRec
  expiry : Nat
  deriving DecidableEq, Repr

/-- Causes of UNPROVEN (Table 5-7) with what they come from, so that each can end by itself (R149). -/
inductive UCause where
  /-- 000b -/
  | start
  /-- 001b -/
  | image
  /-- 010b: the home engine executes nothing in coded form. -/
  | noEngine
  /-- 011b -/
  | debug
  /-- 100b: LB0, LB1, LB2 (`echo` false) or lane echo at a member point. -/
  | loop (modAddr : BitVec 11) (point : BitVec 6) (echo : Bool)
  /-- 100b: LBA or LBR on a link (R219). -/
  | linkLoop (k : Fin 8)
  /-- 101b -/
  | cutoff
  /-- 110b -/
  | conflict
  deriving DecidableEq, Repr

/-- WHY of a cause (Table 5-7). -/
def UCause.why : UCause → BitVec 3
  | .start => 0
  | .image => 1
  | .noEngine => 2
  | .debug => 3
  | .loop _ _ _ => 4
  | .linkLoop _ => 4
  | .cutoff => 5
  | .conflict => 6

/-- The cause discards the ledger (Table 5-7). -/
def UCause.discards : UCause → Bool
  | .loop _ _ _ => false
  | .linkLoop _ => false
  | _ => true

/-- A section slot of a state image (Tables 6-3 and 5-10). `st` is the state, or the shadow state while UNPROVEN with
the ledger maintained. `causes`: the causes of UNPROVEN that hold, most recently begun first. `tainted`: one that
discards the ledger has held in this interval. -/
structure Sec where
  idx : Fin 256
  st : SecSt := .disturbed
  cause : BitVec 5 := 0
  causes : List UCause := []
  tainted : Bool := false
  ledger : List AxleRec := []
  /-- Pool slots of the ledger's records, in the ledger's order (R137, R162). -/
  slots : List Nat := []
  pend : List Pend := []
  mismatch : Nat := 0
  sweep : Nat := 0
  through : Bool := false
  prev : Option Pair := none
  pairs : BitVec 16 := 0
  misNow : Byte := 0
  lastFail : BitVec 4 := 0
  keyInh : Bool := false
  lastKind : BitVec 3 := 0
  lastSrc : BitVec 2 := 0
  lastRes : BitVec 3 := 0
  resets : BitVec 16 := 0
  deriving DecidableEq, Repr

/-- A state image of an engine: the counter of the committing frame and its section slots by local index (R160). -/
structure Img where
  frame : Nat := 0
  secs : List Sec := []
  deriving DecidableEq, Repr

/-! ### Coded stores (R152 to R163) -/

/-- Words of a coded image with the term of frame `frame` (R160): the codeword of a position that is not listed is that of the
plain value 0. Positions rise. -/
structure Coded where
  frame : Nat := 0
  words : List (Nat × BitVec 64) := []
  deriving DecidableEq, Repr

/-- A checkpoint slot of 16,384 codewords (R37, R163). A write runs from position 0 up, the commit marker last, so that one cut short
leaves a mixed slot: positions below `cut` are those of the newest write, `low`, and the others those of the first older write
that came as far, newest first. -/
structure Slot where
  cut : Nat := 16384
  low : Coded := {}
  older : List (Nat × Coded) := []
  deriving DecidableEq, Repr

/-- A slot of the ledger pool (R162): 16 plain bytes and the companion of two codewords. -/
structure PoolSlot where
  plain : AxleRec
  w0 : BitVec 64
  w1 : BitVec 64
  deriving DecidableEq, Repr

/-- An entry of the journal ring (R156): its place in the ring, the plain input of 16 bytes, its coded form and its stamp. Bytes 48
to 63 are 0. -/
structure JEntry where
  at' : Nat
  plain : List Byte
  coded : List (BitVec 64)
  stamp : BitVec 64
  deriving DecidableEq, Repr

/-- A delay register (R157): a codeword with one parity bit per byte. -/
structure DelayReg where
  word : BitVec 64
  parity : Byte
  deriving DecidableEq, Repr

/-- The first difference of a comparison, as CEN_MISMATCH shows it (R165): area, kind, place. -/
structure Diff where
  area : BitVec 2
  noncode : Bool
  loc : Nat
  deriving DecidableEq, Repr

/-- A section's part of the hand-over buffer (R174): the words that the source wrote at the end of H1, with the position that
each had there, the frame of their term, the coded sum, and, from H3 on, the coded digest of its H2 state. `secs`: the sections
themselves, of which the words are the coded layout. -/
structure HoBuf where
  src : Fin 4
  tgt : Fin 4
  frame : Nat
  words : List (Nat × BitVec 64)
  sum : BitVec 64
  digest : Option (BitVec 64) := none
  secs : List Sec
  deriving DecidableEq, Repr

/-- Items of the link event entry (R159, R148, R219). -/
inductive LinkEv where
  /-- Data of the points in `pts` of a module, received over link `k`, are lost: DISTURBED 06h (R148). -/
  | lost (k : Fin 8) (modAddr : BitVec 11) (pts : BitVec 64)
  /-- TB_VALID became 0: sections with remote points go DISTURBED 06h (R215). -/
  | allLost
  /-- A loopback at a remote point, reported over link `k`, begins or ends (R148). -/
  | remoteLoop (k : Fin 8) (modAddr : BitVec 11) (point : BitVec 6) (on : Bool)
  /-- LBA or LBR on a link begins or ends (R219). -/
  | linkLoop (k : Fin 8) (on : Bool)
  deriving DecidableEq, Repr

/-- Items of the point event entry, in the order of R159: points, lanes, module-wide items. -/
inductive PointEv where
  /-- A member point failed (R55). -/
  | failed (n : Fin 64)
  /-- A point failure ended: no effect on sections (R55). -/
  | failEnd (n : Fin 64)
  /-- LB2 or LB3 failed (R103, R104). -/
  | loopFail (n : Fin 64)
  /-- A loopback begins or ends at a point (R71, R103, R79). -/
  | loop (n : Fin 64) (echo on : Bool)
  /-- A lane not resynchronised within 10 ms (R34), or a lane echo failure (R79). -/
  | laneFail (k : Fin 8)
  /-- A module-wide cause of UNPROVEN begins or ends (R149). -/
  | cause (u : UCause) (on : Bool)
  deriving DecidableEq, Repr

/-- Items of the vital input event entry (R159, R145). -/
inductive ViEv where
  | press (i : Fin 8)
  | refused (i : Fin 8)
  | stuck (i : Fin 8)
  | faultEnd (i : Fin 8)
  deriving DecidableEq, Repr

/-- What a reply answers: nothing in flight (a command given by its own row), a tag entry, or a vote (R226, R232). -/
inductive Ref where
  | none
  | tag (id : Nat)
  | vote (id : Nat)
  deriving DecidableEq, Repr

/-- A command handed to an engine (R158, R159): who, the operation, and what its reply answers. -/
structure Cmd where
  who : Who
  op : Op
  ref : Ref
  deriving DecidableEq, Repr

/-- An axle record in a journal; `merged`: later uncertain records of the point merged into it (R158). -/
structure JRec where
  r : AxleRec
  merged : Nat := 0
  deriving DecidableEq, Repr

/-- What the executor judges at the sampling tick (R227, R86, R254): keys accepted active, channels with FADING set,
inputs released for 1 s, banks in a fade (R85); and the accepted active state of every input (R252). -/
structure Snap where
  vi6 : Bool := false
  vi7 : Bool := false
  accepted : Byte := 0
  fading : BitVec 128 := 0
  busy : BitVec 2 := 0
  released : Byte := 0
  deriving DecidableEq, Repr

/-- What one tick samples into one engine (R156 to R159), with the instants that the frame's rules use. -/
structure Journal where
  links : List LinkEv := []
  points : List PointEv := []
  vis : List ViEv := []
  recs : List JRec := []
  cmds : List Cmd := []
  /-- Voted commands to sections that this engine takes over: the source forms their replies (R174). -/
  dual : List Cmd := []
  /-- Frame counter of the sampling frame. -/
  frame : Nat := 0
  /-- Sampling tick: `elapsed`, extended time base, and what the executor judges there. -/
  at' : Nat := 0
  tb : Nat := 0
  snap : Snap := {}
  deriving DecidableEq, Repr

/-- A fault logged by the section logic of a frame. -/
structure SecLog where
  code : BitVec 16
  obj : BitVec 16
  /-- Bit of SEC_FAULT of section `sx`. -/
  sx : Option (Fin 256 × Nat)
  deriving DecidableEq, Repr

/-- Status codes of replies (Table 8-9) are bytes; a result is the reply's parameter bytes. -/
structure Result where
  status : Byte
  bytes : List Byte := []
  deriving DecidableEq, Repr

/-- The working state of an open frame (R154): what the plain pass (`img`) and the coded pass (`imgC`) have left. -/
structure Work where
  img : Img
  imgC : Img := {}
  /-- Words of the plain and of the coded working store that differ from what the passes left there. -/
  plainUps : List (Nat × Nat) := []
  codedUps : List (Nat × BitVec 64) := []
  /-- Pool slots written in the frame (R155), and the entries that it processes, for a failure found at the publication tick. -/
  writes : List Nat := []
  ring : List JEntry := []
  /-- Link safety codes computed in the frame, plain and coded (R172). -/
  codes : List (Nat × BitVec 64) := []
  /-- The canary, 0 to 3 by lane and 4 the non-codeword one, that the comparator does not report as injected (R166). -/
  canaryLost : Option (Fin 5) := none
  /-- A difference reported during S5 besides the canaries. -/
  canaryExtra : Bool := false
  /-- Consecutive failures before the frame (R169). -/
  fails : Nat := 0
  /-- The checkpoint it was loaded from and the frames it processes, for a failure found at the publication tick. -/
  base : Img := {}
  js : List Journal := []
  logs : List SecLog := []
  replies : List (Cmd × Result) := []
  /-- Operations on the module, executed by this engine in this frame, effective at its publication. -/
  ops : List (Cmd × Snap) := []
  entries : Nat := 0
  deriving DecidableEq, Repr

/-- MODE of an engine (CEN_STATE). -/
inductive EMode where
  | run
  | halted
  | hoOut
  | hoIn
  | split
  | proving
  | debug
  deriving DecidableEq, Repr

/-- A hand-over that an engine takes part in (R174 to R177). `secs`: local indexes transferred. `step`: 1 to 3. -/
structure HandOver where
  peer : Fin 4
  join : Bool
  /-- This engine is the source. -/
  source : Bool
  /-- Frame counter at T0. -/
  t0 : Nat
  step : Nat := 1
  secs : List (Fin 256) := []
  /-- Target only: the acknowledgement of H1, and its own sum of the words that it loaded in H2. -/
  ack : Bool := false
  sum : Option Nat := none
  /-- The digest of this engine's H2 state. -/
  digest : Option Nat := none
  /-- Target only: the confirmation of H3. -/
  confirmed : Bool := false
  deriving DecidableEq, Repr

/-- A counting engine (06). Token instants are tick counts of the engine's own frame counter (R171). -/
structure Engine where
  mode : EMode := .proving
  proveLeft : Nat := 4
  /-- Consecutive failed frames (R169); a halted engine keeps the count that halted it. -/
  fails : Nat := 0
  /-- Frame counter F (R23). -/
  frame : Nat := 0
  token : Bool := false
  /-- A correct token of frame f: live from tick f + 1 to tick f + 3. -/
  tokenNext : Bool := false
  tokenUntil : Nat := 0
  committed : Img := {}
  published : Img := {}
  work : Option Work := none
  /-- Committed, waiting for its publication tick. -/
  done : Option Work := none
  /-- Inputs that the coming tick samples, those that came at or after its instant (R19), and, within a tick, those that it
  samples. -/
  journal : Journal := {}
  next : Journal := {}
  due : Journal := {}
  /-- Frames sampled since the last committed checkpoint, oldest first (R168). -/
  sampled : List Journal := []
  /-- The publication logic replaces the image by the halt image at the tick after the halt (R169): frame of the halt. -/
  haltDue : Bool := false
  haltAt : Nat := 0
  /-- A frame was opened at the last tick (R27). -/
  opened : Bool := false
  /-- Checkpoint slots A and B (R37, R163). -/
  ckA : Slot := {}
  ckB : Slot := {}
  /-- Entries of the journal ring that no committed checkpoint covers, oldest first, and the place of the next one (R156). -/
  ring : List JEntry := []
  ringAt : Nat := 0
  /-- Delay registers in use, three for each entry (R157). -/
  delay : List DelayReg := []
  /-- CEN registers (Table 6-8). -/
  fault : Word := 0
  cyc : BitVec 16 := 0
  schedEnd : BitVec 16 := 0
  minCyc : BitVec 16 := 0xFFFF
  maxEnd : BitVec 16 := 0
  restartKind : Byte := 0
  restartCnt : BitVec 16 := 0
  mismatch : Word := 0
  canaryFail : Bool := false
  ncPos : BitVec 14 := 0
  tokenReg : Word := 0
  jLast : Nat := 0
  jMax : Nat := 0
  hoReg : Word := 0
  progA : Byte := 0
  progB : Byte := 0
  aRun : Bool := false
  bRun : Bool := false
  /-- CEN_SLOT has been written since the last tick (R334); the programs that the slots run, and the frame of their start. -/
  slotNew : Bool := false
  slotA : Byte := 0
  slotB : Byte := 0
  slotAt : Nat := 0
  dbgCnt : BitVec 16 := 0
  /-- MODE DEBUG (R179): the session has stopped the plain pass, and the working state that it reads and writes. -/
  dbgStop : Bool := false
  dbgWork : Option Work := none
  ho : List HandOver := []
  /-- Frame counter from which the engine proves (join, detach) or its slots run (split). -/
  from' : Nat := 0
  /-- RO registers of Table 6-8 by offset / 4, as at the last publication tick (R181). -/
  pub : Vector Word 22 := Vector.ofFn (fun i => if i.val = 1 then 0xA0000004 else if i.val = 5 then 0xFFFF0000 else 0)
  joining : Bool := false
  detaching : Bool := false
  deriving DecidableEq, Repr

end Sys2Proof.Machine
end

