-- ==== Sys2Proof/Machine/TypesLink.lean ====
section
/-! DEFINITION. State of the links, the time base, the command interpreter and the check-value units (07, 08). Plain
data; every default is the value at reset. -/

namespace Sys2Proof.Machine

/-- The receive side of a stream (R196, R198): reference SEQ, whether a frame was accepted in the period that runs,
periods in a row that ended without one. -/
structure Rx where
  last : Option Word := none
  got : Bool := false
  missed : Nat := 0
  timedOut : Bool := false
  /-- Time base of the last period end evaluated. -/
  periodEnd : Nat := 0
  deriving DecidableEq, Repr

/-- An AREA stream: one item of the image's list, received or sourced (R194, R199, R200). -/
structure Area where
  rx : Rx := {}
  /-- Content of the last accepted frame. -/
  pointOk : BitVec 64 := 0
  pointLoop : BitVec 64 := 0
  cond : Byte := 0
  secs : List Word := []
  /-- Points already reported lost, so that a cause is met once (R136). -/
  lostPts : BitVec 64 := 0
  lastLost : Bool := false
  /-- Source queue, records of the stream's previous frame, next SEQ, frames that still carry LOST. -/
  queue : List AxleRec := []
  prevNew : List AxleRec := []
  seq : Word := 0
  lostLeft : Nat := 0
  deriving DecidableEq, Repr

/-- A stored frame of a relay entry and its acceptance instant (R202). -/
structure RelayFrame where
  bytes : List Byte
  at' : Nat
  deriving DecidableEq, Repr

/-- One segment of a reply (R189, R205). -/
structure Seg where
  first : Bool
  last : Bool
  bytes : List Byte
  tag : Option Nat
  deriving DecidableEq, Repr

/-- A frame fixed at a sampling tick for the slot at the next one (R185), and the engine that signs it (R172). -/
structure Armed where
  bytes : List Byte
  signer : Option (Fin 4)
  tick : Nat
  deriving DecidableEq, Repr

/-- Loopbacks of a link (R216 to R218). -/
inductive LinkLb where
  | lba
  | lbf
  | lbr
  deriving DecidableEq, Repr

/-- A link loopback. `stage` of LBR: 0 requesting, 1 acknowledged (the loop starts at the next cycle), 2 looping.
`peer`: this end answers another's LBR. -/
structure LinkLoop where
  kind : LinkLb
  begin : Nat
  stage : Nat := 0
  peer : Bool := false
  no : Byte := 0
  deriving DecidableEq, Repr

/-- A Bertum link (07). -/
structure Link where
  sync : Bool := false
  /-- A frame has been accepted since sync was acquired. -/
  up : Bool := false
  /-- A failed loopback leaves the link in TIMEOUT until the next accepted frame (R219). -/
  loopDown : Bool := false
  /-- STATUS of the neighbour, or COMMAND of the lane. -/
  rx : Rx := {}
  seqStatus : Word := 0
  seqReply : Word := 0
  /-- TX_TS of the STATUS frames sent, with their instants, newest first (R197). -/
  sent : List (Stamp × Nat) := []
  /-- TX_TS, receive stamp and SOF instant of the latest STATUS frames received, newest first (R187). -/
  peerTs : List (Stamp × Stamp × Nat) := []
  /-- The frame fixed for the next tick (R185), and the one released for the slot that starts at the last tick. -/
  armed : Option Armed := none
  ready : Option Armed := none
  /-- The last frame put on the line, and its slot's tick number. -/
  tx : Option (List Byte) := none
  txTick : Option Nat := none
  /-- First segment held (R189), with its SEQ and whether it was exempt from check 9. -/
  seg : Option (Word × Bool × List Byte) := none
  replyQ : List Seg := []
  fault : Word := 0
  delay : BitVec 16 := 0
  offset : BitVec 16 := 0
  rxOk : Word := 0
  errCrc : BitVec 16 := 0
  errSc : BitVec 16 := 0
  errOld : BitVec 16 := 0
  errMissing : BitVec 16 := 0
  errFormat : Byte := 0
  errAge : Byte := 0
  errSync : Byte := 0
  errAddr : Byte := 0
  relaySent : BitVec 16 := 0
  relayDropped : BitVec 16 := 0
  timeouts : BitVec 16 := 0
  peerSeen : BitVec 11 := 0
  /-- What the last accepted STATUS of the neighbour reports: state, depth, root (R213), extended time base. -/
  peerState : BitVec 3 := 0
  peerDepth : BitVec 5 := 0
  peerRoot : BitVec 16 := 0
  peerTb : BitVec 64 := 0
  /-- The last accepted STATUS reports a source that R213 rejects. -/
  rejected : Bool := false
  loop : Option LinkLoop := none
  loopKind : BitVec 2 := 0
  loopRes : BitVec 3 := 0
  loopDelay : BitVec 24 := 0
  /-- TEST_REQ and TEST_NO of the STATUS frames sent (R218), and the number used last. -/
  testReq : Byte := 0
  testNo : Byte := 0
  testLast : Byte := 0
  /-- Last measured mean delay δ in half ns (R208, R218). -/
  delta2 : Nat := 0
  deriving DecidableEq, Repr

/-- Time-base states (Table 7-8). -/
inductive TbState where
  | init
  | acquire
  | locked
  | holdover
  | invalid
  | root
  deriving DecidableEq, Repr

/-- The time-base follower (R207 to R215, R222). θ in half ns; I and y in units given by their operations. -/
structure Tbs where
  state : TbState := .init
  valid : Bool := false
  source : Option (Fin 8) := none
  depthSeen : BitVec 5 := 0
  holdSince : Nat := 0
  offset : Word := 0
  /-- θ of the last measurement since the last step, in half ns (R211). -/
  theta : Option Int := none
  /-- y in 0.1 ppb. -/
  steer : Int := 0
  /-- I in ppb / 2,000 (half ns times ms). -/
  integ : Int := 0
  stepCnt : BitVec 16 := 0
  lastStep : Word := 0
  fault : Word := 0
  /-- θ of the last measurements, newest first, in half ns. -/
  thetas : List Int := []
  /-- Measurements in a row above 50 ns while LOCKED. -/
  bad : Nat := 0
  deriving DecidableEq, Repr

/-- A packet that waits at the interpreter (R189, R228): path, bytes, exempt from check 9, acceptance instant. -/
structure Packet where
  path : Path
  bytes : List Byte
  exempt : Bool
  at' : Nat
  deriving DecidableEq, Repr

/-- An entry of the tag table (R229, R231). `header`: the request's first 16 bytes; `dup`: a marked duplicate's. -/
structure TagEntry where
  id : Nat
  header : List Byte
  path : Path
  dup : Option (List Byte) := none
  reply : Option Result := none
  deriving DecidableEq, Repr

/-- A recorded SEQ of a source with the reply formed for it (R230). -/
structure DupEntry where
  src : BitVec 16
  seq : BitVec 16
  reply : Option Result := none
  deriving DecidableEq, Repr

/-- A vote (R206, R232, R233). -/
structure Vote where
  id : Nat
  key : List Byte
  t0 : Nat
  lanes : List (Fin 3)
  tags : List Nat
  exempt : Bool
  admitted : Bool := false
  closed : Bool := false
  confirmed : Bool := false
  reply : Option Result := none
  deriving DecidableEq, Repr

/-- An admitted command that waits for its engine's frame (R235), and the instant of its admission. -/
structure Waiting where
  eng : Fin 4
  cmd : Cmd
  at' : Nat := 0
  deriving DecidableEq, Repr

/-- The command interpreter (08). -/
structure Interp where
  inbox : List Packet := []
  tags : List TagEntry := []
  dup : List DupEntry := []
  votes : List Vote := []
  waiting : List Waiting := []
  /-- Numbers tag entries and votes; the model's own. -/
  nextId : Nat := 0
  /-- Reply packets written to the mailbox, oldest first. -/
  mailbox : List (List Byte) := []
  /-- Result of the last command that answers no packet (its own row). -/
  lastReply : Option Result := none
  fault : Word := 0
  rxCnt : Word := 0
  errTrailer : BitVec 16 := 0
  errRefused : BitVec 16 := 0
  repeatFull : BitVec 16 := 0
  repeatDup : BitVec 16 := 0
  admitCnt : Word := 0
  voteExpired : Byte := 0
  voteNoThird : Byte := 0
  voteConfirm : BitVec 16 := 0
  lastOp : Byte := 0
  lastLanes : BitVec 3 := 0
  lastVote : Option Nat := none
  lastCycle : Word := 0
  deriving DecidableEq, Repr

/-- A check-value unit (R241 to R245). -/
structure CrcUnit where
  algo : BitVec 2 := 2
  acc : BitVec 64 := 0
  result : BitVec 64 := 0
  expect : BitVec 64 := 0
  bytes : BitVec 24 := 0
  outcome : BitVec 2 := 0
  fault : Bool := false
  mismatchCnt : BitVec 16 := 0
  deriving DecidableEq, Repr

end Sys2Proof.Machine
end

