-- ==== Sys2Proof/Machine/TypesSys.lean ====
section
/-! DEFINITION. State of the vital wired inputs and outputs, the image stores, the supplies, the test evaluator, Pewter
and the MOD block (09 to 13). Plain data; every default is the value at reset. -/

namespace Sys2Proof.Machine

/-- Input states (Table 9-1). -/
inductive ViState where
  | unknown
  | inactive
  | transition
  | active
  | discrepant
  deriving DecidableEq, Repr

/-- One contact (R247 to R249): debounced state, reads in a row that agree on `runVal`, gap reads passed in a row. -/
structure Contact where
  closed : Bool := false
  /-- The debounced state is known (four reads have agreed once). -/
  known : Bool := false
  run : Nat := 0
  runVal : Bool := false
  gapsOk : Nat := 0
  deriving DecidableEq, Repr

/-- A vital input (09). Instants are `elapsed`. -/
structure Vi where
  state : ViState := .unknown
  a : Contact := {}
  b : Contact := {}
  /-- Instant of the read at which the present state began. -/
  since : Nat := 0
  /-- The TRANSITION began from INACTIVE (a press may follow, R253). -/
  fromInactive : Bool := false
  /-- Both debounced contacts show the rest position, since when (leaving DISCREPANT, R250). -/
  restSince : Option Nat := none
  resetFault : Bool := false
  /-- Reads in a row on which the evaluators disagreed about a contact. -/
  evalBad : Nat := 0
  evalFault : Bool := false
  evalOkSince : Option Nat := none
  feedFault : Bool := false
  /-- INACTIVE without interruption and free of faults since (R254). -/
  relSince : Option Nat := none
  /-- The stuck declaration of the present ACTIVE has been made. -/
  stuck : Bool := false
  /-- VI_FAULT. -/
  fault : Word := 0
  discMax : BitVec 16 := 0
  discLast : BitVec 16 := 0
  refused : BitVec 16 := 0
  presses : BitVec 16 := 0
  /-- The STATUS bit stays 1 until 20 ms after the publication of a press (R251). -/
  report : Bool := false
  reportUntil : Option Nat := none
  /-- Ticks until the publication of the last accepted press. -/
  reportWait : Nat := 0
  /-- A contact feed is off in this frame (R248): contact A, contact B. -/
  gapA : Bool := false
  gapB : Bool := false
  deriving DecidableEq, Repr

/-- An off-pulse test (R259): start, switch under test (false: high side), and whether its window is still open. -/
structure PulseTest where
  begin : Nat
  low : Bool
  /-- The voltage has fallen below 3.0 V. -/
  fell : Bool := false
  bad : Bool := false
  deriving DecidableEq, Repr

/-- A vital output (09). -/
structure Vo where
  demand : Bool := false
  hs : Bool := false
  ls : Bool := false
  energised : Bool := false
  test : Option PulseTest := none
  /-- The test window is open until this instant (R261). -/
  window : Option Nat := none
  nextLow : Bool := false
  /-- ENERGISED as last posted in a change list (R314). -/
  posted : Bool := false
  locked : Bool := false
  trip : Option Nat := none
  /-- When the present switch state began, since when the voltage or current has been beyond its limits (R258), and
  whether the episode has been logged. -/
  switched : Nat := 0
  badSince : Option Nat := none
  episode : Bool := false
  overSince : Option Nat := none
  volt : BitVec 16 := 0
  curr : BitVec 16 := 0
  lastRes : BitVec 2 := 0
  lastSwitch : Bool := false
  passed : BitVec 16 := 0
  discarded : BitVec 16 := 0
  /-- VO_FAULT. -/
  fault : Word := 0
  deriving DecidableEq, Repr

/-- Rail states (R287). -/
inductive RailSt where
  | normal
  | warning
  | recovering
  | cutoff
  deriving DecidableEq, Repr

/-- A supervised rail with its running warning episode (R287, R290). -/
structure RailState where
  st : RailSt := .normal
  /-- Above the upper limit. -/
  upper : Bool := false
  began : Nat := 0
  recSince : Nat := 0
  lowest : BitVec 16 := 0
  /-- The episode has ended in a reset or a cut-off (SUP_EPISODE.ENDED_HARD). -/
  hard : Bool := false
  deriving DecidableEq, Repr

/-- Supplies and supervision (11). -/
structure Sup where
  v33 : RailState := {}
  core : RailState := {}
  field : RailState := {}
  mv33 : BitVec 16 := 0
  mvCore : BitVec 16 := 0
  median : BitVec 16 := 0
  secondLow : BitVec 16 := 0
  /-- Code of the second-lowest reading of the last conversion tick of the field bus slot, none before the first (R286). -/
  secondCode : Option (BitVec 12) := none
  vin : BitVec 16 := 0
  iin : BitVec 16 := 0
  /-- Readings of the logic input in a row below 16.8 V; episode; since when at or above 17.3 V (R289). -/
  lowCnt : Nat := 0
  lowEpisode : Bool := false
  highSince : Option Nat := none
  /-- Warning snapshot captured, not yet written; one is due at the next publication tick (R290). -/
  snapshot : Bool := false
  snapDue : Bool := false
  /-- SUP_EPISODE and SUP_EPISODE_MIN, kept over module reset (R339). -/
  episode : Word := 0
  episodeMin : BitVec 16 := 0
  cntLogic : BitVec 16 := 0
  cntField : BitVec 16 := 0
  startKind : BitVec 2 := 0
  startCause : BitVec 4 := 0
  startDur : BitVec 16 := 0
  /-- SUP_FAULT. -/
  fault : Word := 0
  /-- The last instant at which an episode ended (R124). -/
  warnEnd : Option Nat := none
  /-- The logic side has declared the cut-off (R293); overvoltage. -/
  cutDeclared : Bool := false
  /-- The regulators have been switched off by a cut-off that no superframe has reported yet (R293). -/
  cutPending : Bool := false
  cutOver : Bool := false
  /-- The port stage runs, with the ports still ramping in their groups (R293, R295). -/
  portStage : Bool := false
  stageStart : Nat := 0
  stageReset : Bool := false
  deriving DecidableEq, Repr

/-- STAGE of the image stores (MOD_CFG_STATE). -/
inductive Stage where
  | empty
  | loading
  | verifying
  | staged
  | activating
  deriving DecidableEq, Repr

/-- A verification that runs (R271, R277) and the command that its reply answers. -/
structure Verify where
  cmd : Cmd
  crc : Word
  revert : Bool
  begin : Nat
  deriving DecidableEq, Repr

/-- Image stores (10). The load buffer is a memory in canonical form (Machine/Memory.lean). -/
structure Images where
  /-- The image in force, and the Active slot, which a module reset keeps and a failed start check leaves as it is (R264, R279). -/
  active : Option CfgImage := none
  slot : Option CfgImage := none
  /-- The start check of the Active slot, which ends the logic-side steps, will find a difference (R279, Table 11-4). -/
  slotBad : Bool := false
  previous : Option CfgImage := none
  staged : Option CfgImage := none
  loadBuf : List (Nat × Byte) := []
  loadLen : Nat := 0
  stage : Stage := .empty
  owner : BitVec 3 := 0
  revert : Bool := false
  stagedAt : Nat := 0
  verify : Option Verify := none
  errReason : Byte := 0
  errOffset : BitVec 21 := 0
  confirmed : BitVec 16 := 0
  refused : BitVec 16 := 0
  /-- MOD_CFG_FAULT. -/
  fault : Word := 0
  /-- Staged vital firmware: check value, and whether its signature is reported verified (R280). -/
  fwCheck : Option (BitVec 64) := none
  fwVerified : Bool := false
  fwPending : Bool := false
  fwFallback : Bool := false
  /-- Check value of the running vital firmware, kept over module reset (R339); none: the firmware the module came with. -/
  fwRunning : Option (BitVec 64) := none
  /-- Release line of the running vital firmware, and the firmware before it, which the boot ROM falls back to (R281). -/
  fwLine : Byte := Config.firmwareLine
  fwPrev : Option (BitVec 64) := none
  fwPrevLine : Byte := Config.firmwareLine
  deriving DecidableEq, Repr

/-- TST_STATE.STATE. -/
inductive TstState where
  | service
  | startTest
  | startFailed
  | shutdown
  | done
  | aborting
  deriving DecidableEq, Repr

/-- The test record in vital non-volatile memory (R303). `kind`: 1 quick, 2 full, 3 shutdown. -/
structure TestRecord where
  kind : Nat
  verdict : BitVec 3
  count : BitVec 16
  token : Option (BitVec 64)
  fw : BitVec 64
  sigs : List Word
  deriving DecidableEq, Repr

/-- The test evaluator (11). `step` indexes the steps of Table 11-5 in their order; `done`: segments of it completed. -/
structure Tst where
  state : TstState := .startTest
  kind : BitVec 2 := 0
  windowed : Bool := false
  step : Nat := 0
  segs : Nat := 0
  count : BitVec 16 := 0
  expected : BitVec 16 := 0
  acc : Word := 0xFFFFFFFF
  sigs : List Word := []
  failStep : BitVec 5 := 0
  sig : Word := 0
  sigExp : Word := 0
  startVerdict : BitVec 3 := 0
  record : Option TestRecord := none
  aborts : BitVec 16 := 0
  abortCause : BitVec 4 := 0
  /-- TST_FAULT. -/
  fault : Word := 0
  /-- No segment runs: pause of windowed mode since, link cycle before the first segment, hold by a supply event. -/
  pauseSince : Option Nat := none
  firstAt : Option Nat := none
  running : Bool := false
  held : Bool := false
  /-- An abort waits for the end of the running segment, with its cause; the restoration runs since. -/
  abortReq : Option (BitVec 4) := none
  abortAt : Option Nat := none
  deriving DecidableEq, Repr

/-- Stages of the start sequence (Table 11-4). -/
inductive StartStage where
  /-- Boot verification and logic-side test steps. -/
  | logic
  /-- Waiting for the field bus and the lanes (R296). -/
  | field
  /-- Field test steps T10, T8, T7. -/
  | fieldTest
  /-- Port stage. -/
  | ports
  /-- LB0 in groups (T9). -/
  | lb0
  /-- Synchronising reset and proving frames. -/
  | proving
  /-- No start sequence runs. -/
  | ended
  deriving DecidableEq, Repr

/-- An event entry (Table 12-4). -/
structure Event where
  ts : Stamp
  code : BitVec 16
  obj : BitVec 16
  detail : BitVec 48 := 0
  deriving DecidableEq, Repr

/-- A complete axle entry (R320): record, header bytes 16 to 31 and 64 paired samples. -/
structure AxleEntry where
  num : Nat
  record : AxleRec
  stride : Nat := 1
  rate : Nat := 12
  scm : Bool := false
  validMap : BitVec 64 := 0
  samples : List (BitVec 16 × BitVec 16) := []
  deriving DecidableEq, Repr

/-- An entry of Pewter's queue (R314): an event, an axle entry, the published images of a warning snapshot (R290). -/
inductive QItem where
  | event (e : Event)
  | axle (n : AxleEntry)
  | images (l : List Img)
  deriving DecidableEq, Repr

/-- A page of a ring (R318): what its header holds (epoch, number of its first entry, type, CRC-32C), its entries, and whether its
check holds when it is read. -/
structure Page where
  epoch : Nat
  first : Nat := 0
  axle : Bool := false
  crc : Word := 0
  events : List (Nat × Event) := []
  axles : List AxleEntry := []
  ok : Bool := true
  deriving DecidableEq, Repr

/-- A hold slot (R321): its window on the time base, and what has been copied. -/
structure Hold where
  first : Stamp
  last : Stamp
  epoch : Nat
  until' : Nat
  copied : Bool := false
  events : List (Nat × Event) := []
  axles : List AxleEntry := []
  deriving DecidableEq, Repr

/-- A calendar reference (R322). -/
structure CalRef where
  epoch : Nat
  tb : Stamp
  utc : BitVec 48
  deriving DecidableEq, Repr

/-- A warning snapshot (R290) in its slot of the protected region: rail, duration in ms, lowest reading, and the published images of all
engines. -/
structure Snapshot where
  slot : Byte
  rail : BitVec 2
  duration : BitVec 16
  lowest : BitVec 16
  images : List Img
  deriving DecidableEq, Repr

/-- A warning timer of a sensor (R316). -/
structure SensorSt where
  aboveSince : Option Nat := none
  episode : Bool := false
  belowSince : Option Nat := none
  deriving DecidableEq, Repr

/-- A management client or a tool session (R324): its number, its endpoint and its last datagram. -/
structure Client where
  id : BitVec 4
  ep : Endpoint
  last : Nat
  deriving DecidableEq, Repr

/-- State of Pewter's processor (MGT_STATE.PEWTER). -/
inductive PwState where
  | starting
  | running
  | restarting
  deriving DecidableEq, Repr

/-- States of MGT_FW. -/
inductive FwStage where
  | none
  | receiving
  | verifying
  | verified
  | failed
  deriving DecidableEq, Repr

/-- Values of MGT_ETH_CTRL.LOOPBACK (R325). -/
inductive EthLoop where
  | none
  | mac
  | phy
  | reserved
  deriving DecidableEq, Repr

/-- The management subsystem (12). -/
structure Mgt where
  pw : PwState := .starting
  recOk : Bool := false
  /-- A restart runs since, by the watchdog or by FW_RESTART, and what the boot ROM found then (R315, R326). -/
  restartAt : Nat := 0
  restartWd : Bool := false
  bootBad : Bool := false
  /-- Release line and release of the running Pewter firmware; none: the release the module came with (R340). -/
  fwLine : Byte := Config.firmwareLine
  fwRelease : Option (BitVec 16) := none
  /-- Instant of the last sensor sample (R316). -/
  sensorAt : Option Nat := none
  restarts : Byte := 0
  clients : List Client := []
  sessions : List Client := []
  fault : Word := 0
  tCore : Byte := 0
  tMgt : Byte := 0
  tInlet : Byte := 0
  humidity : Byte := 0
  wCore : SensorSt := {}
  wMgt : SensorSt := {}
  wInlet : SensorSt := {}
  wHum : SensorSt := {}
  power : BitVec 16 := 0
  current : BitVec 16 := 0
  wear : Byte := 0
  /-- Spare blocks left; shown once the directory is valid. -/
  spare : BitVec 12 := 640
  spareLow : Bool := false
  /-- Next entry numbers, from the recorder directory (kept). -/
  evtNext : Nat := 0
  axlNext : Nat := 0
  /-- Entry numbers given to emitted records (R320). -/
  axlEmit : Nat := 0
  queue : List QItem := []
  lostAxles : BitVec 16 := 0
  lostEvents : BitVec 16 := 0
  /-- STATE, DIST_CAUSE and WHY of the defined sections as last posted in a change list (R314). -/
  posted : List (Fin 256 × BitVec 3 × BitVec 5 × BitVec 3) := []
  /-- Entries dropped since the queue last had a free place (event 0B30h). -/
  dropped : Nat := 0
  /-- Page buffers with the instant of their first entry, and the rings, oldest page first. -/
  evtBuf : List (Nat × Event) := []
  evtBufAt : Nat := 0
  axlBuf : List AxleEntry := []
  axlBufAt : Nat := 0
  /-- Epoch of the page buffers' entries (R318, R322), blocks of the rings, pages written to them, and blocks erased in all. -/
  evtEpoch : Nat := 0
  axlEpoch : Nat := 0
  evtBlocks : Nat := 2048
  axlBlocks : Nat := 24576
  evtPages : Nat := 0
  axlPages : Nat := 0
  erases : Nat := 0
  /-- Erase counts of the flash blocks that have one, the block of a place that is not its own, and the retired blocks (R319, log
  81). -/
  erased : List (Nat × Nat) := []
  moved : List (Nat × Nat) := []
  bad : List Nat := []
  evtRing : List Page := []
  axlRing : List Page := []
  snaps : List Snapshot := []
  snapNow : List Img := []
  commissioning : List (BitVec 64 × Stamp × List Byte) := []
  holds : Vector (Option Hold) 16 := Vector.replicate 16 none
  epoch : BitVec 16 := 0
  calendar : List CalRef := []
  /-- MGT_ETH_CTRL, kept. -/
  ethEnable : Bool := true
  loopback : EthLoop := .none
  loopNet : Bool := false
  loopAt : Nat := 0
  prefixLen : BitVec 6 := 0x18
  lbResult : BitVec 2 := 0
  link : Bool := false
  ethMode : BitVec 2 := 0
  rxErr : BitVec 16 := 0
  refused : BitVec 16 := 0
  ipv4 : Word := 0xC0A80A0A
  gw : Word := 0
  /-- Firmware staging store and its state (R326). -/
  fwStore : List (Nat × Byte) := []
  fwState : FwStage := .none
  fwVital : Bool := true
  fwFail : BitVec 4 := 0
  fwLen : Nat := 0
  fwTotal : Nat := 0
  fwBytes : List Byte := []
  fwAt : Nat := 0
  /-- Datagrams that the last command with an answer sent, oldest first: endpoint, kind and body (R324). -/
  datagrams : List (Endpoint × Byte × List Byte) := []
  /-- The ARP or ICMP echo frame answered last (R324). -/
  answered : Option EthFrame := none
  deriving DecidableEq, Repr

/-- Phases of the module (MOD_STATE.PHASE) with module reset asserted. -/
inductive ModPhase where
  | held
  | start
  | service
  | startFailed
  | shutdown
  | testDone
  deriving DecidableEq, Repr

/-- Causes of a module reset (SUP_START.CAUSE). -/
inductive ResetCause where
  | powerOn
  | button
  | supervision
  | clock
  | firmware
  | testDone
  | abort
  /-- IEEE 1149.1 (R353): production test mode. -/
  | tap
  deriving DecidableEq, Repr

/-- The MOD block and what module reset keeps (13). -/
structure Mdl where
  phase : ModPhase := .held
  startStage : StartStage := .ended
  /-- `elapsed` at the release of module reset. -/
  startAt : Nat := 0
  resetCause : ResetCause := .powerOn
  /-- Faults that the next start logs (R292, R341, R310): code and object. -/
  resetFaults : List (BitVec 16 × BitVec 16) := []
  faultLast : Word := 0
  irqCrc : Byte := 0
  irqCheck : BitVec 2 := 0
  /-- MOD_BUTTON, kept over module reset (R341). -/
  btnStuck : Bool := false
  btnResets : Byte := 0
  btnHold : BitVec 16 := 0
  btnHeld : Option Nat := none
  fwMgtFallback : Bool := false
  /-- MOD_STATE of the last publication tick. -/
  pub : Word := 0
  deriving DecidableEq, Repr

/-- What a reader last latched and read (R337, R330). -/
structure ReaderSt where
  lastrec1 : Vector Word 64 := Vector.replicate 64 0
  lastrec2 : Vector Word 64 := Vector.replicate 64 0
  lastrec3 : Vector Word 64 := Vector.replicate 64 0
  timeLo : Word := 0
  crcResult : Vector Word 4 := Vector.replicate 4 0
  crcExpect : Vector Word 4 := Vector.replicate 4 0
  serialLo : Word := 0
  cfgAct : Word := 0
  cfgPrev : Word := 0
  cfgSerial : Word := 0
  fwAct : Word := 0
  evtNext : Word := 0
  axlNext : Word := 0
  tokenLo : Word := 0
  /-- The data the last access returned, and whether it met a bus error. -/
  data : Word := 0
  busError : Bool := false
  deriving DecidableEq, Repr

end Sys2Proof.Machine
end

