-- ==== Sys2Proof/Machine/State.lean ====
section
/-! DEFINITION. The state of the module as plain data, the reasons why a command stops, and the state after reset. -/

namespace Sys2Proof.Machine

/-- Why a command faults. -/
inductive Fault where
  /-- The operands are no event of this hardware: a frame that is not 256 bytes, a superframe that is not 1,536 words, a
  list longer than its field admits. Raised by the commands with such operands. Safe: no event of the hardware stops. -/
  | notAnEvent
  deriving DecidableEq, Repr

/-- Why a command is refused. -/
inductive Refusal where
  /-- The command has no meaning yet. Raised by the dispatcher alone; safe. -/
  | notModelled (mnemonic : String)
  deriving DecidableEq, Repr

/-- The module (01 to 13) and the queue of waiting commands. -/
structure State where
  clk : Clk
  mdl : Mdl
  lanes : Vector Lane 8
  retLanes : Vector RetLane 2
  ports : Vector Port 64
  rt : Option RunTest
  /-- Ports placed first in the run-time test queue by SELFTEST_PORT, last named first (R61). -/
  rtFirst : List (Fin 64)
  chans : Vector Chan 128
  banks : Vector Bank 2
  wdus : Vector Wdu 64
  engines : Vector Engine 4
  /-- SEC_FAULT. -/
  secFault : Vector Word 256
  links : Vector Link 8
  /-- AREA streams, one for each STREAM item of the active image. -/
  areas : List Area
  /-- Buffers of the relay entries of the active image. -/
  relays : List (List RelayFrame)
  /-- Accepted remote records with the link they came by and the instant of their acceptance (R19, R201). -/
  rxQueue : List (AxleRec × Fin 8 × Nat)
  /-- An address conflict holds (R193). -/
  conflict : Bool
  tbs : Tbs
  cmd : Interp
  crc : Vector CrcUnit 4
  vis : Vector Vi 8
  vos : Vector Vo 8
  sup : Sup
  img : Images
  tst : Tst
  mgt : Mgt
  /-- Module-wide causes of UNPROVEN that hold, most recently begun first (R149, R340). -/
  causes : List UCause
  /-- Causes of UNPROVEN in the order in which they last began, most recent first, to rank those of one section (R149): a debug
  attach with its engine, 010b with the home engine in MODE SPLIT, and 111b as 010b without one. -/
  begun : List (UCause × Option (Fin 4))
  /-- Last slots of the sections that no image holds: their counts run since module reset (Table 5-10). -/
  parked : List Sec
  readers : Vector ReaderSt 2
  /-- Words of the ECC store marked uncorrectable (R38). -/
  eccBad : List (Fin 524288)
  /-- Written slots of the ledger pool by slot number (R37, R162). -/
  pool : List (Nat × PoolSlot)
  /-- The hand-over buffer, one part for each hand-over (R37, R174). -/
  hoBuf : List HoBuf
  pending : List Instr
  deriving DecidableEq, Repr

/-- The module right after power-on, module reset still asserted (R338, R339, R367). -/
def State.reset : State where
  clk := {}
  mdl := {}
  lanes := Vector.replicate 8 {}
  retLanes := Vector.replicate 2 {}
  ports := Vector.replicate 64 {}
  rt := none
  rtFirst := []
  chans := Vector.replicate 128 {}
  banks := Vector.replicate 2 {}
  wdus := Vector.replicate 64 {}
  engines := Vector.replicate 4 {}
  secFault := Vector.replicate 256 0
  links := Vector.replicate 8 {}
  areas := []
  relays := []
  rxQueue := []
  conflict := false
  tbs := {}
  cmd := {}
  crc := Vector.replicate 4 {}
  vis := Vector.replicate 8 {}
  vos := Vector.replicate 8 {}
  sup := {}
  img := {}
  tst := {}
  mgt := {}
  causes := [.start]
  begun := []
  parked := []
  readers := Vector.replicate 2 {}
  eccBad := []
  pool := []
  hoBuf := []
  pending := []

end Sys2Proof.Machine
end

