-- ==== Sys2Proof/Machine/Ops.lean ====
section
/-! DEFINITION. The named operations over the state that every family uses: time, array updates, logging a fault,
module-wide causes of UNPROVEN, tokens, module reset. -/

namespace Sys2Proof.Machine

/-! ### Arrays -/

/-- Change element `i`. -/
def upd {α : Type} {n : Nat} (v : Vector α n) (i : Fin n) (f : α → α) : Vector α n :=
  v.set i.val (f v[i.val]) i.isLt

/-- All indexes of an array. -/
def allFin (n : Nat) : List (Fin n) := List.finRange n

def State.modPort (s : State) (n : Fin 64) (f : Port → Port) : State := { s with ports := upd s.ports n f }
def State.modChan (s : State) (c : Fin 128) (f : Chan → Chan) : State := { s with chans := upd s.chans c f }
def State.modWdu (s : State) (n : Fin 64) (f : Wdu → Wdu) : State := { s with wdus := upd s.wdus n f }
def State.modLane (s : State) (k : Fin 8) (f : Lane → Lane) : State := { s with lanes := upd s.lanes k f }
def State.modEngine (s : State) (e : Fin 4) (f : Engine → Engine) : State := { s with engines := upd s.engines e f }
def State.modLink (s : State) (k : Fin 8) (f : Link → Link) : State := { s with links := upd s.links k f }
def State.modVi (s : State) (i : Fin 8) (f : Vi → Vi) : State := { s with vis := upd s.vis i f }
def State.modVo (s : State) (j : Fin 8) (f : Vo → Vo) : State := { s with vos := upd s.vos j f }

/-- Channel of coil system `y` of port `n` (Table 0-4). -/
def chanOf (n : Fin 64) (y : Sys) : Fin 128 :=
  match y with
  | .cs1 => ⟨2 * n.val, by omega⟩
  | .cs2 => ⟨2 * n.val + 1, by omega⟩

/-- Port of a channel. -/
def portOf (c : Fin 128) : Fin 64 := ⟨c.val / 2, by omega⟩

/-- Coil system of a channel. -/
def sysOf (c : Fin 128) : Sys := if c.val % 2 = 0 then .cs1 else .cs2

/-- Isolator lane of a port (R33). -/
def laneOfPort (n : Fin 64) : Fin 8 := ⟨n.val / 8, by omega⟩

/-- Return lane of a port (R35). -/
def retOfPort (n : Fin 64) : Fin 2 := ⟨n.val / 32, by omega⟩

/-- Port `j` of isolator lane `k` (R33). -/
def portOfLane (k j : Fin 8) : Fin 64 := ⟨8 * k.val + j.val, by omega⟩

def Sys.other : Sys → Sys
  | .cs1 => .cs2
  | .cs2 => .cs1

/-! ### Time -/

/-- Time passes. -/
def State.pass (dt : Nat) (s : State) : State :=
  { s with clk := { s.clk with elapsed := s.clk.elapsed + dt } }

/-- Time passes up to the instant `t`, if it has not come yet. -/
def State.upTo (t : Nat) (s : State) : State :=
  { s with clk := { s.clk with elapsed := max s.clk.elapsed t } }

def State.now (s : State) : Nat := s.clk.elapsed

/-- The present instant is that of the last tick. -/
def State.atTick (s : State) : Bool := decide (s.now = s.clk.tickAt)

/-- Module reset is asserted. -/
def State.inReset (s : State) : Bool := decide (s.mdl.phase = .held)

/-- Ten billionths of a ns that the time base advances in a ns: the steering of R209 moves them by at most 10 ppm (log 2). -/
def Clk.pace (c : Clk) : Nat := (10000000000 + c.rate).toNat

/-- Nanoseconds of the time base since the last tick. -/
def Clk.since (c : Clk) : Nat := ((c.elapsed - c.tickAt) * c.pace + c.frac) / 10000000000

/-- The extended time base (R22): 0 while module reset is asserted. -/
def State.tb (s : State) : Nat :=
  if s.inReset then 0 else (s.clk.tickTb + s.clk.since) % 2 ^ 64

/-- The 48-bit time-base value (R22). -/
def State.stamp (s : State) : Stamp := BitVec.ofNat 48 s.tb

/-- Number of the last tick (R22). DESIGN CHOICE (log 93): in the frame of a step it is that of the value after the step, rounded
down to a multiple of 250,000 ns. -/
def State.tickNo (s : State) : Nat := s.clk.tickTb / 250000

/-- The time base at the next tick (R22, R24): the first multiple of 250,000 ns at least 250,000 ns later. -/
def Clk.nextTb (c : Clk) : Nat := (c.tickTb + 499999) / 250000 * 250000
def State.nextTb (s : State) : Nat := s.clk.nextTb

/-- The instant `ns` after the last tick, on `elapsed`. -/
def State.inFrame (s : State) (ns : Nat) : Nat := s.clk.tickAt + ns

/-- Draw a free value (log 3): the value and the state whose next draw is another one. -/
def State.draw (s : State) : Nat × State :=
  (Config.freeNat s.clk.free, { s with clk := { s.clk with free := s.clk.free + 1 } })

/-! ### The active image -/

/-- The configuration in force (R14). -/
def State.cfg (s : State) : Cfg :=
  match s.img.active with
  | some i => i.cfg
  | none => Cfg.reset

/-- An image is ACTIVE. -/
def State.hasImage (s : State) : Bool := s.img.active.isSome

/-- The module's own address (R41, R371). -/
def State.addr (s : State) : BitVec 11 := s.cfg.modAddr

/-- Port `n` is assigned (Table 2-8). -/
def State.assigned (s : State) (n : Fin 64) : Bool := (s.cfg.prtCfg[n]).getLsbD 31

/-- The definition of a local section. -/
def Cfg.sec (c : Cfg) (i : Fin 256) : Option SecDef := c.secs.find? (fun d => d.idx = i)

/-- A section names the point (R131). -/
def SecDef.has (d : SecDef) (m : BitVec 11) (p : BitVec 6) : Bool :=
  d.members.any (fun x => decide (x.modAddr = m ∧ x.point = p))

/-- A section has a member point on another module (R133). -/
def SecDef.remote (d : SecDef) (own : BitVec 11) : Bool :=
  d.members.any (fun x => decide (x.modAddr ≠ own))

def SecDef.engine (d : SecDef) : Fin 4 := ⟨fieldNat d.cfg 29 2, by unfold fieldNat; omega⟩
def SecDef.sequence (d : SecDef) : Bool := d.cfg.getLsbD 28
def SecDef.respDisturb (d : SecDef) : Bool := d.cfg.getLsbD 27
def SecDef.directOk (d : SecDef) : Bool := d.cfg.getLsbD 26
def SecDef.byCommand (d : SecDef) : Bool := d.cfg.getLsbD 24
def SecDef.byKey (d : SecDef) : Bool := d.cfg.getLsbD 25
def SecDef.keyDirect (d : SecDef) : Bool := d.cfg.getLsbD 23
def SecDef.resetKey (d : SecDef) : Nat := fieldNat d.cfg 20 3
def SecDef.sweepMin (d : SecDef) : Nat := fieldNat d.cfg 10 5
def SecDef.blocks (d : SecDef) : Nat := fieldNat d.cfg 0 7
def SecDef.pendMs (d : SecDef) : Nat := fieldNat d.plaus 0 8

/-! ### Faults (R363) and Pewter's queue (R314) -/

/-- Set bits of MGT_FAULT. -/
def State.mgtFault (s : State) (bit : Nat) : State :=
  { s with mgt := { s.mgt with fault := setBit s.mgt.fault bit } }

/-- An entry reaches Pewter's queue of 4,096; one that finds it full is dropped and counted (R314). -/
def State.enqueue (s : State) (q : QItem) : State :=
  if s.mgt.queue.length < 4096 then
    { s with mgt := { s.mgt with queue := s.mgt.queue ++ [q] } }
  else
    match q with
    | .event _ => { s with mgt := { s.mgt with lostEvents := satInc s.mgt.lostEvents, dropped := s.mgt.dropped + 1 } }
    | .axle _ => { s with mgt := { s.mgt with lostAxles := satInc s.mgt.lostAxles, dropped := s.mgt.dropped + 1 } }
    | .images _ => { s with mgt := { s.mgt with lostEvents := satInc s.mgt.lostEvents, dropped := s.mgt.dropped + 1 } }

/-- At the next free place Pewter writes one event 0B30h with the number dropped (R314). -/
def State.flushDropped (s : State) : State :=
  if s.mgt.dropped > 0 ∧ s.mgt.queue.length < 4096 then
    let e : Event := { ts := s.stamp, code := 0x0B30, obj := 0xFFFF, detail := BitVec.ofNat 48 s.mgt.dropped }
    let s := { s with
      mgt := { s.mgt with queue := s.mgt.queue ++ [QItem.event e], dropped := 0 }
      mdl := { s.mdl with faultLast := 0x0B30FFFF } }
    s.mgtFault 5
  else s

/-- An event entry that is no fault (R323). -/
def State.event (s : State) (code obj : BitVec 16) (detail : BitVec 48) : State :=
  (s.flushDropped).enqueue (.event { ts := s.stamp, code := code, obj := obj, detail := detail })

/-- Report a fault code and its object to Pewter's queue and to MOD_FAULT_LAST (R363, R340). -/
def State.logD (s : State) (code obj : BitVec 16) (detail : BitVec 48) : State :=
  let s := s.event code obj detail
  { s with mdl := { s.mdl with faultLast := code.setWidth 32 <<< 16 ||| obj.setWidth 32 } }

/-- A fault without detail. -/
def State.log (s : State) (code obj : Nat) : State :=
  s.logD (BitVec.ofNat 16 code) (BitVec.ofNat 16 obj) 0

/-- Ten minutes and five minutes around an instant (R321). -/
def holdWindow (t : Stamp) : Stamp × Stamp := (t - 600000000000, t + 300000000000)

/-- An instant lies in a window of the time base. -/
def inWindow (a b t : Stamp) : Bool := decide ((t - a).toNat ≤ (b - a).toNat)

/-- Open a hold around the instant `t`, extend the slot whose window holds it, or refuse with 0B33h (R321). The answer is
the slot, none where refused. -/
def State.openHold (s : State) (t : Stamp) : Option (Fin 16) × State :=
  let w := holdWindow t
  let until' := s.clk.elapsed + (w.2 - s.stamp).toNat % 2 ^ 47
  let epoch := s.mgt.epoch.toNat
  match (allFin 16).find? (fun i => match s.mgt.holds[i] with
      | some h => inWindow h.first h.last t && decide (h.epoch = epoch)
      | none => false) with
  | some i =>
    let s := { s with mgt := { s.mgt with holds := upd s.mgt.holds i (fun o => o.map (fun h =>
      if inWindow h.first h.last w.2 then h else { h with last := w.2, until' := until', copied := false })) } }
    (some i, s)
  | none =>
    match (allFin 16).find? (fun i => (s.mgt.holds[i]).isNone) with
    | some i =>
      let h : Hold := { first := w.1, last := w.2, epoch := epoch, until' := until' }
      let s := { s with mgt := { s.mgt with holds := upd s.mgt.holds i (fun _ => some h) } }
      (some i, s.event 0x0006 0xFFFF (BitVec.ofNat 48 (i.val * 2 ^ 40)))
    | none => (none, (s.log 0x0B33 0xFFFF).mgtFault 8)

/-- Log a fault of the vital side. 0605h and 0703h open a hold by themselves (R321), at once also while Pewter restarts (log 27). -/
def State.fault (s : State) (code obj : Nat) : State :=
  let s := s.log code obj
  if code = 0x0605 ∨ code = 0x0703 then (s.openHold s.stamp).2 else s

def State.prtFault (s : State) (n : Fin 64) (bit code : Nat) : State :=
  (s.modPort n (fun p => { p with fault := setBit p.fault bit })).fault code n.val

def State.fltFault (s : State) (c : Fin 128) (bit code : Nat) : State :=
  (s.modChan c (fun p => { p with fault := setBit p.fault bit })).fault code c.val

def State.wduFault (s : State) (n : Fin 64) (bit code : Nat) : State :=
  (s.modWdu n (fun p => { p with fault := setBit p.fault bit })).fault code n.val

def State.cenFault (s : State) (e : Fin 4) (bit code : Nat) : State :=
  (s.modEngine e (fun p => { p with fault := setBit p.fault bit })).fault code e.val

def State.lnkFault (s : State) (k : Fin 8) (bit code : Nat) : State :=
  (s.modLink k (fun p => { p with fault := setBit p.fault bit })).fault code k.val

def State.viFault (s : State) (i : Fin 8) (bit code : Nat) : State :=
  (s.modVi i (fun p => { p with fault := setBit p.fault bit })).fault code i.val

def State.voFault (s : State) (j : Fin 8) (bit code : Nat) : State :=
  (s.modVo j (fun p => { p with fault := setBit p.fault bit })).fault code j.val

def State.supFault (s : State) (bit code obj : Nat) : State :=
  { s with sup := { s.sup with fault := setBit s.sup.fault bit } }.fault code obj

def State.tbsFault (s : State) (bit code : Nat) : State :=
  { s with tbs := { s.tbs with fault := setBit s.tbs.fault bit } }.fault code 0xFFFF

def State.cmdFault (s : State) (bit code : Nat) : State :=
  { s with cmd := { s.cmd with fault := setBit s.cmd.fault bit } }.fault code 0xFFFF

def State.imgFault (s : State) (bit code : Nat) : State :=
  { s with img := { s.img with fault := setBit s.img.fault bit } }.fault code 0xFFFF

def State.tstFault (s : State) (bit code : Nat) : State :=
  { s with tst := { s.tst with fault := setBit s.tst.fault bit } }.fault code 0xFFFF

def State.mgtLog (s : State) (bit code : Nat) : State :=
  (s.mgtFault bit).fault code 0xFFFF

/-- SEC_FAULT and its fault. -/
def State.secLog (s : State) (l : SecLog) : State :=
  let s := match l.sx with
    | some (i, b) => { s with secFault := upd s.secFault i (fun w => setBit w b) }
    | none => s
  s.fault l.code.toNat l.obj.toNat

/-- A write that the filter discards (R313, R329, R332): fault 0B01h with the address in the event detail. -/
def State.blocked (s : State) (addr : Nat) : State :=
  (s.logD 0x0B01 0xFFFF (BitVec.ofNat 48 addr)).mgtFault 0

/-- Pewter's processor runs: module reset is not asserted and no watchdog restart is under way (R315). -/
def State.pewterOn (s : State) : Bool := !s.inReset && decide (s.mgt.pw ≠ .restarting)

/-! ### Events for the engines (R19, R156, R159) -/

/-- The instant of the next tick (R22, R24): the first ns at which the time base has reached it. -/
def Clk.tickDue (c : Clk) : Nat := c.tickAt + ((c.nextTb - c.tickTb) * 10000000000 - c.frac + (c.pace - 1)) / c.pace
def State.tickDue (s : State) : Nat := s.clk.tickDue

/-- The present instant is not before the next tick: what reaches the journal now is sampled by the tick after it (R19). -/
def Clk.late (c : Clk) : Bool := decide (c.tickDue ≤ c.elapsed)
def State.late (s : State) : Bool := s.clk.late

/-- An input reaches an engine's journal: the one that the coming tick samples, or that of the tick after it. -/
def Engine.post (late : Bool) (f : Journal → Journal) (g : Engine) : Engine :=
  if late then { g with next := f g.next } else { g with journal := f g.journal }

/-- An input reaches every engine's journal. -/
def State.postAll (s : State) (f : Journal → Journal) : State :=
  let late := s.late
  { s with engines := s.engines.map (Engine.post late f) }

/-- A cause of UNPROVEN that begins is the most recent one (R149). -/
def beginFirst (u : UCause) (e : Option (Fin 4)) (l : List (UCause × Option (Fin 4))) : List (UCause × Option (Fin 4)) :=
  (u, e) :: l.filter (fun p => decide (p ≠ (u, e)))

/-- A cause of UNPROVEN begins. -/
def State.noteBegin (s : State) (u : UCause) (e : Option (Fin 4)) : State := { s with begun := beginFirst u e s.begun }

/-- The cause of UNPROVEN that an item of the point event entry begins. -/
def PointEv.begins (own : BitVec 11) (ev : PointEv) : Option UCause :=
  match ev with
  | .loop n echo true => some (.loop own (BitVec.ofNat 6 n.val) echo)
  | .cause u true => some u
  | _ => none

/-- The cause of UNPROVEN that an item of the link event entry begins. -/
def LinkEv.begins (ev : LinkEv) : Option UCause :=
  match ev with
  | .remoteLoop _ m p true => some (.loop m p false)
  | .linkLoop k true => some (.linkLoop k)
  | _ => none

/-- The order of the causes after the one that begins, if any. -/
def beginOpt (u : Option UCause) (l : List (UCause × Option (Fin 4))) : List (UCause × Option (Fin 4)) :=
  match u with
  | some u => beginFirst u none l
  | none => l

/-- An item of the point event entry reaches every engine's journal. -/
def State.postPoint (s : State) (ev : PointEv) : State :=
  { s.postAll (fun j => { j with points := j.points ++ [ev] }) with begun := beginOpt (ev.begins s.addr) s.begun }

/-- An item of the link event entry. -/
def State.postLink (s : State) (ev : LinkEv) : State :=
  { s.postAll (fun j => { j with links := j.links ++ [ev] }) with begun := beginOpt ev.begins s.begun }

/-- An item of the vital input event entry. -/
def State.postVi (s : State) (ev : ViEv) : State := s.postAll (fun j => { j with vis := j.vis ++ [ev] })

/-- A module-wide cause of UNPROVEN begins (R149). -/
def State.beginCause (s : State) (u : UCause) : State :=
  if s.causes.contains u then s
  else { s with causes := u :: s.causes }.postPoint (.cause u true)

/-- A module-wide cause of UNPROVEN ends. -/
def State.endCause (s : State) (u : UCause) : State :=
  if s.causes.contains u then { s with causes := s.causes.erase u }.postPoint (.cause u false)
  else s

/-! ### Tokens and signing (R171, R172) -/

/-- The token of an engine is live. -/
def Engine.live (g : Engine) : Bool := g.token && decide (g.frame < g.tokenUntil)

/-- An engine may sign (R172). -/
def Engine.canSign (g : Engine) : Bool :=
  g.live && (match g.mode with
    | .run => true
    | .hoOut => true
    | .hoIn => true
    | _ => false)

/-- The signing engine, which is the command engine (R172, R234). -/
def State.signer (s : State) : Option (Fin 4) := (allFin 4).find? (fun e => (s.engines[e]).canSign)

/-- The engine whose image shows a section (CEN_SECMAP). -/
def State.publisher (s : State) (i : Fin 256) : Option (Fin 4) :=
  (allFin 4).find? (fun e => (s.engines[e]).published.secs.any (fun x => decide (x.idx = i)))

/-- A section slot of an image. -/
def Img.sec (m : Img) (i : Fin 256) : Option Sec := m.secs.find? (fun x => decide (x.idx = i))

/-- The published slot of a section. -/
def State.pubSec (s : State) (i : Fin 256) : Option Sec :=
  match s.publisher i with
  | some e => (s.engines[e]).published.sec i
  | none => none

/-! ### Rails (R287) -/

/-- A warning episode runs: a rail is in WARNING or RECOVERING (R290). -/
def RailState.episode (r : RailState) : Bool := decide (r.st = .warning ∨ r.st = .recovering)

/-- A warning episode runs on any rail (R290, R291). -/
def State.warning (s : State) : Bool := s.sup.v33.episode || s.sup.core.episode || s.sup.field.episode

/-- Every rail is NORMAL. -/
def State.railsNormal (s : State) : Bool :=
  decide (s.sup.v33.st = .normal ∧ s.sup.core.st = .normal ∧ s.sup.field.st = .normal)

/-! ### Module reset (R31, R262, R292, R338, R339) -/

/-- Every field at its reset value but what Table 13-3 keeps, what the recorder and Pewter's settings hold (R318, R327),
the supervised rails, which the supervision circuit follows by itself (R286), and the clock of the model. -/
def State.cleared (s : State) (cause : ResetCause) : State :=
  { State.reset with
    clk := { elapsed := s.clk.elapsed, free := s.clk.free, prodTest := s.clk.prodTest }
    mdl := { resetCause := cause, resetFaults := s.mdl.resetFaults, btnStuck := s.mdl.btnStuck,
             btnResets := s.mdl.btnResets, btnHold := s.mdl.btnHold, btnHeld := s.mdl.btnHeld,
             fwMgtFallback := s.mdl.fwMgtFallback }
    sup := { v33 := s.sup.v33, core := s.sup.core, field := s.sup.field, episode := s.sup.episode,
             episodeMin := s.sup.episodeMin, warnEnd := s.sup.warnEnd, cutOver := s.sup.cutOver }
    img := { slot := s.img.slot, previous := s.img.previous, fwRunning := s.img.fwRunning,
             fwFallback := s.img.fwFallback, fwLine := s.img.fwLine, fwPrev := s.img.fwPrev,
             fwPrevLine := s.img.fwPrevLine }
    vis := Vector.replicate 8 { since := s.clk.elapsed }
    tst := { record := s.tst.record, aborts := s.tst.aborts, abortCause := s.tst.abortCause }
    mgt := { evtNext := s.mgt.evtNext, axlNext := s.mgt.axlNext, axlEmit := s.mgt.axlEmit, wear := s.mgt.wear,
             spare := s.mgt.spare, spareLow := s.mgt.spareLow, evtBlocks := s.mgt.evtBlocks,
             axlBlocks := s.mgt.axlBlocks, evtPages := s.mgt.evtPages, axlPages := s.mgt.axlPages,
             erases := s.mgt.erases, erased := s.mgt.erased, moved := s.mgt.moved, bad := s.mgt.bad,
             fwLine := s.mgt.fwLine, fwRelease := s.mgt.fwRelease, evtRing := s.mgt.evtRing, axlRing := s.mgt.axlRing,
             snaps := s.mgt.snaps, commissioning := s.mgt.commissioning, holds := s.mgt.holds, epoch := s.mgt.epoch,
             calendar := s.mgt.calendar, ethEnable := s.mgt.ethEnable, prefixLen := s.mgt.prefixLen,
             ipv4 := s.mgt.ipv4, gw := s.mgt.gw }
    pending := s.pending }

/-- A warning episode that a reset or a cut-off ends (R290, R311): SUP_EPISODE of the rail shows it as ended hard. -/
def episodeWord (rail : Nat) (hard : Bool) (ms : Nat) : Word :=
  at32 rail 30 ||| bitAt hard 29 ||| ((satNat 16 ms : BitVec 16).setWidth 32)

/-- The name of a rail in SUP_EPISODE. -/
def Rail.code : Rail → Nat
  | .v33 => 1
  | .core => 2
  | .field => 3

def Sup.rail (p : Sup) : Rail → RailState
  | .v33 => p.v33
  | .core => p.core
  | .field => p.field

def Sup.setRail (r : Rail) (x : RailState) (p : Sup) : Sup :=
  match r with
  | .v33 => { p with v33 := x }
  | .core => { p with core := x }
  | .field => { p with field := x }

/-- The running episode of a rail ends at the instant `now` in a reset or a cut-off. -/
def Sup.endHard (now : Nat) (r : Rail) (p : Sup) : Sup :=
  let x := p.rail r
  if x.episode = true ∧ x.hard = false then
    { p.setRail r { x with hard := true } with
      episode := episodeWord r.code true ((now - x.began) / 1000000), episodeMin := x.lowest }
  else p

/-- Module reset is asserted: a shutdown self-test that runs ends INCOMPLETE with abort cause 03h (R310); tokens die,
outputs open and no frame is sourced, all of which are the reset values. -/
def State.assertReset (s : State) (cause : ResetCause) : State :=
  let s := if s.tst.state = .shutdown ∨ s.tst.state = .aborting then
      let supply : List (BitVec 16 × BitVec 16) := if cause = .supervision then [(0x0C06, 0xFFFF)] else []
      { s with
        tst := { s.tst with aborts := s.tst.aborts + 1
                            abortCause := if s.tst.state = .aborting then s.tst.abortReq.getD 3 else 3
                            record := some { kind := 3, verdict := 3, count := s.tst.count, token := none,
                                             fw := s.img.fwRunning.getD Config.firmwareCheck, sigs := s.tst.sigs } }
        mdl := { s.mdl with resetFaults := s.mdl.resetFaults ++ supply ++ [(0x0C02, 0xFFFF)] } }
    else s
  let s := { s with sup := ((s.sup.endHard s.now .field).endHard s.now .core).endHard s.now .v33 }
  s.cleared cause

/-! ### The command's outcome -/

/-- A command's effect is the next state. -/
abbrev Out := Host.Outcome State Fault Refusal

/-- An event that the hardware's state does not admit does not happen (log 7): only time passes. -/
def State.when (s : State) (c : Bool) (f : State → State) : Out :=
  .next (if c then f s else s)

end Sys2Proof.Machine
end

