-- ==== Sys2Proof/Machine/Inputs.lean ====
section
/-! DEFINITION. The vital inputs (R246 to R255): debouncing, input states, presses, reset faults. -/

namespace Sys2Proof.Machine
open Sys2Proof

/-- VI_CFG.USE (R251). -/
inductive ViUse where
  | unused
  | press
  | level
  deriving DecidableEq, Repr

/-- The use of input `i`: VI6 and VI7 are always level inputs. -/
def State.viUse (s : State) (i : Fin 8) : ViUse :=
  if i.val ≥ 6 then .level
  else match fieldNat (s.cfg.viCfg[i]) 30 2 with
    | 1 => .press
    | 2 => .level
    | _ => .unused

/-- The discrepancy time in ns (R250). -/
def State.viDisc (s : State) (i : Fin 8) : Nat := fieldNat (s.cfg.viCfg[i]) 0 9 * 1000000

/-- A fault of R247 or R248 holds. -/
def Vi.faulty (v : Vi) : Bool := v.evalFault || v.feedFault

/-- Accepted active of a level input (R251). -/
def State.accepted (s : State) (i : Fin 8) : Bool :=
  decide (s.viUse i = .level) && decide ((s.vis[i]).state = .active) && !(s.vis[i]).faulty

/-- The bit of STATUS byte 148 (R251). -/
def State.viReport (s : State) (i : Fin 8) : Bool :=
  match s.viUse i with
  | .unused => false
  | .level => s.accepted i
  | .press => (decide ((s.vis[i]).state = .active) && !(s.vis[i]).resetFault) || (s.vis[i]).report

/-- Released for at least 1 s at the instant `t` (R254). -/
def Vi.releasedAt (v : Vi) (t : Nat) : Bool :=
  match v.relSince with
  | some r => decide (r + 1000000000 ≤ t)
  | none => false

/-- A press input enters reset fault (R253), which the sections served see as KEY_INHIBIT (R145). -/
def State.enterResetFault (s : State) (i : Fin 8) : State :=
  if s.viUse i = .press ∧ (s.vis[i]).resetFault = false then
    (s.modVi i (fun v => { v with resetFault := true })).postVi (.stuck i)
  else s

/-- What one evaluator reads of a contact: a return between the thresholds leaves the debounced state (R350). -/
def Contact.sees (c : Contact) : Level → Option Bool
  | .closed => some true
  | .opened => some false
  | .between => if c.known then some c.closed else none

/-- The two evaluators agree about a contact. -/
def Contact.agrees (c : Contact) (r : ContactRead) : Bool := decide (c.sees r.evA = c.sees r.evB)

/-- Four consecutive reads that agree on the new state change the debounced state (R249). -/
def Contact.debounce (c : Contact) (v : Option Bool) : Contact :=
  match v with
  | none => { c with run := 0 }
  | some x =>
    if c.known = true ∧ x = c.closed then { c with run := 0 }
    else
      let n := if c.run > 0 ∧ c.runVal = x then c.run + 1 else 1
      if n ≥ 4 then { c with closed := x, known := true, run := 0, runVal := x }
      else { c with run := n, runVal := x }

/-- One read of a contact: gap reads, and reads on which the evaluators disagree, change no contact state. -/
def Contact.read (c : Contact) (gap : Bool) (r : ContactRead) : Contact :=
  if gap then c else if c.agrees r then c.debounce (c.sees r.evA) else c

/-- A gap read finds the return without voltage: both comparators below the lower threshold (R248). -/
def gapPasses (r : ContactRead) : Bool := decide (r.evA = .opened ∧ r.evB = .opened)

/-- The antivalent combinations of the debounced contacts: rest, operated, or neither. -/
def Vi.combo (v : Vi) : ViState :=
  if v.a.known && v.b.known then
    if v.a.closed = false ∧ v.b.closed = true then .inactive
    else if v.a.closed = true ∧ v.b.closed = false then .active
    else .transition
  else .unknown

/-- A valid state is reached from TRANSITION after `d` ns: VI_DISC in 0.25 ms. -/
def Vi.tookAfter (v : Vi) (d : Nat) : Vi :=
  let n : BitVec 16 := satNat 16 (d / 250000)
  { v with discLast := n, discMax := if v.discMax.toNat < n.toNat then n else v.discMax }

/-- The input state at a read instant `t` (R250, Table 9-1), and whether the read is a passage from INACTIVE to ACTIVE. A
TRANSITION that has lasted DISC waits for DISCREPANCY_TIMEOUT. -/
def Vi.advance (v : Vi) (disc t : Nat) : Vi × Bool :=
  match v.state, v.combo with
  | .unknown, .inactive => ({ v with state := .inactive, since := t }, false)
  | .unknown, .active => ({ v with state := .active, since := t, stuck := false }, false)
  | .inactive, .active => ({ v.tookAfter 0 with state := .active, since := t, stuck := false }, true)
  | .inactive, .transition => ({ v with state := .transition, since := t, fromInactive := true }, false)
  | .active, .inactive => ({ v.tookAfter 0 with state := .inactive, since := t }, false)
  | .active, .transition => ({ v with state := .transition, since := t, fromInactive := false }, false)
  | .transition, .inactive =>
    if t < v.since + disc then ({ v.tookAfter (t - v.since) with state := .inactive, since := t }, false) else (v, false)
  | .transition, .active =>
    if t < v.since + disc then
      ({ v.tookAfter (t - v.since) with state := .active, since := t, stuck := false }, v.fromInactive)
    else (v, false)
  | .discrepant, .inactive => ({ v with restSince := some (v.restSince.getD t) }, false)
  | .discrepant, _ => ({ v with restSince := none }, false)
  | _, _ => (v, false)

/-- The release time of R254 at a read instant. -/
def Vi.release (v : Vi) (t : Nat) : Vi :=
  if v.state = .inactive ∧ v.faulty = false then { v with relSince := some (v.relSince.getD t) }
  else { v with relSince := none }

/-- An accepted press, or one reported as refused (R253). -/
def State.press (s : State) (i : Fin 8) : State :=
  if s.viUse i = .press then
    if (s.vis[i]).resetFault then
      (s.modVi i (fun v => { v with refused := v.refused + 1 })).postVi (.refused i)
    else
      (s.modVi i (fun v => { v with presses := v.presses + 1, report := true, reportUntil := none, reportWait := 2 })).postVi
        (.press i)
  else s

/-- A gap read that finds voltage (R248): feed fault, 0903h. -/
def State.feedFails (s : State) (i : Fin 8) : State :=
  let s := s.modVi i (fun v => { v with a := { v.a with gapsOk := 0 }, b := { v.b with gapsOk := 0 }, relSince := none })
  if (s.vis[i]).feedFault ∨ s.viUse i = .unused then s
  else ((s.modVi i (fun v => { v with feedFault := true })).viFault i 2 0x0903).enterResetFault i

/-- One input at the read instant `t`. -/
def State.readInput (s : State) (t : Nat) (ra rb : ContactRead) (i : Fin 8) : State :=
  let v := s.vis[i]
  let agree := v.a.agrees ra && v.b.agrees rb
  let s := s.modVi i (fun v => { v with
    evalBad := if agree then 0 else v.evalBad + 1
    evalOkSince := if agree then some (v.evalOkSince.getD t) else none
    a := (v.a.read v.gapA ra), b := (v.b.read v.gapB rb) })
  let s :=
    if v.gapA then
      if gapPasses ra then s.modVi i (fun v => { v with a := { v.a with gapsOk := v.a.gapsOk + 1 } }) else s.feedFails i
    else s
  let s :=
    if v.gapB then
      if gapPasses rb then s.modVi i (fun v => { v with b := { v.b with gapsOk := v.b.gapsOk + 1 } }) else s.feedFails i
    else s
  let r := (s.vis[i]).advance (s.viDisc i) t
  let s := s.modVi i (fun _ => r.1.release t)
  if r.2 then s.press i else s

/-- The input read of the frame that runs has been made at or after `t`. -/
def State.readSince (s : State) (t : Nat) : Bool :=
  match s.clk.inputRead with
  | some a => decide (t ≤ a + 125000)
  | none => false

/-- INPUT_READ (R247 to R253): 125 µs after the tick, once per frame. -/
def execInputRead (a b : Vector ContactRead 8) (s : State) : Out :=
  s.when (!s.inReset && decide (s.clk.inputRead ≠ some s.clk.tickAt)) (fun s =>
    let s := s.upTo (s.inFrame 125000)
    let s := { s with clk := { s.clk with inputRead := some s.clk.tickAt } }
    (allFin 8).foldl (fun s i => s.readInput (s.inFrame 125000) a[i] b[i] i) s)

/-- FEED_GAP (R248): contact A of VIi is gapped where N mod 400 = 25 i, contact B where N mod 400 = 25 i + 200. -/
def execFeedGap (s : State) : Out :=
  s.when (!s.inReset) (fun s =>
    let n := s.tickNo % 400
    let s := s.upTo (s.inFrame 50000)
    (allFin 8).foldl (fun s i => s.modVi i (fun v =>
      { v with gapA := decide (n = 25 * i.val), gapB := decide (n = 25 * i.val + 200) })) s)

/-- DISCREPANCY_TIMEOUT (R250): at the first read at or after DISC. -/
def execDiscrepancyTimeout (dt : Nat) (i : Fin 8) (s : State) : Out :=
  let s := s.pass dt
  s.when (!s.inReset && decide ((s.vis[i]).state = .transition) && s.readSince ((s.vis[i]).since + s.viDisc i)) (fun s =>
    let s := s.modVi i (fun v => { v with
      state := .discrepant, since := s.now
      restSince := (if v.combo = ViState.inactive then some s.now else none), relSince := none })
    if s.viUse i = .unused then s else (s.viFault i 0 0x0901).enterResetFault i)

/-- DISCREPANT_END (R250): INACTIVE has held for 1 s. -/
def execDiscrepantEnd (dt : Nat) (i : Fin 8) (s : State) : Out :=
  let s := s.pass dt
  let held : Bool := match (s.vis[i]).restSince with
    | some r => decide (r + 1000000000 ≤ s.now)
    | none => false
  s.when (!s.inReset && decide ((s.vis[i]).state = .discrepant) && held) (fun s =>
    let s := s.modVi i (fun v => ({ v with state := .inactive, since := s.now, restSince := none } : Vi).release s.now)
    if s.viUse i = .level then s.postVi (.faultEnd i) else s)

/-- STUCK_DECLARATION (R253): at the first read at or after 10 s of ACTIVE. -/
def execStuckDeclaration (dt : Nat) (i : Fin 8) (s : State) : Out :=
  let s := s.pass dt
  let v := s.vis[i]
  s.when (!s.inReset && decide (v.state = .active) && !v.stuck && decide (s.viUse i = .press) &&
      s.readSince (v.since + 10000000000)) (fun s =>
    ((s.modVi i (fun v => { v with stuck := true })).viFault i 1 0x0902).enterResetFault i)

/-- EVALUATOR_FAULT (R247): disagreement on three consecutive reads. -/
def execEvaluatorFault (i : Fin 8) (s : State) : Out :=
  s.when (!s.inReset && decide (3 ≤ (s.vis[i]).evalBad) && !(s.vis[i]).evalFault && decide (s.viUse i ≠ .unused)) (fun s =>
    ((s.modVi i (fun v => { v with evalFault := true, relSince := none })).viFault i 3 0x0904).enterResetFault i)

/-- EVALUATOR_FAULT_END (R247): the evaluators have agreed on every read for 1 s. -/
def execEvaluatorFaultEnd (dt : Nat) (i : Fin 8) (s : State) : Out :=
  let s := s.pass dt
  let ok : Bool := match (s.vis[i]).evalOkSince with
    | some r => decide (r + 1000000000 ≤ s.now)
    | none => false
  s.when (!s.inReset && (s.vis[i]).evalFault && ok) (fun s =>
    let s := s.modVi i (fun v => { v with evalFault := false })
    if s.viUse i = .level then s.postVi (.faultEnd i) else s)

/-- FEED_FAULT_END (R248): contacts A and B have each passed ten consecutive gap reads. -/
def execFeedFaultEnd (i : Fin 8) (s : State) : Out :=
  let v := s.vis[i]
  s.when (!s.inReset && v.feedFault && decide (10 ≤ v.a.gapsOk ∧ 10 ≤ v.b.gapsOk)) (fun s =>
    let s := s.modVi i (fun v => { v with feedFault := false })
    if s.viUse i = .level then s.postVi (.faultEnd i) else s)

/-- PRESS_REPORT_END (R251): 20 ms after the publication of the accepted press. -/
def execPressReportEnd (dt : Nat) (i : Fin 8) (s : State) : Out :=
  let s := s.pass dt
  let due : Bool := match (s.vis[i]).reportUntil with
    | some t => decide (t ≤ s.now)
    | none => false
  s.when (!s.inReset && (s.vis[i]).report && due) (fun s =>
    s.modVi i (fun v => { v with report := false, reportUntil := none }))

/-- Inputs at a tick: the gaps have ended, and the publication of an accepted press starts its 20 ms (R251). -/
def Vi.atTick (t : Nat) (v : Vi) : Vi :=
  let v := { v with gapA := false, gapB := false }
  if v.reportWait = 0 then v
  else if v.reportWait = 1 then { v with reportWait := 0, reportUntil := some (t + 20000000) }
  else { v with reportWait := v.reportWait - 1 }

end Sys2Proof.Machine
end

