-- ==== Sys2Proof/Machine/CheckUnits.lean ====
section
/-! DEFINITION. The check-value units (R241 to R245): the operations of one unit, what an engine does with units 0 and 1,
and Pewter's writes to units 2 and 3. -/

namespace Sys2Proof.Machine
open Sys2Proof

/-- Initial value of an algorithm (Table 8-10). -/
def crcInit (algo : BitVec 2) : BitVec 64 :=
  match algo.toNat with
  | 0 => 0xFFFF
  | 3 => 0xFFFFFFFFFFFFFFFF
  | _ => 0xFFFFFFFF

/-- One byte into the accumulator of an algorithm. -/
def crcFeed (algo : BitVec 2) (acc : BitVec 64) (b : Byte) : BitVec 64 :=
  match algo.toNat with
  | 0 => (crcByte16 (acc.setWidth 16) b).setWidth 64
  | 1 => (crcByteR poly32 (acc.setWidth 32) b).setWidth 64
  | 2 => (crcByteR poly32c (acc.setWidth 32) b).setWidth 64
  | _ => crcByteR poly64 acc b

/-- The final XOR of an algorithm, in its width: a result of 16 or 32 bits leaves the high word 0 (R245). -/
def crcDone (algo : BitVec 2) (acc : BitVec 64) : BitVec 64 :=
  match algo.toNat with
  | 0 => (acc.setWidth 16).setWidth 64
  | 3 => acc ^^^ 0xFFFFFFFFFFFFFFFF
  | _ => (acc.setWidth 32 ^^^ 0xFFFFFFFF).setWidth 64

/-- START: the initial value is loaded and BYTES cleared. -/
def CrcUnit.start (u : CrcUnit) : CrcUnit := { u with acc := crcInit u.algo, bytes := 0 }

/-- Bytes are fed; BYTES saturates. -/
def CrcUnit.feed (u : CrcUnit) (bs : List Byte) : CrcUnit :=
  { u with acc := bs.foldl (crcFeed u.algo) u.acc, bytes := satAdd u.bytes bs.length }

/-- FINISH: the final XOR gives the result. -/
def CrcUnit.finish (u : CrcUnit) : CrcUnit := { u with result := crcDone u.algo u.acc }

def State.modCrc (s : State) (u : Fin 4) (f : CrcUnit → CrcUnit) : State := { s with crc := upd s.crc u f }

/-- An engine uses unit 0 or 1 over a byte string with an expected value (R242): MATCH, or MISMATCH with CRC_FAULT, the
interrupt to Pewter and fault 0A20h or 0A21h. -/
def State.useUnit (s : State) (u : Fin 4) (algo : BitVec 2) (bs : List Byte) (expect : BitVec 64) : Bool × State :=
  let unit := (({ s.crc[u] with algo := algo, expect := expect }.start).feed bs).finish
  if unit.result = expect then
    (true, s.modCrc u (fun _ => { unit with outcome := 1 }))
  else
    let s := s.modCrc u (fun _ => { unit with outcome := 2, fault := true, mismatchCnt := satInc unit.mismatchCnt })
    let s := { s with mdl := { s.mdl with irqCheck := s.mdl.irqCheck ||| (1 <<< u.val) } }
    (false, s.fault (0x0A20 + u.val) u.val)

/-- Address of a register of unit `u`. -/
def crcAddr (u : Fin 4) (off : Nat) : Nat := 0x12100 + u.val * 0x40 + off

/-- A write by Pewter to a unit: units 2 and 3 admit it, units 0 and 1 do not (R242, R243). -/
def State.pewterUnit (s : State) (u : Fin 4) (off : Nat) (f : CrcUnit → CrcUnit) : State :=
  if u.val < 2 then s.blocked (crcAddr u off) else s.modCrc u f

/-- CRC_START (R243): CRC_CTRL.START written 1. -/
def execCrcStart (u : Fin 4) (s : State) : Out :=
  s.when s.pewterOn (fun s => s.pewterUnit u 0x04 CrcUnit.start)

/-- CRC_DATA (R243): four bytes, bits [31:24] first (R10). -/
def execCrcData (u : Fin 4) (w : Word) (s : State) : Out :=
  s.when s.pewterOn (fun s => s.pewterUnit u 0x08 (fun x => x.feed (toBytes 4 w.toNat)))

/-- CRC_DATA_B (R243): one byte. -/
def execCrcDataB (u : Fin 4) (b : Byte) (s : State) : Out :=
  s.when s.pewterOn (fun s => s.pewterUnit u 0x0C (fun x => x.feed [b]))

/-- CRC_FINISH (R243): CRC_CTRL.FINISH written 1. -/
def execCrcFinish (u : Fin 4) (s : State) : Out :=
  s.when s.pewterOn (fun s => s.pewterUnit u 0x04 CrcUnit.finish)

end Sys2Proof.Machine
end

