-- ==== Sys2Proof/Machine/Section.lean ====
section
/-! DEFINITION. The section logic (05): what one section does with a record, a cause, a reset, a cause of UNPROVEN. The
functions act on one section slot and answer it with the faults it logs. -/

namespace Sys2Proof.Machine

/-- A section slot with the faults logged so far. -/
abbrev SecOut := Sec × List SecLog

/-- A fault of the section logic against section `i`, with its SEC_FAULT bit. -/
def secLogOf (i : Fin 256) (code bit : Nat) : SecLog :=
  { code := BitVec.ofNat 16 code, obj := BitVec.ofNat 16 i.val, sx := some (i, bit) }

/-- Fault code and SEC_FAULT bit of a disturbance cause (Table 5-4); none for 09h and 0Bh. -/
def causeLog (i : Fin 256) (c : BitVec 5) : List SecLog :=
  if c = 0x01 ∨ c = 0x02 ∨ c = 0x0A then [secLogOf i 0x0705 5]
  else if c = 0x03 then [secLogOf i 0x0701 1]
  else if c = 0x04 then [secLogOf i 0x0702 2]
  else if c = 0x05 then [secLogOf i 0x0703 3]
  else if c = 0x06 then [secLogOf i 0x0706 6]
  else if c = 0x07 then [secLogOf i 0x0707 7]
  else if c = 0x08 then [secLogOf i 0x0708 8]
  else if c = 0x0C then [secLogOf i 0x070B 0]
  else []

/-- The section is UNPROVEN (R149). -/
def Sec.unproven (x : Sec) : Bool := !x.causes.isEmpty

/-- UNPROVEN with its ledger discarded. -/
def Sec.discarded (x : Sec) : Bool := x.unproven && x.tainted

/-- A cause of Table 5-4 meets the section (R136). -/
def disturb (c : BitVec 5) (x : Sec) : SecOut :=
  if x.discarded then (x, causeLog x.idx c)
  else if x.st = .disturbed then (x, causeLog x.idx c)
  else ({ x with st := .disturbed, cause := c, pend := [], mismatch := 0, sweep := 0 }, causeLog x.idx c)

/-- Order of a ledger: timestamp, then module address, then point (R137). -/
def recBefore (a b : AxleRec) : Bool :=
  if a.ts = b.ts then
    if a.modAddr = b.modAddr then decide (a.point.toNat < b.point.toNat)
    else decide (a.modAddr.toNat < b.modAddr.toNat)
  else before48 a.ts b.ts

/-- Insert a record at its place in the ledger, oldest first (R137). -/
def insertRec (r : AxleRec) : List AxleRec → List AxleRec
  | [] => [r]
  | a :: rest => if recBefore r a then r :: a :: rest else a :: insertRec r rest

/-- A committed record, as R132 counts it. -/
def AxleRec.committed (r : AxleRec) : Bool :=
  !r.uncertain && !r.test && decide (r.cause = 0) && decide (r.dir = 1 ∨ r.dir = 2)

/-- The record's direction is the entry direction of its point in the section (R132). -/
def isEntry (d : SecDef) (r : AxleRec) : Bool :=
  match d.members.find? (fun m => decide (m.modAddr = r.modAddr ∧ m.point = r.point)) with
  | some m => if m.sense then decide (r.dir = 2) else decide (r.dir = 1)
  | none => false

/-- Two records came through one point. -/
def samePoint (a b : AxleRec) : Bool := decide (a.modAddr = b.modAddr ∧ a.point = b.point)

/-- |a − b| of two numbers. -/
def absDiff (a b : Nat) : Nat := if a ≤ b then b - a else a - b

/-- spacing(a, b) of R140, mm. -/
def spacing (a b : AxleRec) : Nat :=
  product64 (a.speed.toNat + b.speed.toNat) (min (diff48 a.ts b.ts) (diff48 b.ts a.ts)) / 28800000

/-- ORDER fails (R140). -/
def failOrder (e x : AxleRec) : Bool := !before48 e.ts x.ts

/-- SIGNATURE fails (R140). -/
def failSig (d : SecDef) (e x : AxleRec) : Bool :=
  let bad (lo : Nat) (f : AxleRec → Byte) : Bool := decide (absDiff (f x).toNat (f e).toNat > fieldNat d.tol lo 8)
  bad 24 AxleRec.depth || bad 0 AxleRec.ratio ||
    (!(e.dwell || x.dwell) && (bad 16 AxleRec.length || bad 8 AxleRec.asym))

/-- SPEED fails (R140). -/
def failSpeed (d : SecDef) (e x : AxleRec) : Bool :=
  !(e.dwell || x.dwell) &&
    decide (absDiff x.speed.toNat e.speed.toNat >
      fieldNat d.plaus 24 8 + max e.speed.toNat x.speed.toNat * fieldNat d.plaus 20 4 / 16)

/-- SPACING fails against the previous pair (R140). -/
def failSpacing (d : SecDef) (prev : Option Pair) (e x : AxleRec) (kind : PairKind) : Bool :=
  match prev with
  | none => false
  | some p =>
    if !(e.dwell || x.dwell) && decide (p.kind = kind) && samePoint p.e e && samePoint p.x x &&
        !(p.e.dwell || p.x.dwell) then
      let sIn := spacing e p.e
      let sOut := spacing x p.x
      decide (absDiff sIn sOut > 10 * fieldNat d.plaus 12 8 + max sIn sOut * fieldNat d.plaus 8 4 / 16)
    else false

/-- The failing checks of a pair as LAST_FAIL: ORDER, SIGNATURE, SPEED, SPACING from bit 3 down (R140, Table 5-10). -/
def matchFails (d : SecDef) (prev : Option Pair) (e x : AxleRec) (kind : PairKind) : BitVec 4 :=
  BitVec.ofNat 4 (b2n (failOrder e x) * 8 + b2n (failSig d e x) * 4 + b2n (failSpeed d e x) * 2 +
    b2n (failSpacing d prev e x kind))

/-- pair(S, e, x, kind) of R139; in COUNT mode match is not called (R142). -/
def pairUp (d : SecDef) (e x : AxleRec) (kind : PairKind) (s : Sec) : Sec :=
  let f := matchFails d s.prev e x kind
  let bad := d.sequence && decide (f ≠ 0)
  { s with
    pairs := s.pairs + 1
    mismatch := if bad then s.mismatch + 1 else s.mismatch
    misNow := if bad then satInc s.misNow else s.misNow
    lastFail := if bad then f else s.lastFail
    through := if kind = .reverse then false else s.through
    prev := some { e := e, x := x, kind := kind } }

/-- balance(S) of R139. -/
def balance (d : SecDef) (s : Sec) : SecOut :=
  if s.ledger ≠ [] ∨ s.pend ≠ [] then (s, [])
  else if s.st = .resetPending then
    if s.mismatch > 0 then disturb 0x08 s
    else if s.sweep ≥ d.sweepMin ∧ s.through = true then
      ({ s with st := .clear, mismatch := 0, prev := none, sweep := 0, lastKind := 4, lastRes := 0,
                resets := s.resets + 1 }, [])
    else ({ s with sweep := 0, through := true, mismatch := 0, prev := none }, [])
  else if s.mismatch = 0 then ({ s with st := .clear, prev := none }, [])
  else if d.respDisturb then disturb 0x05 s
  else ({ s with st := .clear, mismatch := 0, prev := none }, [secLogOf s.idx 0x0704 4])

/-- The earliest pending exit that the entry lies before (R139). -/
def findPending (r : AxleRec) (ps : List Pend) : Option Pend :=
  ps.foldl (fun acc p =>
    if before48 r.ts p.x.ts then
      match acc with
      | some q => if before48 p.x.ts q.x.ts then some p else acc
      | none => some p
    else acc) none

/-- entry(S, r) of R139. -/
def entry (d : SecDef) (r : AxleRec) (s : Sec) : SecOut :=
  let s := if s.ledger = [] ∧ s.pend = [] then { s with misNow := 0 } else s
  match findPending r s.pend with
  | some p =>
    let s := { s with pend := s.pend.erase p }
    let s := if s.st = .resetPending then { s with sweep := s.sweep + 1 } else s
    balance d (pairUp d r p.x .through s)
  | none =>
    if s.ledger.length = d.blocks * 16 then disturb 0x04 s
    else
      let s := { s with ledger := insertRec r s.ledger }
      let s := if s.st = .clear then { s with st := .occupied } else s
      (if s.st = .resetPending then { s with sweep := s.sweep + 1 } else s, [])

/-- exit(S, x) of R139; `at'` is the frame's sampling tick on `elapsed`. -/
def exitRec (d : SecDef) (own : BitVec 11) (at' : Nat) (x : AxleRec) (s : Sec) : SecOut :=
  let noCand : Bool := match s.ledger.head? with
    | none => true
    | some oldest => d.sequence && !before48 oldest.ts x.ts
  if noCand then
    if d.remote own ∧ d.pendMs > 0 then
      if s.pend.length = 16 then disturb 0x07 s
      else
        let s := { s with pend := s.pend ++ [{ x := x, expiry := at' + d.pendMs * 1000000 }] }
        (if s.st = .clear then { s with st := .occupied } else s, [])
    else if s.st = .resetPending then disturb 0x08 s
    else disturb 0x03 s
  else
    match s.ledger.getLast?, s.ledger.head? with
    | some newest, some oldest =>
      if samePoint newest x then
        balance d (pairUp d newest x .reverse { s with ledger := s.ledger.dropLast })
      else
        balance d (pairUp d oldest x .through { s with ledger := s.ledger.tail })
    | _, _ => (s, [])

/-- A record at a member point (R132, R135, R136, R139). -/
def processRec (d : SecDef) (own : BitVec 11) (at' : Nat) (r : AxleRec) (s : Sec) : SecOut :=
  if !r.committed then disturb 0x01 s
  else if s.discarded ∨ s.st = .disturbed then (s, [])
  else if isEntry d r then entry d r s
  else exitRec d own at' r s

/-- Pending exits at a sampling tick (R147). -/
def expirePending (at' : Nat) (s : Sec) : SecOut :=
  if s.pend.any (fun p => decide (p.expiry ≤ at')) then disturb 0x07 s else (s, [])

/-- A cause of UNPROVEN begins for the section (R149). -/
def beginU (u : UCause) (s : Sec) : Sec :=
  if s.causes.contains u then s
  else if u.discards then
    { s with causes := u :: s.causes, tainted := true, ledger := [], pend := [], mismatch := 0, sweep := 0, prev := none }
  else { s with causes := u :: s.causes }

/-- A cause of UNPROVEN ends for the section: with the last one it takes its shadow state, or goes DISTURBED 0Ch (R149). -/
def endU (u : UCause) (s : Sec) : SecOut :=
  if s.causes.contains u then
    let s := { s with causes := s.causes.erase u }
    if s.causes.isEmpty ∧ s.tainted then
      ({ s with tainted := false, st := .disturbed, cause := 0x0C }, causeLog s.idx 0x0C)
    else (s, [])
  else (s, [])

/-- Kinds of reset (R143, SEC_RESET.LAST_KIND). -/
inductive ResetKind where
  | direct
  | preparatory
  | cancel
  deriving DecidableEq, Repr

def ResetKind.code : ResetKind → BitVec 3
  | .direct => 1
  | .preparatory => 2
  | .cancel => 3

/-- Status codes of Table 8-7. -/
def stOk : Byte := 0x00
def stAccepted : Byte := 0x01
def stDuplicate : Byte := 0x02
def stQueueFull : Byte := 0x10
def stBusyTesting : Byte := 0x11
def stFadeBusy : Byte := 0x12
def stBadOpcode : Byte := 0x20
def stBadParam : Byte := 0x21
def stNotPermitted : Byte := 0x22
def stUnconfirmed : Byte := 0x23
def stVotePending : Byte := 0x30
def stVoteExpired : Byte := 0x31
def stCheckFail : Byte := 0x40
def stEngineHalted : Byte := 0x41

/-- A reset of the section is refused (R143): fault 0709h. -/
def refuseReset (k : ResetKind) (src : BitVec 2) (s : Sec) : SecOut :=
  ({ s with lastKind := k.code, lastSrc := src, lastRes := 2 }, [secLogOf s.idx 0x0709 9])

/-- A reset that changes nothing (R135). -/
def noChange (k : ResetKind) (src : BitVec 2) (s : Sec) : Sec :=
  { s with lastKind := k.code, lastSrc := src, lastRes := 1 }

/-- A reset is applied. -/
def applied (k : ResetKind) (src : BitVec 2) (s : Sec) : Sec :=
  { s with lastKind := k.code, lastSrc := src, lastRes := 0, resets := s.resets + 1 }

/-- The effects of Table 5-6 on a section that is not UNPROVEN, by a source that is permitted. DESIGN CHOICE (log 95): a reset that
empties the ledger also clears the previous pair, and a preparatory reset the count of mismatches; the table names neither. -/
def applyReset (k : ResetKind) (src : BitVec 2) (s : Sec) : SecOut :=
  match k with
  | .direct =>
    if s.st = .clear then (noChange k src s, [])
    else ({ applied k src s with st := .clear, ledger := [], pend := [], mismatch := 0, sweep := 0, through := false,
                                 prev := none }, [])
  | .preparatory =>
    if s.st = .clear ∨ s.st = .resetPending then (noChange k src s, [])
    else ({ applied k src s with st := .resetPending, ledger := [], pend := [], mismatch := 0, sweep := 0,
                                 through := true, prev := none }, [])
  | .cancel =>
    if s.st = .resetPending then disturb 0x0B { applied k src s with ledger := [], prev := none }
    else (noChange k src s, [])

/-- A reset of a defined section, from a command (`src` 01b) or a key (10b): Table 5-6, the lowest matching row. -/
def resetSec (d : SecDef) (k : ResetKind) (src : BitVec 2) (s : Sec) : SecOut × Byte :=
  let allowed := if src = 1 then d.byCommand else d.byKey
  if !allowed then (refuseReset k src s, stNotPermitted)
  else if k = .direct ∧ d.directOk = false then (refuseReset k src s, stNotPermitted)
  else if s.unproven then (refuseReset k src s, stNotPermitted)
  else (applyReset k src s, stOk)

/-! ### Registers of a section (Table 5-10) -/

/-- SEC_STATE.STATE of a state that is not UNPROVEN. -/
def SecSt.code : SecSt → BitVec 3
  | .clear => 1
  | .occupied => 2
  | .disturbed => 3
  | .resetPending => 4

/-- STATE as published: UNPROVEN while a cause holds (R134, R149). -/
def Sec.state (s : Sec) : BitVec 3 := if s.unproven then 0 else s.st.code

/-- WHY: the cause that began most recently of those that hold. -/
def Sec.why (s : Sec) : BitVec 3 :=
  match s.causes with
  | u :: _ => u.why
  | [] => 0

/-- The section is CLEAR. -/
def Sec.isClear (s : Sec) : Bool := !s.unproven && decide (s.st = .clear)

def Sec.stateWord (s : Sec) : Word :=
  at32 s.state.toNat 29 ||| at32 s.why.toNat 26 ||| at32 s.cause.toNat 16 |||
    at32 (if s.unproven ∧ s.why = 4 ∧ s.tainted = false then s.st.code.toNat else 0) 13 |||
    bitAt (decide (s.mismatch > 0)) 12 ||| bitAt s.keyInh 11 ||| bitAt (decide (s.pend ≠ [])) 10

def Sec.countWord (s : Sec) : Word :=
  at32 s.ledger.length 16 ||| at32 s.pend.length 11 |||
    at32 (if s.unproven = false ∧ s.st = .resetPending then s.sweep % 2048 else 0) 0

def Sec.matchWord (s : Sec) : Word :=
  at32 s.misNow.toNat 24 ||| at32 s.lastFail.toNat 20 ||| at32 s.pairs.toNat 0

def Sec.resetWord (s : Sec) : Word :=
  at32 s.lastKind.toNat 29 ||| at32 s.lastSrc.toNat 27 ||| at32 s.lastRes.toNat 24 ||| at32 s.resets.toNat 0

end Sys2Proof.Machine
end

