-- ==== Sys2Proof/Machine/Operands.lean ====
section
/-! DEFINITION. The byte layouts that commands, frames and replies carry: axle records, command headers, address words,
section entries, and the decoding of opcodes and their parameters. -/

namespace Sys2Proof.Machine

/-! ### Axle records (Table 4-2) -/

/-- The 16 bytes of a record. -/
def AxleRec.toBytes (r : AxleRec) : List Byte :=
  Machine.toBytes 6 r.ts.toNat ++
  [BitVec.ofNat 8 (r.dir.toNat * 64 + r.point.toNat)] ++
  Machine.toBytes 2 (r.speed.toNat * 32 + r.rsvA.toNat) ++
  [r.depth, r.length, r.asym, r.ratio] ++
  Machine.toBytes 2 (r.modAddr.toNat * 32 + r.cause.toNat) ++
  [BitVec.ofNat 8 (b2n r.uncertain * 128 + b2n r.test * 64 + b2n r.scm * 32 + b2n r.dwell * 16 + r.rsvB.toNat)]

/-- The record that 16 bytes hold. -/
def AxleRec.ofBytes (bs : List Byte) : AxleRec :=
  let b6 := bytesAt bs 6 1
  let w7 := bytesAt bs 7 2
  let w13 := bytesAt bs 13 2
  let b15 := bytesAt bs 15 1
  { ts := BitVec.ofNat 48 (bytesAt bs 0 6)
    dir := BitVec.ofNat 2 (b6 / 64)
    point := BitVec.ofNat 6 b6
    speed := BitVec.ofNat 11 (w7 / 32)
    rsvA := BitVec.ofNat 5 w7
    depth := byteAt bs 9
    length := byteAt bs 10
    asym := byteAt bs 11
    ratio := byteAt bs 12
    modAddr := BitVec.ofNat 11 (w13 / 32)
    cause := BitVec.ofNat 5 w13
    uncertain := natBit b15 7
    test := natBit b15 6
    scm := natBit b15 5
    dwell := natBit b15 4
    rsvB := BitVec.ofNat 4 b15 }

/-! ### Packets (Table 8-1) -/

/-- Fields of a packet header. -/
def hdrOp (bs : List Byte) : Byte := byteAt bs 1
def hdrTag (bs : List Byte) : Byte := byteAt bs 2
def hdrFlags (bs : List Byte) : Byte := byteAt bs 3
def hdrSource (bs : List Byte) : BitVec 16 := BitVec.ofNat 16 (bytesAt bs 4 2)
def hdrSeq (bs : List Byte) : BitVec 16 := BitVec.ofNat 16 (bytesAt bs 6 2)
def hdrCycle (bs : List Byte) : Word := BitVec.ofNat 32 (bytesAt bs 8 4)
def hdrPlen (bs : List Byte) : Nat := bytesAt bs 12 2

/-- Parameter bytes of a packet. -/
def packetParams (bs : List Byte) : List Byte := (bs.drop 16).take (hdrPlen bs)

/-- Interim replies are asked for (R232). -/
def hdrInterim (bs : List Byte) : Bool := (hdrFlags bs).getLsbD 6

/-- The vote key of a packet (R206). -/
def voteKey (bs : List Byte) : List Byte :=
  [byteAt bs 1, byteAt bs 3 &&& 0xBF] ++ (bs.drop 8).take 6 ++ packetParams bs

/-! ### Opcodes (Table 8-8) -/

/-- Index of a port. -/
def portIx (b : Byte) : Option (Fin 64) := if h : b.toNat < 64 then some ⟨b.toNat, h⟩ else none

def engineIx (b : Byte) : Option (Fin 4) := if h : b.toNat < 4 then some ⟨b.toNat, h⟩ else none

def linkIx (b : Byte) : Option (Fin 8) := if h : b.toNat < 8 then some ⟨b.toNat, h⟩ else none

/-- Coefficient codes of 3 bytes each. -/
def coefs : List Byte → List (BitVec 24)
  | a :: b :: c :: rest => BitVec.ofNat 24 (a.toNat * 65536 + b.toNat * 256 + c.toNat) :: coefs rest
  | _ => []

/-- The opcode codes that Table 8-8 defines. -/
def definedOpcodes : List Byte :=
  [0x01, 0x02, 0x03, 0x10, 0x11, 0x12, 0x13, 0x20, 0x21, 0x22, 0x23, 0x24, 0x30, 0x31, 0x32, 0x33, 0x40, 0x41, 0x48,
   0x49, 0x50, 0x51, 0x52, 0x60, 0x70, 0x71, 0x72]

/-- A global section ID: bits [31:19] zero (R240). -/
def gidOf (ps : List Byte) : Option Word :=
  let v := bytesAt ps 0 4
  if v < 2 ^ 19 then some (BitVec.ofNat 32 v) else none

/-- A port range (R240). -/
def rangeOf (ps : List Byte) : Option (BitVec 6 × BitVec 6) :=
  let a := bytesAt ps 0 1
  let b := bytesAt ps 1 1
  if a ≤ b ∧ b ≤ 63 then some (BitVec.ofNat 6 a, BitVec.ofNat 6 b) else none

/-- The operation that an opcode and its parameters name; none where a length or a value lies outside Table 8-8
(check 10 of R228). -/
def decodeOp (code : Byte) (ps : List Byte) : Option Op :=
  let n := ps.length
  let b (i : Nat) : Byte := byteAt ps i
  let zero (i k : Nat) : Bool := decide (bytesAt ps i k = 0)
  match code.toNat with
  | 0x01 => if n = 0 then some .getStatus else none
  | 0x02 => if n = 4 then (gidOf ps).map .getSection else none
  | 0x03 =>
    if n = 8 ∧ 1 ≤ (b 6).toNat ∧ (b 6).toNat ≤ 13 ∧ (b 7).toNat ≤ 1 then
      (gidOf ps).map (fun g => .getAxles g (BitVec.ofNat 16 (bytesAt ps 4 2)) (b 6) (b 7))
    else none
  | 0x10 => if n = 4 then (gidOf ps).map .resetDirect else none
  | 0x11 => if n = 4 then (gidOf ps).map .resetPreparatory else none
  | 0x12 => if n = 4 then (gidOf ps).map .resetCancel else none
  | 0x13 => if n = 4 ∧ b 0 = 1 ∧ (b 1).toNat ≤ 5 ∧ zero 2 2 then some (.faultAck (b 1)) else none
  | 0x20 =>
    let len := bytesAt ps 0 4
    if n = 4 ∧ 64 ≤ len ∧ len ≤ 1048576 then some (.cfgBegin (BitVec.ofNat 32 len)) else none
  | 0x21 => if 5 ≤ n ∧ n ≤ 240 then some (.cfgBlock (BitVec.ofNat 32 (bytesAt ps 0 4)) (ps.drop 4)) else none
  | 0x22 => if n = 4 then some (.cfgEnd (BitVec.ofNat 32 (bytesAt ps 0 4))) else none
  | 0x23 => if n = 8 then some (.cfgConfirm (BitVec.ofNat 64 (bytesAt ps 0 8))) else none
  | 0x24 => if n = 1 ∧ (b 0).toNat ≤ 1 then some (.cfgRevert (b 0)) else none
  | 0x30 =>
    let cnt := (b 2).toNat
    if 4 ≤ n ∧ (b 0).toNat ≤ 1 ∧ cnt ≤ 64 ∧ zero 3 1 then
      if cnt = 0 then
        if n = 8 then some (.bankClose (decide (b 0 = 1)) (BitVec.ofNat 32 (bytesAt ps 4 4))) else none
      else if n = 4 + 3 * cnt ∧ (b 1).toNat + cnt ≤ 256 then
        some (.bankLoad (decide (b 0 = 1)) (b 1) (coefs (ps.drop 4)))
      else none
    else none
  | 0x31 =>
    if n = 4 ∧ (b 2).toNat ≤ 1 ∧ zero 3 1 then
      (rangeOf ps).map (fun r => .bankSwap r.1 r.2 (decide (b 2 = 1)))
    else none
  | 0x32 =>
    let sel : Option (Option (BitVec 2)) :=
      if b 2 = 0xFF then some none else if (b 2).toNat ≤ 3 then some (some ((b 2).setWidth 2)) else none
    let mode : Option (Option Bool) :=
      if b 3 = 0xFF then some none else if (b 3).toNat ≤ 1 then some (some (decide (b 3 = 1))) else none
    if n = 4 then
      match rangeOf ps, sel, mode with
      | some r, some q, some m => some (.presetSelect r.1 r.2 q m)
      | _, _, _ => none
    else none
  | 0x33 => if n = 4 ∧ zero 2 2 then (rangeOf ps).map (fun r => .syncReset r.1 r.2) else none
  | 0x40 =>
    if n = 4 ∧ zero 2 2 ∧ b 0 ≠ b 1 then
      match engineIx (b 0), engineIx (b 1) with
      | some x, some y => some (.engineSplit x y)
      | _, _ => none
    else none
  | 0x41 => if n = 4 ∧ zero 1 3 then (engineIx (b 0)).map .engineJoin else none
  | 0x48 => if n = 4 ∧ zero 1 3 then (engineIx (b 0)).map .debugAttach else none
  | 0x49 => if n = 4 ∧ zero 1 3 then (engineIx (b 0)).map .debugDetach else none
  | 0x50 => if n = 4 ∧ (b 0).toNat ≤ 1 ∧ zero 1 3 then some (.selftestShutdown (decide (b 0 = 1))) else none
  | 0x51 => if n = 4 ∧ zero 1 3 then (portIx (b 0)).map .selftestPort else none
  | 0x52 =>
    let ok : Bool := match (b 0).toNat with
      | 0 => decide ((b 1).toNat < 64 ∧ (b 2).toNat ≤ 3)
      | 1 => decide ((b 1).toNat < 8 ∧ (b 2).toNat = 0)
      | 2 => decide ((b 1).toNat < 8 ∧ (b 2).toNat ≤ 2)
      | _ => false
    if n = 4 ∧ zero 3 1 ∧ ok = true then some (.loopback (b 0) (b 1) (b 2)) else none
  | 0x60 => if n = 0 then some .timebaseStatus else none
  | 0x70 =>
    if n = 8 ∧ (b 0).toNat ≤ 1 ∧ 1 ≤ (b 1).toNat ∧ (b 1).toNat ≤ 13 then
      some (.logRead (b 0) (b 1) (BitVec.ofNat 48 (bytesAt ps 2 6)))
    else none
  | 0x71 =>
    if n = 4 then some (.fwStageClose (BitVec.ofNat 32 (bytesAt ps 0 4)))
    else if 5 ≤ n ∧ n ≤ 240 then some (.fwStage (BitVec.ofNat 32 (bytesAt ps 0 4)) (ps.drop 4))
    else none
  | 0x72 => if n = 8 then some (.fwActivate (BitVec.ofNat 64 (bytesAt ps 0 8))) else none
  | _ => none

/-- Opcode of an operation (Table 8-8). -/
def Op.code : Op → Byte
  | .getStatus => 0x01
  | .getSection _ => 0x02
  | .getAxles _ _ _ _ => 0x03
  | .resetDirect _ => 0x10
  | .resetPreparatory _ => 0x11
  | .resetCancel _ => 0x12
  | .faultAck _ => 0x13
  | .cfgBegin _ => 0x20
  | .cfgBlock _ _ => 0x21
  | .cfgEnd _ => 0x22
  | .cfgConfirm _ => 0x23
  | .cfgRevert _ => 0x24
  | .bankLoad _ _ _ => 0x30
  | .bankClose _ _ => 0x30
  | .bankSwap _ _ _ => 0x31
  | .presetSelect _ _ _ _ => 0x32
  | .syncReset _ _ => 0x33
  | .engineSplit _ _ => 0x40
  | .engineJoin _ => 0x41
  | .debugAttach _ => 0x48
  | .debugDetach _ => 0x49
  | .selftestShutdown _ => 0x50
  | .selftestPort _ => 0x51
  | .loopback _ _ _ => 0x52
  | .timebaseStatus => 0x60
  | .logRead _ _ _ => 0x70
  | .fwStage _ _ => 0x71
  | .fwStageClose _ => 0x71
  | .fwActivate _ => 0x72

/-- Classes of Table 8-3. -/
inductive Class where
  | v
  | m
  | t
  deriving DecidableEq, Repr

def Who.class : Who → Class
  | .lanes _ => .v
  | .mgt _ => .m
  | .tool _ => .t

/-- Class of a source ID (Table 8-2). -/
def classOf (src : BitVec 16) : Option Class :=
  let n := src.toNat
  if 0x1000 ≤ n ∧ n ≤ 0x1002 then some .v
  else if 0x2000 ≤ n ∧ n ≤ 0x200F then some .m
  else if 0x3000 ≤ n ∧ n ≤ 0x3007 then some .t
  else none

/-- The class is admitted for the opcode; for LOOPBACK_SET from a management source, bytes 0 and 2 of the parameters must
name LB3 on a port or LBF on a link (R227, Table 8-8). -/
def classAdmits (k : Class) (code : Byte) (ps : List Byte) : Bool :=
  let c := code.toNat
  match k with
  | .v => decide (c ∈ [0x01, 0x02, 0x03, 0x10, 0x11, 0x12, 0x13, 0x30, 0x31, 0x32, 0x33, 0x40, 0x41, 0x50, 0x51, 0x52, 0x60])
  | .m =>
    decide (c ∈ [0x01, 0x02, 0x03, 0x51, 0x60, 0x70, 0x71]) ||
      (decide (c = 0x52) && decide (3 ≤ ps.length) &&
        ((decide (byteAt ps 0 = 0x00) && decide (byteAt ps 2 = 0x03)) ||
         (decide (byteAt ps 0 = 0x02) && decide (byteAt ps 2 = 0x01))))
  | .t => decide (c ∈ [0x01, 0x02, 0x03, 0x20, 0x21, 0x22, 0x23, 0x24, 0x40, 0x41, 0x48, 0x49, 0x50, 0x51, 0x52, 0x60,
      0x70, 0x72])

/-- The key that class T needs for the opcode: 6, 7 or none (Table 8-8). -/
def keyOf (code : Byte) : Option Nat :=
  let c := code.toNat
  if c ∈ [0x40, 0x41, 0x48, 0x50, 0x51, 0x52] then some 6
  else if c ∈ [0x20, 0x22, 0x23, 0x24, 0x72] then some 7
  else none

/-- Opcodes executed without an ACTIVE image (Table 8-6). -/
def needsImage (code : Byte) : Bool :=
  !decide (code.toNat ∈ [0x01, 0x20, 0x21, 0x22, 0x23, 0x24, 0x50, 0x60, 0x70, 0x71, 0x72])

/-- Reads of R238. -/
def isRead (code : Byte) : Bool := decide (code.toNat ∈ [0x01, 0x02, 0x03, 0x60, 0x70])

/-! ### Address words (R188) -/

/-- The address word of the module. -/
def moduleWord (a : BitVec 11) : BitVec 16 := a.setWidth 16

/-- The address word of lane `k` of the module with address `a`. -/
def laneWord (k : Nat) (a : BitVec 11) : BitVec 16 := BitVec.ofNat 16 (0x8000 + (k + 1) * 0x2000 + a.toNat)

end Sys2Proof.Machine
end

