-- ==== Sys2Proof/Machine/Coded.lean ====
section
/-! DEFINITION. Coded values, coded images and the comparator (R151 to R166): codewords and the operations on them, the layout of
an engine's state image, the ledger pool, the journal ring and the delay registers. -/

namespace Sys2Proof.Machine
open Sys2Proof

/-- MODE of an engine as CEN_STATE.MODE. -/
def EMode.code : EMode → Nat
  | .run => 0
  | .halted => 1
  | .hoOut => 2
  | .hoIn => 3
  | .split => 4
  | .proving => 5
  | .debug => 6

/-! ### Plain values and codewords (R151 to R153) -/

/-- A, the code constant. -/
def codeA : Nat := 58659

/-- D of a frame (R152). -/
def frameTerm (f : Nat) : Nat := f * 24593 % codeA

/-- B(e, pos), the signature of a position of engine `e` (R153). -/
def sigOf (e : Fin 4) (pos : Nat) : Nat := 1 + (40503 * pos + 14551 * e.val) % 58658

/-- The codeword of a plain value for signature `b` and frame term `d` (R152). -/
def encode (v b d : Nat) : BitVec 64 := BitVec.ofNat 64 (v * codeA + b + d)

/-- The value that a word carries where it is a codeword for `b` and `d` (R152); none where it is not. -/
def decode (c : BitVec 64) (b d : Nat) : Option Nat :=
  if b + d ≤ c.toNat ∧ (c.toNat - (b + d)) % codeA = 0 ∧ (c.toNat - (b + d)) / codeA < 2 ^ 48 then
    some ((c.toNat - (b + d)) / codeA)
  else none

/-- A word and the signature predicted for it: an intermediate of the coded program (R153). -/
structure CVal where
  word : BitVec 64
  sig : Nat
  deriving DecidableEq, Repr

/-- Coded addition, subtraction and multiplication by a plain constant with frame term `d`: the results' signatures are those of
the operands, combined the same way. -/
def CVal.add (d : Nat) (x y : CVal) : CVal := { word := x.word + y.word - BitVec.ofNat 64 d, sig := x.sig + y.sig }
def CVal.sub (d : Nat) (x y : CVal) : CVal := { word := x.word - y.word + BitVec.ofNat 64 d, sig := x.sig - y.sig }
def CVal.mulK (d k : Nat) (x : CVal) : CVal :=
  { word := BitVec.ofNat 64 k * x.word - BitVec.ofNat 64 ((k - 1) * d), sig := k * x.sig }

/-- A coded condition has another signature for each of its outcomes, and the branch taken folds its own signature into what it
writes (R153). -/
def CVal.select (yes no : Nat) (c : Bool) (a b : CVal) : CVal :=
  if c then { word := a.word + BitVec.ofNat 64 yes, sig := a.sig + yes } else { word := b.word + BitVec.ofNat 64 no, sig := b.sig + no }

/-- A store into a position corrects the signature to B(e, pos) (R153). -/
def CVal.store (e : Fin 4) (pos : Nat) (x : CVal) : BitVec 64 := x.word + BitVec.ofInt 64 ((sigOf e pos : Int) - x.sig)

/-- Rebasing replaces the frame term of a codeword (R154). -/
def rebase (c : BitVec 64) (old new : Nat) : BitVec 64 := c + BitVec.ofInt 64 ((frameTerm new : Int) - frameTerm old)

/-! ### Sparse stores -/

/-- A word of a store at a position, positions rising. -/
def putAt {α : Type} (p : Nat) (x : α) : List (Nat × α) → List (Nat × α)
  | [] => [(p, x)]
  | q :: l => if p < q.1 then (p, x) :: q :: l else if p = q.1 then (p, x) :: l else q :: putAt p x l

/-- Words laid over a store. -/
def overlay {α : Type} (l ups : List (Nat × α)) : List (Nat × α) := ups.foldl (fun l p => putAt p.1 p.2 l) l

/-- The word listed at a position. -/
def atPos {α : Type} (l : List (Nat × α)) (p : Nat) : Option α := (l.find? (fun q => decide (q.1 = p))).map Prod.snd

/-- The codeword at a position of a coded image of engine `e`. -/
def Coded.word (e : Fin 4) (m : Coded) (p : Nat) : BitVec 64 := (atPos m.words p).getD (encode 0 (sigOf e p) (frameTerm m.frame))

/-- The coded image of plain values (R160). -/
def encodeAll (e : Fin 4) (f : Nat) (l : List (Nat × Nat)) : Coded :=
  { frame := f, words := l.map (fun p => (p.1, encode p.2 (sigOf e p.1) (frameTerm f))) }

/-- The first position whose word is no codeword (S2). -/
def Coded.bad (e : Fin 4) (m : Coded) : Option Nat :=
  (m.words.find? (fun p => (decode p.2 (sigOf e p.1) (frameTerm m.frame)).isNone)).map Prod.fst

/-- A loaded image rebased to the term of frame `f` (S2). -/
def Coded.rebased (f : Nat) (m : Coded) : Coded := { frame := f, words := m.words.map (fun p => (p.1, rebase p.2 m.frame f)) }

/-- The decoded copy of a coded image: the plain working store after S2. -/
def Coded.plain (e : Fin 4) (m : Coded) : List (Nat × Nat) :=
  m.words.filterMap (fun p => (decode p.2 (sigOf e p.1) (frameTerm m.frame)).map (fun v => (p.1, v)))

/-! ### Checkpoint slots (R163) -/

/-- Position of the commit marker. -/
def markerPos : Nat := 16383

/-- The word at a position of a checkpoint slot. -/
def Slot.word (e : Fin 4) (k : Slot) (p : Nat) : BitVec 64 :=
  match ((k.cut, k.low) :: k.older).find? (fun q => decide (p < q.1)) with
  | some q => q.2.word e p
  | none => 0

/-- The frame that a marker names: it is a codeword holding the committing frame's counter, whose term it carries. -/
def markerFrame (e : Fin 4) (c : BitVec 64) : Option Nat :=
  let f := (c.toNat - sigOf e markerPos) / codeA
  if decode c (sigOf e markerPos) (frameTerm f) = some f then some f else none

/-- The frame of the checkpoint that a slot holds. -/
def Slot.committed (e : Fin 4) (k : Slot) : Option Nat := markerFrame e (k.word e markerPos)

/-- S7: positions below `n` are written, the marker, position 16,383, last. -/
def Slot.write (n : Nat) (m : Coded) (k : Slot) : Slot :=
  { cut := min n 16384, low := m, older := ((k.cut, k.low) :: k.older).filter (fun q => decide (n < q.1)) }

/-- One word of the write that holds a position. -/
def putFirst (p : Nat) (w : BitVec 64) : List (Nat × Coded) → List (Nat × Coded)
  | [] => []
  | q :: l => if p < q.1 then (q.1, { q.2 with words := putAt p w q.2.words }) :: l else q :: putFirst p w l

/-- One word of a slot. -/
def Slot.put (p : Nat) (w : BitVec 64) (k : Slot) : Slot :=
  if p < k.cut then { k with low := { k.low with words := putAt p w k.low.words } } else { k with older := putFirst p w k.older }

/-- S2 loads slot B: it holds the newer committed marker. -/
def Engine.newerB (e : Fin 4) (g : Engine) : Bool :=
  match g.ckA.committed e, g.ckB.committed e with
  | none, some _ => true
  | some a, some b => decide (a < b)
  | _, _ => false

/-- The slot that S2 loads. -/
def Engine.loaded (e : Fin 4) (g : Engine) : Slot := if g.newerB e then g.ckB else g.ckA

/-- Change the slot that S2 loads, and the other one. -/
def Engine.modLoaded (e : Fin 4) (f : Slot → Slot) (g : Engine) : Engine :=
  if g.newerB e then { g with ckB := f g.ckB } else { g with ckA := f g.ckA }

def Engine.modOther (e : Fin 4) (f : Slot → Slot) (g : Engine) : Engine :=
  if g.newerB e then { g with ckA := f g.ckA } else { g with ckB := f g.ckB }

/-! ### The ledger pool (R137, R138, R162) -/

/-- First block of a section's reservation (log 10). -/
def Cfg.firstBlock (cfg : Cfg) (i : Fin 256) : Nat :=
  (cfg.secs.filter (fun d => decide (d.idx.val < i.val))).foldl (fun a d => a + d.blocks) 0

/-- MEMBER of a record: the position of its point among the member points, by module address and then point. -/
def SecDef.memberRank (d : SecDef) (r : AxleRec) : Nat :=
  let key (m : BitVec 11) (p : BitVec 6) : Nat := m.toNat * 64 + p.toNat
  (d.members.filter (fun m => decide (key m.modAddr m.point < key r.modAddr r.point))).length

/-- The key of a ledger entry: SIGNATURE, SPEED, DWELL, MEMBER. -/
def AxleRec.key (d : SecDef) (r : AxleRec) : Nat :=
  (((r.depth.toNat * 256 + r.length.toNat) * 256 + r.asym.toNat) * 256 + r.ratio.toNat) * 65536 + r.speed.toNat * 32 +
    b2n r.dwell * 16 + d.memberRank r % 16

/-- Signatures of the companion's words (R162). -/
def poolSig (slot k : Nat) : Nat := 1 + (2 * slot + k) % 58658

/-- A record as a pool slot holds it. -/
def poolSlotOf (d : SecDef) (slot : Nat) (r : AxleRec) : PoolSlot :=
  { plain := r, w0 := encode r.ts.toNat (poolSig slot 0) 0, w1 := encode (r.key d) (poolSig slot 1) 0 }

/-- Both companion words are codewords. -/
def PoolSlot.isCoded (slot : Nat) (x : PoolSlot) : Bool := (decode x.w0 (poolSig slot 0) 0).isSome && (decode x.w1 (poolSig slot 1) 0).isSome

/-- The companion decodes to the fields of the plain bytes. -/
def PoolSlot.agrees (d : SecDef) (slot : Nat) (x : PoolSlot) : Bool :=
  decide (decode x.w0 (poolSig slot 0) 0 = some x.plain.ts.toNat ∧ decode x.w1 (poolSig slot 1) 0 = some (x.plain.key d))

/-- Take the slot of the first old entry that holds the record. -/
def takeSlot (r : AxleRec) : List (AxleRec × Nat) → Option Nat × List (AxleRec × Nat)
  | [] => (none, [])
  | p :: l => if p.1 = r then (some p.2, l) else let q := takeSlot r l; (q.1, p :: q.2)

/-- The first slot of a reservation that the last committed checkpoint marks free and that the frame has not taken (R162); where
there is none, one that the frame has freed (log 92). -/
def freeSlot (first n : Nat) (old now : List Nat) : Nat :=
  let l := (List.range n).map (fun i => first + i)
  match l.find? (fun p => !old.contains p && !now.contains p) with
  | some p => p
  | none => (l.find? (fun p => !now.contains p)).getD first

/-- The slots of a ledger after a pass: a record keeps its slot, a new one takes a free one. The answer carries the slots
written. -/
def Sec.reslot (cfg : Cfg) (old : Sec) (x : Sec) : Sec × List (Nat × AxleRec) :=
  if x.ledger = old.ledger then ({ x with slots := old.slots }, [])
  else
    let first := cfg.firstBlock x.idx * 16
    let n := match cfg.sec x.idx with
      | some d => d.blocks * 16
      | none => 0
    let kept := x.ledger.foldl (fun (a : List (AxleRec × Option Nat) × List (AxleRec × Nat)) r =>
      let q := takeSlot r a.2
      (a.1 ++ [(r, q.1)], q.2)) ([], old.ledger.zip old.slots)
    let held := kept.1.filterMap Prod.snd
    let r := kept.1.foldl (fun (a : List Nat × List (Nat × AxleRec)) p =>
      match p.2 with
      | some k => (a.1 ++ [k], a.2)
      | none =>
        let k := freeSlot first n old.slots (held ++ a.1)
        (a.1 ++ [k], a.2 ++ [(k, p.1)])) ([], [])
    ({ x with slots := r.1 }, r.2)

/-- The section whose reservation holds a pool slot. -/
def Cfg.slotOwner (cfg : Cfg) (slot : Nat) : Option SecDef :=
  cfg.secs.find? (fun d => decide (cfg.firstBlock d.idx * 16 ≤ slot ∧ slot < (cfg.firstBlock d.idx + d.blocks) * 16))

/-- The pool after a frame's writes. -/
def poolWrite (cfg : Cfg) (ws : List (Nat × AxleRec × Fin 256)) (pool : List (Nat × PoolSlot)) : List (Nat × PoolSlot) :=
  ws.foldl (fun l w => match cfg.sec w.2.2 with
    | some d => putAt w.1 (poolSlotOf d w.1 w.2.1) l
    | none => l) pool

/-- The first difference found in the pool slots written, read back (R165). -/
def comparePool (cfg : Cfg) (pool : List (Nat × PoolSlot)) (ws : List Nat) : Option Diff :=
  ws.findSome? (fun k => match atPos pool k, cfg.slotOwner k with
    | some x, some d =>
      if !x.isCoded k then some { area := 1, noncode := true, loc := k }
      else if !x.agrees d k then some { area := 1, noncode := false, loc := k }
      else none
    | _, _ => none)

/-! ### The state image (R160, Tables 6-2 and 6-3) -/

/-- Positions of the ledger index that a section takes: three slot numbers in each. -/
def indexLen (blocks : Nat) : Nat := (blocks * 16 + 2) / 3

/-- The sixty-four positions of a section slot by offset (Table 6-3); `ix`: its first index position. The places of the fields
within a position are the model's (log 89). -/
def Sec.cells (cfg : Cfg) (d : SecDef) (ix : Nat) (x : Sec) : List Nat :=
  let pair : List Nat := match x.prev with
    | some p => [p.e.ts.toNat, p.e.key d, p.x.ts.toNat, p.x.key d]
    | none => [0, 0, 0, 0]
  [x.idx.val + x.state.toNat * 2 ^ 8 + x.cause.toNat * 2 ^ 11 + x.why.toNat * 2 ^ 16 +
      (if x.unproven ∧ x.tainted = false then x.st.code.toNat else 0) * 2 ^ 19 + b2n (decide (0 < x.mismatch)) * 2 ^ 22 +
      b2n x.keyInh * 2 ^ 23 + b2n (!x.pend.isEmpty) * 2 ^ 24,
   x.mismatch % 2 ^ 16 + x.sweep % 2 ^ 11 * 2 ^ 16 + b2n x.through * 2 ^ 27 + x.pairs.toNat * 2 ^ 28,
   ix + x.ledger.length * 2 ^ 16,
   cfg.firstBlock x.idx + d.blocks * 2 ^ 16] ++ pair ++
  x.pend.flatMap (fun p => [p.x.ts.toNat, p.x.key d, p.expiry % 2 ^ 48])

/-- Three slot numbers of 16 bits to a position. -/
def packThree : List Nat → List Nat
  | a :: b :: c :: l => (a + b * 2 ^ 16 + c * 2 ^ 32) :: packThree l
  | [a, b] => [a + b * 2 ^ 16]
  | [a] => [a]
  | [] => []

/-- Values at consecutive positions, those that are not 0. -/
def cellsAt (base : Nat) (l : List Nat) : List (Nat × Nat) :=
  (l.zipIdx base).filterMap (fun p => if p.1 = 0 then none else some (p.2, p.1))

/-- The free bits of a section's reservation, lowest slot first (Table 6-2). -/
def Sec.freeBits (cfg : Cfg) (d : SecDef) (x : Sec) : Nat :=
  let first := cfg.firstBlock x.idx * 16
  x.slots.foldl (fun m k => if m.testBit (k - first) then m - 2 ^ (k - first) else m) (2 ^ (d.blocks * 16) - 1)

/-- Positions of a number in words of 48 bits. -/
def wordsOf48 (n m : Nat) : List Nat := (List.range n).map (fun i => m / 2 ^ (48 * i) % 2 ^ 48)

/-- A section with its definition, its slot number and its first index position. -/
structure Placed where
  x : Sec
  d : SecDef
  slot : Nat
  ix : Nat
  deriving DecidableEq, Repr

/-- The sections of an image at their slots, with index positions one behind the other. -/
def placeSecs (cfg : Cfg) (l : List Sec) : List Placed :=
  (l.foldl (fun (a : List Placed × Nat × Nat) x =>
    match cfg.sec x.idx with
    | some d => (a.1 ++ [{ x := x, d := d, slot := a.2.1, ix := a.2.2 }], a.2.1 + 1, a.2.2 + indexLen d.blocks)
    | none => a) ([], 0, 4224)).1

/-- The positions of one section: its slot, its index entries. -/
def Placed.cells (cfg : Cfg) (p : Placed) : List (Nat × Nat) :=
  cellsAt (128 + 64 * p.slot) (p.x.cells cfg p.d p.ix) ++ cellsAt p.ix (packThree p.x.slots)

/-- The free map of the sections (positions 9,728 to 10,071): three bits for each index position of a section. -/
def freeMap (cfg : Cfg) (l : List Placed) : List (Nat × Nat) :=
  let m := l.foldl (fun m p => m + p.x.freeBits cfg p.d * 2 ^ (3 * (p.ix - 4224))) 0
  if m = 0 then [] else cellsAt 9728 (wordsOf48 344 m)

/-- The engine header (positions 0 to 31) of a frame: frame counter, consecutive failures, journal read position, mode, hand-over
step and peer with acknowledgement and confirmation, vital input event state. -/
def headerCells (g : Engine) (fails : Nat) (accepted : Byte) : List Nat :=
  let ho := match g.ho.head? with
    | some h => (g.frame - h.t0 + 1) % 4 + h.peer.val * 4 + b2n h.ack * 16 + b2n h.confirmed * 32
    | none => 0
  [g.frame % 2 ^ 48, fails, g.ringAt, g.mode.code, ho, accepted.toNat]

/-- Replies of the frame at positions 32 to 79: opcode and status, then the section named. -/
def replyCells (l : List (Cmd × Result)) : List Nat :=
  (l.take 24).flatMap (fun p => [p.1.op.code.toNat * 256 + p.2.status.toNat,
    match p.1.op with
    | .resetDirect g => g.toNat
    | .resetPreparatory g => g.toNat
    | .resetCancel g => g.toNat
    | _ => 0])

/-- Section slots, index entries and free map of sections (positions 128 to 10,071). -/
def secCells (cfg : Cfg) (l : List Sec) : List (Nat × Nat) :=
  let ps := placeSecs cfg l
  (ps.flatMap (Placed.cells cfg) ++ freeMap cfg ps).foldl (fun l p => putAt p.1 p.2 l) []

/-- The image of an engine as plain values by position, those that are not 0 (R160): what a pass leaves. -/
def imageCells (cfg : Cfg) (g : Engine) (w : Work) (m : Img) : List (Nat × Nat) :=
  let accepted := (w.js.getLast?.map (fun j => j.snap.accepted)).getD 0
  cellsAt 0 (headerCells g w.fails accepted) ++ cellsAt 32 (replyCells w.replies) ++ cellsAt 80 (w.codes.map Prod.fst) ++
    secCells cfg m.secs ++ cellsAt markerPos [g.frame % 2 ^ 48]

/-- A coded image whose sections have changed outside a frame. -/
def Coded.setSecs (cfg : Cfg) (e : Fin 4) (l : List Sec) (m : Coded) : Coded :=
  { m with words := m.words.filter (fun p => decide (p.1 < 128)) ++ (encodeAll e m.frame (secCells cfg l)).words ++
      m.words.filter (fun p => decide (p.1 = markerPos)) }

/-! ### The hand-over buffer (R174) -/

/-- The coded sum of the decoded values: its signature and frame term are those of the buffer. -/
def bufSum (l : List (Nat × Nat)) : Nat := (l.map Prod.snd).foldl (· + ·) 0 % 2 ^ 48

/-- The digest of the sections' state: every value weighed by its position. -/
def bufDigest (l : List (Nat × Nat)) : Nat := l.foldl (fun a p => a + (p.1 + 1) * p.2) 0 % 2 ^ 48

/-- Signatures of the coded sum and of the coded digest. -/
def sumSig : Nat := 1
def digestSig : Nat := 2

/-- What the source writes into the buffer at S7 of H1 for the sections handed over, in the layout of Table 6-2. -/
def bufferOf (cfg : Cfg) (src tgt : Fin 4) (f : Nat) (l : List Sec) : HoBuf :=
  let cells := secCells cfg l
  { src := src, tgt := tgt, frame := f, words := (encodeAll src f cells).words
    sum := encode (bufSum cells) sumSig (frameTerm f), secs := l }

/-- A word of the buffer rebased from the term of H1 and signed for the target (R174). -/
def HoBuf.resigned (b : HoBuf) (f : Nat) : Coded :=
  { frame := f, words := b.words.map (fun p =>
      (p.1, rebase p.2 b.frame f + BitVec.ofInt 64 ((sigOf b.tgt p.1 : Int) - sigOf b.src p.1))) }

/-- A word of the buffer is no codeword. -/
def HoBuf.bad (b : HoBuf) : Bool := (({ frame := b.frame, words := b.words } : Coded).bad b.src).isSome

/-- The target's own sum of the words that it has loaded, re-signed, in frame `f`. -/
def HoBuf.ownSum (b : HoBuf) (f : Nat) : Nat := bufSum ((b.resigned f).plain b.tgt)

/-! ### Journal ring and delay registers (R156, R157) -/

/-- Signature of word `w` of the `j`-th entry of a frame. -/
def journalSig (j w : Nat) : Nat := 1 + (3 * j + w) % 58658

/-- The three plain values of an entry: bytes 0 to 5, 6 to 11, 12 to 15. -/
def entryWords (bs : List Byte) : List Nat := [bytesAt bs 0 6, bytesAt bs 6 6, bytesAt bs 12 4]

/-- The sixteen bytes that three plain values carry. -/
def wordsEntry (l : List Nat) : List Byte := toBytes 6 (l.getD 0 0) ++ toBytes 6 (l.getD 1 0) ++ toBytes 4 (l.getD 2 0)

/-- The stamp: frame counter, input class, arrival sequence number. -/
def entryStamp (f cls j : Nat) : BitVec 64 := BitVec.ofNat 64 (f % 2 ^ 48 * 2 ^ 16 + cls * 2 ^ 12 + j)

/-- The frame, the class and the number of an entry. -/
def JEntry.frame (x : JEntry) : Nat := x.stamp.toNat / 2 ^ 16
def JEntry.cls (x : JEntry) : Nat := x.stamp.toNat / 2 ^ 12 % 16
def JEntry.num (x : JEntry) : Nat := x.stamp.toNat % 2 ^ 12

/-- The journal encoder (S1): an entry with its coded form for the term of its sampling frame. -/
def encodeEntry (f at' cls j : Nat) (plain : List Byte) : JEntry :=
  { at' := at' % 2048, plain := plain, stamp := entryStamp f cls j
    coded := (entryWords plain).zipIdx.map (fun p => encode p.1 (journalSig j p.2) (frameTerm f)) }

/-- The parity bits of a word, one per byte. -/
def parityOf (w : BitVec 64) : Byte :=
  BitVec.ofNat 8 (ofBits ((List.range 8).reverse.map (fun i =>
    (List.range 8).foldl (fun a k => a != w.getLsbD (8 * i + k)) false)))

/-- The delay registers of a frame: the coded forms of the entries it processes, rebased to its term. -/
def delayOf (f : Nat) (ring : List JEntry) : List DelayReg :=
  ring.flatMap (fun x => x.coded.map (fun c => let w := rebase c x.frame f; { word := w, parity := parityOf w }))

/-- What the coded pass reads of the `k`-th entry: its three values, none where a word is no codeword. -/
def readDelay (f : Nat) (delay : List DelayReg) (k : Nat) (x : JEntry) : Option (List Nat) :=
  ((List.range 3).map (fun i => match delay[3 * k + i]? with
    | some r => decode r.word (journalSig x.num i) (frameTerm f)
    | none => none)).foldr (fun v acc => match v, acc with
      | some v, some l => some (v :: l)
      | _, _ => none) (some [])

/-! ### The comparator (R165, R166) -/

/-- A pair at a comparator lane: none where the word is a codeword whose value is the plain one; else whether it is no
codeword. -/
def comparePair (b d : Nat) (c : BitVec 64) (v : Nat) : Option Bool :=
  match decode c b d with
  | none => some true
  | some x => if x = v then none else some false

/-- The positions that either store lists, rising. -/
def bothPos (a : List (Nat × Nat)) (b : List (Nat × BitVec 64)) : List Nat :=
  ((b.map Prod.fst).foldl (fun l p => putAt p () l) ((a.map (fun p => (p.1, ())) : List (Nat × Unit)))).map Prod.fst

/-- The first position at which the coded image differs from the plain one. -/
def compareImage (e : Fin 4) (plain : List (Nat × Nat)) (m : Coded) : Option Diff :=
  (bothPos plain m.words).findSome? (fun p =>
    (comparePair (sigOf e p) (frameTerm m.frame) (m.word e p) ((atPos plain p).getD 0)).map (fun n =>
      { area := 0, noncode := n, loc := p }))

/-- The first difference in the link safety codes (R165). -/
def compareCodes (e : Fin 4) (f : Nat) (l : List (Nat × BitVec 64)) : Option Diff :=
  l.zipIdx.findSome? (fun p => (comparePair (sigOf e (80 + p.2)) (frameTerm f) p.1.2 p.1.1).map (fun n =>
    { area := 2, noncode := n, loc := p.2 }))

/-- Position of the mismatch canary of comparator lane `k` (R166). -/
def canaryPos (f k : Nat) : Nat :=
  let x := (f * 4099 + k) % 16384
  let r := (x + 16384 - k) % 4
  (x + 16384 - r) % 16384

/-- Position q of the non-codeword canary. -/
def nonCodePos (f : Nat) : Nat := f * 7919 % 16384

/-- The five pairs injected in S5: position, coded word, plain word. -/
def canaryPairs (e : Fin 4) (f : Nat) : List (Nat × BitVec 64 × Nat) :=
  let v := f % 2 ^ 48
  let d := frameTerm f
  (List.range 4).map (fun k => (canaryPos f k, encode (v + 1) (sigOf e (canaryPos f k)) d, v)) ++
    [(nonCodePos f, encode v (sigOf e (nonCodePos f)) d + 1, v)]

/-- What the comparator reports in S5: of each pair with a difference, its position and its kind; `lost` is not reported. -/
def canaryReports (e : Fin 4) (f : Nat) (lost : Option (Fin 5)) : List (Nat × Bool) :=
  (canaryPairs e f).zipIdx.filterMap (fun p =>
    if lost.map Fin.val = some p.2 then none
    else (comparePair (sigOf e p.1.1) (frameTerm f) p.1.2.1 p.1.2.2).map (fun n => (p.1.1, n)))

/-- Exactly the five differences injected. -/
def canariesOk (f : Nat) (extra : Bool) (l : List (Nat × Bool)) : Bool :=
  !extra && decide (l = (List.range 4).map (fun k => (canaryPos f k, false)) ++ [(nonCodePos f, true)])

/-! ### Tokens (R170) -/

/-- The token formed from the comparator's results: no difference reported, and the positions reported in S5. -/
def formToken (f : Nat) (agree : Bool) (l : List (Nat × Bool)) : Word :=
  let d := frameTerm f
  at32 (if agree then (3 * d + 1) % 65536 else 3 * d % 65536) 16 |||
    at32 ((5 * d + (l.map Prod.fst).foldl (· + ·) 0) % 65536) 0

/-- The token that the checkers expect of frame `f` (R170). -/
def expectedToken (f : Nat) : Word :=
  let d := frameTerm f
  let agree := (3 * d + 1) % 65536
  let canary := (5 * d + canaryPos f 0 + canaryPos f 1 + canaryPos f 2 + canaryPos f 3 + nonCodePos f) % 65536
  at32 agree 16 ||| at32 canary 0

end Sys2Proof.Machine
end

