-- ==== Sys2Proof/Machine/Outputs.lean ====
section
/-! DEFINITION. The vital outputs (R256 to R261): the demand, the two switches, the readback and the off-pulse tests. -/

namespace Sys2Proof.Machine
open Sys2Proof

/-- VO_CFG.USED. -/
def State.voUsed (s : State) (j : Fin 8) : Bool := (s.cfg.voCfg[j]).getLsbD 31

/-- VO_CFG.SECTION. -/
def State.voSection (s : State) (j : Fin 8) : Fin 256 := ((s.cfg.voCfg[j]).setWidth 8 : BitVec 8).toFin

/-- The section is CLEAR in the published image of an engine with a live token (R257). -/
def State.clearLive (s : State) (i : Fin 256) : Bool :=
  match s.publisher i with
  | some e =>
    (s.engines[e]).live && (match (s.engines[e]).published.sec i with
      | some x => x.isClear
      | none => false)
  | none => false

/-- The controller demands the output energised (R257). -/
def State.voDemand (s : State) (j : Fin 8) : Bool :=
  s.voUsed j && s.clearLive (s.voSection j) && !(s.vos[j]).locked && (s.vos[j]).trip.isNone && !s.inReset &&
    !s.clk.prodTest

/-- Both switches are closed: the output is energised (R256). -/
def Vo.closed (v : Vo) : Bool := v.hs && v.ls

/-- The switches take a position at the instant `t`. -/
def Vo.switchTo (v : Vo) (h l : Bool) (t : Nat) : Vo :=
  if v.hs = h ∧ v.ls = l then v
  else { v with hs := h, ls := l, switched := t, badSince := none, episode := (v.episode && decide (v.closed = (h && l))) }

/-- The test window is open at the instant `t` (R259, R261). -/
def Vo.windowOpen (v : Vo) (t : Nat) : Bool :=
  match v.window with
  | some w => decide (t < w)
  | none => false

/-- A demand is applied (R257): its end opens both switches and discards a running test, but at the instant of the test's start no
test has begun (R260); its begin closes them unless a test window is open (R261). -/
def Vo.apply (v : Vo) (demand : Bool) (t : Nat) : Vo :=
  let v := { v with demand := demand }
  match demand, v.test with
  | false, some x =>
    if x.begin = t then { v with test := none, window := none, nextLow := x.low }.switchTo false false t
    else { v with test := none, lastRes := 3, lastSwitch := x.low, discarded := satInc v.discarded }.switchTo false false t
  | false, none => v.switchTo false false t
  | true, some _ => v
  | true, none => if v.window.isSome then v else v.switchTo true true t

/-- OUTPUT_DEMAND_CHANGE (R257) for one output. -/
def State.updateVo (s : State) (j : Fin 8) : State := s.modVo j (fun v => v.apply (s.voDemand j) s.now)

/-- One switch alone is closed, and no test runs. -/
def Vo.alone (v : Vo) : Bool := (v.hs != v.ls) && v.test.isNone

/-- The demands of all outputs are judged again: at a publication, a token's death, an activation. In production test mode a switch
that the test access port has closed alone stays so (R366). -/
def State.updateVos (s : State) : State :=
  (allFin 8).foldl (fun s j => if s.clk.prodTest && (s.vos[j]).alone then s else s.updateVo j) s

/-- The test access port closes one switch of an output alone, or opens both: never both closed (R366). -/
def State.tapSwitch (s : State) (j : Fin 8) (h l : Bool) : State := s.modVo j (fun v => v.switchTo h l s.now)

/-- Logic input voltage minus 3.0 V, in 10 mV (R258). -/
def State.voLevel (s : State) : Nat := s.sup.vin.toNat * 10 - 300

/-- The off-pulse rules on one readback at the instant `t` (R259): the voltage falls below 3.0 V by 150 µs and stays below
until 280 µs. -/
def PulseTest.sample (x : PulseTest) (volt t : Nat) : PulseTest :=
  let d := t - x.begin
  if volt < 300 then { x with fell := true, bad := x.bad || (!x.fell && decide (d > 150000)) }
  else { x with bad := x.bad || (x.fell && decide (d ≤ 280000)) || (!x.fell && decide (d ≥ 150000)) }

/-- Beyond the limits of R258 at the instant `t`: off and not below 3.0 V and 1.0 mA, or on and below the level; within
50 µs of a change of the switches, and of an energised output while its test runs with a switch open, nothing is judged. -/
def Vo.beyond (v : Vo) (level t : Nat) : Bool :=
  if t < v.switched + 50000 then false
  else if v.closed then !v.windowOpen t && decide (v.volt.toNat < level)
  else v.test.isNone && decide (300 ≤ v.volt.toNat ∨ 10 ≤ v.curr.toNat)

/-- One readback (R258). -/
def Vo.readback (v : Vo) (level t : Nat) (volt curr : BitVec 16) : Vo :=
  let v := { v with volt := volt, curr := curr }
  let v := { v with
    energised := v.closed && decide (level ≤ volt.toNat)
    overSince := if 6000 < curr.toNat then some (v.overSince.getD t) else none
    test := v.test.map (fun x => PulseTest.sample x volt.toNat t) }
  if v.beyond level t then { v with badSince := some (v.badSince.getD t) }
  else { v with badSince := none, episode := false }

/-- OUTPUT_READBACK_SAMPLE (R258, R259). -/
def execOutputReadbackSample (dt : Nat) (j : Fin 8) (volt curr : BitVec 16) (s : State) : Out :=
  let s := s.pass dt
  s.when (!s.inReset) (fun s => s.modVo j (fun v => v.readback s.voLevel s.now volt curr))

/-- OUTPUT_READBACK_FAULT (R258): beyond the limits for 100 µs, once per episode. -/
def execOutputReadbackFault (dt : Nat) (j : Fin 8) (s : State) : Out :=
  let s := s.pass dt
  let v := s.vos[j]
  let due : Bool := match v.badSince with
    | some t => decide (t + 100000 ≤ s.now)
    | none => false
  s.when (!s.inReset && due && !v.episode) (fun s =>
    let s := s.modVo j (fun v => { v with episode := true })
    if v.closed then s.voFault j 1 0x0912 else s.voFault j 2 0x0913)

/-- OVERCURRENT_TRIP (R258): above 600 mA for 1 ms. -/
def execOvercurrentTrip (dt : Nat) (j : Fin 8) (s : State) : Out :=
  let s := s.pass dt
  let v := s.vos[j]
  let due : Bool := match v.overSince with
    | some t => decide (t + 1000000 ≤ s.now)
    | none => false
  s.when (!s.inReset && due && v.trip.isNone) (fun s =>
    let s := s.modVo j (fun v => { v with trip := some (s.now + 100000000), overSince := none })
    (s.updateVo j).voFault j 3 0x0914)

/-- OVERCURRENT_TRIP_END (R258): after 100 ms the demand is applied again. -/
def execOvercurrentTripEnd (dt : Nat) (j : Fin 8) (s : State) : Out :=
  let s := s.pass dt
  let due : Bool := match (s.vos[j]).trip with
    | some t => decide (t ≤ s.now)
    | none => false
  s.when (!s.inReset && due) (fun s => (s.modVo j (fun v => { v with trip := none })).updateVo j)

/-- OFF_PULSE_TEST_START (R259, R291): 125 µs after the tick with N mod 4,000 = 500 j, if the output is energised and no
warning episode runs. -/
def execOffPulseTestStart (j : Fin 8) (s : State) : Out :=
  let v := s.vos[j]
  s.when (!s.inReset && decide (s.tickNo % 4000 = 500 * j.val ∧ s.now ≤ s.inFrame 125000) && v.closed && v.test.isNone &&
      v.window.isNone && !s.warning) (fun s =>
    let s := s.upTo (s.inFrame 125000)
    s.modVo j (fun v => { v.switchTo (v.nextLow) (!v.nextLow) s.now with
      test := some { begin := s.now, low := v.nextLow }, window := some (s.now + 300000), nextLow := !v.nextLow }))

/-- OFF_PULSE_WINDOW_CLOSE (R259, R261): at 300 µs the window closes; the test switch closes, or a waiting demand is applied. -/
def execOffPulseWindowClose (dt : Nat) (j : Fin 8) (s : State) : Out :=
  let s := s.pass dt
  let due : Bool := match (s.vos[j]).window with
    | some w => decide (w ≤ s.now)
    | none => false
  s.when (!s.inReset && due) (fun s =>
    let s := s.modVo j (fun v =>
      let v := { v with window := none }
      if v.test.isSome then v.switchTo true true s.now else v)
    s.updateVo j)

/-- The running test is due to be judged: it has failed, or 350 µs have passed (R259). -/
def Vo.testDue (v : Vo) (t : Nat) : Bool :=
  match v.test with
  | some x => x.bad || (!x.fell && decide (x.begin + 150000 ≤ t)) || decide (x.begin + 350000 ≤ t)
  | none => false

/-- The running test has passed: the voltage fell in time, stayed low, and is back at the level of R258. -/
def Vo.testPassed (v : Vo) (level : Nat) : Bool :=
  match v.test with
  | some x => x.fell && !x.bad && decide (level ≤ v.volt.toNat)
  | none => false

/-- OFF_PULSE_CHECK (R259): a failure opens both switches, closes the window and locks the output, fault 0911h. -/
def execOffPulseCheck (dt : Nat) (j : Fin 8) (s : State) : Out :=
  let s := s.pass dt
  let v := s.vos[j]
  let low : Bool := match v.test with
    | some x => x.low
    | none => false
  s.when (!s.inReset && v.testDue s.now) (fun s =>
    if v.testPassed s.voLevel then
      s.modVo j (fun v => { v with test := none, lastRes := 1, lastSwitch := low, passed := v.passed + 1 })
    else
      let s := s.modVo j (fun v =>
        { v with test := none, window := none, lastRes := 2, lastSwitch := low, locked := true }.switchTo false false s.now)
      (s.updateVo j).voFault j 0 0x0911)

end Sys2Proof.Machine
end

