-- ==== Sys2Proof/Machine/Frame.lean ====
section
/-! DEFINITION. What one engine does in one frame (R159): the sampled entries in their order, on its working image. -/

namespace Sys2Proof.Machine
open Sys2Proof

/-! ### One section of a working image -/

/-- Apply a section rule to every section of the image that satisfies `p`. -/
def Work.eachSec (cfg : Cfg) (p : SecDef → Bool) (f : SecDef → Sec → SecOut) (w : Work) : Work :=
  let r := w.img.secs.foldl (fun (a : List Sec × List SecLog) x =>
    match cfg.sec x.idx with
    | some d => if p d then let o := f d x; (a.1 ++ [o.1], a.2 ++ o.2) else (a.1 ++ [x], a.2)
    | none => (a.1 ++ [x], a.2)) ([], [])
  { w with img := { w.img with secs := r.1 }, logs := w.logs ++ r.2 }

/-- A section has a member point on isolator lane `k` of the module. -/
def SecDef.onLane (d : SecDef) (own : BitVec 11) (k : Fin 8) : Bool :=
  d.members.any (fun m => decide (m.modAddr = own ∧ m.point.toNat / 8 = k.val))

/-- A received AREA stream of module `m` crosses link `k`. -/
def Cfg.crosses (cfg : Cfg) (m : BitVec 11) (k : Fin 8) : Bool :=
  cfg.streams.any (fun t => t.recv && decide (t.peer = m ∧ t.link = k))

/-- A section has a remote point whose stream crosses link `k` (R219). -/
def SecDef.onLink (d : SecDef) (cfg : Cfg) (k : Fin 8) : Bool :=
  d.members.any (fun m => decide (m.modAddr ≠ cfg.modAddr) && cfg.crosses m.modAddr k)

/-- A section with a cause that begins or ends. -/
def toggleCause (u : UCause) (on : Bool) (x : Sec) : SecOut := if on then (beginU u x, []) else endU u x

/-! ### The entries of a journal -/

/-- The link event entry (R159 step 1). -/
def Work.linkEv (cfg : Cfg) (w : Work) (e : LinkEv) : Work :=
  match e with
  | .lost _ m pts => w.eachSec cfg (fun d => d.members.any (fun x => decide (x.modAddr = m) && pts.getLsbD x.point.toNat))
      (fun _ x => disturb 6 x)
  | .allLost => w.eachSec cfg (fun d => d.remote cfg.modAddr) (fun _ x => disturb 6 x)
  | .remoteLoop _ m p on => w.eachSec cfg (fun d => d.has m p) (fun _ x => toggleCause (.loop m p false) on x)
  | .linkLoop k on => w.eachSec cfg (fun d => d.onLink cfg k) (fun _ x => toggleCause (.linkLoop k) on x)

/-- Order of the link event entry: by link number (R159); the loss of the time base, which has none, comes last. -/
def LinkEv.rank (e : LinkEv) : Nat :=
  match e with
  | .lost k _ _ => k.val
  | .remoteLoop k _ _ _ => k.val
  | .linkLoop k _ => k.val
  | .allLost => 8

/-- Point number of a local point as a member point. -/
def ptOf (n : Fin 64) : BitVec 6 := BitVec.ofNat 6 n.val

/-- One item of the point event entry (R159 step 2). -/
def Work.pointEv (cfg : Cfg) (w : Work) (e : PointEv) : Work :=
  let own := cfg.modAddr
  match e with
  | .failed n => w.eachSec cfg (fun d => d.has own (ptOf n)) (fun _ x => disturb 2 x)
  | .failEnd _ => w
  | .loopFail n => w.eachSec cfg (fun d => d.has own (ptOf n)) (fun _ x => disturb 0x0A x)
  | .loop n echo on => w.eachSec cfg (fun d => d.has own (ptOf n)) (fun _ x => toggleCause (.loop own (ptOf n) echo) on x)
  | .laneFail k => w.eachSec cfg (fun d => d.onLane own k) (fun _ x => disturb 2 x)
  | .cause u on => w.eachSec cfg (fun d => decide (u ≠ UCause.conflict) || d.remote own) (fun _ x => toggleCause u on x)

/-- Order of the point event entry: points by number, then lanes, then module-wide items. -/
def PointEv.rank (e : PointEv) : Nat :=
  match e with
  | .failed n => n.val
  | .failEnd n => n.val
  | .loopFail n => n.val
  | .loop n _ _ => n.val
  | .laneFail k => 64 + k.val
  | .cause _ _ => 72

/-- Stable insertion by a rank. -/
def insertBy {α : Type} (rank : α → Nat) (x : α) : List α → List α
  | [] => [x]
  | a :: l => if rank a ≤ rank x then a :: insertBy rank x l else x :: a :: l

/-- Stable sort by a rank. -/
def sortBy {α : Type} (rank : α → Nat) (l : List α) : List α := l.foldl (fun acc x => insertBy rank x acc) []

/-- An input serves a section (R145). -/
def SecDef.served (d : SecDef) (i : Fin 8) : Bool := d.byKey && decide (d.resetKey = i.val)

/-- One item of the vital input event entry (R145). -/
def Work.viEv (cfg : Cfg) (w : Work) (e : ViEv) : Work :=
  match e with
  | .press i => w.eachSec cfg (fun d => d.served i) (fun d x =>
      (resetSec d (if d.keyDirect then .direct else .preparatory) 2 x).1)
  | .refused i => w.eachSec cfg (fun d => d.served i) (fun d x =>
      refuseReset (if d.keyDirect then .direct else .preparatory) 2 x)
  | .stuck i => w.eachSec cfg (fun d => d.served i) (fun _ x => ({ x with keyInh := true }, []))
  | .faultEnd i => w.eachSec cfg (fun d => d.served i) (fun _ x => ({ x with keyInh := false }, []))

/-- Input of an item of the vital input event entry. -/
def ViEv.rank (e : ViEv) : Nat :=
  match e with
  | .press i => i.val
  | .refused i => i.val
  | .stuck i => i.val
  | .faultEnd i => i.val

/-- One axle record (R159 step 5). -/
def Work.axle (cfg : Cfg) (at' : Nat) (w : Work) (r : AxleRec) : Work :=
  w.eachSec cfg (fun d => d.has r.modAddr r.point) (fun d x => processRec d cfg.modAddr at' r x)

/-- Order of records: diff48(TS, t0 − 2^46), then module, then point; order of emission is the order of arrival. -/
def recRank (t0 : Nat) (r : AxleRec) : Nat :=
  (diff48 r.ts (BitVec.ofNat 48 t0 - 0x400000000000) * 2048 + r.modAddr.toNat) * 64 + r.point.toNat

/-! ### Commands that an engine executes on its image -/

/-- The kind of reset that an operation names, with its section. -/
def Op.asReset (o : Op) : Option (ResetKind × Word) :=
  match o with
  | .resetDirect g => some (.direct, g)
  | .resetPreparatory g => some (.preparatory, g)
  | .resetCancel g => some (.cancel, g)
  | _ => none

/-- A global section ID is one of this module: its local index (R7). -/
def Cfg.localSec (cfg : Cfg) (gid : Word) : Option (Fin 256) :=
  if gid.toNat / 256 = cfg.modAddr.toNat then some ⟨gid.toNat % 256, Nat.mod_lt _ (by decide)⟩ else none

/-- Fault 0709h of a reset that no section slot takes. -/
def refusedLog (cfg : Cfg) (gid : Word) : SecLog :=
  match cfg.localSec gid with
  | some i => secLogOf i 0x0709 9
  | none => { code := 0x0709, obj := 0xFFFF, sx := none }

/-- The voted reset of a section on a working image (R143): Table 5-6. -/
def Work.reset (cfg : Cfg) (k : ResetKind) (gid : Word) (w : Work) : Work × Byte :=
  match cfg.localSec gid with
  | none => ({ w with logs := w.logs ++ [refusedLog cfg gid] }, stBadParam)
  | some i =>
    match cfg.sec i, w.img.sec i with
    | none, _ => ({ w with logs := w.logs ++ [refusedLog cfg gid] }, stBadParam)
    | some _, none => ({ w with logs := w.logs ++ [refusedLog cfg gid] }, stNotPermitted)
    | some d, some x =>
      let r := resetSec d k 1 x
      ({ w with img := { w.img with secs := w.img.secs.map (fun y => if y.idx = i then r.1.1 else y) }
                logs := w.logs ++ r.1.2 }, r.2)

/-- A voted command in its frame: a reset acts on the image; everything else takes effect at the publication (R235). A
reset on a module without an ACTIVE image is refused (R236). -/
def Work.command (cfg : Cfg) (snap : Snap) (image : Bool) (w : Work) (c : Cmd) : Work :=
  match c.op.asReset with
  | some (k, g) =>
    if image then
      let r := w.reset cfg k g
      { r.1 with replies := r.1.replies ++ [(c, { status := r.2 })] }
    else
      { w with logs := w.logs ++ [refusedLog cfg g], replies := w.replies ++ [(c, { status := stUnconfirmed })] }
  | none => { w with ops := w.ops ++ [(c, snap)] }

/-- Entries of a journal (CEN_JOURNAL). -/
def Journal.entries (j : Journal) : Nat :=
  j.recs.length + j.cmds.length + b2n (!j.links.isEmpty) + b2n (!j.points.isEmpty) + b2n (!j.vis.isEmpty)

/-- A voted command that the source of a hand-over executes too, and answers (R174). -/
def Work.dualCommand (cfg : Cfg) (snap : Snap) (image : Bool) (w : Work) (c : Cmd) : Work :=
  let r := w.command cfg snap image c
  { w with img := r.img }

/-- Pending exits in local index order (R147, R159 step 3). -/
def Work.expiry (cfg : Cfg) (at' : Nat) (w : Work) : Work :=
  (sortBy (fun (i : Fin 256) => i.val) (w.img.secs.map Sec.idx)).foldl
    (fun w i => w.eachSec cfg (fun d => decide (d.idx = i)) (fun _ x => expirePending at' x)) w

/-- One sampled frame, in the order of R159. -/
def Work.run (cfg : Cfg) (image : Bool) (w : Work) (j : Journal) : Work :=
  let w := (sortBy LinkEv.rank j.links).foldl (Work.linkEv cfg) w
  let w := (sortBy PointEv.rank j.points).foldl (Work.pointEv cfg) w
  let w := w.expiry cfg j.at'
  let w := (sortBy ViEv.rank j.vis).foldl (Work.viEv cfg) w
  let w := ((sortBy (recRank j.tb) (j.recs.map JRec.r))).foldl (Work.axle cfg j.at') w
  let w := j.cmds.foldl (Work.command cfg j.snap image) w
  let w := j.dual.foldl (Work.dualCommand cfg j.snap image) w
  { w with entries := w.entries + j.entries }

/-! ### The entries in the journal ring and the delay registers (R156, R157) -/

/-- A list as bytes of an entry: the number of its items, then the bytes of the items as far as fifteen bytes hold them (log 90). -/
def packItems (n : Nat) (l : List Byte) : List Byte := BitVec.ofNat 8 n :: padTo 15 (l.take 15)

/-- The bytes of an item of the link event entry. -/
def LinkEv.bytes (e : LinkEv) : List Byte :=
  match e with
  | .lost k m pts => [1, BitVec.ofNat 8 k.val] ++ toBytes 2 m.toNat ++ toBytes 8 pts.toNat
  | .remoteLoop k m p on => [2, BitVec.ofNat 8 k.val] ++ toBytes 2 m.toNat ++ [p.setWidth 8, BitVec.ofNat 8 (b2n on)]
  | .linkLoop k on => [3, BitVec.ofNat 8 k.val, BitVec.ofNat 8 (b2n on)]
  | .allLost => [4]

/-- The bytes of an item of the point event entry: its kind and its point, lane or WHY. -/
def PointEv.bytes (e : PointEv) : List Byte :=
  match e with
  | .failed n => [1, BitVec.ofNat 8 n.val]
  | .failEnd n => [2, BitVec.ofNat 8 n.val]
  | .loopFail n => [3, BitVec.ofNat 8 n.val]
  | .loop n echo on => [BitVec.ofNat 8 (4 + b2n echo * 2 + b2n on), BitVec.ofNat 8 n.val]
  | .laneFail k => [8, BitVec.ofNat 8 k.val]
  | .cause u on => [BitVec.ofNat 8 (9 + b2n on), u.why.setWidth 8]

/-- The vital input event entry: a byte of inputs each for presses, refused presses, stuck declarations and ends of reset faults,
and the accepted active state of every input (R252). -/
def viBytes (l : List ViEv) (accepted : Byte) : List Byte :=
  let inputs (f : ViEv → Option (Fin 8)) : Byte :=
    (l.filterMap f).foldl (fun (b : Byte) (i : Fin 8) => b ||| BitVec.ofNat 8 (2 ^ i.val)) 0
  padTo 16 [
    inputs (fun e => match e with
      | .press i => some i
      | _ => none),
    inputs (fun e => match e with
      | .refused i => some i
      | _ => none),
    inputs (fun e => match e with
      | .stuck i => some i
      | _ => none),
    inputs (fun e => match e with
      | .faultEnd i => some i
      | _ => none),
    accepted]

/-- The bytes of a voted command: its opcode and the section that it names. -/
def Cmd.bytes (c : Cmd) : List Byte :=
  padTo 16 (c.op.code :: match c.op.asReset with
    | some (_, g) => toBytes 4 g.toNat
    | none => [])

/-- The entries of a journal with their classes (R156, R159): link event 1, point event 2, vital input event 3, axle record 4,
voted command 5. -/
def Journal.plain (j : Journal) : List (Nat × List Byte) :=
  (if j.links.isEmpty then [] else [(1, packItems j.links.length (j.links.flatMap LinkEv.bytes))]) ++
  (if j.points.isEmpty then [] else [(2, packItems j.points.length (j.points.flatMap PointEv.bytes))]) ++
  (if j.vis.isEmpty then [] else [(3, viBytes j.vis j.snap.accepted)]) ++
  j.recs.map (fun x => (4, x.r.toBytes)) ++ (j.cmds ++ j.dual).map (fun c => (5, c.bytes))

/-- S1: the entries of the frame enter the ring with their coded form. -/
def Journal.encode (at' : Nat) (j : Journal) : List JEntry :=
  j.plain.zipIdx.map (fun p => encodeEntry j.frame (at' + p.2) p.1.1 p.2 p.1.2)

/-- What the coded pass takes from the delay registers as one journal: a record as it decodes there, any other entry where it
decodes to its plain bytes. `k` counts the entries of the frame. -/
def Journal.read (f : Nat) (delay : List DelayReg) (ring : List JEntry) (k : Nat) (j : Journal) : Journal :=
  let ps := j.plain
  let got (i : Nat) : Option (List Byte) := match ring[k + i]? with
    | some x => (readDelay f delay (k + i) x).map wordsEntry
    | none => none
  let same (cls : Nat) : Bool := (ps.zipIdx.filter (fun p => p.1.1 = cls)).all (fun p => decide (got p.2 = some p.1.2))
  let nth (cls : Nat) : List Nat := (ps.zipIdx.filter (fun p => p.1.1 = cls)).map Prod.snd
  let cmds (l : List Cmd) (at' : List Nat) : List Cmd :=
    (l.zip at').filterMap (fun p => if got p.2 = some p.1.bytes then some p.1 else none)
  { j with
    links := if same 1 then j.links else []
    points := if same 2 then j.points else []
    vis := if same 3 then j.vis else []
    recs := (j.recs.zip (nth 4)).filterMap (fun p => (got p.2).map (fun bs => { p.1 with r := AxleRec.ofBytes bs }))
    cmds := cmds j.cmds (nth 5)
    dual := cmds j.dual ((nth 5).drop j.cmds.length) }

/-- The journals of a frame as the coded pass reads them. -/
def readAll (f : Nat) (delay : List DelayReg) (ring : List JEntry) (js : List Journal) : List Journal :=
  (js.foldl (fun (a : List Journal × Nat) j => (a.1 ++ [j.read f delay ring a.2], a.2 + j.plain.length)) ([], 0)).1

/-! ### The two passes (R154, R155) -/

/-- Slots of the ledgers after a pass (R162): with the pool slots written. -/
def placeLedgers (cfg : Cfg) (base m : Img) : Img × List (Nat × AxleRec × Fin 256) :=
  let r := m.secs.map (fun x => (Sec.reslot cfg ((base.sec x.idx).getD { idx := x.idx }) x))
  ({ m with secs := r.map Prod.fst }, r.flatMap (fun p => p.2.map (fun q => (q.1, q.2, p.1.idx))))

/-- S3 and S4: the section logic on the plain copies, and the same logic on what the delay registers hold. -/
def Work.passes (cfg : Cfg) (image : Bool) (f : Nat) (delay : List DelayReg) (ring : List JEntry) (w : Work) : Work :=
  let p := w.js.foldl (Work.run cfg image) w
  let c := (readAll f delay ring w.js).foldl (Work.run cfg image) { img := w.base }
  let r := placeLedgers cfg w.base p.img
  { p with img := r.1, imgC := (placeLedgers cfg w.base c.img).1, writes := r.2.map Prod.fst }

/-- What the frame writes into the pool: slot, record, section. -/
def Work.poolWrites (w : Work) : List (Nat × AxleRec × Fin 256) :=
  w.img.secs.flatMap (fun x =>
    ((x.slots.zip x.ledger).filter (fun p => w.writes.contains p.1)).map (fun p => (p.1, p.2, x.idx)))

end Sys2Proof.Machine
end

