-- ==== Sys2Proof/Machine/Engines.lean ====
section
/-! DEFINITION. The engines between the ticks: commit, failure and halt of a frame (R163 to R171), hand-overs (R173 to R178),
debug (R179, R180) and the ECC store (R38). -/

namespace Sys2Proof.Machine
open Sys2Proof

/-! ### Images and copies -/

/-- Change every copy of an engine's state but the published image: the checkpoint with its coded slot, and the frame that is open
or done. -/
def Engine.mapState (cfg : Cfg) (e : Fin 4) (f : List Sec → List Sec) (g : Engine) : Engine :=
  let img (m : Img) : Img := { m with secs := f m.secs }
  let wrk (w : Work) : Work := { w with img := img w.img, imgC := img w.imgC, base := img w.base }
  { g.modLoaded e (fun k => { k with low := k.low.setSecs cfg e (f g.committed.secs) }) with
    committed := img g.committed, work := g.work.map wrk, done := g.done.map wrk }

/-- Change the published image too. -/
def Engine.mapAll (cfg : Cfg) (e : Fin 4) (f : List Sec → List Sec) (g : Engine) : Engine :=
  let g := g.mapState cfg e f
  { g with published := { g.published with secs := f g.published.secs } }

/-- Sections join an image, at their places by local index. -/
def addSecs (l new : List Sec) : List Sec := sortBy (fun x => x.idx.val) (l ++ new)

/-- Sections of the active image whose home engine is `e`. -/
def Cfg.homeSecs (cfg : Cfg) (e : Fin 4) : List SecDef := cfg.secs.filter (fun d => decide (d.engine = e))

/-- Ledger blocks of a list of sections. -/
def Cfg.blocksOf (cfg : Cfg) (l : List Sec) : Nat :=
  (l.filterMap (fun x => (cfg.sec x.idx).map SecDef.blocks)).foldl (· + ·) 0

/-- The halt image (R169): the checkpoint with every section DISTURBED 09h and its ledger frozen. A section under debug
stays UNPROVEN (R180), as one that has not left the start does: no section leaves UNPROVEN in production test mode (R30). -/
def haltSecs (l : List Sec) : List Sec :=
  l.map (fun x =>
    if x.causes.contains .debug ∨ x.causes.contains .start then x
    else { x with st := .disturbed, cause := 9, causes := [], tainted := false, pend := [], mismatch := 0, sweep := 0 })

/-! ### Hand-over (R173 to R177) -/

/-- CEN_HANDOVER. -/
def hoWord (result : Nat) (join : Bool) (peer : Fin 4) (failAt n : Nat) : Word :=
  at32 result 30 ||| at32 (if join then 2 else 1) 28 ||| at32 peer.val 26 ||| at32 failAt 24 ||| at32 n 0

/-- One engine leaves the hand-over with `peer`. -/
def Engine.leaveHo (peer : Fin 4) (g : Engine) : Engine :=
  let ho := g.ho.filter (fun h => decide (h.peer ≠ peer))
  { g with ho := ho
           mode := if ho.isEmpty ∧ (g.mode = .hoOut ∨ g.mode = .hoIn) then .run else g.mode }

/-- The parts of the hand-over buffer but the one between two engines. -/
def State.dropBuf (s : State) (src tgt : Fin 4) : State :=
  { s with hoBuf := s.hoBuf.filter (fun b => decide (b.src ≠ src ∨ b.tgt ≠ tgt)) }

/-- A hand-over of engine `e` with `h.peer` fails (R175): the source keeps the sections, DISTURBED 09h, the target releases what it
reserved and has loaded, and 0610h is logged. -/
def State.failHandover (s : State) (e : Fin 4) (h : HandOver) : State :=
  let src := if h.source then e else h.peer
  let tgt := if h.source then h.peer else e
  let cfg := s.cfg
  let hit (l : List Sec) : List Sec := l.map (fun x => if h.secs.contains x.idx then (disturb 9 x).1 else x)
  let rest (l : List Sec) : List Sec := l.filter (fun x => !h.secs.contains x.idx)
  let at' := min 3 ((s.engines[src]).frame - h.t0 + 1)
  let s := s.modEngine src (fun g => { (g.mapState cfg src hit).leaveHo tgt with
    hoReg := hoWord 2 h.join tgt at' h.secs.length })
  let s := s.modEngine tgt (fun g => { (g.mapState cfg tgt rest).leaveHo src with
    hoReg := hoWord 2 h.join src at' h.secs.length })
  (s.dropBuf src tgt).cenFault src 9 0x0610

/-- Every hand-over of an engine fails. -/
def State.failHandovers (s : State) (e : Fin 4) : State :=
  (s.engines[e]).ho.foldl (fun s h => s.failHandover e h) s

/-- The two engines of a hand-over start it at a tick: T0 (R174). -/
def State.startHandover (s : State) (src tgt : Fin 4) (join : Bool) (secs : List (Fin 256)) : State :=
  let s := s.modEngine src (fun g => { g with
    mode := .hoOut, ho := g.ho ++ [{ peer := tgt, join := join, source := true, t0 := g.frame, secs := secs }]
    hoReg := hoWord 3 join tgt 0 secs.length })
  s.modEngine tgt (fun g => { g with
    mode := .hoIn, ho := g.ho ++ [{ peer := src, join := join, source := false, t0 := g.frame, secs := secs }]
    hoReg := hoWord 3 join src 0 secs.length })

/-- The frame of a hand-over that runs: 0 for H1, 1 for H2, 2 for H3. -/
def HandOver.at' (h : HandOver) (g : Engine) : Nat := g.frame - h.t0

/-- Change the record of a hand-over with `peer`. -/
def Engine.modHo (peer : Fin 4) (f : HandOver → HandOver) (g : Engine) : Engine :=
  { g with ho := g.ho.map (fun h => if h.peer = peer then f h else h) }

/-- Sections that an engine runs without publishing them: it is taking them over (R174). -/
def Engine.taken (g : Engine) : List (Fin 256) := g.ho.flatMap (fun h => if h.source then [] else h.secs)

/-- Sections of which the source still logs what they do: up to H3. -/
def Engine.unheard (g : Engine) : List (Fin 256) :=
  g.ho.flatMap (fun h => if h.source = false ∧ h.at' g < 3 then h.secs else [])

/-- The part of the buffer between two engines. -/
def State.bufOf (s : State) (src tgt : Fin 4) : Option HoBuf := s.hoBuf.find? (fun b => decide (b.src = src ∧ b.tgt = tgt))

/-- What the commit of a frame of a hand-over adds (R174): in H1 the source writes the transfer copy and the target its
acknowledgement; in H2 both have the digest of the sections' state; in H3 the target has compared sums and digests. -/
def State.commitHandover (s : State) (e : Fin 4) (h : HandOver) : State :=
  let cfg := s.cfg
  let g := s.engines[e]
  let mine := g.committed.secs.filter (fun x => h.secs.contains x.idx)
  let digest := bufDigest (secCells cfg mine)
  match h.at' g, h.source with
  | 0, true => { s.dropBuf e h.peer with hoBuf := (s.dropBuf e h.peer).hoBuf ++ [bufferOf cfg e h.peer g.frame mine] }
  | 0, false =>
    let room := decide (g.committed.secs.length + h.secs.length ≤ 64 ∧
      cfg.blocksOf g.committed.secs + (h.secs.filterMap (fun i => (cfg.sec i).map SecDef.blocks)).foldl (· + ·) 0 ≤ 1024)
    s.modEngine e (Engine.modHo h.peer (fun h => { h with ack := room }))
  | 1, _ => s.modEngine e (Engine.modHo h.peer (fun h => { h with digest := some digest }))
  | 2, false =>
    match s.bufOf h.peer e with
    | some b =>
      let sums := decide (h.sum.isSome ∧ h.sum = decode b.sum sumSig (frameTerm b.frame))
      let digests : Bool := match b.digest with
        | some c => decide (h.digest.isSome ∧ h.digest = decode c digestSig (frameTerm g.frame))
        | none => false
      if sums && digests then s.modEngine e (Engine.modHo h.peer (fun h => { h with confirmed := true }))
      else s.failHandover e h
    | none => s.failHandover e h
  | _, _ => s

/-- S2 of a hand-over's frames (R174): in H2 the target loads, rebases and re-signs the transfer copy, from the acknowledgement of
H1 on; in H3 the source puts the coded digest of its H2 state into the buffer. -/
def State.enterHandover (s : State) (e : Fin 4) (h : HandOver) : State :=
  let cfg := s.cfg
  let g := s.engines[e]
  match h.at' g, h.source with
  | 1, false =>
    match s.bufOf h.peer e with
    | some b =>
      if h.ack then
        s.modEngine e (fun g => (g.mapState cfg e (fun l => addSecs l b.secs)).modHo h.peer
          (fun h => { h with sum := some (b.ownSum g.frame) }))
      else s.failHandover e h
    | none => s.failHandover e h
  | 2, true =>
    match h.digest with
    | some d => { s with hoBuf := s.hoBuf.map (fun b =>
        if b.src = e ∧ b.tgt = h.peer then { b with digest := some (encode d digestSig (frameTerm g.frame)) } else b) }
    | none => s
  | _, _ => s

/-- The switch of one hand-over at T0 + 750 µs (R174, R176): the target publishes the sections from its own image, in which it
has run them since H2; the source's results for them are dropped; a split source enters MODE SPLIT, its token dies, and its
working stores and delay registers are cleared. -/
def State.switchHandover (s : State) (src : Fin 4) (h : HandOver) : State :=
  let tgt := h.peer
  let cfg := s.cfg
  let mine (l : List Sec) : List Sec := l.filter (fun x => h.secs.contains x.idx)
  let rest (l : List Sec) : List Sec := l.filter (fun x => !h.secs.contains x.idx)
  let s := s.modEngine tgt (fun t => { t.leaveHo src with
    published := { t.published with secs := addSecs (rest t.published.secs) (mine t.committed.secs) }
    hoReg := hoWord 1 h.join src 0 h.secs.length })
  let s := s.dropBuf src tgt
  s.modEngine src (fun g =>
    let g := { (g.mapAll cfg src rest).leaveHo tgt with hoReg := hoWord 1 h.join tgt 0 h.secs.length }
    let keep (l : SecLog) : Bool := match l.sx with
      | some (i, _) => !h.secs.contains i
      | none => true
    if h.join then { g with work := g.work.map (fun w => { w with logs := w.logs.filter keep }) }
    else { g with mode := .split, token := false, tokenNext := false, work := none, done := none, sampled := [], ring := [],
                  delay := [], from' := g.frame + 1, aRun := false, bRun := false })

/-- The program that a slot runs: values without a program run as 00h (R176). -/
def slotProgram (b : Byte) : Byte := if b = 1 ∨ b = 2 then b else 0

/-- SPLIT_SLOTS_START (R176): from T0 + 1 ms the two uncoded slots run. -/
def execSplitSlotsStart (e : Fin 4) (s : State) : Out :=
  let g := s.engines[e]
  s.when (!s.inReset && decide (g.mode = EMode.split ∧ g.from' ≤ g.frame) && !(g.aRun && g.bRun)) (fun s =>
    s.modEngine e (fun g => { g with
      aRun := true, bRun := true, slotNew := false, slotAt := g.frame
      slotA := slotProgram g.progA, slotB := slotProgram g.progB }))

/-- A write of CEN_SLOT takes effect at a tick: running slots start their new programs from the beginning (R334). -/
def Engine.slotTick (g : Engine) : Engine :=
  if g.slotNew ∧ g.aRun = true then
    { g with slotNew := false, slotA := slotProgram g.progA, slotB := slotProgram g.progB, slotAt := g.frame }
  else { g with slotNew := false }

/-! ### The opening of a frame (R154) -/

/-- S1 to S4 of the frame that opens at a tick (R154 to R159, R168): the entries of the journal are encoded into the ring, the
delay registers take the coded forms of every frame since the checkpoint, the checkpoint is loaded, and both passes run on the
journals of these frames, oldest first. -/
def Engine.openFrame (cfg : Cfg) (image : Bool) (j : Journal) (g : Engine) : Engine :=
  let j := { j with frame := g.frame }
  let entries := j.encode g.ringAt
  let js := g.sampled ++ [j]
  let ring := g.ring ++ entries
  let delay := delayOf g.frame ring
  let g := { g with ring := ring, ringAt := (g.ringAt + entries.length) % 2048, delay := delay, sampled := js, opened := true }
  let w : Work := { img := g.committed, base := g.committed, js := js, fails := g.fails, ring := ring }
  let w := w.passes cfg image g.frame delay ring
  let deaf (l : SecLog) : Bool := match l.sx with
    | some (i, _) => g.unheard.contains i
    | none => false
  { g with work := some { w with logs := w.logs.filter (fun l => !deaf l) } }

/-- The pool takes what the open frame of an engine writes (R162). -/
def State.writePool (s : State) (e : Fin 4) : State :=
  match (s.engines[e]).work with
  | some w => { s with pool := poolWrite s.cfg w.poolWrites s.pool }
  | none => s

/-- The frame that an engine has open, opened anew with its last journal changed by `f` (R168: from the checkpoint, on all
journals since). -/
def Engine.reopen (cfg : Cfg) (image : Bool) (f : Journal → Journal) (g : Engine) : Engine :=
  match g.work, g.sampled.getLast? with
  | some _, some j =>
    let n := j.plain.length
    { g with
      sampled := g.sampled.dropLast, ring := g.ring.take (g.ring.length - n)
      ringAt := (g.ringAt + 2048 - n) % 2048 }.openFrame cfg image (f j)
  | _, _ => g

/-! ### Failure and halt (R167 to R169) -/

/-- CEN_FAULT bit, fault code and LAST_KIND of a frame failure (Table 6-4, Table 6-8). -/
def FrameFail.row : FrameFail → Nat × Nat × Byte
  | .mismatch => (0, 0x0601, 1)
  | .noncode => (1, 0x0602, 2)
  | .parity => (3, 0x0604, 3)
  | .ecc => (4, 0x0620, 4)
  | .overrun => (6, 0x0606, 5)
  | .cycles => (5, 0x0132, 6)
  | .canary => (2, 0x0603, 7)
  | .token => (8, 0x0608, 8)

/-- The engine halts (R169): token dead at once, 0605h; the halt image comes at the tick after. -/
def State.haltEngine (s : State) (e : Fin 4) : State :=
  let s := s.modEngine e (fun g => { g with
    mode := .halted, token := false, tokenNext := false, work := none, done := none, haltDue := true, haltAt := g.frame,
    ho := [], joining := false, detaching := false })
  s.cenFault e 7 0x0605

/-- A frame fails (R167, R168): nothing is committed, and core, working stores and delay registers are reset; the third
consecutive failure, a canary or a token failure halts. -/
def State.failFrame (s : State) (e : Fin 4) (k : FrameFail) : State :=
  let r := k.row
  let s := s.failHandovers e
  let fails := (s.engines[e]).fails + 1
  let s := s.modEngine e (fun g => { g with
    work := none, done := none, delay := [], fails := fails, restartCnt := satInc g.restartCnt, restartKind := r.2.2 })
  let s := s.cenFault e r.1 r.2.1
  if 3 ≤ fails ∨ k = .canary ∨ k = .token then s.haltEngine e else s

/-- The step bounds hold for the frame (R155): at most 480 entries, each writing at most one pool slot. -/
def Work.fits (w : Work) : Bool := decide (w.entries ≤ 480 ∧ w.writes.length ≤ 480)

/-- What the checks of the schedule find in an open frame, in its order (R154, R157, R165, R166): the code of the loaded words, the
parity and the code of the delay registers, the companions of the ledger, the canaries, and the comparison. -/
def State.finding (s : State) (e : Fin 4) (w : Work) : Option (FrameFail × Option Diff) :=
  let g := s.engines[e]
  let d := frameTerm g.frame
  let loads := g.ho.any (fun h => !h.source && decide (h.at' g = 1) && (match s.bufOf h.peer e with
    | some b => b.bad
    | none => false))
  let badDelay := g.ring.zipIdx.any (fun p => (readDelay g.frame g.delay p.2 p.1).isNone)
  let badPool := w.base.secs.any (fun x => x.slots.any (fun k => match atPos s.pool k with
    | some q => !q.isCoded k
    | none => false))
  let plain := overlay (imageCells s.cfg g w w.img) w.plainUps
  let coded := encodeAll e g.frame (imageCells s.cfg g w w.imgC)
  let diff := (compareImage e plain { coded with words := overlay coded.words w.codedUps }).orElse (fun _ =>
    (comparePool s.cfg s.pool w.writes).orElse (fun _ => compareCodes e g.frame w.codes))
  if ((g.loaded e).low.bad e).isSome ∨ loads = true then some (.noncode, none)
  else if g.delay.any (fun r => decide (parityOf r.word ≠ r.parity)) then some (.parity, none)
  else if badDelay = true ∨ badPool = true then some (.noncode, none)
  else if canariesOk g.frame w.canaryExtra (canaryReports e g.frame w.canaryLost) = false then some (.canary, none)
  else diff.map (fun x => (if x.noncode then .noncode else .mismatch, some x))

/-- CEN_MISMATCH (Table 6-8). -/
def Diff.word (x : Diff) : Word := at32 x.area.toNat 30 ||| at32 (if x.noncode then 2 else 1) 28 ||| at32 x.loc 0

/-- CEN_CANARY after a canary step that ran in the engine's frame `f`. -/
def Engine.canaryRan (f : Nat) (bad : Bool) (g : Engine) : Engine :=
  { g with canaryFail := bad, ncPos := BitVec.ofNat 14 (nonCodePos f) }

/-- A frame fails by what its checks have found. -/
def State.failFound (s : State) (e : Fin 4) (r : FrameFail × Option Diff) : State :=
  let s := match r.2 with
    | some x => s.modEngine e (fun g => { g.canaryRan g.frame false with mismatch := x.word })
    | none => if r.1 = FrameFail.canary then s.modEngine e (fun g => g.canaryRan g.frame true) else s
  s.failFrame e r.1

/-- A changed word, and a changed byte of a record. -/
def flipWord (m : BitVec 64) (w : BitVec 64) : BitVec 64 := w ^^^ m
def AxleRec.flip (i : Fin 16) (m : Byte) (r : AxleRec) : AxleRec :=
  AxleRec.ofBytes (r.toBytes.zipIdx.map (fun p => if p.2 = i.val then p.1 ^^^ m else p.1))

/-- Change a word that a sparse store lists. -/
def modAt {α : Type} (p : Nat) (f : α → α) (l : List (Nat × α)) : List (Nat × α) :=
  l.map (fun q => if q.1 = p then (q.1, f q.2) else q)

/-- Apply an upset to the state of an open frame. -/
def State.upset (s : State) (e : Fin 4) (u : Upset) : State :=
  let modWork (f : Work → Work) : State := s.modEngine e (fun g => { g with work := g.work.map f })
  match u with
  | .plain p v => modWork (fun w => { w with plainUps := putAt p.val v.toNat w.plainUps })
  | .coded p c => modWork (fun w => { w with codedUps := putAt p.val c w.codedUps })
  | .load p b => s.modEngine e (fun g => g.modLoaded e (fun k => k.put p.val (flipWord (1#64 <<< b.val) (k.word e p.val))))
  | .delay i m =>
    let cfg := s.cfg
    let image := s.hasImage
    s.modEngine e (fun g =>
      let delay := g.delay.mapIdx (fun k r => if k = i.val then { r with word := flipWord m r.word } else r)
      { g with delay := delay
               work := g.work.map (fun w => { w with imgC := (w.passes cfg image g.frame delay g.ring).imgC }) })
  | .pool k hi m => { s with pool := modAt k.val (fun x => if hi then { x with w1 := flipWord m x.w1 } else { x with w0 := flipWord m x.w0 }) s.pool }
  | .poolPlain k i m => { s with pool := modAt k.val (fun x => { x with plain := x.plain.flip i m }) s.pool }
  | .buffer i m => { s with hoBuf := s.hoBuf.map (fun b =>
      if b.src = e ∨ b.tgt = e then
        { b with words := putAt i.val (flipWord m (({ frame := b.frame, words := b.words } : Coded).word b.src i.val)) b.words }
      else b) }
  | .linkCode i c => modWork (fun w => { w with codes := w.codes.zipIdx.map (fun p => if p.2 = i.val then (p.1.1, c) else p.1) })
  | .canary i => modWork (fun w => { w with canaryLost := some i })
  | .extra => modWork (fun w => { w with canaryExtra := true })
  | .ecc _ => s

/-- The commit of the open frame (R163): the coded image goes to the slot that does not hold the last checkpoint, its marker
last, and the journal entries that it covers end. -/
def Engine.commit (cfg : Cfg) (e : Fin 4) (w : Work) (token : Word) (g : Engine) : Engine :=
  let img := { w.img with frame := g.frame }
  let coded := encodeAll e g.frame (imageCells cfg g w w.imgC)
  { (g.modOther e (Slot.write 16384 coded)).canaryRan g.frame false with
    committed := img, done := some { w with img := img }, work := none, sampled := [], ring := [], fails := 0
    tokenNext := true, tokenReg := token
    jLast := w.entries, jMax := max g.jMax w.entries }

/-! ### ECC store (R37, R38) -/

/-- The engine to which a word of the store belongs (Table 1-6, regions in the order of the table): a pool slot to the engine
that publishes the section whose reservation holds it (log 10), checkpoint slots and journals to theirs, the hand-over buffer to
the target that reads it. -/
def State.eccOwner (s : State) (w : Nat) : Option (Fin 4) :=
  if w < 262144 then (s.cfg.slotOwner (w / 4)).bind (fun d => s.publisher d.idx)
  else if w < 393216 then some ⟨(w - 262144) / 32768 % 4, Nat.mod_lt _ (by decide)⟩
  else if w < 458752 then some ⟨(w - 393216) / 16384 % 4, Nat.mod_lt _ (by decide)⟩
  else if w < 491520 then s.hoBuf.head?.map HoBuf.tgt
  else none

/-- Eight bytes of a list as a word. -/
def wordOf8 (bs : List Byte) (i : Nat) : BitVec 64 := BitVec.ofNat 64 (bytesAt bs (8 * i) 8)

/-- The 64-bit words of a journal entry (R156). -/
def JEntry.words (x : JEntry) : List (BitVec 64) := [wordOf8 x.plain 0, wordOf8 x.plain 1] ++ x.coded ++ [x.stamp, 0, 0]

/-- A word of the store. The reserved region reads as 0, as does what nothing has been written to. -/
def State.eccWord (s : State) (w : Nat) : BitVec 64 :=
  if w < 262144 then
    match atPos s.pool (w / 4) with
    | some x => [wordOf8 x.plain.toBytes 0, wordOf8 x.plain.toBytes 1, x.w0, x.w1].getD (w % 4) 0
    | none => 0
  else if w < 393216 then
    let e : Fin 4 := Fin.ofNat 4 ((w - 262144) / 32768)
    let k := if (w - 262144) / 16384 % 2 = 0 then (s.engines[e]).ckA else (s.engines[e]).ckB
    k.word e (w % 16384)
  else if w < 458752 then
    let e : Fin 4 := Fin.ofNat 4 ((w - 393216) / 16384)
    match (s.engines[e]).ring.find? (fun x => decide (x.at' = (w - 393216) % 16384 / 8)) with
    | some x => x.words.getD (w % 8) 0
    | none => 0
  else if w < 491520 then
    match s.hoBuf[(w - 458752) / 16384]? with
    | some b => (atPos b.words (w % 16384)).getD 0
    | none => 0
  else 0

/-- A frame of engine `e` reads a word: the checkpoint slot that it loads, the entries that it processes, the pool slots that its
ledger index names, and, as the target of a hand-over, the buffer in H2 and H3. -/
def State.eccReads (s : State) (e : Fin 4) (w : Nat) : Bool :=
  let g := s.engines[e]
  if w < 262144 then g.committed.secs.any (fun x => x.slots.contains (w / 4))
  else if w < 393216 then
    decide ((w - 262144) / 32768 = e.val ∧ (w - 262144) / 16384 % 2 = b2n (g.newerB e))
  else if w < 458752 then
    decide ((w - 393216) / 16384 = e.val) && g.ring.any (fun x => decide (x.at' = (w - 393216) % 16384 / 8))
  else if w < 491520 then
    g.ho.any (fun h => !h.source && decide (1 ≤ h.at' g ∧ h.at' g ≤ 2)) &&
      (match s.hoBuf[(w - 458752) / 16384]? with
        | some b => decide (b.tgt = e)
        | none => false)
  else false

/-- ECC_SCRUB (R38): a corrected word is logged under 0621h, an uncorrectable one under 0620h and marked. -/
def execEccScrub (word : Fin 524288) (o : EccOutcome) (s : State) : Out :=
  s.when (!s.inReset) (fun s =>
    let obj : Nat := match s.eccOwner word.val with
      | some e => e.val
      | none => 0xFFFF
    match o with
    | .clean => s
    | .single => s.fault 0x0621 obj
    | .double =>
      let s := match s.eccOwner word.val with
        | some e => s.modEngine e (fun g => { g with fault := setBit g.fault 4 })
        | none => s
      { s with eccBad := if s.eccBad.contains word then s.eccBad else s.eccBad ++ [word] }.fault 0x0620 obj)

/-- A frame of the engine reads a marked word (R38): the mark stays, so that a persistent error ends in a halt. -/
def State.eccHits (s : State) (e : Fin 4) : Bool := s.eccBad.any (fun w => s.eccReads e w.val)

/-! ### The end of a frame -/

/-- FRAME_FAILURE (R165 to R169): an upset meets the open frame. The checks of its schedule decide whether and how it fails; an
upset that they do not find leaves the frame open. -/
def execFrameFailure (e : Fin 4) (k : UpsetKind) (p : Nat) (v : BitVec 64) (s : State) : Out :=
  s.when (!s.inReset && (s.engines[e]).work.isSome) (fun s =>
    match Upset.of k p v with
    | .ecc w => if s.eccReads e w.val then (s.failFrame e .ecc).updateVos else s
    | u =>
      let s := s.upset e u
      match (s.engines[e]).work with
      | none => s
      | some w => match s.finding e w with
        | some r => (s.failFound e r).updateVos
        | none => s)

/-- FRAME_COMMIT (R163, R166, R170): a frame within its bounds whose checks find nothing commits. A difference fails it; a token
that is not the expected one fails it and halts the engine. -/
def execFrameCommit (e : Fin 4) (token : Word) (s : State) : Out :=
  match (s.engines[e]).work with
  | none => .next s
  | some w =>
    s.when (!s.inReset && w.fits) (fun s =>
      match s.finding e w with
      | some r => (s.failFound e r).updateVos
      | none =>
        if token = expectedToken (s.engines[e]).frame then
          let s := s.modEngine e (Engine.commit s.cfg e w token)
          (s.engines[e]).ho.foldl (fun s h => s.commitHandover e h) s
        else ((s.modEngine e (fun g => { g.canaryRan g.frame false with tokenReg := token })).failFrame e .token).updateVos)

/-- TOKEN_EXPIRY (R171, R257): not renewed by tick f + 3. -/
def execTokenExpiry (e : Fin 4) (s : State) : Out :=
  let g := s.engines[e]
  s.when (!s.inReset && g.token && decide (g.tokenUntil ≤ g.frame)) (fun s =>
    (s.modEngine e (fun g => { g with token := false })).updateVos)

/-- PENDING_EXIT_EXPIRY (R147): in the frame that the sampling tick opened, in both passes, or, where no frame is open, on the image
that the next one loads. -/
def execPendingExitExpiry (sx : Fin 256) (s : State) : Out :=
  s.when (!s.inReset) (fun s =>
    (allFin 4).foldl (fun s e =>
      let g := s.engines[e]
      let at' := s.clk.tickAt
      let only (w : Work) : Work := w.eachSec s.cfg (fun d => decide (d.idx = sx)) (fun _ x => expirePending at' x)
      match g.work with
      | some w => s.modEngine e (fun g => { g with work := some { only w with imgC := (only { w with img := w.imgC }).img } })
      | none =>
        match g.committed.sec sx with
        | none => s
        | some x =>
          let put (l : List Sec) : List Sec := l.map (fun y => if y.idx = sx then (expirePending at' y).1 else y)
          (expirePending at' x).2.foldl State.secLog (s.modEngine e (fun g => g.mapState s.cfg e put))) s)

/-! ### Debug (R179, R180) -/

/-- DEBUG_KEY_END (R180, R255): VI6 is no longer accepted active; the attach ends at the next tick. -/
def execDebugKeyEnd (s : State) : Out :=
  s.when (!s.inReset && !s.accepted 6) (fun s =>
    { s with engines := s.engines.map (fun g => if g.mode = .debug then { g with detaching := true } else g) })

/-- A debug attach takes hold (R179): coded pass and comparator stop, and the token dies. The sections are out of service in the
images of the same publication (`State.imposed`); a frame that has committed is still published, and the voted commands of the
others are answered at the next tick. -/
def State.attachDebug (s : State) (e : Fin 4) : State :=
  let cfg := s.cfg
  let s := (s.noteBegin .debug (some e)).modEngine e (fun g => { g.mapState cfg e (fun l => l.map (beginU .debug)) with
    mode := .debug, token := false, tokenNext := false, work := none, ring := [], delay := []
    fails := 0, dbgStop := false, dbgWork := none, dbgCnt := satInc g.dbgCnt })
  s.cenFault e 10 0x0630

/-- What the session does (R179). -/
def Engine.debugAct (a : DebugAct) (g : Engine) : Engine :=
  if g.mode = .debug then
    match a with
    | .stop => { g with dbgStop := true }
    | .run => { g with dbgStop := false }
    | .step => g
    | .write p v => { g with dbgWork := some { g.dbgWork.getD { img := g.committed } with
        plainUps := putAt p.val v.toNat (g.dbgWork.getD { img := g.committed }).plainUps } }
  else g

end Sys2Proof.Machine
end

