-- ==== Sys2Proof/Machine/ImageFormat.lean ====
section
/-! DEFINITION. The configuration image as bytes: its items, the canonical form (R266 to R268), its settings, and the limits
that this manual sets for an image (step 6 of Table 10-4). -/

namespace Sys2Proof.Machine
open Sys2Proof

/-! ### Items (R267) -/

/-- An item of an image with the byte offset of its header. -/
structure Item where
  off : Nat
  ty : Nat
  ix : Nat
  body : List Byte
  deriving DecidableEq, Repr

/-- Read `n` items from byte `off`; what is left over, or the offset of the first item that does not fit. -/
def readItems : (n off : Nat) → List Byte → List Item × List Byte × Option Nat
  | 0, _, bs => ([], bs, none)
  | n + 1, off, bs =>
    let len := bytesAt bs 4 4
    if bs.length < 8 ∨ bs.length < 8 + len then ([], bs, some off)
    else
      let it : Item := { off := off, ty := bytesAt bs 0 2, ix := bytesAt bs 2 2, body := (bs.drop 8).take len }
      let r := readItems n (off + 8 + len) (bs.drop (8 + len))
      (it :: r.1, r.2)

/-- Register word `i` of an item. -/
def Item.word (it : Item) (i : Nat) : Word := BitVec.ofNat 32 (bytesAt it.body (4 * i) 4)

/-- A member word of a SECTION item (Table 8-8, 02h). -/
def memberOf (w : Word) : Member where
  modAddr := BitVec.ofNat 11 (fieldNat w 21 11)
  point := BitVec.ofNat 6 (fieldNat w 15 6)
  sense := w.getLsbD 14

def Member.word (m : Member) : Word := at32 m.modAddr.toNat 21 ||| at32 m.point.toNat 15 ||| bitAt m.sense 14

/-- Order of member points (R162). -/
def Member.rank (m : Member) : Nat := m.modAddr.toNat * 64 + m.point.toNat

/-- The section that a SECTION item defines. -/
def Item.sec (it : Item) : SecDef where
  idx := ⟨it.ix % 256, Nat.mod_lt _ (by decide)⟩
  cfg := it.word 0
  tol := it.word 1
  plaus := it.word 2
  members := (List.range (fieldNat (it.word 0) 15 5)).map (fun i => memberOf (it.word (3 + i)))

def linkOf (b : Byte) : Fin 8 := ⟨b.toNat % 8, Nat.mod_lt _ (by decide)⟩

/-- The stream of a STREAM item. -/
def Item.stream (it : Item) : StreamDef where
  recv := decide (byteAt it.body 0 = 1)
  link := linkOf (byteAt it.body 1)
  peer := BitVec.ofNat 11 (bytesAt it.body 2 2)
  ms4 := decide (byteAt it.body 4 = 1)
  slot := byteAt it.body 5
  mask := BitVec.ofNat 64 (bytesAt it.body 8 8)

/-- The relay entry of a RELAY item. -/
def Item.relay (it : Item) : RelayDef where
  src := BitVec.ofNat 16 (bytesAt it.body 0 2)
  dst := BitVec.ofNat 16 (bytesAt it.body 2 2)
  inLink := linkOf (byteAt it.body 4)
  outLink := linkOf (byteAt it.body 5)
  slot := byteAt it.body 6
  ms4 := decide (byteAt it.body 7 = 1)

/-! ### Canonical form (R268) -/

/-- Bits of a register word that are reserved, or read only for the element concerned, are 0. -/
def Item.clear (it : Item) (i : Nat) (allowed : Word) : Bool := decide (it.word i &&& ~~~allowed = 0)

/-- LENGTH, INDEX range and reserved bits of one item (R267). -/
def Item.formOk (it : Item) : Bool :=
  let n := it.body.length
  match it.ty with
  | 0x10 => decide (it.ix < 64 ∧ n = 8) && it.clear 0 0x800001FF && it.clear 1 0x00FFFFFF
  | 0x20 => decide (it.ix < 128 ∧ n = 8) && it.clear 0 0x3F0783FF && it.clear 1 0x00000FFF
  | 0x28 => decide (it.ix < 2 ∧ n = 772)
  | 0x30 => decide (it.ix < 64 ∧ n = 16) && it.clear 0 0x00FFFFFF && it.clear 1 0x03FFFFFF && it.clear 2 0x03FF03FF &&
      it.clear 3 0x03FF03FF
  | 0x40 => decide (it.ix < 4 ∧ n = 4) && it.clear 0 0xC0000000
  | 0x50 =>
    let k := fieldNat (it.word 0) 15 5
    let ms := it.sec.members.map Member.rank
    decide (it.ix < 256 ∧ n = 12 + 4 * k) && it.clear 0 0xFFFFFC7F && (it.word 0).getLsbD 31 &&
      (List.range k).all (fun i => it.clear (3 + i) 0xFFFFC000) &&
      (ms.zip (ms.drop 1)).all (fun p => decide (p.1 ≤ p.2))
  | 0x60 => decide (it.ix < 8 ∧ n = 8) && it.clear 0 0xFFF8FF00 && it.clear 1 0x0000FFFF
  | 0x61 => decide (it.ix = 0 ∧ n = 4)
  | 0x62 => decide (n = 16) && decide (bytesAt it.body 6 2 = 0 ∧ bytesAt it.body 2 2 < 2048) &&
      (decide (byteAt it.body 0 = 0) || decide (bytesAt it.body 8 8 = 0))
  | 0x63 => decide (n = 8)
  | 0x64 => decide (n = 4) && it.clear 0 0x0007FFFF
  | 0x68 => decide (it.ix = 0 ∧ n = 4) && it.clear 0 0x9F1FFFF0
  | 0x70 => decide (it.ix < 8 ∧ n = 4) && it.clear 0 (if it.ix < 6 then 0xC00001FF else 0x000001FF)
  | 0x71 => decide (it.ix < 8 ∧ n = 4) && it.clear 0 0x800000FF
  | _ => false

/-- Items of a type. -/
def ofType (ty : Nat) (l : List Item) : List Item := l.filter (fun i => decide (i.ty = ty))

/-- The item of a type and index. -/
def itemAt (l : List Item) (ty ix : Nat) : Option Item := l.find? (fun i => decide (i.ty = ty ∧ i.ix = ix))

/-- Word `k` of an item. -/
def wordAt (l : List Item) (ty ix k : Nat) : Word :=
  match itemAt l ty ix with
  | some i => i.word k
  | none => 0

/-- The items of an object out of service hold the reset values of their CFG fields (R268). -/
def Item.idleOk (l : List Item) (it : Item) : Bool :=
  let port (n : Nat) : Bool := (wordAt l 0x10 n 0).getLsbD 31
  match it.ty with
  | 0x10 => port it.ix || decide (it.word 0 = 0 ∧ it.word 1 = 0)
  | 0x20 => port (it.ix / 2) || decide (it.word 0 = 0x2C030064 ∧ it.word 1 = 0)
  | 0x30 => port it.ix ||
      decide (it.word 0 = 0x008C1B58 ∧ it.word 1 = 0x00961B58 ∧ it.word 2 = 0x01C2012C ∧ it.word 3 = 0x01C2012C)
  | 0x60 => (it.word 0).getLsbD 31 || decide (it.word 0 = 0x00001400 ∧ it.word 1 = 0)
  | 0x70 => decide (6 ≤ it.ix) || decide (fieldNat (it.word 0) 30 2 ≠ 0) || decide (it.word 0 = 0x00000064)
  | 0x71 => (it.word 0).getLsbD 31 || decide (it.word 0 = 0)
  | _ => true

/-- Place of an item in the order of R268. -/
def Item.rank (it : Item) : Nat := it.ty * 65536 + it.ix

/-- The first item that does not follow the one before it in ascending TYPE and INDEX. -/
def firstDisorder : List Item → Option Nat
  | a :: b :: rest => if a.rank < b.rank then firstDisorder (b :: rest) else some b.off
  | _ => none

/-- The mandatory items (Table 10-3). -/
def mandatory : List (Nat × Nat) :=
  [(0x10, 64), (0x20, 128), (0x28, 2), (0x30, 64), (0x40, 4), (0x60, 8), (0x61, 1), (0x68, 1), (0x70, 8), (0x71, 8)]

/-- Every mandatory item is present for every index of its range, once; STREAM, RELAY and REMOTE run from 0 without gaps. The
items are in ascending order, so counts decide. -/
def countsOk (l : List Item) : Bool :=
  mandatory.all (fun p => decide ((ofType p.1 l).length = p.2)) &&
    [0x62, 0x63, 0x64].all (fun ty => (ofType ty l).zipIdx.all (fun p => decide (p.1.ix = p.2)))

/-- Header fields of the canonical form: MAGIC, FORMAT, byte 3, TOTAL, MODULE. The offset of the first that fails. -/
def headerBad (len : Nat) (bs : List Byte) : Option Nat :=
  if bytesAt bs 0 2 ≠ 0x5443 then some 0
  else if byteAt bs 2 ≠ 1 then some 2
  else if byteAt bs 3 ≠ 0 then some 3
  else if bytesAt bs 4 4 ≠ len then some 4
  else if 2048 ≤ bytesAt bs 8 2 then some 8
  else none

/-- Step 3 of Table 10-4: the items of a canonical image, or the byte offset of the first field or item that breaks the
form; what no single item breaks is put to ITEMS (log 11). -/
def parseImage (bs : List Byte) : List Item ⊕ Nat :=
  match headerBad bs.length bs with
  | some o => .inr o
  | none =>
    let r := readItems (bytesAt bs 14 2) 64 (bs.drop 64)
    match r.2.2 with
    | some o => .inr o
    | none =>
      if !r.2.1.isEmpty then .inr (bs.length - r.2.1.length)
      else
        match firstDisorder r.1, r.1.find? (fun i => !(i.formOk && i.idleOk r.1)) with
        | some a, some b => .inr (min a b.off)
        | some a, none => .inr a
        | none, some b => .inr b.off
        | none, none => if countsOk r.1 then .inl r.1 else .inr 14

/-! ### Settings -/

/-- The settings that a canonical image holds. -/
def cfgOf (bs : List Byte) (l : List Item) : Cfg where
  modAddr := BitVec.ofNat 11 (bytesAt bs 8 2)
  serial := BitVec.ofNat 64 (bytesAt bs 16 8)
  prtCfg := Vector.ofFn (fun i => wordAt l 0x10 i.val 0)
  prtHead := Vector.ofFn (fun i => wordAt l 0x10 i.val 1)
  fltCfg := Vector.ofFn (fun i => wordAt l 0x20 i.val 0)
  fltPhase := Vector.ofFn (fun i => wordAt l 0x20 i.val 1)
  bankCoef := Vector.ofFn (fun i => match itemAt l 0x28 i.val with
    | some x => coefs (x.body.take 768)
    | none => [])
  bankCrc := Vector.ofFn (fun i => wordAt l 0x28 i.val 192)
  wduHead := Vector.ofFn (fun i => wordAt l 0x30 i.val 0)
  wduLevels := Vector.ofFn (fun i => wordAt l 0x30 i.val 1)
  wduThr1 := Vector.ofFn (fun i => wordAt l 0x30 i.val 2)
  wduThr2 := Vector.ofFn (fun i => wordAt l 0x30 i.val 3)
  cenCfg := Vector.ofFn (fun i => wordAt l 0x40 i.val 0)
  secs := (ofType 0x50 l).map Item.sec
  lnkCfg := Vector.ofFn (fun i => wordAt l 0x60 i.val 0)
  lnkAsym := Vector.ofFn (fun i => wordAt l 0x60 i.val 1)
  seed := wordAt l 0x61 0 0
  streams := (ofType 0x62 l).map Item.stream
  relays := (ofType 0x63 l).map Item.relay
  remotes := (ofType 0x64 l).map (fun i => (i.word 0).setWidth 19)
  tbsCfg := wordAt l 0x68 0 0
  viCfg := Vector.ofFn (fun i => wordAt l 0x70 i.val 0)
  voCfg := Vector.ofFn (fun i => wordAt l 0x71 i.val 0)

/-! ### Banks (R84) -/

/-- CRC-32C over a coefficient set. -/
def coefBytes (l : List (BitVec 24)) : List Byte := l.flatMap (fun c => toBytes 3 c.toNat)

/-- 256 coefficients, symmetric, with the sum 2^23. -/
def setOk (l : List (BitVec 24)) : Bool :=
  decide (l.length = 256) && decide (l = l.reverse) && decide ((l.map BitVec.toInt).foldl (· + ·) 0 = 2 ^ 23)

/-- A bank of the image meets R84. -/
def Cfg.bankOk (cfg : Cfg) (b : Fin 2) : Bool :=
  setOk cfg.bankCoef[b] && decide (crc32c (coefBytes cfg.bankCoef[b]) = cfg.bankCrc[b])

/-! ### Limits (step 6 of Table 10-4) -/

def inRange (lo hi v : Nat) : Bool := decide (lo ≤ v ∧ v ≤ hi)

/-- The slot indexes that a stream or relay entry takes (R186). -/
def slotsOf (ms4 : Bool) (slot : Byte) : List Nat :=
  if ms4 then [slot.toNat] else [slot.toNat, slot.toNat + 4, slot.toNat + 8, slot.toNat + 12]

/-- LNK_CFG.RATE of a link of the image: slow. -/
def Cfg.slow (cfg : Cfg) (k : Fin 8) : Bool := (cfg.lnkCfg[k]).getLsbD 30

/-- A slot index admitted for the link and period (R186). -/
def Cfg.slotOk (cfg : Cfg) (k : Fin 8) (ms4 : Bool) (slot : Byte) : Bool :=
  if cfg.slow k then ms4 && decide (slot = 1)
  else if ms4 then decide (slot.toNat < 16 ∧ slot.toNat % 4 ≠ 0)
  else inRange 1 3 slot.toNat

/-- Sourced streams and relay entries before item `i` of the given kind, as (link, slot indexes). -/
def Cfg.outgoing (cfg : Cfg) (streams relays : Nat) : List (Fin 8 × List Nat) :=
  ((cfg.streams.take streams).filter (fun t => !t.recv)).map (fun t => (t.link, slotsOf t.ms4 t.slot)) ++
    (cfg.relays.take relays).map (fun r => (r.outLink, slotsOf r.ms4 r.slot))

/-- Received streams before item `i`. -/
def Cfg.incoming (cfg : Cfg) (streams : Nat) : List (Fin 8 × List Nat) :=
  ((cfg.streams.take streams).filter (fun t => t.recv)).map (fun t => (t.link, slotsOf t.ms4 t.slot))

/-- An index of the link's direction is already assigned. -/
def taken (used : List (Fin 8 × List Nat)) (k : Fin 8) (slots : List Nat) : Bool :=
  used.any (fun u => decide (u.1 = k) && u.2.any (fun x => slots.contains x))

/-- A PORT item breaks a limit: field ranges, R51 (10 µW units; 38.4 W). -/
def Cfg.portBad (cfg : Cfg) (n : Fin 64) : Bool :=
  let set (i : Fin 64) : Nat := fieldNat cfg.prtCfg[i] 0 9
  let imax (i : Fin 64) : Nat := fieldNat cfg.prtHead[i] 16 8
  let used (i : Fin 64) : Bool := (cfg.prtCfg[i]).getLsbD 31
  let power := (allFin 64).foldl (fun a i => if i ≤ n ∧ used i = true then a + set i * 2 * imax i else a) 0
  used n && (!inRange 140 300 (set n) || !inRange 50 180 (imax n) || decide (130 < fieldNat cfg.prtHead[n] 8 8) ||
    decide (2 < fieldNat cfg.prtHead[n] 0 8) || decide (3840000 < power))

/-- A CHANNEL item breaks a limit: field ranges, R97. -/
def Cfg.chanBad (cfg : Cfg) (c : Fin 128) : Bool :=
  let w := cfg.fltCfg[c]
  let first := cfg.fltCfg[chanOf (portOf c) .cs1]
  !inRange 2 12 (fieldNat w 24 4) || decide (6 < fieldNat w 16 3) || !inRange 50 450 (fieldNat w 0 10) ||
    decide (fieldNat w 28 2 ≠ fieldNat first 28 2 ∨ fieldNat w 24 4 ≠ fieldNat first 24 4 ∨
      w.getLsbD 15 ≠ first.getLsbD 15)

/-- A BANK item breaks R84 although a channel in the resampler path has the bank. -/
def Cfg.bankBad (cfg : Cfg) (b : Fin 2) : Bool :=
  !cfg.bankOk b && (allFin 128).any (fun c =>
    decide (fieldNat cfg.fltCfg[c] 28 2 = 0) && decide ((cfg.fltCfg[c]).getLsbD 15 = decide (b.val = 1)))

/-- A POINT item of an assigned point breaks R128. -/
def Cfg.pointBad (cfg : Cfg) (n : Fin 64) : Bool :=
  let spacing := fieldNat cfg.wduHead[n] 16 8
  let on (w : Word) : Nat := fieldNat w 16 10
  let off (w : Word) : Nat := fieldNat w 0 10
  let t1 := cfg.wduThr1[n]
  let t2 := cfg.wduThr2[n]
  let low := min (off t1) (off t2)
  let thrBad (w : Word) : Bool := !inRange 150 900 (on w) || decide (off w < 100 ∨ on w < off w + 50)
  (cfg.prtCfg[n]).getLsbD 31 &&
    (!inRange 100 250 spacing || (decide (fieldNat cfg.prtHead[n] 0 8 = 1) && decide (spacing ≠ 140)) ||
      !inRange 4000 13000 (fieldNat cfg.wduHead[n] 0 16) || !inRange 5000 9000 (fieldNat cfg.wduLevels[n] 0 16) ||
      thrBad t1 || thrBad t2 || !inRange 100 400 (fieldNat cfg.wduLevels[n] 16 10) ||
      decide (low < fieldNat cfg.wduLevels[n] 16 10) ||
      decide (low ≤ fieldNat cfg.fltCfg[chanOf n .cs1] 0 10 ∨ low ≤ fieldNat cfg.fltCfg[chanOf n .cs2] 0 10))

/-- A SECTION item breaks a limit of Table 5-1 or R161, given the sections before it. -/
def Cfg.secBad (cfg : Cfg) (d : SecDef) : Bool :=
  let upto := cfg.secs.filter (fun x => decide (x.idx ≤ d.idx))
  let mine := upto.filter (fun x => decide (x.engine = d.engine))
  let ranks := d.members.map Member.rank
  !inRange 2 16 d.members.length || decide (ranks.dedup ≠ ranks) ||
    d.members.any (fun m => decide (4 < (upto.filter (fun x => x.has m.modAddr m.point)).length)) ||
    decide (64 < mine.length) || decide (1024 < (mine.map SecDef.blocks).sum) ||
    decide (4096 < (upto.map SecDef.blocks).sum) || !inRange 1 64 d.blocks ||
    d.members.any (fun m => decide (m.modAddr ≠ cfg.modAddr) &&
      !cfg.streams.any (fun t => t.recv && decide (t.peer = m.modAddr))) ||
    (d.keyDirect && !d.directOk) || (d.byKey && decide (5 < d.resetKey)) || decide (d.sweepMin < 2) || decide (250 < d.pendMs)

/-- A STREAM item breaks a limit, given the items before it: ranges (R267), R186, R194. -/
def Cfg.streamBad (cfg : Cfg) (i : Nat) (dir link period : Byte) (t : StreamDef) : Bool :=
  let same := (cfg.streams.take (i + 1)).filter (fun x => x.recv == t.recv)
  decide (1 < dir.toNat) || !inRange 3 7 link.toNat || decide (1 < period.toNat) || !cfg.slotOk t.link t.ms4 t.slot ||
    taken (if t.recv then cfg.incoming i else cfg.outgoing i 0) t.link (slotsOf t.ms4 t.slot) || decide (16 < same.length)

/-- A RELAY item breaks a limit, given the items before it. -/
def Cfg.relayBad (cfg : Cfg) (i : Nat) (inL outL period : Byte) (r : RelayDef) : Bool :=
  !inRange 3 7 inL.toNat || !inRange 3 7 outL.toNat || decide (1 < period.toNat) || !cfg.slotOk r.outLink r.ms4 r.slot ||
    taken (cfg.outgoing cfg.streams.length i) r.outLink (slotsOf r.ms4 r.slot) || decide (32 ≤ i)

/-- TBS_CFG breaks R207 or its field ranges. -/
def tbsBad (w : Word) : Bool :=
  let root := w.getLsbD 31
  let depth := fieldNat w 24 5
  let parent := fieldNat w 7 3
  let alt := fieldNat w 4 3
  decide (24 < depth) || (root && decide (depth ≠ 0)) || (!root && decide (depth = 0)) ||
    (if root then decide (parent ≠ 0) else decide (parent < 3)) || (decide (alt ≠ 0) && decide (alt < 3))

/-- An item breaks a limit of step 6. -/
def Item.breaks (cfg : Cfg) (it : Item) : Bool :=
  match it.ty with
  | 0x10 => if h : it.ix < 64 then cfg.portBad ⟨it.ix, h⟩ else true
  | 0x20 => if h : it.ix < 128 then cfg.chanBad ⟨it.ix, h⟩ else true
  | 0x28 => if h : it.ix < 2 then cfg.bankBad ⟨it.ix, h⟩ else true
  | 0x30 => if h : it.ix < 64 then cfg.pointBad ⟨it.ix, h⟩ else true
  | 0x50 => cfg.secBad it.sec
  | 0x60 => (it.word 0).getLsbD 31 && decide (fieldNat (it.word 0) 8 8 = 0)
  | 0x62 => cfg.streamBad it.ix (byteAt it.body 0) (byteAt it.body 1) (byteAt it.body 4) it.stream
  | 0x63 => cfg.relayBad it.ix (byteAt it.body 4) (byteAt it.body 5) (byteAt it.body 7) it.relay
  | 0x64 => decide (10 ≤ it.ix)
  | 0x68 => tbsBad (it.word 0)
  | 0x70 => decide (fieldNat (it.word 0) 30 2 = 3) || !inRange 20 500 (fieldNat (it.word 0) 0 9)
  | 0x71 => (it.word 0).getLsbD 31 && !cfg.secs.any (fun d => decide (d.idx.val = fieldNat (it.word 0) 0 8))
  | _ => false

/-- Step 6 of Table 10-4: the byte offset of the first item that breaks a limit. -/
def firstBreak (cfg : Cfg) (l : List Item) : Option Nat := (l.find? (fun i => i.breaks cfg)).map Item.off

/-- Step 4 of Table 10-4: the byte offset of the first identity field that does not fit; `line`: the running release line. -/
def identityBad (line : Byte) (bs : List Byte) : Option Nat :=
  if bytesAt bs 10 2 ≠ Config.orderCode.toNat then some 10
  else if Config.hwIssue.toNat < bytesAt bs 12 1 then some 12
  else if byteAt bs 13 ≠ line then some 13
  else none

end Sys2Proof.Machine
end

