-- ==== Sys2Proof/Machine/Reply.lean ====
section
/-! DEFINITION. Reply packets, the tag table, the duplicate window and the replies of a vote (R205, R226, R229 to R233). -/

namespace Sys2Proof.Machine
open Sys2Proof

/-- A reply packet (R226): formed from the request's header; `st` and `res` are its parameter bytes. -/
def replyPacket (hdr : List Byte) (interim : Bool) (r : Result) : List Byte :=
  let flags : Byte := (hdrFlags hdr &&& 0x3F) ||| 0x80 ||| (if interim then 0x40 else 0)
  let head := [byteAt hdr 0, byteAt hdr 1, byteAt hdr 2, flags] ++ padTo 8 (hdr.drop 4) ++
    toBytes 2 (1 + r.bytes.length) ++ padTo 2 (hdr.drop 14)
  let body := head ++ r.status :: r.bytes
  body ++ toBytes 4 (crc32c body).toNat

/-- The segments of a reply packet (R189): one frame up to 212 bytes, two beyond; the last one carries the tag. -/
def segsOf (bytes : List Byte) (tag : Option Nat) : List Seg :=
  if bytes.length ≤ 212 then [{ first := true, last := true, bytes := bytes, tag := tag }]
  else
    [{ first := true, last := false, bytes := bytes.take 212, tag := none },
     { first := false, last := true, bytes := bytes.drop 212, tag := tag }]

/-- The link of a lane. -/
def laneLink (i : Fin 3) : Fin 8 := ⟨i.val, by omega⟩

/-- A reply leaves the interpreter: to the REPLY frames of a lane in the order in which replies become available (R205), or to
the mailbox, which a Pewter out of service does not read (R315). -/
def State.sendPacket (s : State) (path : Path) (bytes : List Byte) (tag : Option Nat) : State :=
  match path with
  | .lane i => s.modLink (laneLink i) (fun l => { l with replyQ := l.replyQ ++ segsOf bytes tag })
  | .mailbox =>
    if s.pewterOn then { s with cmd := { s.cmd with mailbox := s.cmd.mailbox ++ [bytes] } } else s

/-- DUPLICATE with the original status and result (R230). -/
def Result.duplicate (r : Result) : Result := { status := stDuplicate, bytes := r.status :: r.bytes }

/-- The tag entry of an id. -/
def Interp.entry (c : Interp) (id : Nat) : Option TagEntry := c.tags.find? (fun t => decide (t.id = id))

/-- A tag is released (R229): its entry ends, and a marked duplicate is answered (R231). -/
def State.releaseTag (s : State) (id : Nat) : State :=
  match s.cmd.entry id with
  | none => s
  | some t =>
    let s := { s with cmd := { s.cmd with tags := s.cmd.tags.filter (fun (x : TagEntry) => decide (x.id ≠ id)) } }
    match t.dup, t.reply with
    | some h, some r => s.sendPacket t.path (replyPacket h false r.duplicate) none
    | _, _ => s

/-- A tag is released without its reply being handed over (R205, R315): the marked duplicate falls with it. -/
def State.discardTag (s : State) (id : Nat) : State :=
  { s with cmd := { s.cmd with tags := s.cmd.tags.filter (fun (x : TagEntry) => decide (x.id ≠ id)) } }

/-- The window keeps the 64 most recently recorded SEQ values of a source (R230), newest first. -/
def recordSeq (src seq : BitVec 16) (l : List DupEntry) : List DupEntry :=
  let mine := ({ src := src, seq := seq } : DupEntry) :: l.filter (fun d => decide (d.src = src))
  mine.take 64 ++ l.filter (fun d => decide (d.src ≠ src))

/-- The reply formed for a recorded SEQ is kept in its window. -/
def keepReply (src seq : BitVec 16) (r : Result) (l : List DupEntry) : List DupEntry :=
  l.map (fun d => if d.src = src ∧ d.seq = seq then { d with reply := some r } else d)

/-- The reply of a tag entry is formed: it enters the duplicate window and is sent. A mailbox reply is handed over at once; a
lane's reply is, when its last segment is taken into a frame. -/
def State.replyTag (s : State) (id : Nat) (r : Result) : State :=
  match s.cmd.entry id with
  | none => s
  | some t =>
    if t.reply.isSome then s
    else
      let s := { s with cmd := { s.cmd with
        tags := s.cmd.tags.map (fun (x : TagEntry) => if x.id = id then { x with reply := some r } else x)
        dup := keepReply (hdrSource t.header) (hdrSeq t.header) r s.cmd.dup } }
      let bytes := replyPacket t.header false r
      match t.path with
      | .lane _ => s.sendPacket t.path bytes (some id)
      | .mailbox => if s.pewterOn then (s.sendPacket .mailbox bytes none).releaseTag id else s.discardTag id

/-- The open vote of an id. -/
def Interp.vote (c : Interp) (id : Nat) : Option Vote := c.votes.find? (fun v => decide (v.id = id))

/-- Change a vote. -/
def State.modVote (s : State) (id : Nat) (f : Vote → Vote) : State :=
  { s with cmd := { s.cmd with votes := s.cmd.votes.map (fun v => if v.id = id then f v else v) } }

/-- A vote that is closed and has its reply is kept no longer. -/
def State.dropVotes (s : State) : State :=
  { s with cmd := { s.cmd with votes := s.cmd.votes.filter (fun v => !(v.closed && v.reply.isSome)) } }

/-- A command is answered (R226, R232, R233): the packet's source, every lane of its vote, or, for a command given by its own
row, the register of the last such reply. -/
def State.answer (s : State) (ref : Ref) (r : Result) : State :=
  match ref with
  | .none => { s with cmd := { s.cmd with lastReply := some r } }
  | .tag id => s.replyTag id r
  | .vote id =>
    match s.cmd.vote id with
    | none => s
    | some v => (v.tags.foldl (fun s t => s.replyTag t r) (s.modVote id (fun v => { v with reply := some r }))).dropVotes

/-- A command is answered with a status alone. -/
def State.answerSt (s : State) (ref : Ref) (st : Byte) : State := s.answer ref { status := st }

/-- Source ID and SEQ of a command: its packet's, the first lane's of its vote, or the source alone. -/
def State.sourceOf (s : State) (c : Cmd) : BitVec 16 × BitVec 16 :=
  let ofTag (t : Option TagEntry) (d : BitVec 16) : BitVec 16 × BitVec 16 :=
    match t with
    | some t => (hdrSource t.header, hdrSeq t.header)
    | none => (d, 0)
  let bare : BitVec 16 := match c.who with
    | .lanes _ => 0x1000
    | .mgt id => 0x2000 + id.setWidth 16
    | .tool id => 0x3000 + id.setWidth 16
  match c.ref with
  | .none => (bare, 0)
  | .tag id => ofTag (s.cmd.entry id) bare
  | .vote id =>
    match s.cmd.vote id with
    | some v => ofTag (v.tags.head?.bind s.cmd.entry) bare
    | none => (bare, 0)

/-- A command has been executed: event 0002h, unless Pewter itself sent it (R323), and its reply. -/
def State.finish (s : State) (c : Cmd) (r : Result) : State :=
  let src := s.sourceOf c
  let s :=
    if src.1 = 0x2000 then s
    else s.event 0x0002 0xFFFF (BitVec.ofNat 48 (((c.op.code.toNat * 256 + r.status.toNat) * 65536 + src.1.toNat) * 65536 + src.2.toNat))
  s.answer c.ref r

end Sys2Proof.Machine
end

