-- ==== Sys2Proof/Machine/Frames.lean ====
section
/-! DEFINITION. What the module's link frames carry: settings of a link, the STATUS and AREA payloads, the frame layout
(R186 to R190, R199, R200, R371). -/

namespace Sys2Proof.Machine
open Sys2Proof

/-! ### Settings of a link (R371) -/

/-- The SEED of the frames that this module signs: 0 in production test mode (R366). -/
def State.seed (s : State) : Word := if s.clk.prodTest then 0 else s.cfg.seed

/-- The link is in service. -/
def State.linkUsed (s : State) (k : Fin 8) : Bool :=
  if s.hasImage then (s.cfg.lnkCfg[k]).getLsbD 31 else decide (k.val < 3)

/-- The link runs at the slow rate. -/
def State.linkSlow (s : State) (k : Fin 8) : Bool := (s.cfg.lnkCfg[k]).getLsbD 30

/-- Link cycle in ns (Table 7-1). -/
def State.linkCycle (s : State) (k : Fin 8) : Nat := if s.linkSlow k then 4000000 else 1000000

/-- Module address of the neighbour. -/
def State.linkPeer (s : State) (k : Fin 8) : BitVec 11 := BitVec.ofNat 11 (fieldNat s.cfg.lnkCfg[k] 19 11)

/-- MAXAGE in ns. -/
def State.maxAge (s : State) (k : Fin 8) : Nat := fieldNat s.cfg.lnkCfg[k] 8 8 * 1000000

/-- Slot index in the superperiod that starts at the time base `tb`; none where no slot starts (R186). -/
def State.slotAt (s : State) (k : Fin 8) (tb : Nat) : Option Nat :=
  let n := tb / 250000
  if s.linkSlow k then (if n % 8 = 0 then some (n / 8 % 2) else none) else some (n % 16)

/-- The slot index is slot 0 of its cycle. -/
def State.slotZero (s : State) (k : Fin 8) (i : Nat) : Bool := if s.linkSlow k then decide (i = 0) else decide (i % 4 = 0)

/-- A loopback takes the link from its traffic: LBA, or LBR while it loops. -/
def Link.looped (l : Link) : Bool :=
  match l.loop with
  | some x => decide (x.kind = LinkLb.lba) || (decide (x.kind = LinkLb.lbr) && decide (2 ≤ x.stage))
  | none => false

/-! ### Conditions reported to others -/

/-- LB0, LB1, LB2 or lane echo is active on the point (POINT_LOOP). -/
def State.pointLooped (s : State) (n : Fin 64) : Bool :=
  (s.ports[n]).lb.isSome || (s.lanes[laneOfPort n]).echo.isSome

/-- A halted engine publishes a section that contains the point. -/
def State.routeHalted (s : State) (n : Fin 64) : Bool :=
  (allFin 4).any (fun e => decide ((s.engines[e]).mode = EMode.halted) &&
    (s.engines[e]).published.secs.any (fun x => match s.cfg.sec x.idx with
      | some d => d.has s.addr (BitVec.ofNat 6 n.val)
      | none => false))

/-- POINT_OK of a point (Table 7-4). -/
def State.pointOk (s : State) (n : Fin 64) : Bool := s.assigned n && !(s.ports[n]).failed && !s.routeHalted n

/-- A 64-bit map of points. -/
def pointMap (f : Fin 64 → Bool) : BitVec 64 :=
  (allFin 64).foldl (fun w n => if f n then w ||| (1#64 <<< n.val) else w) 0

/-- Causes that CONDITION[7] reports (Table 7-5). -/
def UCause.wide (u : UCause) : Bool := decide (u.why = 0 ∨ u.why = 1 ∨ u.why = 5 ∨ u.why = 6)

/-- The module-wide cause of UNPROVEN that began most recently of those that hold. -/
def State.wideWhy (s : State) : Option (BitVec 3) := (s.causes.find? UCause.wide).map UCause.why

/-- An engine is in MODE DEBUG. -/
def State.debugging (s : State) : Bool := (allFin 4).any (fun e => decide ((s.engines[e]).mode = EMode.debug))

/-- CONDITION (Table 7-5). -/
def State.condition (s : State) (lost : Bool) : Byte :=
  BitVec.ofNat 8 (b2n s.wideWhy.isSome * 128 + ((s.wideWhy.getD 0).toNat) * 16 + b2n s.tbs.valid * 8 +
    b2n s.debugging * 4 + b2n lost * 2)

/-- TBS_STATE.STATE. -/
def TbState.code : TbState → Nat
  | .init => 0
  | .acquire => 1
  | .locked => 2
  | .holdover => 3
  | .invalid => 4
  | .root => 5

/-- TBS_CFG fields. -/
def State.isRoot (s : State) : Bool := s.cfg.tbsCfg.getLsbD 31
def State.tbsDepth (s : State) : Nat := fieldNat s.cfg.tbsCfg 24 5
def State.rootAddr (s : State) : Nat := fieldNat s.cfg.tbsCfg 10 11
def State.tbsParent (s : State) : Nat := fieldNat s.cfg.tbsCfg 7 3
def State.tbsAlt (s : State) : Nat := fieldNat s.cfg.tbsCfg 4 3

/-- STATE and LIVE of a section as four bits. -/
def State.secNibble (s : State) (i : Fin 256) : Nat :=
  match s.publisher i with
  | some e =>
    (match (s.engines[e]).published.sec i with
      | some x => x.state.toNat
      | none => 0) * 2 + b2n (s.engines[e]).live
  | none => 0

/-- A section entry: [31:29] STATE, [28] LIVE, [27] USED, [18:0] global ID. -/
def secEntry (nibble gid : Nat) : Word := at32 nibble 28 ||| at32 1 27 ||| at32 (gid % 2 ^ 19) 0

/-- The check value of the active image; 0 while none is ACTIVE. -/
def State.checkValue (s : State) : BitVec 64 :=
  match s.img.active with
  | some i => i.check
  | none => 0

/-- A remote section entry (Table 7-4): the state from the owner's latest AREA frame; UNPROVEN while that stream is timed
out, as every AREA stream is while TB_VALID is 0 (R215), or has brought none. -/
def State.remoteEntry (s : State) (gid : BitVec 19) : Word :=
  let found := (s.areas.zip s.cfg.streams).find? (fun p => p.2.recv && decide (p.2.peer.toNat = gid.toNat / 256))
  match found with
  | some p =>
    let w := p.1.secs.find? (fun w => decide (w.toNat % 2 ^ 19 = gid.toNat))
    match p.1.rx.timedOut || !s.tbs.valid, w with
    | false, some w => secEntry (w.toNat / 2 ^ 28) gid.toNat
    | _, _ => secEntry 0 gid.toNat
  | none => secEntry 0 gid.toNat

/-- The extended time base at the publication tick of the newest image (R199). -/
def State.tickExt (s : State) : Nat := s.clk.imageTb % 2 ^ 64

/-- The 212 bytes of a STATUS payload (Table 7-4), bytes 208 and 209 given. -/
def State.statusPayload (s : State) (req no : Byte) : List Byte :=
  let secs := (List.range 128).map (fun i =>
    BitVec.ofNat 8 (s.secNibble ⟨2 * i % 256, Nat.mod_lt _ (by decide)⟩ * 16 +
      s.secNibble ⟨(2 * i + 1) % 256, Nat.mod_lt _ (by decide)⟩))
  let eng (e : Fin 4) : Nat := (s.engines[e]).mode.code * 2 + b2n (s.engines[e]).live
  let vo := (allFin 8).foldl (fun a j => a + b2n (s.vos[j]).energised * 2 ^ j.val) 0
  let vi := (allFin 8).foldl (fun a i => a + b2n (s.viReport i) * 2 ^ i.val) 0
  secs ++ toBytes 8 (pointMap s.pointOk).toNat ++ toBytes 8 (pointMap s.pointLooped).toNat ++ [s.condition false] ++
    [BitVec.ofNat 8 (eng 0 * 16 + eng 1), BitVec.ofNat 8 (eng 2 * 16 + eng 3), BitVec.ofNat 8 vo, BitVec.ofNat 8 vi,
     BitVec.ofNat 8 (s.tbs.state.code * 32 + s.tbsDepth)] ++
    toBytes 2 s.rootAddr ++ toBytes 6 (s.tickExt % 2 ^ 48) ++ toBytes 8 s.checkValue.toNat ++
    padTo 40 (s.cfg.remotes.flatMap (fun g => toBytes 4 (s.remoteEntry g).toNat)) ++
    toBytes 2 (s.tickExt / 2 ^ 48) ++ [req, no, 0, 0]

/-- Sections of the module that contain points of the module `peer`, at most eight (Table 7-5). -/
def State.areaSecs (s : State) (peer : BitVec 11) : List Word :=
  ((s.cfg.secs.filter (fun d => d.members.any (fun m => decide (m.modAddr = peer)))).take 8).map (fun d =>
    secEntry (s.secNibble d.idx) (s.addr.toNat * 256 + d.idx.val))

/-- The 212 bytes of an AREA payload (Table 7-5); POINT_OK is 0 while TB_VALID is (R215). -/
def State.areaPayload (s : State) (peer : BitVec 11) (new rep : List AxleRec) (lost : Bool) : List Byte :=
  let secs := s.areaSecs peer
  let ok : BitVec 64 := if s.tbs.valid then pointMap s.pointOk else 0
  toBytes 8 ok.toNat ++ toBytes 8 (pointMap s.pointLooped).toNat ++
    [s.condition lost, BitVec.ofNat 8 new.length, BitVec.ofNat 8 rep.length, BitVec.ofNat 8 secs.length] ++
    padTo 64 (new.flatMap AxleRec.toBytes) ++ padTo 64 (rep.flatMap AxleRec.toBytes) ++
    padTo 32 (secs.flatMap (fun w => toBytes 4 w.toNat)) ++ List.replicate 32 0

/-! ### Frame layout (R187) -/

/-- Fields of a frame that the module sources. -/
structure FrameHdr where
  ty : Byte
  segs : Nat := 0
  dst : BitVec 16
  seq : Word
  txTs : Stamp
  echoTx : Stamp := 0
  echoRx : Stamp := 0
  len : Nat
  deriving DecidableEq, Repr

/-- The 256 bytes of a sourced frame, with its safety code and its CRC (R187, R190). -/
def State.buildFrame (s : State) (k : Fin 8) (slot : Nat) (h : FrameHdr) (payload : List Byte) : List Byte :=
  let flags := h.segs * 64 + b2n s.debugging * 32 + b2n s.wideWhy.isSome * 16 + b2n s.tbs.valid * 8
  let body := [0xFB, 0x01, h.ty, BitVec.ofNat 8 flags] ++ toBytes 2 (moduleWord s.addr).toNat ++ toBytes 2 h.dst.toNat ++
    toBytes 4 h.seq.toNat ++ toBytes 6 h.txTs.toNat ++ toBytes 6 h.echoTx.toNat ++ toBytes 6 h.echoRx.toNat ++
    toBytes 2 h.len ++ padTo 212 payload
  let signed := body ++ toBytes 4 (safetyCode s.seed body).toNat ++
    [0, BitVec.ofNat 8 (k.val * 32 + b2n (s.linkSlow k) * 16 + slot), 0, 0]
  signed ++ toBytes 4 (crc32c signed).toNat

/-- A frame that a relay sends (R202): HOPS is one more, LINKINFO and the CRC are formed again. -/
def State.relayedFrame (s : State) (k : Fin 8) (slot : Nat) (bs : List Byte) : List Byte :=
  let f := bs.take 248 ++ [byteAt bs 248 + 1, BitVec.ofNat 8 (k.val * 32 + b2n (s.linkSlow k) * 16 + slot), 0, 0]
  f ++ toBytes 4 (crc32c f).toNat

/-! ### What a link sends next (R185, R205) -/

/-- The sourced AREA stream that takes a slot index of a link. -/
def State.streamAt (s : State) (k : Fin 8) (i : Nat) : Option Nat :=
  (s.cfg.streams.zipIdx.find? (fun p => !p.1.recv && decide (p.1.link = k) &&
    (if p.1.ms4 then [p.1.slot.toNat] else [p.1.slot.toNat, p.1.slot.toNat + 4, p.1.slot.toNat + 8, p.1.slot.toNat + 12]).contains i)).map
      Prod.snd

/-- Change AREA stream `i`. -/
def State.modArea (s : State) (i : Nat) (f : Area → Area) : State :=
  { s with areas := s.areas.mapIdx (fun j a => if j = i then f a else a) }

/-- Remove the reply at the head of a link's queue, with all its segments (R205); its tag is released without it. -/
def State.dropReply (s : State) (k : Fin 8) : State :=
  match (s.links[k]).replyQ with
  | [] => s
  | g :: rest =>
    let last : Seg := if g.last then g else rest.headD g
    let s := s.modLink k (fun l => { l with replyQ := if g.last then rest else rest.drop 1 })
    match last.tag with
    | some t => s.discardTag t
    | none => s

/-- STATUS of a link for the slot at the time base `tx`. -/
def State.armStatus (s : State) (k : Fin 8) (slot : Nat) (tx : Stamp) (e : Fin 4) : State :=
  let l := s.links[k]
  let nb := decide (3 ≤ k.val)
  let echo : Stamp × Stamp :=
    if nb then
      match l.peerTs.find? (fun p => decide (p.2.2 < s.now)) with
      | some p => (p.1, p.2.1)
      | none => (0, 0)
    else (0, 0)
  let h : FrameHdr := {
    ty := 1, dst := if nb then moduleWord (s.linkPeer k) else laneWord k.val s.addr, seq := l.seqStatus, txTs := tx
    echoTx := echo.1, echoRx := echo.2, len := 212 }
  let req : Byte := if nb then l.testReq else 0
  let no : Byte := if nb ∧ req ≠ 0 then l.testNo else 0
  let f := s.buildFrame k slot h (s.statusPayload req no)
  s.modLink k (fun l => { l with
    seqStatus := l.seqStatus + 1, armed := some { bytes := f, signer := some e, tick := s.nextTb / 250000 } })

/-- The next REPLY segment of a lane link. -/
def State.armReply (s : State) (k : Fin 8) (slot : Nat) (tx : Stamp) (e : Fin 4) : State :=
  match (s.links[k]).replyQ with
  | [] => s
  | g :: rest =>
    let h : FrameHdr := {
      ty := 4, segs := b2n g.first * 2 + b2n g.last, dst := laneWord k.val s.addr, seq := (s.links[k]).seqReply, txTs := tx
      len := g.bytes.length }
    let f := s.buildFrame k slot h g.bytes
    let s := s.modLink k (fun l => { l with
      seqReply := l.seqReply + 1, replyQ := rest, armed := some { bytes := f, signer := some e, tick := s.nextTb / 250000 } })
    match g.tag with
    | some t => s.releaseTag t
    | none => s

/-- The next frame of a sourced AREA stream (R200). -/
def State.armArea (s : State) (k : Fin 8) (slot : Nat) (tx : Stamp) (e : Fin 4) (i : Nat) : State :=
  match s.areas[i]?, s.cfg.streams[i]? with
  | some a, some t =>
    let new := a.queue.take 4
    let h : FrameHdr := { ty := 2, dst := moduleWord t.peer, seq := a.seq, txTs := tx, len := 212 }
    let f := s.buildFrame k slot h (s.areaPayload t.peer new a.prevNew (decide (0 < a.lostLeft)))
    let s := s.modArea i (fun a => { a with
      queue := a.queue.drop 4, prevNew := new, seq := a.seq + 1, lostLeft := a.lostLeft - 1 })
    s.modLink k (fun l => { l with armed := some { bytes := f, signer := some e, tick := s.nextTb / 250000 } })
  | _, _ => s

/-- At a sampling tick the content of the frame that the link starts at the next tick is fixed (R185). Without a signing
engine no frame is sourced, and a reply due for the slot is discarded (R205). In production test mode none is sourced (R366). -/
def State.armLink (s : State) (k : Fin 8) : State :=
  let tb := s.nextTb
  let tx : Stamp := BitVec.ofNat 48 tb
  if s.linkUsed k = false ∨ (s.links[k]).looped = true ∨ s.clk.prodTest = true then s
  else
    match s.slotAt k tb, s.signer with
    | none, _ => s
    | some i, some e =>
      if s.slotZero k i then s.armStatus k i tx e
      else if k.val < 3 then s.armReply k i tx e
      else
        match s.streamAt k i with
        | some a => s.armArea k i tx e a
        | none => s
    | some i, none => if k.val < 3 ∧ s.slotZero k i = false then s.dropReply k else s

/-- The frame fixed for the coming slot is fixed anew where an event at the same tick changes what it carries or who signs it: a
STATUS frame is composed again, and any other is signed by the engine that signs now (R172). -/
def State.rearm (s : State) (k : Fin 8) : State :=
  match (s.links[k]).armed, s.signer with
  | none, some _ => s.armLink k
  | none, none => s
  | some _, none => s.modLink k (fun l => { l with armed := none })
  | some a, some e =>
    match s.slotAt k s.nextTb with
    | some i =>
      if s.slotZero k i then
        (s.modLink k (fun l => { l with seqStatus := l.seqStatus - 1 })).armStatus k i (BitVec.ofNat 48 s.nextTb) e
      else s.modLink k (fun l => { l with armed := some { a with signer := some e } })
    | none => s

/-- The safety codes of the frames that an engine signs are computed in both passes of its open frame (R172). -/
def State.signCodes (s : State) : State :=
  { s with engines := Vector.ofFn (fun (e : Fin 4) =>
      let g := s.engines[e]
      let codes := ((s.links.toList.filterMap Link.armed).filter (fun a => decide (a.signer = some e))).map (fun a => bytesAt a.bytes 244 4)
      { g with work := g.work.map (fun w => { w with
          codes := codes.zipIdx.map (fun p => (p.1, encode p.1 (sigOf e (80 + p.2)) (frameTerm g.frame))) }) }) }

/-- Every link after an event at a tick. -/
def State.rearmAll (s : State) : State := ((allFin 8).foldl State.rearm s).signCodes

end Sys2Proof.Machine
end

