-- ==== Sys2Proof/Machine/TimeBase.lean ====
section
/-! DEFINITION. The time base of the area: its states, the source, the measurement and the loop (R207 to R215). -/

namespace Sys2Proof.Machine
open Sys2Proof

/-- TB_VALID of a state (R212); HOLDOVER passes to INVALID after 2 s. -/
def TbState.valid : TbState → Bool
  | .root => true
  | .locked => true
  | .holdover => true
  | _ => false

/-- The time base enters a state. In one without TB_VALID every section with remote points loses its data (R215). -/
def State.tbEnter (s : State) (st : TbState) : State :=
  let s := { s with tbs := { s.tbs with state := st, valid := st.valid, thetas := [], bad := 0 } }
  if st.valid then s else s.postLink .allLost

/-- Sections that enter an image while TB_VALID is 0 meet every AREA stream as timed out (R215). -/
def State.tbLost (s : State) : State := if s.tbs.valid then s else s.postLink .allLost

/-- INIT is left, or TBS_CFG takes hold: a root passes to ROOT, a follower to ACQUIRE (Tables 7-8 and 10-5). -/
def State.tbStart (s : State) : State :=
  let s := { s with tbs := { s.tbs with source := none } }
  if s.isRoot then s.tbEnter .root else s.tbEnter .acquire

/-- A STATUS of the link's peer reports a usable source (R213). -/
def State.reportsSource (s : State) (l : Link) : Bool :=
  decide (l.peerRoot.toNat = s.rootAddr ∧ l.peerDepth.toNat + 1 = s.tbsDepth ∧ (l.peerState = 5 ∨ l.peerState = 2))

/-- The link is usable as source: a STATUS has been accepted, the stream is not timed out, the report fits, and no loopback
takes the link. -/
def Link.sourceOk (l : Link) : Bool := l.rx.last.isSome && !l.rx.timedOut && !l.rejected && !l.looped

/-- The source that R213 gives: PARENT, else ALT. -/
def State.chooseSource (s : State) : Option (Fin 8) :=
  let p : Fin 8 := ⟨s.tbsParent, by unfold State.tbsParent fieldNat; omega⟩
  let a : Fin 8 := ⟨s.tbsAlt, by unfold State.tbsAlt fieldNat; omega⟩
  if s.isRoot ∨ s.hasImage = false then none
  else if (s.links[p]).sourceOk then some p
  else if 3 ≤ a.val ∧ (s.links[a]).sourceOk = true then some a
  else none

/-- The present source is judged again (R212, R213): one that is not usable gives way to the other link at once, and without either
LOCKED leads to HOLDOVER. A PARENT that returns takes over at its next measurement. -/
def State.judgeSource (s : State) : State :=
  match s.chooseSource with
  | some k =>
    match s.tbs.source with
    | some j => if (s.links[j]).sourceOk then s else { s with tbs := { s.tbs with source := some k } }
    | none => s
  | none =>
    let s := { s with tbs := { s.tbs with source := none } }
    if s.tbs.state = .locked then
      { s with tbs := { s.tbs with holdSince := s.now } }.tbEnter .holdover |>.tbsFault 1 0x0811
    else s

/-- One turn of the loop (R209): θ in half ns, the cycle in ms. I is held where the limit would be exceeded. -/
def Tbs.steerBy (theta2 : Int) (ms : Nat) (t : Tbs) : Tbs :=
  let i := t.integ + theta2 * ms
  let y := roundConv (-(theta2 * 2000 + i) * 10) 2000
  if y < -100000 ∨ 100000 < y then { t with steer := clampInt (-100000) 100000 y }
  else { t with steer := y, integ := i }

/-- The largest and the smallest of a list lie at most `d` apart. -/
def within (d : Int) : List Int → Bool
  | [] => true
  | a :: l => decide ((l.foldl max a) - (l.foldl min a) ≤ d)

/-- LOCKED by the last 64 measurements (R212). -/
def lockedBy (l : List Int) : Bool :=
  decide (64 ≤ l.length) && (l.take 64).all (fun t => decide (t.natAbs ≤ 40)) && within 8 (l.take 64)

/-- The four last measurements call for a step (R210): minus their mean, rounded to 1 ns. -/
def stepBy (l : List Int) : Option Int :=
  match l with
  | a :: b :: c :: d :: _ =>
    if ([a, b, c, d].all (fun t => decide (4000 < t.natAbs)) && within 200 [a, b, c, d]) = true then
      some (-(roundConv (a + b + c + d) 8))
    else none
  | _ => none

/-- A measurement of the source (R209, R210, R212): θ in half ns. -/
def State.measure (s : State) (k : Fin 8) (theta2 : Int) : State :=
  let b := s.tbs.steerBy theta2 (s.linkCycle k / 1000000)
  let s := { s with tbs := { b with
    source := some k, offset := BitVec.ofInt 32 (roundConv theta2 2), theta := some theta2 } }
  let s := match s.tbs.state with
    | .holdover => if theta2.natAbs ≤ 100 then s.tbEnter .locked else s.tbEnter .acquire
    | .invalid => s.tbEnter .acquire
    | _ => s
  let s := { s with tbs := { s.tbs with
    thetas := (theta2 :: s.tbs.thetas).take 64, bad := if 100 < theta2.natAbs then s.tbs.bad + 1 else 0 } }
  let s := match s.tbs.state with
    | .acquire => if lockedBy s.tbs.thetas then s.tbEnter .locked else s
    | .locked => if 8 ≤ s.tbs.bad then (s.tbEnter .acquire) else s
    | _ => s
  match stepBy s.tbs.thetas with
  | some d => { s with clk := { s.clk with stepDue := some d }, tbs := { s.tbs with thetas := [] } }
  | none => s

/-- The extended time base against the parent's (R211): `tb64` is the parent's value of the tick that its STATUS carries, and the
follower's own value of that tick is the one nearest to it plus θ in bits [47:0]. Without a measurement since the last step there
is no θ to compare by. -/
def State.extCheck (s : State) (tb64 : Nat) : State :=
  match s.tbs.theta with
  | none => s
  | some theta2 =>
    let target : Int := ((tb64 : Int) + roundConv theta2 2) % 2 ^ 64
    let own : Int := ((s.tb : Int) + signed 48 ((target - (s.tb : Int)) % 2 ^ 48).toNat) % 2 ^ 64
    if own / 2 ^ 48 = target / 2 ^ 48 then s
    else
      let diff : BitVec 16 := BitVec.ofInt 16 (target / 2 ^ 48 - own / 2 ^ 48)
      { s with clk := { s.clk with extDue := some (BitVec.ofNat 16 (s.tb / 2 ^ 48) + diff) } }

/-- A STATUS frame of a neighbour reports on the source and gives a measurement (R208, R213); `m`: θ and 2δ in half ns. -/
def State.sourceStatus (s : State) (k : Fin 8) (m : Option (Int × Nat)) : State :=
  if s.isRoot ∨ (k.val ≠ s.tbsParent ∧ k.val ≠ s.tbsAlt) then s
  else
    let bad := !s.reportsSource s.links[k]
    let was := (s.links[k]).rejected
    let s := s.modLink k (fun l => { l with rejected := bad })
    let s := if bad = true ∧ was = false then s.tbsFault 3 0x0813 else s
    let s := if s.tbs.source.getD k = k then { s with tbs := { s.tbs with depthSeen := (s.links[k]).peerDepth + 1 } } else s
    let s := s.judgeSource
    if s.chooseSource = some k ∧ s.tbs.state ≠ .init then
      let s := match m with
        | some t => s.measure k t.1
        | none => s
      s.extCheck (s.links[k]).peerTb.toNat
    else s

/-- HOLDOVER_EXPIRY (R212): after 2 s in HOLDOVER. -/
def execHoldoverExpiry (dt : Nat) (s : State) : Out :=
  let s := s.pass dt
  s.when (!s.inReset && decide (s.tbs.state = TbState.holdover ∧ s.tbs.holdSince + 2000000000 ≤ s.now)) (fun s =>
    (s.tbEnter .invalid).tbsFault 2 0x0812)

end Sys2Proof.Machine
end

