-- ==== Sys2Proof/Machine/Links.lean ====
section
/-! DEFINITION. The Bertum links: sync, slots, acceptance, streams, relaying and loopbacks (R184 to R206, R216 to R220). -/

namespace Sys2Proof.Machine
open Sys2Proof

/-! ### Sync (R184) -/

/-- LINK_SYNC_ACQUIRED (R184): three consecutive idle pairs. -/
def execLinkSyncAcquired (dt : Nat) (k : Fin 8) (pairs : Nat) (s : State) : Out :=
  let s := s.pass dt
  s.when (!s.inReset && s.linkUsed k && !(s.links[k]).sync && decide (3 ≤ pairs)) (fun s =>
    s.modLink k (fun l => { l with sync := true, up := false }))

/-- LINK_SYNC_LOSS (R184): 4 of 16 characters invalid. -/
def execLinkSyncLoss (dt : Nat) (k : Fin 8) (bad : BitVec 16) (s : State) : Out :=
  let s := s.pass dt
  s.when (!s.inReset && s.linkUsed k && (s.links[k]).sync &&
      decide (4 ≤ countTrue ((List.range 16).map (fun i => bad.getLsbD i)))) (fun s =>
    (s.modLink k (fun l => { l with sync := false, up := false, errSync := satInc l.errSync })).lnkFault k 7 0x0809)

/-! ### Slots (R185, R202, R218) -/

/-- The frame of a relay entry that the slot starting now sends: stored at least 2 µs before. -/
def State.relayDue (s : State) (k : Fin 8) (i : Nat) : Option (Nat × RelayFrame) :=
  (s.cfg.relays.zip s.relays).zipIdx.findSome? (fun p =>
    let r := p.1.1
    if r.outLink = k ∧ (slotIndexes r.ms4 r.slot).contains i = true then
      match p.1.2 with
      | f :: _ => if f.at' + 2000 ≤ s.now then some (p.2, f) else none
      | [] => none
    else none)
where
  /-- The slot indexes that an entry takes (R186). -/
  slotIndexes (ms4 : Bool) (slot : Byte) : List Nat :=
    if ms4 then [slot.toNat] else [slot.toNat, slot.toNat + 4, slot.toNat + 8, slot.toNat + 12]

/-- A STATUS frame on a neighbour link has answered or asked for LBR: a refusal is sent once, after which an own LBR that still asks
does so again; an acknowledgement arms the peer's loop. -/
def Link.statusSent (l : Link) : Link :=
  match l.loop with
  | some x =>
    if x.peer = true ∧ l.testReq = 2 then { l with loop := some { x with stage := 1 } }
    else if l.testReq = 3 then
      if x.kind = .lbr ∧ x.peer = false ∧ x.stage = 0 then { l with testReq := 1, testNo := x.no }
      else { l with testReq := 0, testNo := 0 }
    else l
  | none => if l.testReq = 3 then { l with testReq := 0, testNo := 0 } else l

/-! ### TEST frames (R216 to R218, R220) -/

/-- PRBS-7, x^7 + x^6 + 1 (log 94): the next bit and state. -/
def prbs7Step (x : BitVec 7) : Bool × BitVec 7 :=
  (x.getLsbD 6, (x <<< 1) ||| (if xor (x.getLsbD 6) (x.getLsbD 5) then 1 else 0))

/-- A byte of the sequence, bit 7 first, and the state after it. -/
def prbs7Byte (x : BitVec 7) : Byte × BitVec 7 :=
  (List.range 8).foldl (fun a _ =>
    let r := prbs7Step a.2
    ((a.1 <<< 1) ||| (if r.1 then 1 else 0), r.2)) (0, x)

/-- `n` bytes of the sequence. -/
def prbs7 : Nat → BitVec 7 → List Byte
  | 0, _ => []
  | n + 1, x => let r := prbs7Byte x; r.1 :: prbs7 n r.2

/-- Slot period of a link in ns. -/
def State.slotPeriod (s : State) (k : Fin 8) : Nat := if s.linkSlow k then 2000000 else 250000

/-- The time base at the first slot of a link that starts at or after the instant `t`. -/
def State.firstSlot (s : State) (k : Fin 8) (t : Nat) : Nat :=
  let p := s.slotPeriod k
  (s.tb - (s.now - t) + (p - 1)) / p * p

/-- The TEST frame for the slot at the time base `tb`: TYPE 06h, SRC and DST the module's own address, a PRBS-7 payload seeded with
01h; SEQ counts the frames of the loopback (log 94). -/
def State.testFrame (s : State) (k : Fin 8) (tb seq : Nat) : List Byte :=
  s.buildFrame k ((s.slotAt k tb).getD 0)
    { ty := 6, dst := moduleWord s.addr, seq := BitVec.ofNat 32 seq, txTs := BitVec.ofNat 48 tb, len := 212 } (prbs7 212 1)

/-- The TEST frame of number `i` of a loopback that began at the instant `t`. -/
def State.testFrameNo (s : State) (k : Fin 8) (t i : Nat) : List Byte := s.testFrame k (s.firstSlot k t + i * s.slotPeriod k) i

/-- The TEST frame that a link puts on the line, or into its own receiver, in the slot that starts now; the end that loops back
for another sources none. -/
def State.testTx (s : State) (k : Fin 8) : Option (List Byte) :=
  match (s.links[k]).loop with
  | some x =>
    if x.peer then none
    else some (s.testFrame k s.clk.tickTb ((s.clk.tickTb - s.firstSlot k x.begin) / s.slotPeriod k))
  | none => none

/-- A bit of a frame inverted, in the order of transmission. -/
def flipBit (bs : List Byte) (b : Nat) : List Byte :=
  bs.mapIdx (fun i x => if i = b / 8 then x ^^^ (0x80 >>> (b % 8)) else x)

/-- The CRC check of a received frame (check 2), with what the checker's CRC differs by from the right one. -/
def crcFits (bad : Word) (b : List Byte) : Bool := decide (bytesAt b 252 4 = (crc32c (b.take 252) ^^^ bad).toNat)

/-- The safety code check of one of the two checkers (check 5). -/
def scFits (seed bad : Word) (b : List Byte) : Bool := decide (bytesAt b 244 4 = (safetyCode seed b ^^^ bad).toNat)

/-- LINK_SLOT_START (R185, R202): the frame fixed for this slot goes on the line, else a relayed frame, else idle. -/
def execLinkSlotStart (k : Fin 8) (s : State) : Out :=
  match s.slotAt k s.clk.tickTb with
  | none => .next s
  | some i =>
    s.when (!s.inReset && s.linkUsed k && decide ((s.links[k]).txTick ≠ some s.tickNo)) (fun s =>
      let l := s.links[k]
      let s := s.modLink k (fun l => { l with txTick := some s.tickNo, tx := none })
      if l.looped then s.modLink k (fun l => { l with tx := s.testTx k })
      else
        match l.ready with
        | some a =>
          let s := s.modLink k (fun l => { l with ready := none })
          if a.tick = s.tickNo then
            let s := s.modLink k (fun l => { l with tx := some a.bytes })
            if s.slotZero k i then
              s.modLink k (fun l => { l with
                sent := ((s.stamp, s.now) :: l.sent).take 256 }.statusSent)
            else s
          else s
        | none =>
          match s.relayDue k i with
          | some (j, f) =>
            let s := { s with relays := s.relays.mapIdx (fun n (b : List RelayFrame) => if n = j then b.drop 1 else b) }
            s.modLink k (fun l => { l with tx := some (s.relayedFrame k i f.bytes), relaySent := l.relaySent + 1 })
          | none => s)

/-! ### Acceptance (Table 7-6) -/

/-- A check fails: the counter, the fault bit, the code. A dropped frame has no other effect (R191). -/
def State.dropFrame (s : State) (k : Fin 8) (f : Link → Link) (bit code : Nat) : State := (s.modLink k f).lnkFault k bit code

/-- Fields of a received frame. -/
def frSrc (b : List Byte) : BitVec 16 := BitVec.ofNat 16 (bytesAt b 4 2)
def frDst (b : List Byte) : BitVec 16 := BitVec.ofNat 16 (bytesAt b 6 2)
def frSeq (b : List Byte) : Word := BitVec.ofNat 32 (bytesAt b 8 4)
def frTxTs (b : List Byte) : Stamp := BitVec.ofNat 48 (bytesAt b 12 6)
def frPayload (b : List Byte) : List Byte := (b.drop 32).take (bytesAt b 30 2)

/-- Bytes `i` to `i + n - 1` are 0. -/
def zeroAt (b : List Byte) (i n : Nat) : Bool := decide (bytesAt b i n = 0)

/-- Section entries hold 0 in bits [26:19]. -/
def entriesOk (b : List Byte) (i n : Nat) : Bool :=
  (List.range n).all (fun j => decide (bytesAt b (i + 4 * j) 4 / 2 ^ 19 % 256 = 0))

/-- Check 6: VERSION, TYPE, FLAGS, LEN and the bytes that must be 0 (R187, R189). -/
def formatOk (lane : Bool) (b : List Byte) : Bool :=
  let ty := (byteAt b 2).toNat
  let fl := (byteAt b 3).toNat
  let len := bytesAt b 30 2
  let seg := fl / 64
  let head := decide (byteAt b 1 = 1 ∧ fl % 8 = 0 ∧ len ≤ 212) && zeroAt b (32 + len) (212 - len) && zeroAt b 250 2 &&
    decide (bytesAt b 4 2 / 2048 % 4 = 0) && (decide (ty = 1 ∧ lane = false) || zeroAt b 18 12)
  head && (match ty with
    | 1 => !lane && decide (seg = 0 ∧ len = 212) && zeroAt b 242 2 && decide (byteAt b 176 &&& 1 = 0) &&
        entriesOk b 198 10 && decide ((byteAt b 240).toNat ≤ 3) && (decide (byteAt b 240 ≠ 0) || zeroAt b 241 1)
    | 2 =>
      let new := (byteAt b 49).toNat
      let rep := (byteAt b 50).toNat
      let sec := (byteAt b 51).toNat
      !lane && decide (seg = 0 ∧ len = 212 ∧ new ≤ 4 ∧ rep ≤ 4 ∧ sec ≤ 8) && decide (byteAt b 48 &&& 1 = 0) &&
        zeroAt b (52 + 16 * new) (64 - 16 * new) && zeroAt b (116 + 16 * rep) (64 - 16 * rep) &&
        zeroAt b (180 + 4 * sec) (32 - 4 * sec) && zeroAt b 212 32 && entriesOk b 180 sec
    | 3 => lane && (match seg with
        | 2 => decide (len = 212)
        | 1 => decide (1 ≤ len ∧ len ≤ 48)
        | 3 => decide (20 ≤ len)
        | _ => false)
    | 5 => lane && decide (seg = 0 ∧ len = 0)
    | 6 => decide (seg = 0)
    | _ => false)

/-- A second segment that fails acceptance at its destination drops the whole packet (R189): the first segment held falls. -/
def State.dropSecond (s : State) (k : Fin 8) (b : List Byte) : State :=
  match (s.links[k]).seg with
  | some (seq, _, _) =>
    if byteAt b 2 = 3 ∧ (byteAt b 3).toNat / 64 = 1 ∧ frSeq b = seq + 1 then s.modLink k (fun l => { l with seg := none }) else s
  | none => s

/-- Received AREA stream from a source address on a link. -/
def State.areaFrom (s : State) (k : Fin 8) (src : BitVec 16) : Option Nat :=
  (s.cfg.streams.zipIdx.find? (fun p => p.1.recv && decide (p.1.link = k ∧ moduleWord p.1.peer = src))).map Prod.snd

/-- The stream of the image that the frame's SRC is the expected source of (check 7). -/
def State.streamOf (s : State) (k : Fin 8) (b : List Byte) : Option StreamRef :=
  let src := frSrc b
  match (byteAt b 2).toNat with
  | 1 => if src = moduleWord (s.linkPeer k) then some (.status k) else none
  | 2 => (s.areaFrom k src).map StreamRef.area
  | 6 => none
  | _ => if h : k.val < 3 then (if src = laneWord k.val s.addr then some (.command ⟨k.val, h⟩) else none) else none

/-- The receive side of a stream, with its link. -/
def State.rxOf (s : State) : StreamRef → Option (Rx × Fin 8)
  | .status k => if 3 ≤ k.val then some ((s.links[k]).rx, k) else none
  | .command i => some ((s.links[laneLink i]).rx, laneLink i)
  | .area i =>
    match s.areas[i]?, s.cfg.streams[i]? with
    | some a, some t => if t.recv then some (a.rx, t.link) else none
    | _, _ => none

/-- Change the receive side of a stream. -/
def State.modRx (s : State) (t : StreamRef) (f : Rx → Rx) : State :=
  match t with
  | .status k => s.modLink k (fun l => { l with rx := f l.rx })
  | .command i => s.modLink (laneLink i) (fun l => { l with rx := f l.rx })
  | .area i => s.modArea i (fun a => { a with rx := f a.rx })

/-- Check 9 (R197): passed, and passed only because it is not applied: for a lane's frame after a tick without a signing engine. -/
def State.ageOk (s : State) (k : Fin 8) (b : List Byte) : Bool × Bool :=
  if k.val < 3 then
    if !s.clk.signed then (true, true)
    else ((s.links[k]).sent.any (fun p => decide (p.1 = frTxTs b ∧ s.now ≤ p.2 + s.maxAge k)), false)
  else
    let age := signed 48 (diff48 s.stamp (frTxTs b))
    (decide (-1000 ≤ age ∧ age ≤ s.maxAge k), false)

/-! ### Content of accepted frames -/

/-- A complete packet reaches the interpreter. -/
def State.takePacket (s : State) (i : Fin 3) (bytes : List Byte) (exempt : Bool) : State :=
  { s with cmd := { s.cmd with inbox := s.cmd.inbox ++ [{ path := .lane i, bytes := bytes, exempt := exempt, at' := s.now }] } }

/-- A COMMAND segment (R189). -/
def State.takeSegment (s : State) (k : Fin 8) (b : List Byte) (exempt : Bool) : State :=
  if h : k.val < 3 then
    let held := (s.links[k]).seg
    let s := s.modLink k (fun l => { l with seg := none })
    match (byteAt b 3).toNat / 64 with
    | 3 => s.takePacket ⟨k.val, h⟩ (frPayload b) exempt
    | 2 => s.modLink k (fun l => { l with seg := some (frSeq b, exempt, frPayload b) })
    | _ =>
      match held with
      | some (seq, x, first) =>
        if frSeq b = seq + 1 then s.takePacket ⟨k.val, h⟩ (first ++ frPayload b) (x || exempt) else s
      | none => s
  else s

/-- An LBR request or answer in a STATUS frame (R218). -/
def State.lbrMessage (s : State) (k : Fin 8) (req no : Byte) : State :=
  let l := s.links[k]
  let mine : Bool := match l.loop with
    | some x => decide (x.kind = LinkLb.lbr) && !x.peer && decide (x.stage = 0 ∧ x.no = no)
    | none => false
  match req.toNat with
  | 1 =>
    match l.loop with
    | none => s.modLink k (fun l => { l with
        loop := some { kind := .lbr, begin := s.now, peer := true, no := no }, testReq := 2, testNo := no })
    | some x => if x.peer = true ∧ x.no = no then s else s.modLink k (fun l => { l with testReq := 3, testNo := no })
  | 2 => if mine then s.modLink k (fun l => { l with
      loop := l.loop.map (fun x => { x with stage := 1 }), testReq := 0, testNo := 0 }) else s
  | 3 => if mine then s.modLink k (fun l => { l with loop := none, testReq := 0, testNo := 0, loopKind := 3, loopRes := 4 }) else s
  | _ => s

/-- A STATUS frame of the neighbour (R187, R208, R213, R218). -/
def State.takeStatus (s : State) (k : Fin 8) (sof : Stamp) (b : List Byte) : State :=
  let p (i n : Nat) : Nat := bytesAt b (32 + i) n
  let sofAt := s.now - diff48 s.stamp sof
  let l := s.links[k]
  let tC3 : Stamp := BitVec.ofNat 48 (bytesAt b 18 6)
  let tP4 : Stamp := BitVec.ofNat 48 (bytesAt b 24 6)
  let a : Int := signed 48 (diff48 sof (frTxTs b))
  let c : Int := signed 48 (diff48 tP4 tC3)
  let fresh := (l.sent.take 2).any (fun x => decide (x.1 = tC3))
  let theta2 := a - c - signed 16 (fieldNat s.cfg.lnkAsym[k] 0 16)
  let delta2 := (a + c).toNat
  let s := s.modLink k (fun l => { l with
    peerSeen := BitVec.ofNat 11 (frSrc b).toNat
    peerState := BitVec.ofNat 3 (p 149 1 / 32), peerDepth := BitVec.ofNat 5 (p 149 1), peerRoot := BitVec.ofNat 16 (p 150 2)
    peerTb := BitVec.ofNat 64 (p 206 2 * 2 ^ 48 + p 152 6)
    peerTs := ((frTxTs b, sof, sofAt) :: l.peerTs).take 8 })
  let s :=
    if fresh then s.modLink k (fun l => { l with
      delta2 := delta2, delay := satNat 16 (roundConv delta2 2).toNat
      offset := BitVec.ofInt 16 (satInt 16 (roundConv theta2 2)) })
    else s
  let s := s.lbrMessage k (byteAt b 240) (byteAt b 241)
  s.sourceStatus k (if fresh then some (theta2, delta2) else none)

/-- A remote record reaches the receive queue of 64 (R201); one that finds it full is dropped, and its point's data is lost. -/
def State.takeRemote (s : State) (k : Fin 8) (r : AxleRec) : State :=
  if s.rxQueue.length < 64 then { s with rxQueue := s.rxQueue ++ [(r, k, s.now)] }
  else (s.lnkFault k 8 0x080A).postLink (.lost k r.modAddr (1#64 <<< r.point.toNat))

/-- An AREA frame (R148, R198, R200): `gap` frames are missing before it; `first`: it sets a fresh reference. -/
def State.takeArea (s : State) (k : Fin 8) (i : Nat) (peer : BitVec 11) (gap : Nat) (first : Bool) (b : List Byte) : State :=
  match s.areas[i]? with
  | none => s
  | some a =>
    let cond := byteAt b 48
    let ok : BitVec 64 := BitVec.ofNat 64 (bytesAt b 32 8)
    let loops : BitVec 64 := BitVec.ofNat 64 (bytesAt b 40 8)
    let bad : BitVec 64 := if cond.getLsbD 7 then BitVec.allOnes 64 else ~~~ok
    let lost := (decide (2 ≤ gap) && !first) || cond.getLsbD 1
    let recs (o n : Nat) : List AxleRec := (List.range n).map (fun j => AxleRec.ofBytes ((b.drop (o + 16 * j)).take 16))
    let new := recs 52 (byteAt b 49).toNat
    let rep := if gap = 1 ∧ first = false then recs 116 (byteAt b 50).toNat else []
    let s := s.modArea i (fun a => { a with
      pointOk := ok, pointLoop := loops, cond := cond, lostPts := bad
      secs := (List.range (byteAt b 51).toNat).map (fun j => BitVec.ofNat 32 (bytesAt b (180 + 4 * j) 4)) })
    let s := if lost then
        ((s.modLink k (fun l => { l with fault := setBit l.fault 9, timeouts := satInc l.timeouts })).lnkFault k 6 0x0808).postLink
          (.lost k peer (BitVec.allOnes 64))
      else s
    let newly := bad &&& ~~~a.lostPts
    let s := if newly = 0 then s else s.postLink (.lost k peer newly)
    let s := (List.range 64).foldl (fun (s : State) (j : Nat) =>
      let was := a.pointLoop.getLsbD j
      let now := loops.getLsbD j
      if was = now then s else s.postLink (.remoteLoop k peer (BitVec.ofNat 6 j) now)) s
    if s.tbs.valid then (rep ++ new).foldl (fun s r => s.takeRemote k r) s else s

/-! ### Stream periods (R198) -/

/-- Period of a stream in ns. -/
def State.periodOf (s : State) : StreamRef → Nat
  | .status k => s.linkCycle k
  | .command i => s.linkCycle (laneLink i)
  | .area i =>
    match s.cfg.streams[i]? with
    | some t => if t.ms4 then 4000000 else 1000000
    | none => 1000000

/-- Table 7-7: the consequence of a timeout. -/
def State.streamLost (s : State) (t : StreamRef) : State :=
  match t with
  | .status _ => s.judgeSource
  | .command _ => s
  | .area i =>
    match s.cfg.streams[i]? with
    | some d => (s.modArea i (fun a => { a with lostPts := BitVec.allOnes 64 })).postLink (.lost d.link d.peer (BitVec.allOnes 64))
    | none => s

/-- The next period of a stream ends (R198). -/
def State.endPeriod (s : State) (t : StreamRef) : State :=
  match s.rxOf t with
  | none => s
  | some (rx, k) =>
    let missed := if rx.got then 0 else rx.missed + 1
    let out := decide (3 ≤ missed) && !rx.timedOut
    let s := s.modRx t (fun r => { r with
      periodEnd := r.periodEnd + s.periodOf t, got := false, missed := missed, timedOut := r.timedOut || out })
    if out then
      ((s.modLink k (fun l => { l with timeouts := satInc l.timeouts })).lnkFault k 6 0x0808).streamLost t
    else s

/-- Every period of a stream that has ended by now is closed before a frame is accepted: one accepted at a boundary belongs to the
new period (R198). Of a row of empty periods the last four decide. -/
def State.closePeriods (s : State) (t : StreamRef) : State :=
  match s.rxOf t with
  | none => s
  | some (rx, _) =>
    let n := (s.tb - rx.periodEnd) / s.periodOf t
    let s := if n ≤ 4 then s else s.modRx t (fun r => { r with periodEnd := r.periodEnd + (n - 4) * s.periodOf t, got := false })
    (List.range (min n 4)).foldl (fun s _ => s.endPeriod t) s

/-- SRC is the module's own address; TEST frames are never checked against R193 (R220). -/
def State.fromSelf (s : State) (b : List Byte) : Bool := decide (frSrc b = moduleWord s.addr ∧ byteAt b 2 ≠ 6)

/-- An address conflict (R41, R193). -/
def State.beginConflict (s : State) (k : Fin 8) : State :=
  let s := s.dropFrame k (fun l => { l with errAddr := satInc l.errAddr }) 11 0x080E
  { s with conflict := true }.beginCause .conflict

/-- A frame to the module that passes checks 1 to 6 (checks 7 to 9 and acceptance). -/
def State.acceptFrame (s : State) (k : Fin 8) (sof : Stamp) (b : List Byte) : State :=
  if s.fromSelf b then s.beginConflict k
  else
    match s.streamOf k b with
    | none => s.dropFrame k (fun l => { l with errAddr := satInc l.errAddr }) 2 0x0804
    | some t =>
      match s.rxOf t with
      | none => s
      | some _ =>
        let s := s.closePeriods t
        let rx := ((s.rxOf t).map Prod.fst).getD {}
        let first := rx.last.isNone || rx.timedOut
        let n := (frSeq b - rx.last.getD 0).toNat
        if first = false ∧ (n = 0 ∨ 65536 < n) then
          s.dropFrame k (fun l => { l with errOld := satInc l.errOld }) 3 0x0805
        else
          let age := s.ageOk k b
          if !age.1 then (s.dropSecond k b).dropFrame k (fun l => { l with errAge := satInc l.errAge }) 5 0x0807
          else
            let gap := if first then 0 else n - 1
            let s := s.modLink k (fun l => { l with rxOk := l.rxOk + 1, up := true, loopDown := false,
                                                    errMissing := satAdd l.errMissing gap })
            let s := if gap = 0 then s else s.lnkFault k 4 0x0806
            let s := s.modRx t (fun r => { r with last := some (frSeq b), got := true, timedOut := false })
            match t with
            | .status k => s.takeStatus k sof b
            | .command _ => if byteAt b 2 = 3 then s.takeSegment k b age.2 else s
            | .area i =>
              match s.cfg.streams[i]? with
              | some d => s.takeArea k i d.peer gap first b
              | none => s

/-- A relay entry for a frame (R202): for one that another module sources, which is no TEST frame (R40, R220). -/
def State.relayFor (s : State) (k : Fin 8) (b : List Byte) : Option (Nat × RelayDef) :=
  if byteAt b 2 = 6 ∨ frSrc b = moduleWord s.addr then none
  else (s.cfg.relays.zipIdx.find? (fun p => decide (p.1.src = frSrc b ∧ p.1.dst = frDst b ∧ p.1.inLink = k))).map
    (fun p => (p.2, p.1))

/-- A frame to be relayed enters its entry's buffer of two (R202); of an outgoing link that is out of service nothing changes
(LNK_CFG.USED). -/
def State.storeRelay (s : State) (k : Fin 8) (j : Nat) (r : RelayDef) (b : List Byte) : State :=
  let s := s.modLink k (fun l => { l with rxOk := l.rxOk + 1, up := true, loopDown := false })
  let full := decide (2 ≤ (s.relays.getD j []).length)
  let s := { s with relays := s.relays.mapIdx (fun n (q : List RelayFrame) =>
    if n = j then (if full then q.drop 1 else q) ++ [{ bytes := b, at' := s.now }] else q) }
  if full && s.linkUsed r.outLink then
    (s.modLink r.outLink (fun l => { l with relayDropped := satInc l.relayDropped })).lnkFault r.outLink 8 0x080A
  else s

/-- Check 4 for a lane's frame: its SRC names the lane of this link. -/
def laneOk (k : Fin 8) (b : List Byte) : Bool :=
  let src := frSrc b
  !src.getLsbD 15 || decide (fieldNat (src.setWidth 32) 13 2 = k.val + 1)

/-- FRAME_RECEIVED (R191): the checks of Table 7-6 in order, at the acceptance instant. A frame of the module's own that a relay
table routes back to it is an address conflict (R193), whatever its DST. -/
def execFrameReceived (dt : Nat) (k : Fin 8) (lineOk : Bool) (sof : Stamp) (bytes : List Byte) (s : State) : Out :=
  let s := s.pass dt
  if bytes.length ≠ 256 then .fault .notAnEvent
  else
    s.when (!s.inReset && s.linkUsed k && (s.links[k]).sync && !(s.links[k]).looped) (fun s =>
      let b := bytes
      let own := decide (frDst b = moduleWord s.addr)
      let sc := bytesAt b 244 4
      if !lineOk then s.dropFrame k (fun l => { l with errSync := satInc l.errSync }) 7 0x0809
      else if bytesAt b 252 4 ≠ (crc32c (b.take 252)).toNat then
        let s := s.dropFrame k (fun l => { l with errCrc := satInc l.errCrc }) 0 0x0801
        { s with mdl := { s.mdl with irqCrc := s.mdl.irqCrc ||| (1 <<< k.val) } }
      else if 31 < (byteAt b 248).toNat then s.dropFrame k (fun l => { l with errAddr := satInc l.errAddr }) 10 0x080C
      else if own = false ∧ 3 ≤ k.val ∧ s.fromSelf b = true then s.beginConflict k
      else if laneOk k b = false ∨ (own = false ∧ (k.val < 3 ∨ (s.relayFor k b).isNone)) then
        s.dropFrame k (fun l => { l with errAddr := satInc l.errAddr }) 2 0x0804
      else if own = false then
        match s.relayFor k b with
        | some (j, r) => s.storeRelay k j r b
        | none => s
      else if scPrime ≤ sc ∨ sc ≠ (safetyCode s.cfg.seed b).toNat then
        (s.dropSecond k b).dropFrame k (fun l => { l with errSc := satInc l.errSc }) 1 0x0802
      else if formatOk (decide (k.val < 3)) b = false then
        ((s.dropSecond k b).modLink k (fun l => { l with errFormat := satInc l.errFormat })).fault 0x0803 k.val
      else s.acceptFrame k sof b)

/-! ### Ends of stream periods (R198) -/

/-- STREAM_PERIOD_END (R198): the next period boundary of the stream, once the time base has reached it. -/
def execStreamPeriodEnd (dt : Nat) (t : StreamRef) (s : State) : Out :=
  let s := s.pass dt
  match s.rxOf t with
  | none => .next s
  | some (rx, k) =>
    s.when (!s.inReset && s.linkUsed k && decide (rx.periodEnd + s.periodOf t ≤ s.tb)) (fun s => s.endPeriod t)

/-- After a step of the time base every stream's periods run from its present value. -/
def State.realignPeriods (s : State) : State :=
  let f (p : Nat) (r : Rx) : Rx := { r with periodEnd := s.tb / p * p }
  { s with
    links := Vector.ofFn (fun (k : Fin 8) =>
      let l := s.links[k]
      { l with rx := f (s.linkCycle k) l.rx })
    areas := s.areas.mapIdx (fun i a => { a with rx := f (s.periodOf (.area i)) a.rx }) }

/-! ### Loopbacks (R216 to R219) -/

/-- A loopback of a link ends with a result; a failed one leaves the link in TIMEOUT until the next accepted frame. -/
def State.endLinkLoop (s : State) (k : Fin 8) (kind : BitVec 2) (res : BitVec 3) (delay : BitVec 24) : State :=
  let looped := (s.links[k]).looped
  let s := s.modLink k (fun l => { l with
    loop := none, testReq := 0, testNo := 0, loopKind := kind, loopRes := res, loopDelay := delay
    loopDown := l.loopDown || decide (res = 2) })
  let s := if looped then s.postLink (.linkLoop k false) else s
  if res = 2 then s.lnkFault k 12 0x080D else s

/-- The instant at which the loop of a link began. -/
def State.loopBegin (s : State) (k : Fin 8) : Nat := ((s.links[k]).loop.map LinkLoop.begin).getD 0

/-- The loop of a link of the kind that has run since `begin` for at least `ns`. -/
def State.linkLoopDue (s : State) (k : Fin 8) (kind : LinkLb) (ns : Nat) : Bool :=
  match (s.links[k]).loop with
  | some x => decide (x.kind = kind ∧ x.begin + ns ≤ s.now)
  | none => false

/-- The TEST frames of a loopback of number below `n` that have come back with bits inverted, each with its received form. -/
def State.testErrs (s : State) (k : Fin 8) (t n : Nat) (errs : List (Nat × Nat)) : List (List Byte × List Byte) :=
  let is := (errs.map Prod.fst).foldl (fun (l : List Nat) i => if l.contains i ∨ n ≤ i then l else l ++ [i]) []
  is.map (fun i =>
    let f := s.testFrameNo k t i
    (f, (errs.filter (fun p => decide (p.1 = i))).foldl (fun b p => flipBit b p.2) f))

/-- A TEST frame has come back with its payload intact: checks 2, 5 and 6 hold and the payload is the one sent. -/
def testIntact (seed : Word) (lane : Bool) (sent got : List Byte) : Bool :=
  crcFits 0 got && scFits seed 0 got && formatOk lane got && decide (frPayload got = frPayload sent)

/-- TEST frames of a loopback of `ms` milliseconds on a link: one in each slot. -/
def State.testCount (s : State) (k : Fin 8) (ms : Nat) : Nat := ms * 1000000 / s.slotPeriod k

/-- Unit 0 computes the reference CRC-32C of TEST frames (R242) and compares it with the CRC that each has come back with: those with
inverted bits, then the last one. -/
def State.refCrc (s : State) (fs : List (List Byte × List Byte)) : State :=
  fs.foldl (fun s p => (s.useUnit 0 2 (p.1.take 252) (BitVec.ofNat 64 (bytesAt p.2 252 4))).2) s

/-- LBA_END (R216): after 20 ms, with the bits that were inverted on the way back: frame number and bit. -/
def execLbaEnd (dt : Nat) (k : Fin 8) (errs : List (Fin 80 × Fin 2048)) (delay ref : BitVec 24) (s : State) : Out :=
  let s := s.pass dt
  s.when (!s.inReset && s.linkLoopDue k .lba 20000000) (fun s =>
    let t := s.loopBegin k
    let n := s.testCount k 20
    let bad := s.testErrs k t n (errs.map (fun p => (p.1.val, p.2.val)))
    let last := s.testFrameNo k t (n - 1)
    let pass := bad.all (fun p => testIntact s.seed (decide (k.val < 3)) p.1 p.2) &&
      decide (absDiff delay.toNat ref.toNat ≤ 16)
    (s.refCrc (bad ++ [(last, last)])).endLinkLoop k 1 (if pass then 1 else 2) delay)

/-- LBF_RUN (R217): the next slot in which the link has nothing to send. Three TEST frames pass from the framer's transmit side to
the receive checkers; `crc` and `sc` are what the CRC checker and the two safety-code checkers compute amiss. -/
def execLbfRun (dt : Nat) (k : Fin 8) (crc : Word) (sc : Word × Word) (s : State) : Out :=
  let (scA, scB) := sc
  let s := s.pass dt
  let free := (s.slotAt k s.clk.tickTb).isSome && decide ((s.links[k]).txTick = some s.tickNo) && (s.links[k]).tx.isNone
  s.when (!s.inReset && s.linkLoopDue k .lbf 0 && free) (fun s =>
    let seed := s.seed
    let f := s.testFrame k s.clk.tickTb 0
    let f2 := flipBit f 2047
    let cut := flipBit (f.take 252) 1983
    let f3 := cut ++ toBytes 4 (crc32c cut).toNat
    let pass := crcFits crc f && scFits seed scA f && scFits seed scB f && formatOk (decide (k.val < 3)) f &&
      !crcFits crc f2 && crcFits crc f3 && !scFits seed scA f3 && !scFits seed scB f3
    (s.refCrc [(f, f), (f, f), (f3, f3)]).endLinkLoop k 2 (if pass then 1 else 2) 0)

/-- LBF_NO_SLOT (R217): no free slot for 100 ms. -/
def execLbfNoSlot (dt : Nat) (k : Fin 8) (s : State) : Out :=
  let s := s.pass dt
  s.when (!s.inReset && s.linkLoopDue k .lbf 100000000) (fun s => s.endLinkLoop k 2 3 0)

/-- LBR_REQUEST_TIMEOUT (R218): no answer within 8 link cycles. -/
def execLbrRequestTimeout (dt : Nat) (k : Fin 8) (s : State) : Out :=
  let s := s.pass dt
  let asking : Bool := match (s.links[k]).loop with
    | some x => !x.peer && decide (x.stage = 0)
    | none => false
  s.when (!s.inReset && s.linkLoopDue k .lbr (8 * s.linkCycle k) && asking) (fun s => s.endLinkLoop k 3 2 0)

/-- LBR_LOOP_START (R218): the start of the cycle that follows the acknowledgement, at both ends. -/
def execLbrLoopStart (dt : Nat) (k : Fin 8) (s : State) : Out :=
  let s := s.pass dt
  let acked : Bool := match (s.links[k]).loop with
    | some x => decide (x.kind = LinkLb.lbr ∧ x.stage = 1)
    | none => false
  s.when (!s.inReset && acked && decide (s.clk.tickTb % s.linkCycle k = 0) && decide (s.now = s.clk.tickAt) &&
      decide ((s.links[k]).txTick ≠ some s.tickNo)) (fun s =>
    let s := s.modLink k (fun l => { l with
      loop := l.loop.map (fun x => { x with stage := 2, begin := s.now }), testReq := 0, testNo := 0, armed := none, ready := none })
    (s.postLink (.linkLoop k true)).judgeSource)

/-- LBR_END (R218): after 50 ms of the loop, with the bits that were inverted on the way. The peer's end returns to normal operation
at the next cycle start and has no result. -/
def execLbrEnd (dt : Nat) (k : Fin 8) (errs : List (Fin 200 × Fin 2048)) (delay : BitVec 24) (s : State) : Out :=
  let s := s.pass dt
  match (s.links[k]).loop with
  | none => .next s
  | some x =>
    let over' := !x.peer || (s.atTick && decide (s.clk.tickTb % s.linkCycle k = 0))
    s.when (!s.inReset && decide (x.stage = 2) && s.linkLoopDue k .lbr 50000000 && over') (fun s =>
      if x.peer then (s.modLink k (fun l => { l with loop := none })).postLink (.linkLoop k false)
      else
        let bad := s.testErrs k x.begin (s.testCount k 50) (errs.map (fun p => (p.1.val, p.2.val)))
        let pass := bad.all (fun p => testIntact s.seed false p.1 p.2) && decide (absDiff delay.toNat (s.links[k]).delta2 ≤ 50)
        s.endLinkLoop k 3 (if pass then 1 else 2) delay)

/-- A loopback of a link starts at its effective tick (R216 to R218). -/
def State.startLinkLoop (s : State) (k : Fin 8) (kind : LinkLb) : State :=
  match kind with
  | .lba =>
    let s := s.modLink k (fun l => { l with loop := some { kind := .lba, begin := s.now } })
    (s.postLink (.linkLoop k true)).judgeSource
  | .lbf => s.modLink k (fun l => { l with loop := some { kind := .lbf, begin := s.now } })
  | .lbr => s.modLink k (fun l =>
      let no := if l.testLast = 0xFF then 1 else l.testLast + 1
      { l with loop := some { kind := .lbr, begin := s.now, no := no }, testReq := 1, testNo := no, testLast := no })

end Sys2Proof.Machine
end

