-- ==== Sys2Proof/Machine/Tables.lean ====
section
/-! DEFINITION. The read-only coefficient sets of the filter chain: the presets (R95), the resampler's phase sets (R92) and
the DC blocker's ALPHA (R88). The numbers are those formulas evaluated with 70 decimal digits. -/

namespace Sys2Proof.Machine

/-- Lead, taps 0 to 117 (R95); the set is symmetric. -/
def leadHalf : List Int :=
  [0, -1, -6, -13, -25, -39, -56, -77, -99, -123, -146, -170, -190, -208, -220, -224, -220, -205, -178, -136, -77, 0, 97, 214] ++
  [354, 517, 704, 913, 1145, 1398, 1670, 1960, 2264, 2577, 2897, 3216, 3529, 3830, 4111, 4364, 4581, 4752, 4868, 4920, 4898, 4793, 4596, 4298] ++
  [3890, 3366, 2719, 1944, 1039, 0, -1172, -2474, -3903, -5451, -7110, -8867, -10709, -12617, -14571, -16550, -18527, -20474, -22363, -24159, -25829, -27337, -28645, -29716] ++
  [-30511, -30991, -31117, -30853, -30161, -29007, -27359, -25188, -22467, -19175, -15293, -10808, -5711, 0, 6323, 13249, 20764, 28847, 37471, 46603, 56204, 66229, 76627, 87343] ++
  [98317, 109482, 120771, 132112, 143429, 154646, 165685, 176469, 186918, 196957, 206510, 215505, 223872, 231548, 238471, 244587, 249848, 254212, 257643, 260113, 261604, 262098]

/-- Iron, taps 0 to 57. -/
def ironHalf : List Int :=
  [0, -13, -52, -114, -186, -255, -297, -288, -199, 0, 334, 825, 1486, 2314, 3295, 4390, 5544, 6675, 7681, 8439, 8811, 8652, 7813, 6161] ++
  [3582, 0, -4610, -10211, -16693, -23863, -31441, -39060, -46271, -52553, -57328, -59986, -59905, -56487, -49186, -37541, -21211, 0, 26115, 56970, 92202, 131247, 173352, 217589] ++
  [262886, 308064, 351875, 393054, 430369, 462671, 488943, 508343, 520243, 524258]

/-- Aluminium, taps 0 to 24. -/
def alumHalf : List Int :=
  [0, -162, -467, -363, 933, 4080, 9107, 14876, 18789, 17019, 5509, -18319, -53496, -93781, -127106, -136855, -105138, -17555, 131740, 336217, 575813, 819277, 1029799, 1172718] ++
  [1223338]

/-- A symmetric set of odd length from its first half and centre. -/
def mirror (h : List Int) : List Int := h ++ (h.dropLast).reverse

/-- The coefficient codes of a preset by SEL (Table 3-6): 1 Lead, 2 Iron, 3 Aluminium. -/
def presetTaps (sel : Nat) : List Int :=
  match sel with
  | 1 => mirror leadHalf
  | 2 => mirror ironHalf
  | _ => mirror alumHalf

/-- Phase sets 0 to 7 (R92). -/
def phaseRows0 : List (List Int) :=
  [[0, 0, 0, 0, 0, 0, 0, 8388608, 0, 0, 0, 0, 0, 0, 0, 0],
   [-264, 1421, -4440, 10993, -23950, 50077, -120828, 8385108, 125161, -51282, 24510, -11281, 4580, -1481, 284, 0],
   [-509, 2781, -8731, 21677, -47291, 98856, -237225, 8374609, 254548, -103669, 49531, -22828, 9292, -3019, 586, 0],
   [-736, 4078, -12867, 32031, -69978, 146247, -349099, 8357134, 388044, -157059, 75008, -34615, 14126, -4612, 908, -2],
   [-943, 5310, -16840, 42036, -91967, 192167, -456370, 8332705, 525522, -211341, 100886, -46618, 19073, -6256, 1248, -4],
   [-1131, 6476, -20645, 51675, -113219, 236537, -558966, 8301364, 666850, -266403, 127107, -58809, 24121, -7949, 1607, -7],
   [-1301, 7576, -24276, 60932, -133697, 279286, -656825, 8263157, 811886, -322126, 153612, -71161, 29261, -9687, 1983, -12],
   [-1453, 8607, -27728, 69792, -153365, 320346, -749893, 8218149, 960478, -378389, 180337, -83644, 34480, -11467, 2377, -19]]

/-- Phase sets 8 to 15 (R92). -/
def phaseRows1 : List (List Int) :=
  [[-1587, 9570, -30998, 78242, -172192, 359655, -838126, 8166410, 1112469, -435065, 207219, -96229, 39765, -13285, 2788, -28],
   [-1705, 10465, -34082, 86270, -190150, 397157, -921489, 8108020, 1267693, -492023, 234192, -108884, 45105, -15136, 3215, -40],
   [-1805, 11291, -36977, 93865, -207211, 432802, -999955, 8043070, 1425976, -549131, 261188, -121577, 50485, -17016, 3657, -54],
   [-1890, 12049, -39681, 101020, -223354, 466543, -1073508, 7971665, 1587138, -606249, 288138, -134276, 55893, -18921, 4113, -72],
   [-1959, 12739, -42192, 107725, -238558, 498343, -1142139, 7893918, 1750990, -663239, 314970, -146946, 61312, -20845, 4582, -93],
   [-2014, 13362, -44509, 113976, -252805, 528167, -1205850, 7809943, 1917338, -719955, 341614, -159552, 66730, -22784, 5064, -117],
   [-2054, 13917, -46632, 119767, -266082, 555986, -1264650, 7719880, 2085982, -776252, 367996, -172060, 72130, -24732, 5557, -145],
   [-2081, 14408, -48562, 125095, -278376, 581778, -1318557, 7623866, 2256715, -831980, 394041, -184434, 77496, -26683, 6059, -177]]

/-- Phase sets 16 to 23 (R92). -/
def phaseRows2 : List (List Int) :=
  [[-2096, 14834, -50298, 129958, -289678, 605526, -1367598, 7522047, 2429325, -886989, 419675, -196637, 82814, -28632, 6569, -212],
   [-2098, 15196, -51842, 134356, -299983, 627216, -1411809, 7414588, 2603592, -941125, 444822, -208633, 88066, -30573, 7086, -251],
   [-2090, 15497, -53195, 138288, -309287, 646843, -1451232, 7301648, 2779296, -994235, 469407, -220383, 93237, -32499, 7608, -295],
   [-2071, 15738, -54361, 141756, -317589, 664404, -1485918, 7183406, 2956207, -1046161, 493353, -231852, 98309, -34404, 8133, -342],
   [-2043, 15920, -55341, 144764, -324891, 679903, -1515927, 7060044, 3134094, -1096747, 516584, -243001, 103265, -36282, 8660, -394],
   [-2007, 16046, -56140, 147315, -331198, 693347, -1541325, 6931753, 3312723, -1145835, 539023, -253793, 108088, -38126, 9186, -449],
   [-1962, 16118, -56759, 149416, -336516, 704751, -1562187, 6798722, 3491852, -1193268, 560596, -264190, 112762, -39929, 9710, -508],
   [-1910, 16137, -57204, 151071, -340855, 714132, -1578592, 6661164, 3671241, -1238888, 581226, -274156, 117268, -41685, 10229, -570]]

/-- Phase sets 24 to 31 (R92). -/
def phaseRows3 : List (List Int) :=
  [[-1852, 16105, -57479, 152289, -344226, 721512, -1590628, 6519283, 3850645, -1282536, 600838, -283652, 121589, -43386, 10742, -636],
   [-1789, 16026, -57588, 153078, -346644, 726917, -1598390, 6373294, 4029817, -1324056, 619361, -292642, 125709, -45025, 11246, -706],
   [-1721, 15901, -57537, 153448, -348123, 730380, -1601979, 6223418, 4208508, -1363291, 636720, -301090, 129610, -46596, 11738, -778],
   [-1649, 15733, -57331, 153407, -348683, 731935, -1601500, 6069882, 4386468, -1400088, 652845, -308960, 133275, -48091, 12218, -853],
   [-1573, 15524, -56975, 152969, -348343, 731621, -1597067, 5912915, 4563446, -1434292, 667666, -316218, 136687, -49503, 12681, -930],
   [-1495, 15276, -56476, 152144, -347126, 729481, -1588795, 5752752, 4739192, -1465753, 681115, -322829, 139829, -50825, 13127, -1009],
   [-1415, 14993, -55840, 150945, -345054, 725562, -1576809, 5589628, 4913454, -1494322, 693127, -328759, 142686, -52050, 13551, -1089],
   [-1334, 14676, -55072, 149386, -342154, 719912, -1561235, 5423789, 5085982, -1519854, 703637, -333977, 145241, -53171, 13953, -1171]]

/-- Phase set 32 before its adjustment: taps 7 and 8 are equal and largest, and one of them takes -1054. -/
def phaseRow32 : List Int :=
  [-1252, 14329, -54180, 147479, -338452, 712585, -1542204] ++
  (if Config.phase32First then [5255472, 5256526] else [5256526, 5255472]) ++
  [-1542204, 712585, -338452, 147479, -54180, 14329, -1252]

/-- Phase set φ, 0 to 64 (R92): g is even, so set 64 − φ is set φ reversed. -/
def phaseSet (p : Nat) : List Int :=
  let row (i : Nat) : List Int := (phaseRows0 ++ phaseRows1 ++ phaseRows2 ++ phaseRows3).getD i []
  if p < 32 then row p
  else if p = 32 then phaseRow32
  else if p = 64 then (row 0).reverse
  else (row (64 - p)).reverse

/-- ALPHA of a DC_CORNER code (R88, Table 3-5). -/
def dcAlpha (corner : Nat) : Int :=
  [5622, 11244, 28110, 56221, 112441, 281096, 562173].getD corner 0

end Sys2Proof.Machine
end

