-- ==== Sys2Proof/Machine/Filter.lean ====
section
/-! DEFINITION. One channel pipeline (R80 to R102): decimation, DC blocker, resampler, single-cycle path, chip sums, and the
effect of resets and mode entries. The functions act on one channel. -/

namespace Sys2Proof.Machine
open Sys2Proof

/-! ### Settings (R91 to R98, R102) -/

/-- Settling length S (Table 3-8). -/
def settleLen (sel : BitVec 2) (m pd : Nat) : Nat :=
  match sel.toNat with
  | 1 => 96
  | 2 => 48
  | 3 => 24
  | _ => 8 * m + (pd + 255) / 256

/-- Group delay in ns by path (R102): the FIR, the fixed front part of 78.5 modulator periods, and R92's delay. -/
def groupDelay (sel : BitVec 2) (m pd : Nat) : Nat :=
  let fixed (q2 : Nat) : Nat := 32 * q2 + 157
  match sel.toNat with
  | 1 => (roundConv (250000 * fixed 234) 3072).toNat
  | 2 => (roundConv (250000 * fixed 114) 3072).toNat
  | 3 => (roundConv (250000 * fixed 48) 3072).toNat
  | _ => (roundConv (250000 * (fixed 255 * m + 2048 * m + 3072 + 12 * pd)) (3072 * m)).toNat

/-- What a channel's outputs depend on outside the channel. `src`, `tgt`: the coefficient set in use and the target of a
fade; `track`: no cause of R89 outside the channel holds; `blind`: a cause of Table 3-7 outside the channel applies. -/
structure ChanEnv where
  m : Nat
  pd : Nat
  alpha : Int
  src : List Int
  tgt : List Int
  track : Bool
  blind : Bool
  /-- LB2 runs: its pattern (R103). -/
  lb2 : Option (List Bool) := none
  /-- Absolute number of the modulator period that begins at the last tick. -/
  modBase : Nat
  deriving DecidableEq, Repr

/-! ### Correlation (R58) -/

/-- Chip sum of one modulator bit: periods 25 to 120 after the chip edge count; a new chip or code period closes the old. A
code period that begins while the channel's last sample is not VALID overlaps a blind interval. -/
def Chan.correlate (c : Chan) (bit : Bool) : Chan :=
  let g := 25 * c.modIdx / 3072
  let edge := (3072 * g + 24) / 25
  let off := c.modIdx - edge
  let k := c.corr
  let v : Int := if 25 ≤ off ∧ off ≤ 120 then (if bit then 1 else -1) else 0
  let c := { c with modIdx := c.modIdx + 1 }
  if g / 64 ≠ k.period then
    { c with corrDone := some { k with sums := k.cur :: k.sums }, corr := { period := g / 64, chip := g, cur := v, blind := !c.out.valid } }
  else if g ≠ k.chip then { c with corr := { k with chip := g, sums := k.cur :: k.sums, cur := v } }
  else { c with corr := { k with cur := k.cur + v } }

/-! ### Decimation (R81, R82) -/

/-- Five integrators, each adding the newest value of the one before. -/
def integrate (v : Vector (BitVec 27) 5) (x : BitVec 27) : Vector (BitVec 27) 5 :=
  let a0 := v[0] + x
  let a1 := v[1] + a0
  let a2 := v[2] + a1
  let a3 := v[3] + a2
  #v[a0, a1, a2, a3, v[4] + a3]

/-- Five combs of differential delay 1: the new delay registers and the output. -/
def combs (v : Vector (BitVec 27) 5) (x : BitVec 27) : Vector (BitVec 27) 5 × BitVec 27 :=
  let d0 := x - v[0]
  let d1 := d0 - v[1]
  let d2 := d1 - v[2]
  let d3 := d2 - v[3]
  (#v[x, d0, d1, d2, d3], d3 - v[4])

/-- x := reduce(C, 3) + 2^22, saturated (R81). -/
def cicOut (c : BitVec 27) : Nat :=
  (clampInt 0 (2 ^ 23 - 1) (reduce c.toInt 3 + 2 ^ 22)).toNat

/-- Σ h[i] · x[i]. -/
def dot : List Int → List Nat → Int
  | h :: hs, x :: xs => h * (x : Int) + dot hs xs
  | _, _ => 0

/-- Coefficients of FIR output k of a fade (R86). -/
def blend (k : Nat) : List Int → List Int → List Int
  | a :: as, b :: bs => reduce ((255 - (k : Int)) * a + ((k : Int) + 1) * b) 8 :: blend k as bs
  | _, _ => []

/-- The coefficient set of the next FIR output: before the effective tick of a fade still the source bank's. -/
def Chan.taps (c : Chan) (e : ChanEnv) : List Int :=
  match c.fade with
  | some f => if 0 < f.wait then e.src else if f.done ≤ 255 then blend f.done e.src e.tgt else e.tgt
  | none => e.src

/-- One FIR output of a fade has been made (R86). -/
def Fade.next (f : Fade) : Fade := if 0 < f.wait then { f with wait := f.wait - 1 } else { f with done := f.done + 1 }

/-- y := x − reduce(b, 32), saturated to 40 bits (R88). -/
def dcOut (x b : Int) : Int := satInt 40 (x - reduce b 32)

/-- The channel itself lets b track (R89): no single-cycle mode, no settling, no blind interval of its own, not FROZEN. -/
def Chan.tracks (c : Chan) : Bool :=
  c.scm.isNone && !c.settling && decide (c.settleLeft = 0 ∧ c.satLeft = 0) && !c.ovl && !c.dcFrozen && !c.resetNow

/-- The expected absolute tap of the LB2 pattern (R103): 2^23 · ones / 8, with 16 fractional bits. -/
def lb2Tap (p : List Bool) : Int := (countTrue p : Int) * 2 ^ 36

/-- One FIR output (R82, R83, R88), with the number of saturations. `n` is the number of outputs of LB2's settling. -/
def Chan.firOutput (e : ChanEnv) (c : Chan) : Chan × Bool :=
  let raw := reduce (dot (c.taps e) c.xHist) 7
  let x := satInt 40 raw
  let y := dcOut x c.base
  let b := if e.track ∧ c.tracks = true then c.base + reduce (e.alpha * (x * 2 ^ 32 - c.base)) 32 else c.base
  let bad : Bool := match e.lb2 with
    | some p => decide (settleLen c.sel e.m e.pd ≤ c.lb2Out) && decide (x ≠ lb2Tap p)
    | none => false
  ({ c with
      tapHist := x :: c.tapHist.take 479
      yHist := y :: c.yHist.take 127
      base := b
      firCount := c.firCount + 1
      fade := c.fade.map Fade.next
      lb2Bad := c.lb2Bad || bad }, decide (raw ≠ x))

/-- One modulator bit into the pipeline; LB2 replaces the decimator input, not the correlation (R103). -/
def Chan.pushBit (e : ChanEnv) (cs : Chan × Bool) (bit : Bool) : Chan × Bool :=
  let c := cs.1.correlate bit
  let inp : Bool := match e.lb2 with
    | some p => if c.resetNow then bit else p.getD (c.lb2Mod % 8) false
    | none => bit
  let ig := integrate c.integ (if inp then 1 else -1)
  let c := { c with integ := ig, scmWin := bit :: c.scmWin.take 1535, lb2Mod := c.lb2Mod + 1 }
  if c.cicPhase + 1 < 32 then ({ c with cicPhase := c.cicPhase + 1 }, cs.2)
  else
    let r := combs c.comb ig[4]
    let c : Chan := { c with cicPhase := 0, comb := r.1, xHist := cicOut r.2 :: c.xHist.take 255 }
    if c.firPhase + 1 < 4 then ({ c with firPhase := c.firPhase + 1 }, cs.2)
    else
      let o := Chan.firOutput e { c with firPhase := 0 }
      (o.1, cs.2 || o.2)

/-- A running fade completes at once (R87). -/
def Chan.endFade (c : Chan) : Chan :=
  { c with bank := (match c.fade with | some f => f.target | none => c.bank), fade := none }

/-- Histories cleared (R98, R100): CIC, FIR, resampler and the single-cycle window. The decimation phase stays. -/
def Chan.clearHist (c : Chan) : Chan :=
  { c with
    integ := Vector.replicate 5 0, comb := Vector.replicate 5 0
    xHist := [], yHist := [], tapHist := [], scmWin := [] }

/-! ### Resampler (R92) and output -/

/-- Input position of output `j` of the frame in 1/65,536 Tin, counted from the FIR output at the tick. -/
def resPos (m pd j : Nat) : Int :=
  roundConv (65536 * (12 * 256 * ((j : Int) - 1) - 8 * 256 * (m : Int) - 12 * (pd : Int))) (256 * m)

/-- y at input index `i` of the frame; `k` FIR outputs of the frame have been made. Beyond the history it is 0. -/
def Chan.yAt (c : Chan) (i : Int) : Int :=
  let back := (c.firCount : Int) - 1 - i
  if back < 0 then 0 else c.yHist.getD back.toNat 0

/-- g'(t) from two neighbouring phase sets. -/
def phaseMix (f : Int) : List Int → List Int → List Int
  | a :: as, b :: bs => reduce ((1024 - f) * a + f * b) 10 :: phaseMix f as bs
  | _, _ => []

/-- The resampler's value before saturation. -/
def Chan.resample (c : Chan) (m pd j : Nat) : Int :=
  let p := resPos m pd j
  let n := p / 65536
  let u := (p % 65536).toNat
  let phi := u / 1024
  let g := phaseMix (u % 1024 : Nat) (phaseSet phi) (phaseSet (phi + 1))
  reduce ((g.zipIdx).foldl (fun a t => a + c.yAt (n - 7 + (t.2 : Int)) * t.1) 0) 23

/-- The single-cycle path (R98): ones · 2^23 / 1,536 in the 40-bit format, less the held baseline. -/
def Chan.scmOut (c : Chan) : Int := dcOut (roundConv ((countTrue c.scmWin : Int) * 2 ^ 30) 3) c.base

/-- b := the mean of the 8 newest FIR outputs with 48 fractional bits (R90); the newest DC blocker output follows it. -/
def Chan.loadBase (c : Chan) : Chan :=
  let l := c.tapHist.take 8
  let b := roundConv (l.foldl (· + ·) 0 * 2 ^ 32) 8
  let y := match c.tapHist, c.yHist with
    | x :: _, _ :: ys => dcOut x b :: ys
    | _, ys => ys
  { c with base := b, yHist := y }

/-- The stage output of the path in effect before its saturation (R99), and PATH. -/
def Chan.stage (e : ChanEnv) (c : Chan) : Int × BitVec 2 :=
  if c.scm.isSome then (c.scmOut, 2)
  else if c.sel = 0 then (c.resample e.m e.pd c.outIdx, 0)
  else (c.yAt ((c.firCount : Int) - 1), 1)

/-- VALID of the sample that is emitted (R101): no cause of Table 3-7 applies. -/
def Chan.validNow (e : ChanEnv) (c : Chan) : Bool :=
  !e.blind && e.lb2.isNone && decide (c.settleLeft = 0 ∧ c.satLeft = 0) && !c.ovl &&
    (match c.scm with
      | some q => decide (e.m ≤ q.count)
      | none => true)

/-- The deviation rule of LB2 on an output (R103): exact in the preset path, ±2 LSB in the resampler path. -/
def Chan.lb2Check (e : ChanEnv) (value : Int) (c : Chan) : Chan :=
  match e.lb2 with
  | none => c
  | some p =>
    let want := reduce (lb2Tap p - reduce c.base 32) 16
    let tol : Int := if c.sel = 0 then 2 else 0
    let bad := decide (settleLen c.sel e.m e.pd ≤ c.lb2Out) && decide (value < want - tol ∨ want + tol < value)
    { c with lb2Out := c.lb2Out + 1, lb2Bad := c.lb2Bad || bad }

/-- The sample of an output instant before it is emitted: the stage value, its saturation, and VALID. `fir`: a saturation of
the FIR since the last instant. -/
def Chan.judge (e : ChanEnv) (fir : Bool) (c : Chan) : Chan × Int × Bool × BitVec 2 :=
  let st := c.stage e
  let z := satInt 40 st.1
  let satNow := fir || (c.scm.isNone && decide (c.sel = 0) && decide (z ≠ st.1))
  let c := if satNow then { c with sat := true, satLeft := settleLen c.sel e.m e.pd } else c
  (c, z, c.validNow e, st.2)

/-- What one output instant yields. `newSat`: a saturation begins a blind interval; one that falls into a running interval
lengthens it and is neither counted nor logged again (DESIGN CHOICE, log 88). -/
structure ChanOut where
  chan : Chan
  newSat : Bool
  newTaps : List Int
  loaded : Bool
  deriving DecidableEq, Repr

/-- One output instant (R98 to R101): the bits since the one before, a pending clear, a due baseline load, the sample. -/
def Chan.emit (e : ChanEnv) (bits : List Bool) (c : Chan) : ChanOut :=
  let before := if c.outIdx = 0 then { c with modIdx := e.modBase - bits.length } else c
  let n0 := before.firCount
  let r := bits.foldl (Chan.pushBit e) (before, false)
  let c : Chan := r.1
  let made := c.firCount - n0
  let taps := (c.tapHist.take made).reverse
  let c : Chan := if c.outIdx = 0 then { c with firCount := 1 } else c
  let c : Chan := if c.resetNow then { c.clearHist with resetNow := false, lb2Mod := 0, cicPhase := 0, firPhase := 0 } else c
  let c : Chan := match c.scm with
    | some q => if q.count = 0 then c.clearHist.endFade else c
    | none => c
  let finish := c.settling && decide (c.settleLeft = 0)
  let c : Chan := if finish then { c with settling := false, loadDue := c.baseLoad || c.loadDue, baseLoad := false } else c
  -- R90: the load belongs to the first sample that is VALID with the loaded baseline
  let tried := c.loadBase.judge e r.2
  let load := c.loadDue && tried.2.2.1
  let t := if load then tried else c.judge e r.2
  let newSat := t.1.sat && !c.sat
  let valid := t.2.2.1
  let c : Chan := { t.1 with loadDue := t.1.loadDue && !load }
  let value := satInt 24 (reduce t.2.1 16)
  let c := c.lb2Check e value
  let c := { c with
    out := { valid := valid, path := t.2.2.2, value := BitVec.ofInt 24 value }
    blindCnt := if c.out.valid ∧ valid = false then satInc c.blindCnt else c.blindCnt
    satCnt := if newSat then satInc c.satCnt else c.satCnt
    corr := if valid then c.corr else { c.corr with blind := true }
    settleLeft := c.settleLeft - 1
    satLeft := c.satLeft - 1
    outIdx := c.outIdx + 1 }
  let c := match c.scm with
    | some q => { c with scm := some { count := q.count + 1 }, filled := decide (e.m ≤ q.count),
                         ovl := c.ovl && !decide (e.m ≤ q.count + 1) }
    | none => c
  let c := if c.ovlNew then { c with ovlNew := false, scm := some {}, filled := false } else c
  { chan := c, newSat := newSat, newTaps := taps, loaded := load }

/-! ### Resets and mode entries (R87, R98, R100) -/

/-- A synchronising reset at a tick, under the settings of the channel (R100); `load`: with baseline load (R90). A load that
an earlier reset has left pending is made at the end of this one (DESIGN CHOICE, log 88). -/
def Chan.syncReset (m pd : Nat) (load : Bool) (c : Chan) : Chan :=
  { c with
    resetNow := true, settling := true, settleLeft := settleLen c.sel m pd
    baseLoad := load || c.baseLoad || c.loadDue, loadDue := false
    scm := none, filled := false, ovl := false, ovlNew := false }.endFade

/-- Single-cycle mode entered at the next output instant (R98). -/
def Chan.enterScm (c : Chan) : Chan :=
  { c with scm := some {}, filled := false }.endFade

/-- FIR outputs whose instants lie before the tick and whose bits come with the output at the tick. -/
def Chan.firBefore (c : Chan) : Nat := if c.outIdx = 0 then 12 - c.firCount else 0

/-- A fade starts, or the bank switches at once in the preset path (R86). A second swap of the same frame, which its sampled
FADING does not stop, replaces the fade that has just started by one to its own target (DESIGN CHOICE, log 88). -/
def Chan.swapBank (target : Bool) (c : Chan) : Chan :=
  if c.bank = target ∧ c.fade.isNone = true then c
  else if c.sel = 0 then { c with fade := some { target := target, wait := c.firBefore } }
  else { c with bank := target }

end Sys2Proof.Machine
end

