-- ==== Sys2Proof/Machine/Wheel.lean ====
section
/-! DEFINITION. The rule of one WDU context (R110 to R121): damping, states, crossings, position, trajectory, speed,
timestamp and signature, and the stimulus of LB3 (R104). -/

namespace Sys2Proof.Machine
open Sys2Proof

/-- Units of an instant: 1/27,720 ns makes every output instant of M = 2 to 12 whole. -/
def instUnit : Nat := 27720

/-- Output period in instant units. -/
def toutUnits (m : Nat) : Nat := 250000 * instUnit / m

/-- An instant in ns, rounded convergently. -/
def instNs (u : Nat) : Int := roundConv u instUnit

/-- Settings of a point (R129), and what a record carries. -/
structure WduCfg where
  m : Nat
  spacing : Nat
  posMin : Nat
  on1 : Int
  off1 : Int
  on2 : Int
  off2 : Int
  dpt : Nat
  point : BitVec 6
  modAddr : BitVec 11
  test : Bool := false
  deriving DecidableEq, Repr

/-- Normalised damping in ‰ (R110). -/
def damping (span : Nat) (value : Int) : Int := clampInt (-2000) 2000 (roundConv (4 * value) span)

/-- d+ (R110). -/
def pos (d : Int) : Int := if d < 0 then 0 else d

/-- The instant at which `e` crosses `l` between samples at `t0` and `t0` + Tout (R115). -/
def crossing (m t0 : Nat) (l e0 e1 : Int) : Int :=
  let num := l - e0
  let den := e1 - e0
  let n := if den < 0 then -num else num
  let d := den.natAbs
  if d = 0 then instNs t0 else roundConv ((t0 : Int) * d + (toutUnits m : Int) * n) (instUnit * d)

/-- One valid sample of a system (R114, R115, R121): `d` of it, `dx`, `dy` the d+ of CS1 and CS2, `prev` the instant of the
paired sample before. -/
def SysTrack.sample (m : Nat) (on off d dx dy : Int) (scm : Bool) (prev inst : Nat) (k : SysTrack) : SysTrack :=
  let s := if on ≤ d then true else if d < off then false else k.s
  let cross (l : Int) : Int := if k.valid then crossing m prev l k.d d else instNs inst
  if s = true ∧ k.s = false then
    { k with s := true, d := d, valid := true, on := cross on, peak := pos d, peakAt := inst, max1 := dx, max2 := dy,
             scm := scm, count := 1 }
  else
    let k := if k.s = true ∧ k.peak < pos d ∧ s = true then { k with peak := pos d, peakAt := inst } else k
    let k := if s = false ∧ k.s = true then { k with off := cross off } else k
    { k with s := s, d := d, valid := true, max1 := max k.max1 dx, max2 := max k.max2 dy, scm := k.scm || scm,
             count := k.count + 1 }

/-- A sample with VALID=0: d is computed and used for nothing, s is held (R110, R114). -/
def SysTrack.blind (d : Int) (k : SysTrack) : SysTrack := { k with d := d, valid := false, count := k.count + 1 }

/-- Region of a sample (Table 4-1); `e`: the entry end is CS2. -/
def regionOf (posMin : Nat) (e : Bool) (p1 p2 : Int) : Region :=
  let n := if e then p2 else p1
  let f := if e then p1 else p2
  if p1 + p2 < posMin then .none
  else if n > 9 * f then .near
  else if f > 9 * n then .far
  else .mid

/-- Sequence index (R117). -/
def seqIndex (e s1 s2 : Bool) : BitVec 2 :=
  let n := if e then s2 else s1
  let f := if e then s1 else s2
  match n, f with
  | false, false => 0
  | true, false => 1
  | true, true => 2
  | false, true => 3

/-- RATIO (R121): 128 + 64 · log2(p1 / p2), rounded and clamped. 64 · log2 r ≥ n − 1/2 is r^128 ≥ 2^(2n−1), an exact
comparison of integers. -/
def ratioCode (p1 p2 : Nat) : Nat :=
  let a := p1 ^ 128
  let b := p2 ^ 128
  (List.range 255).countP (fun i =>
    -- n = i − 127
    if 128 ≤ i then decide (a ≥ b * 2 ^ (2 * (i - 127) - 1)) else decide (a * 2 ^ (2 * (127 - i) + 1) ≥ b))

/-- What a paired sample yields (R118): nothing, an uncertain record's cause, or a committed record with N of R320. -/
inductive WduEv where
  | none
  | unc (cause : BitVec 5)
  | commit (r : AxleRec) (n : Nat)
  deriving DecidableEq, Repr

/-- A time base instant as a timestamp less the point delay (R120). -/
def stampOf (t : Int) (dpt : Nat) : Stamp := BitVec.ofInt 48 (t - dpt)

/-- An uncertain record (R123). -/
def uncRecord (g : WduCfg) (cause : BitVec 5) (inst : Nat) : AxleRec :=
  { ts := stampOf (instNs inst) g.dpt, point := g.point, modAddr := g.modAddr, cause := cause, uncertain := true,
    test := g.test }

/-- commit() of R119 to R121: the event, none of whose alternatives is `none`. -/
def Ctx.commit (g : WduCfg) (x : Ctx) : WduEv :=
  match x.x0 with
  | none => .unc 6
  | some x0 =>
    let near := if x.entry then x.c2 else x.c1
    let far := if x.entry then x.c1 else x.c2
    let t := far.on - near.on
    if t ≤ 0 then .unc 7
    else
      let tn := t.toNat
      let speed := roundConv (14400000 * g.spacing) tn
      if speed > 2000 then .unc 7
      else
        let w := near.off - near.on
        let depth := min 255 (roundConv near.peak 5)
        let len := min 255 (roundConv (w * g.spacing) (2 * tn))
        let num := (near.off + near.on) * instUnit - 2 * (near.peakAt : Int)
        let den := w * instUnit
        let asym := clampInt 1 255 (roundConv (128 * den + 127 * num) den.toNat)
        let p (v : Int) : Nat := (max 1 v).toNat
        .commit
          { ts := stampOf x0 g.dpt, dir := if x.entry then 2 else 1, point := g.point, speed := BitVec.ofInt 11 speed,
            depth := BitVec.ofInt 8 depth, length := BitVec.ofInt 8 len, asym := BitVec.ofInt 8 asym,
            ratio := BitVec.ofNat 8 (ratioCode (p near.max1) (p near.max2)), modAddr := g.modAddr, test := g.test,
            scm := near.scm, dwell := decide (2000000000 < tn) }
          near.count

/-- One system's part of a paired sample: d in ‰, VALID, single-cycle path. -/
structure Half where
  d : Int
  valid : Bool
  scm : Bool
  deriving DecidableEq, Repr

/-- Quiet (R117). -/
def Ctx.quiet (g : WduCfg) (x : Ctx) : Bool :=
  !x.c1.s && !x.c2.s && decide (pos x.c1.d + pos x.c2.d < g.posMin)

/-- uncertain(c) of R118. -/
def Ctx.uncertain (c : BitVec 5) (x : Ctx) : Ctx × WduEv := ({ x with phase := .spent }, .unc c)

/-- A sample with VALID=0 on either channel (R118, first branch). -/
def Ctx.evalBlind (g : WduCfg) (h1 h2 : Half) (x : Ctx) : Ctx × WduEv :=
  let x := { x with afterBlind := true, xdef := false }
  match x.phase with
  | .approach => x.uncertain 1
  | .track => x.uncertain 1
  | .idle =>
    if (h1.valid = true ∧ h2.valid = false ∧ h1.d > g.off1) ∨ (h2.valid = true ∧ h1.valid = false ∧ h2.d > g.off2) then
      x.uncertain 3
    else (x, .none)
  | .spent => (x, .none)

/-- Arming (R118): the trajectory enters at the end whose system is on. -/
def Ctx.arm (g : WduCfg) (x : Ctx) : Ctx :=
  let e := x.c2.s
  let r := regionOf g.posMin e (pos x.c1.d) (pos x.c2.d)
  { x with entry := e, region := r, q := 1, nearSeen := decide (r = .near), lastRegion := r, phase := .track, x0 := none }

/-- The rule in phase TRACK (R118). `both`: the two states changed in this sample. -/
def Ctx.evalTrack (g : WduCfg) (both : Bool) (x : Ctx) : Ctx × WduEv :=
  if both then x.uncertain 4
  else
    let qn := seqIndex x.entry x.c1.s x.c2.s
    if (x.q = 0 ∧ qn = 3) ∨ (x.q = 3 ∧ qn = 0) then x.uncertain 5
    else
      let x := { x with q := qn }
      if x.region ≠ .none ∧
          ((x.lastRegion = .near ∧ x.region = .far) ∨ (x.lastRegion = .far ∧ x.region = .near)) then x.uncertain 6
      else
        let x := if x.region ≠ .none then
            { x with lastRegion := x.region, nearSeen := x.nearSeen || decide (x.region = .near) }
          else x
        if x.q = 0 ∧ x.quiet g = true then ({ x with phase := .idle, entry := false }, .none)
        else if x.region = .far ∧ x.q = 3 then
          if x.nearSeen = false then x.uncertain 5
          else
            match x.commit g with
            | .commit r n =>
              ({ x with entry := !x.entry, q := 1, nearSeen := true, lastRegion := .near, x0 := none }, .commit r n)
            | ev => ({ x with phase := .spent }, ev)
        else (x, .none)

/-- The rule from phase SPENT on (R118), on a fully valid sample after its updates. With the trajectory its entry end is gone: before
the next one is armed the region is taken relative to the CS1 end (R117). -/
def Ctx.evalPhase (g : WduCfg) (both : Bool) (x : Ctx) : Ctx × WduEv :=
  match x.phase with
  | .spent => (if x.quiet g then { x with phase := .idle, entry := false } else x, .none)
  | .track => x.evalTrack g both
  | _ =>
    if x.c1.s = false ∧ x.c2.s = false then
      ({ x with phase := if x.quiet g then .idle else .approach }, .none)
    else if x.c1.s = true ∧ x.c2.s = true then x.uncertain 4
    else (x.arm g, .none)

/-- evaluate(k) of R118 for the paired sample at `inst`. DESIGN CHOICE (log 95): a difference d2+ − d1+ of exactly 0 has a sign of its
own, so that a change to it or from it notes a t_x0. -/
def Ctx.evaluate (g : WduCfg) (h1 h2 : Half) (inst : Nat) (suspect : Bool) (x : Ctx) : Ctx × WduEv :=
  let p1 := pos h1.d
  let p2 := pos h2.d
  let scm := h1.scm || h2.scm
  let upd1 := if h1.valid then x.c1.sample g.m g.on1 g.off1 h1.d p1 p2 scm x.inst inst else x.c1.blind h1.d
  let upd2 := if h2.valid then x.c2.sample g.m g.on2 g.off2 h2.d p1 p2 scm x.inst inst else x.c2.blind h2.d
  let both := decide (upd1.s ≠ x.c1.s) && decide (upd2.s ≠ x.c2.s)
  let e0 := pos x.c2.d - pos x.c1.d
  let e1 := p2 - p1
  let defd := decide ((g.posMin : Int) ≤ p1 + p2)
  let old := x.inst
  let wasDef := x.xdef
  let x := { x with c1 := upd1, c2 := upd2, inst := inst }
  if h1.valid = false ∨ h2.valid = false then x.evalBlind g h1 h2
  else
    let x := { x with
      region := regionOf g.posMin x.entry p1 p2
      xdef := defd
      x0 := if wasDef = true ∧ defd = true ∧ e0.sign ≠ e1.sign then some (crossing g.m old 0 e0 e1) else x.x0 }
    let after := x.afterBlind
    let pend := x.basePending
    let x := { x with afterBlind := false }
    if after = true ∧ pend = true then
      let x := { x with basePending := false }
      if x.phase ≠ Phase.spent then x.uncertain 9 else (x, .none)
    else if after = true ∧ x.quiet g = false ∧ x.phase ≠ Phase.spent then x.uncertain 2
    else if suspect = true ∧ x.quiet g = false ∧ x.phase ≠ Phase.spent then x.uncertain 8
    else x.evalPhase g both

/-! ### The stimulus of LB3 (R104) -/

/-- p(t) in ‰, t in units of 1/(4M) ms. -/
def trapezoid (m : Nat) (t : Int) : Int :=
  let u := 4 * (m : Int)
  if t < 0 then 0
  else if t < 2 * u then roundConv (400 * t) (4 * m)
  else if t < 6 * u then 800
  else if t < 8 * u then roundConv (400 * (8 * u - t)) (4 * m)
  else 0

/-- Δ = d / 27.778 m/s is 0.036 ms for each mm of spacing: p(t − Δ) with t in units of 1/(4M) ms, evaluated in 1/1,000 of
that unit. -/
def trapezoidLate (m spacing : Nat) (t : Int) : Int :=
  let u : Int := 4000 * (m : Int)
  let x := 1000 * t - 36 * (spacing : Int) * 4 * (m : Int)
  if x < 0 then 0
  else if x < 2 * u then roundConv (400 * x) (4000 * m)
  else if x < 6 * u then 800
  else if x < 8 * u then roundConv (400 * (8 * u - x)) (4000 * m)
  else 0

/-- Terms of the cosine series at angle `x` (fixed point, 2^96). -/
def cosSeries (x2 : Int) : Nat → Int → Nat → Int
  | 0, _, _ => 0
  | n + 1, term, k => term + cosSeries x2 n (-(term * x2 / 2 ^ 96) / (((k + 1) * (k + 2) : Nat) : Int)) (k + 2)

/-- cos(2π · a / b) in fixed point 2^96, for a < b; the angle is taken from −π to π. -/
def cosFix (a b : Nat) : Int :=
  let twoPi : Int := 497805226624462170461043889244
  let s : Int := if 2 * a ≤ b then a else (a : Int) - b
  let x := twoPi * s / (b : Int)
  cosSeries (x * x / 2 ^ 96) 40 (2 ^ 96) 0

/-- A · (1 − cos(2π t / 50 ms)) for t < 150 ms, t in units of 1/(4M) ms, rounded (R104 run 3). -/
def cosine (amp m t : Nat) : Int :=
  if t < 600 * m then roundConv (amp * (2 ^ 96 - cosFix (t % (200 * m)) (200 * m))) (2 ^ 96) else 0

/-- d of CS1 and CS2 at sample `k` of a run (R104). -/
def lb3Stimulus (m spacing run k : Nat) : Int × Int :=
  match run with
  | 1 => (trapezoid m k, trapezoidLate m spacing k)
  | 2 => (trapezoidLate m spacing k, trapezoid m k)
  | _ => (cosine 400 m k, cosine 200 m k)

/-- The instant from the start of a run at which its stimulus has ended, in ns. -/
def lb3RunNs (spacing run : Nat) : Nat :=
  match run with
  | 1 => 8000000 + 36000 * spacing
  | 2 => 8000000 + 36000 * spacing
  | _ => 150000000

end Sys2Proof.Machine
end

