-- ==== Sys2Proof/Machine/Ports.lean ====
section
/-! DEFINITION. Point failures (R55), port supplies (R49), the settings and delays of a channel and a point (R102, R108,
R109), the loop conditions (R54) and surges (R68). -/

namespace Sys2Proof.Machine
open Sys2Proof

/-! ### Settings -/

/-- M of a channel: FLT_CFG.RATE in the resampler path, 12 in the preset path (R91, R94). -/
def State.chanM (s : State) (c : Fin 128) : Nat :=
  if (s.chans[c]).sel = 0 then max 1 (fieldNat (s.cfg.fltCfg[c]) 24 4) else 12

/-- PHASE_DELAY of a channel. -/
def State.chanPd (s : State) (c : Fin 128) : Nat := fieldNat (s.cfg.fltPhase[c]) 0 12

/-- The selection whose group delay is in effect; none in single-cycle mode (R102). -/
def State.gdelay (s : State) (c : Fin 128) : Nat :=
  if (s.chans[c]).scm.isSome then 125000
  else groupDelay (s.chans[c]).sel (s.chanM c) (s.chanPd c)

/-- The phase delay that applies: only while samples come from the resampler path (R109). -/
def State.pdNow (s : State) (c : Fin 128) : Nat :=
  if (s.chans[c]).scm.isNone ∧ (s.chans[c]).sel = 0 then s.chanPd c else 0

/-- G0 of a channel in ns / (256 M) (R108). -/
def State.g0 (s : State) (c : Fin 128) : Int :=
  (s.gdelay c * 256 * s.chanM c : Nat) - (s.pdNow c * 250000 : Nat)

/-- D_PT of a point in ns (R109). -/
def State.dpt (s : State) (n : Fin 64) : Nat :=
  let c1 := chanOf n .cs1
  let c2 := chanOf n .cs2
  (roundConv (2 * max (s.g0 c1) (s.g0 c2) + ((s.pdNow c1 + s.pdNow c2) * 250000 : Nat)) (512 * s.chanM c1)).toNat

/-- SPACING, SPAN, FREE_I, POS_MIN and thresholds of a point (R129). -/
def State.spacingOf (s : State) (n : Fin 64) : Nat := fieldNat (s.cfg.wduHead[n]) 16 8
def State.spanOf (s : State) (n : Fin 64) : Nat := fieldNat (s.cfg.wduHead[n]) 0 16
def State.freeOf (s : State) (n : Fin 64) : Nat := fieldNat (s.cfg.wduLevels[n]) 0 16
def State.posMinOf (s : State) (n : Fin 64) : Nat := fieldNat (s.cfg.wduLevels[n]) 16 10
def State.thrOf (s : State) (n : Fin 64) (y : Sys) : Word :=
  match y with
  | .cs1 => s.cfg.wduThr1[n]
  | .cs2 => s.cfg.wduThr2[n]
def State.onOf (s : State) (n : Fin 64) (y : Sys) : Nat := fieldNat (s.thrOf n y) 16 10
def State.offOf (s : State) (n : Fin 64) (y : Sys) : Nat := fieldNat (s.thrOf n y) 0 10

/-- FREEZE_LVL of a channel (R89). -/
def State.freezeOf (s : State) (c : Fin 128) : Nat := fieldNat (s.cfg.fltCfg[c]) 0 10

/-- Settings of a WDU context of point `n`. -/
def State.wduCfg (s : State) (n : Fin 64) (test : Bool) : WduCfg where
  m := s.chanM (chanOf n .cs1)
  spacing := s.spacingOf n
  posMin := s.posMinOf n
  on1 := s.onOf n .cs1
  off1 := s.offOf n .cs1
  on2 := s.onOf n .cs2
  off2 := s.offOf n .cs2
  dpt := s.dpt n
  point := BitVec.ofNat 6 n.val
  modAddr := s.addr
  test := test

/-- SUPPLY_SET and IMAX of a port. -/
def State.supplySet (s : State) (n : Fin 64) : Nat := fieldNat (s.cfg.prtCfg[n]) 0 9
def State.imaxOf (s : State) (n : Fin 64) : Nat := fieldNat (s.cfg.prtHead[n]) 16 8

/-! ### Failed points (R55) -/

/-- A condition of R55 holds. -/
def Port.condition (p : Port) : Bool :=
  p.supplyBad || p.open1 || p.open2 || p.over1 || p.over2 || p.xshort || p.residual || p.pulseFault || p.surgeLong ||
    p.lb0Fail || p.lb1Fail

/-- FAILED ends 1 s after the last condition ended: the instant is noted when none is left. A failed run-time test is a condition
that ends at once (DESIGN CHOICE, log 69): its point stays failed for 1 s, unless another condition holds. -/
def State.settleFail (s : State) (n : Fin 64) : State :=
  s.modPort n (fun p =>
    if p.failed then
      if p.condition then { p with failEnd := none }
      else { p with failEnd := some (p.failEnd.getD (s.now + 1000000000)) }
    else p)

/-- A condition of R55 begins: the point is failed. A point that becomes failed is met by every section that contains it with the
cause 02h (R136, R159), but not during a cut-off (R293). -/
def State.failPoint (s : State) (n : Fin 64) : State :=
  let was := (s.ports[n]).failed
  let s := s.modPort n (fun p => { p with failed := true, failEnd := none })
  let s := if s.sup.cutDeclared || was then s else s.postPoint (.failed n)
  s.settleFail n

/-! ### Supplies (R49) -/

/-- Both channels are blind by a ramp: from its start until 2 ms after its end. -/
def Port.rampBlind (p : Port) (t : Nat) : Bool := p.rampEnd.isSome || decide (t < p.blindUntil)

/-- The voltage that the regulator holds at the instant `t`, in 1/1,280 V: the setpoint, or where the ramp has got to. -/
def Port.ramped (p : Port) (t : Nat) : Nat :=
  let set := 128 * p.setpoint.toNat
  if p.rampEnd.isSome then
    let moved := 128 * (t - p.rampAt) / 50000
    if 128 * p.rampFrom ≤ set then min set (128 * p.rampFrom + moved) else max set (128 * p.rampFrom - moved)
  else set

/-- The return lane of a port is up: what the logic side sends reaches the port (R32, R35). -/
def State.retUp (s : State) (n : Fin 64) : Bool := !(s.retLanes[retOfPort n]).failed

/-- The supply of an assigned port ramps at 2 V/ms to its setpoint, from the voltage that it has reached (DESIGN CHOICE, log 87,
where a ramp still runs); its test pulses run. While the return lane has failed the port holds what it has (R35). -/
def State.startRamp (s : State) (n : Fin 64) : State :=
  if s.assigned n ∧ s.retUp n = true then
    let set := s.supplySet n
    s.modPort n (fun p =>
      let from' := if p.supplyOn then p.ramped s.now / 128 else 0
      { p with supplyOn := true, pulsesOn := true, setpoint := BitVec.ofNat 9 set, rampFrom := from', rampAt := s.now
               rampEnd := some (s.now + 50000 * absDiff from' set) })
  else s

/-- Regulator and pulses off. -/
def State.supplyOff (s : State) (n : Fin 64) : State :=
  s.modPort n (fun p => { p with supplyOn := false, pulsesOn := false, setpoint := 0, rampEnd := none })

/-- The ports of `l` that are assigned run the port stage (Table 11-4): group g starts 25 ms · g after now. -/
def State.startPortStage (s : State) (l : List (Fin 64)) (all : Bool) : State :=
  let s := l.foldl (fun (s : State) (n : Fin 64) =>
    if s.assigned n then
      s.modPort n (fun p => { p with stageAt := some (s.now + 25000000 * (n.val / 8)), stageOn := true })
    else s) s
  { s with sup := { s.sup with portStage := true, stageReset := all, stageStart := s.now } }

/-- At a tick the ports whose group is due start their ramps. -/
def State.rampGroups (s : State) : State :=
  (allFin 64).foldl (fun (s : State) (n : Fin 64) =>
    match (s.ports[n]).stageAt with
    | some t => if t ≤ s.now then (s.startRamp n).modPort n (fun p => { p with stageAt := none }) else s
    | none => s) s

/-- Every port of the running port stage has ramped. -/
def State.stageRamped (s : State) : Bool :=
  s.sup.portStage && (allFin 64).all (fun n => (s.ports[n]).stageAt.isNone &&
    !((s.ports[n]).stageOn && (s.ports[n]).rampEnd.isSome))

/-- The port stage stops without an end: a cut-off or a reset of its ports. -/
def State.dropStage (s : State) : State :=
  { s with ports := s.ports.map (fun p => { p with stageAt := none, stageOn := false })
           sup := { s.sup with portStage := false, stageReset := false } }

/-- SUPPLY_RAMP_END (R49): both channels stay blind for 2 ms more. -/
def execSupplyRampEnd (dt : Nat) (n : Fin 64) (s : State) : Out :=
  let s := s.pass dt
  match (s.ports[n]).rampEnd with
  | some e => s.when (!s.inReset && decide (e ≤ s.now)) (fun s =>
      s.modPort n (fun p => { p with rampEnd := none, blindUntil := e + 2000000 }))
  | none => .next s

/-! ### Loop conditions (R54) -/

/-- OPEN and OVER are judged: the port is assigned with its supply up, or off by a declared cut-off (R293), no ramp or its 2 ms run,
and no loopback has taken the head off the converter. The manual names no such limit; without it every ramp, every LB1 and every
LB2 would fail the point (DESIGN CHOICE, log 86). -/
def State.loopJudged (s : State) (n : Fin 64) : Bool :=
  s.assigned n && !(s.ports[n]).rampBlind s.now && (s.ports[n]).lb.isNone &&
    ((s.ports[n]).supplyOn || s.sup.cutDeclared)

/-- Two consecutive readings of the loop voltage below 2.0 V (code below 256 of 4,096 at 32.0 V full scale). -/
def Port.lowLoop (p : Port) (y : Sys) : Bool :=
  decide (8 ≤ p.sarCount) && (match y with
    | .cs1 => decide ((p.sar[0]).toNat < 256 ∧ (p.sarPrev[0]).toNat < 256)
    | .cs2 => decide ((p.sar[1]).toNat < 256 ∧ (p.sarPrev[1]).toNat < 256))

/-- Since when a condition has held. -/
def since (now : Nat) (holds : Bool) (old : Option Nat) : Option Nat := if holds then some (old.getD now) else none

/-- One absolute tap of system `y` against OPEN and OVER (Table 2-3); a tap is in 4 nA / 65,536. A condition that does not
hold clears its status bit. -/
def Port.judgeTap (now imax : Nat) (y : Sys) (tap : Int) (p : Port) : Port :=
  let isOpen := decide (tap < 500000 * 65536)
  let isOver := decide (tap > (imax * 25000 + 750000) * 65536) || (p.lowLoop y && !isOpen)
  match y with
  | .cs1 => { p with open1Since := since now isOpen p.open1Since, over1Since := since now isOver p.over1Since,
                     open1 := p.open1 && isOpen, over1 := p.over1 && isOver }
  | .cs2 => { p with open2Since := since now isOpen p.open2Since, over2Since := since now isOver p.over2Since,
                     open2 := p.open2 && isOpen, over2 := p.over2 && isOver }

/-- The minimum durations of the current conditions of a system start anew: it is not judged. -/
def Port.notJudged (y : Sys) (p : Port) : Port :=
  match y with
  | .cs1 => { p with open1Since := none, over1Since := none }
  | .cs2 => { p with open2Since := none, over2Since := none }

/-- New absolute taps of a channel reach the loop conditions of its port. -/
def State.judgeTaps (s : State) (c : Fin 128) (taps : List Int) : State :=
  let n := portOf c
  if s.loopJudged n then
    (s.modPort n (fun p => taps.foldl (fun p t => p.judgeTap s.now (s.imaxOf n) (sysOf c) t) p)).settleFail n
  else if taps.isEmpty then s
  else s.modPort n (Port.notJudged (sysOf c))

/-- The instant since which a loop condition holds, its status bit, and its minimum duration. -/
def Port.loopCond (p : Port) : LoopCond → Option Nat × Bool × Nat
  | .supply => (p.supplySince, p.supplyBad, 10000000)
  | .openC .cs1 => (p.open1Since, p.open1, 2000000)
  | .openC .cs2 => (p.open2Since, p.open2, 2000000)
  | .overC .cs1 => (p.over1Since, p.over1, 2000000)
  | .overC .cs2 => (p.over2Since, p.over2, 2000000)

/-- The status bit of a loop condition is set. -/
def Port.setCond (q : LoopCond) (p : Port) : Port :=
  match q with
  | .supply => { p with supplyBad := true }
  | .openC .cs1 => { p with open1 := true }
  | .openC .cs2 => { p with open2 := true }
  | .overC .cs1 => { p with over1 := true }
  | .overC .cs2 => { p with over2 := true }

/-- The supply and the pulses of a port are judged on every reading: the port is assigned and its regulator on (log 86). -/
def State.supplyJudged (s : State) (n : Fin 64) : Bool := s.assigned n && (s.ports[n]).supplyOn

/-- A loop condition is judged. -/
def State.condJudged (s : State) (n : Fin 64) (q : LoopCond) : Bool :=
  match q with
  | .supply => s.supplyJudged n
  | _ => s.loopJudged n

/-- PRT_FAULT bit and fault code of a loop condition (Tables 2-3 and 2-8). -/
def LoopCond.fault : LoopCond → Nat × Nat
  | .supply => (3, 0x0201)
  | .openC .cs1 => (4, 0x0202)
  | .openC .cs2 => (5, 0x0202)
  | .overC .cs1 => (6, 0x0203)
  | .overC .cs2 => (7, 0x0203)

/-- LOOP_CONDITION_DETECTED (R54): held for the whole minimum duration. -/
def execLoopConditionDetected (dt : Nat) (n : Fin 64) (q : LoopCond) (s : State) : Out :=
  let s := s.pass dt
  let k := (s.ports[n]).loopCond q
  let due : Bool := match k.1 with
    | some t => decide (t + k.2.2 ≤ s.now)
    | none => false
  s.when (!s.inReset && due && !k.2.1 && s.condJudged n q) (fun s =>
    ((s.modPort n (Port.setCond q)).prtFault n q.fault.1 q.fault.2).failPoint n)

/-- POINT_FAILURE_END (R55, R114): FAILED clears and both system states become 0. -/
def execPointFailureEnd (dt : Nat) (n : Fin 64) (s : State) : Out :=
  let s := s.pass dt
  let due : Bool := match (s.ports[n]).failEnd with
    | some t => decide (t ≤ s.now)
    | none => false
  s.when (!s.inReset && (s.ports[n]).failed && !(s.ports[n]).condition && due) (fun s =>
    let s := s.modPort n (fun p => { p with failed := false, failEnd := none })
    let s := s.modWdu n (fun w => { w with
      ctx := { w.ctx with c1 := { w.ctx.c1 with s := false }, c2 := { w.ctx.c2 with s := false } } })
    s.postPoint (.failEnd n))

/-! ### Surges (R68) -/

/-- SURGE_END (R68): 1 ms after the clamp stopped conducting. -/
def execSurgeEnd (dt : Nat) (n : Fin 64) (s : State) : Out :=
  let s := s.pass dt
  s.when (!s.inReset && (s.ports[n]).surge && decide ((s.ports[n]).surgeSince + 1000000 ≤ s.now)) (fun s =>
    (s.modPort n (fun p => { p with surge := false, surgeLong := false })).settleFail n)

/-- SURGE_LONG (R68): the clamp has conducted for more than 10 ms since its event and still conducts: the port and its
current in µA. -/
def execSurgeLong (dt : Nat) (x : Fin 64 × Nat) (s : State) : Out :=
  let (n, uA) := x
  let s := s.pass dt
  s.when (!s.inReset && (s.ports[n]).surge && !(s.ports[n]).surgeLong &&
      decide (10000 < uA ∧ (s.ports[n]).surgeSince + 10000000 < s.now)) (fun s =>
    ((s.modPort n (fun p => { p with surgeLong := true })).prtFault n 10 0x0209).failPoint n)

/-! ### Suspect intervals (R124, R291) -/

/-- Port data of point `n` is suspect: a rail is not NORMAL, or the last warning ended less than D_PT ago. -/
def State.suspect (s : State) (n : Fin 64) : Bool :=
  !s.railsNormal || (match s.sup.warnEnd with
    | some t => decide (s.now < t + s.dpt n)
    | none => false)

/-- An interval from `begin` up to now overlaps a suspect interval of point `n`. -/
def State.overlapsSuspect (s : State) (n : Fin 64) (begin : Nat) : Bool :=
  !s.railsNormal || (match s.sup.warnEnd with
    | some t => decide (begin < t + s.dpt n)
    | none => false)

end Sys2Proof.Machine
end

