-- ==== Sys2Proof/Machine/Channels.lean ====
section
/-! DEFINITION. What happens to one channel pipeline (R74, R86, R98 to R101, R112) and the code-period evaluation (R58, R59). -/

namespace Sys2Proof.Machine
open Sys2Proof

/-! ### What a channel depends on (R89, R101) -/

/-- Coefficients of a bank as numbers. -/
def Bank.taps (b : Bank) : List Int := b.coef.toList.map BitVec.toInt

def State.bank (s : State) (b : Bool) : Bank := if b then s.banks[1] else s.banks[0]

/-- The system under a run-time test, from its origin until single-cycle mode takes over (R65). -/
def State.testBlind (s : State) (c : Fin 128) : Bool :=
  match s.rt with
  | some r => decide (chanOf r.port r.sys = c) && !decide (r.stage = RtStage.settle) && !decide (r.stage = RtStage.gap)
  | none => false

/-- Port causes of Table 3-7 (FLT_STATE.PORT_BLIND): ramp, failed point, run-time test, surge, return lane, LB0, LB1,
cut-off (R293), or a start sequence that has not reset the channels yet (Table 11-4). -/
def State.portBlind (s : State) (c : Fin 128) : Bool :=
  let p := s.ports[portOf c]
  p.rampBlind s.now || p.failed || s.testBlind c || p.surge || p.retBlind || s.sup.cutDeclared ||
    (match p.lb with
      | some l => !decide (l.kind = LbKind.lb2)
      | none => false) ||
    (decide (s.mdl.phase = ModPhase.start) && !decide (s.mdl.startStage = StartStage.proving)) ||
    decide (s.mdl.phase = ModPhase.startFailed)

/-- LB2 runs on the channel. -/
def State.lb2Of (s : State) (c : Fin 128) : Option PortLb :=
  match (s.ports[portOf c]).lb with
  | some l => if l.kind = LbKind.lb2 then some l else none
  | none => none

/-- Lane echo runs on the channel's lane. -/
def State.echoOn (s : State) (c : Fin 128) : Bool := (s.lanes[laneOfPort (portOf c)]).echo.isSome

/-- The lane is in FAULT, or returned and not yet reset (R78). -/
def State.laneBlind (s : State) (c : Fin 128) : Bool :=
  let l := s.lanes[laneOfPort (portOf c)]
  !l.synced || l.resetDue.isSome

/-- 01001001b, and its complement in the second phase (R103). The leftmost bit comes first (DESIGN CHOICE, log 88). -/
def lb2Pattern (phase : Nat) : List Bool :=
  let p := [false, true, false, false, true, false, false, true]
  if phase = 0 then p else p.map not

/-- The environment of a channel. -/
def State.chanEnv (s : State) (c : Fin 128) : ChanEnv :=
  let ch := s.chans[c]
  let lb2 := (s.lb2Of c).map (fun l => lb2Pattern l.phase)
  let blind := s.portBlind c || s.laneBlind c || s.echoOn c
  { m := s.chanM c
    pd := s.chanPd c
    alpha := dcAlpha (fieldNat (s.cfg.fltCfg[c]) 16 3)
    src := if ch.sel = 0 then (s.bank ch.bank).taps else presetTaps ch.sel.toNat
    tgt := match ch.fade with
      | some f => (s.bank f.target).taps
      | none => []
    track := !ch.active && !blind && lb2.isNone
    blind := blind
    lb2 := lb2
    modBase := 1536 * s.tickNo }

/-! ### OUTPUT_SAMPLE -/

/-- A loaded baseline in µA (R112). -/
def Chan.baseUA (c : Chan) : Int := roundConv (reduce c.base 32) 16384000

/-- The baseline checks of R112, after a synchronising reset has loaded b. -/
def State.checkBase (s : State) (c : Fin 128) : State :=
  let n := portOf c
  if s.assigned n then
    let d := 4 * ((s.chans[c]).baseUA - s.freeOf n)
    if d > s.spanOf n then
      (s.modWdu n (fun w => { w with baseDamped := true, ctx := { w.ctx with basePending := true } })).wduFault n 1 0x0502
    else if d < -(s.spanOf n : Int) then s.wduFault n 3 0x0504
    else s
  else s

/-- New taps of the tested system enter the sums of the open window (R63). -/
def State.testTaps (s : State) (c : Fin 128) (taps : List Int) : State :=
  match s.rt with
  | some r =>
    if chanOf r.port r.sys = c then
      let sum := taps.foldl (· + ·) 0
      match r.stage with
      | .winA => { s with rt := some { r with sumA := r.sumA + sum, cntA := r.cntA + taps.length } }
      | .winB => { s with rt := some { r with sumB := r.sumB + sum, cntB := r.cntB + taps.length } }
      | _ => s
    else s
  | none => s

/-- The sample goes to the WDU of the point. -/
def State.toWdu (s : State) (c : Fin 128) (inst : Nat) : State :=
  s.modWdu (portOf c) (fun w =>
    match sysOf c with
    | .cs1 => { w with in1 := some (s.chans[c]).out, inInst := inst }
    | .cs2 => { w with in2 := some (s.chans[c]).out, inInst := inst })

/-- Output instant `j` of the frame, in 1/27,720 ns of the time base, and in ns after the tick. -/
def State.outInst (s : State) (c : Fin 128) : Nat :=
  s.clk.tickTb * instUnit + (s.chans[c]).outIdx * toutUnits (s.chanM c)

/-! ### The lane's words (R33, R76) -/

/-- Isolator lane of a channel (R33). -/
def laneOfChan (c : Fin 128) : Fin 8 := laneOfPort (portOf c)

/-- Words arrive on a lane, oldest first; the last two superframes are kept. -/
def Lane.receive (ws : List (BitVec 20)) (l : Lane) : Lane :=
  { l with rx := (ws.reverse ++ l.rx).take 3072, got := l.got + ws.length, inSf := l.inSf + ws.length }

/-- CH bit i of the words that lane k has received is the modulator output of channel 16k + i (R76): the bits that the channel
has not taken yet, oldest first. -/
def State.laneBits (s : State) (c : Fin 128) : List Bool :=
  let l := s.lanes[laneOfChan c]
  ((l.rx.take (l.got - (s.chans[c]).used)).map (fun w => w.getLsbD (c.val % 16))).reverse

/-- OUTPUT_SAMPLE (R76, R80 to R83, R88 to R93, R98 to R101): the next output instant of the channel in this frame. `words`: the
lane words that have arrived since the last event that brought words of the lane. -/
def execOutputSample (c : Fin 128) (words : List (BitVec 20)) (s : State) : Out :=
  if 3072 < words.length then .fault .notAnEvent
  else
    s.when (!s.inReset && decide ((s.chans[c]).outIdx < s.chanM c)) (fun s =>
      let inst := s.outInst c
      let s := s.upTo (s.inFrame ((s.chans[c]).outIdx * 250000 / s.chanM c))
      let s := s.modLane (laneOfChan c) (Lane.receive words)
      let o := (s.chans[c]).emit (s.chanEnv c) (s.laneBits c)
      let got := (s.lanes[laneOfChan c]).got
      let s := s.modChan c (fun _ => { o.chan with used := got })
      let s := if o.newSat then s.fltFault c 3 0x0402 else s
      let s := if o.loaded then s.checkBase c else s
      let s := s.judgeTaps c o.newTaps
      let s := s.testTaps c o.newTaps
      s.toWdu c inst)

/-- SATURATION_END (R101). -/
def execSaturationEnd (dt : Nat) (c : Fin 128) (s : State) : Out :=
  let s := s.pass dt
  s.when (!s.inReset && (s.chans[c]).sat && decide ((s.chans[c]).satLeft = 0)) (fun s =>
    s.modChan c (fun x => { x with sat := false }))

/-- FADE_COMPLETE (R86): after FIR output 255. -/
def execFadeComplete (c : Fin 128) (s : State) : Out :=
  match (s.chans[c]).fade with
  | some f => s.when (!s.inReset && decide (256 ≤ f.done)) (fun s =>
      s.modChan c (fun x => { x with fade := none, bank := f.target }))
  | none => .next s

/-- Samples emitted since t0 of single-cycle mode. -/
def Chan.scmCount (c : Chan) : Nat :=
  match c.scm with
  | some q => q.count
  | none => 0

/-- SCM_FILL_END (R98): 250 µs after entry the bridge begins, and an overload has been handled. -/
def execScmFillEnd (dt : Nat) (c : Fin 128) (s : State) : Out :=
  let s := s.pass dt
  s.when (!s.inReset && (s.chans[c]).scm.isSome && !(s.chans[c]).filled && decide (s.chanM c ≤ (s.chans[c]).scmCount)) (fun s =>
    s.modChan c (fun x => { x with filled := true, ovl := x.ovlNew }))

/-- SCM_CHANGEOVER (R98): from t0 + S × Tout, with the point not ACTIVE; ALIGN_N takes a new value (R108). -/
def execScmChangeover (dt : Nat) (c : Fin 128) (s : State) : Out :=
  let s := s.pass dt
  let x := s.chans[c]
  s.when (!s.inReset && x.scm.isSome && decide (settleLen x.sel (s.chanM c) (s.chanPd c) ≤ x.scmCount) && !x.active) (fun s =>
    (s.modChan c (fun x => { x with scm := none, filled := false })).modWdu (portOf c) (fun w => { w with realignNow := true }))

/-- SYNC_RESET_SETTLED (R100, R90): the reset ends after S samples; its baseline load falls at the next output instant. -/
def execSyncResetSettled (c : Fin 128) (s : State) : Out :=
  s.when (!s.inReset && (s.chans[c]).settling && decide ((s.chans[c]).settleLeft = 0)) (fun s =>
    s.modChan c (fun x => { x with settling := false, loadDue := x.baseLoad || x.loadDue, baseLoad := false }))

/-- MODULATOR_OVERLOAD (R74): a channel and the last 64 outputs of its modulator, which hold one value. The field side clears the integrators
and flags the overload for the next superframe. -/
def execModulatorOverload (dt : Nat) (x : Fin 128 × BitVec 64) (s : State) : Out :=
  let (c, bits) := x
  let s := s.pass dt
  s.when (!s.inReset && decide (bits = 0 ∨ bits = BitVec.allOnes 64)) (fun s =>
    s.modChan c (fun x => { x with ovlFlag := true, integClear := some s.now }))

/-- The report of an overload reaches the logic side (R74). -/
def State.reportOverload (s : State) (c : Fin 128) : State :=
  (s.modChan c (fun x => { x with ovl := true, ovlNew := true })).fltFault c 2 0x0301

/-- A synchronising reset of a channel (R100). -/
def State.resetChan (s : State) (c : Fin 128) (load : Bool) : State :=
  s.modChan c (fun x => x.syncReset (s.chanM c) (s.chanPd c) load)

/-- A synchronising reset of all channels. -/
def State.resetAllChans (s : State) (load : Bool) : State :=
  (allFin 128).foldl (fun s c => s.resetChan c load) s

/-! ### Code periods (R57 to R59) -/

/-- c(k): the common cover, k = 0 first. -/
def coverBits : List Bool := bitsMsb 64 0x6A3C95D10FE24B87

/-- w(n, k). -/
def walsh (n k : Nat) : Bool := (List.range 6).foldl (fun a i => xor a (natBit n i && natBit k i)) false

/-- sn(k) = +1 (R57). -/
def chipPlus (n k : Nat) : Bool := walsh n k == coverBits.getD k false

/-- Cover: chip sum k by +1 where c(k) = 1 and by −1 otherwise. -/
def covered (sums : List Int) : List Int :=
  (coverBits.zip (sums ++ List.replicate (64 - sums.length) 0)).map (fun p => if p.1 then p.2 else -p.2)

/-- One stage of the fast Walsh–Hadamard transform: halves summed and subtracted. -/
def whtHalves (l : List Int) : List Int :=
  let a := l.take (l.length / 2)
  let b := l.drop (l.length / 2)
  (a.zip b).map (fun p => p.1 + p.2) ++ (a.zip b).map (fun p => p.1 - p.2)

/-- The transform in natural Hadamard order: `n` stages on blocks of 2^n values. -/
def wht : (n : Nat) → List Int → List Int
  | 0, l => l
  | n + 1, l =>
    let h := whtHalves l
    wht n (h.take (2 ^ n)) ++ wht n (h.drop (2 ^ n))

/-- The 64 coefficients of one code period, magnitudes in 0.1 µA: 1 is 33.554432 mA / 2 over 6,144 periods. -/
def coefMags (k : Corr) : List Int :=
  (wht 6 (covered k.sums.reverse)).map (fun v => roundConv ((v.natAbs : Int) * 16777216) 614400)

/-- Coefficients above a limit in 0.1 µA, exactly: |C| · 16,777,216 > limit · 614,400. -/
def coefAbove (limit : Nat) (k : Corr) : List Bool :=
  (wht 6 (covered k.sums.reverse)).map (fun v => decide (limit * 614400 < v.natAbs * 16777216))

/-- The chip sums of code period `period` of a channel, once the period is complete. -/
def Chan.codePeriod (c : Chan) (period : Nat) : Option Corr := c.corrDone.filter (fun d => decide (d.period = period))

/-- The bits of a code period have all come: no channel is still summing it. They come with the words of the output instants, the
last of them with the first output instant after the period's end. -/
def State.periodIn (s : State) (period : Nat) : Bool := s.chans.toList.all (fun c => decide (c.corr.period ≠ period))

/-- Supplied: regulator on (R59). -/
def State.supplied (s : State) (n : Fin 64) : Bool := s.assigned n && (s.ports[n]).supplyOn

/-- What one channel's code period shows: ports whose cross coefficient has exceeded 50 µA twice, own residual twice. -/
structure CodeVerdict where
  cross : List (Fin 64 × Fin 64)
  own : List (Fin 64)
  deriving DecidableEq, Repr

/-- One channel at the end of code period `period`: a period that overlaps a blind interval is discarded (R58). -/
def State.codeChannel (s : State) (period : Nat) (c : Fin 128) (v : CodeVerdict) : State × CodeVerdict :=
  let x := s.chans[c]
  let m := portOf c
  match x.codePeriod period with
  | none => (s, v)
  | some k =>
    if k.blind then (s, v)
    else
      let above := coefAbove 500 k
      let nowX : BitVec 64 := (allFin 64).foldl (fun w n =>
        if n ≠ m ∧ above.getD n.val false = true ∧ s.supplied n = true ∧ s.supplied m = true then
          w ||| (1#64 <<< n.val) else w) 0
      let own := (coefAbove 200 k).getD m.val false && s.supplied m
      let cross := (allFin 64).filterMap (fun n =>
        if (nowX &&& x.prevX).getLsbD n.val then some (m, n) else none)
      let s := s.modChan c (fun x => { x with prevX := nowX, prevOwn := own, lastX := coefMags k })
      (s, { cross := v.cross ++ cross, own := if own && x.prevOwn then v.own ++ [m] else v.own })

/-- PRT_XCORR of a port from the last coefficients of its two channels. Of equal largest coefficients CS1 shows before CS2, and the
lowest port index first (DESIGN CHOICE, log 87). -/
def xcorrWord (n : Nat) (l1 l2 : List Int) : Word :=
  let cand := (l1.zipIdx.filter (fun p => p.2 ≠ n)).map (fun p => (p.1, false, p.2)) ++
    (l2.zipIdx.filter (fun p => p.2 ≠ n)).map (fun p => (p.1, true, p.2))
  let best := cand.foldl (fun a p => if a.1 < p.1 then p else a) (0, false, 0)
  let own := max (l1.getD n 0) (l2.getD n 0)
  bitAt best.2.1 30 ||| at32 best.2.2 24 ||| at32 (min 255 own.toNat) 16 ||| at32 (min 65535 best.1.toNat) 0

/-- A condition of R59 on a port at the end of a code period: it begins, goes on, or ends. -/
def State.codeCond (s : State) (n : Fin 64) (holds residual : Bool) : State :=
  let p := s.ports[n]
  let was := if residual then p.residual else p.xshort
  let s := s.modPort n (fun p => if residual then { p with residual := holds } else { p with xshort := holds })
  if holds = true ∧ was = false then
    (if residual then s.prtFault n 9 0x0205 else s.prtFault n 8 0x0204).failPoint n
  else s.settleFail n

/-- CODE_PERIOD_END (R58, R59): the newest multiple of 1.28 ms of the time base that the frame that runs reaches, when the bits of
the period have come. -/
def execCodePeriodEnd (s : State) : Out :=
  let t := (s.clk.tickTb + 250000) / 1280000 * 1280000
  s.when (!s.inReset && decide (0 < t ∧ t ≠ s.clk.codeEnd) && s.periodIn (t / 1280000 - 1)) (fun s =>
    let s := s.upTo (s.clk.tickAt + (t - s.clk.tickTb))
    let s := { s with clk := { s.clk with codeEnd := t } }
    let r := (allFin 128).foldl (fun (a : State × CodeVerdict) c => a.1.codeChannel (t / 1280000 - 1) c a.2)
      (s, { cross := [], own := [] })
    let s := r.1
    let short (n : Fin 64) : Bool := r.2.cross.any (fun p => decide (p.1 = n ∨ p.2 = n))
    let s := (allFin 64).foldl (fun s n => s.codeCond n (short n) false) s
    let s := (allFin 64).foldl (fun s n => s.codeCond n (r.2.own.contains n) true) s
    (allFin 64).foldl (fun s n => s.modPort n (fun p =>
      { p with xcorr := xcorrWord n.val (s.chans[chanOf n .cs1]).lastX (s.chans[chanOf n .cs2]).lastX })) s)

end Sys2Proof.Machine
end

