-- ==== Sys2Proof/Machine/RunTests.lean ====
section
/-! DEFINITION. The run-time port tests (R61 to R66) and the port loopbacks LB0, LB1 and LB2 (R69 to R71, R103). -/

namespace Sys2Proof.Machine
open Sys2Proof

/-! ### Run-time tests -/

/-- PORT_TEST_ELIGIBLE (R61): the conditions have held for 30 s. -/
def execPortTestEligible (dt : Nat) (n : Fin 64) (s : State) : Out :=
  let s := s.pass dt
  let due : Bool := match (s.ports[n]).quietSince with
    | some t => decide (t + 30000000000 ≤ s.now)
    | none => false
  s.when (!s.inReset && s.assigned n && due) (fun s => s.modPort n (fun p => { p with eligible := true }))

/-- `a` is tested before `b`: the last completed test is older; no test is oldest. -/
def olderTest (a b : Option Nat) : Bool :=
  match a, b with
  | none, some _ => true
  | some x, some y => decide (x < y)
  | _, none => false

/-- The port that the scheduler picks (R61): named ports first, then the eligible port whose last test is oldest. -/
def State.pickPort (s : State) : Option (Fin 64) :=
  match s.rtFirst.find? (fun n => (s.ports[n]).eligible) with
  | some n => some n
  | none =>
    (allFin 64).foldl (fun acc n =>
      if (s.ports[n]).eligible then
        match acc with
        | some b => if olderTest (s.ports[n]).lastTest (s.ports[b]).lastTest then some n else acc
        | none => some n
      else acc) none

/-- Sum and number of the taps of the last 10 ms. -/
def Chan.tapSum (c : Chan) : Int × Nat := (c.tapHist.foldl (· + ·) 0, c.tapHist.length)

/-- The test of system `y` of port `n` starts now (Table 2-5): the origin. -/
def State.beginTest (s : State) (n : Fin 64) (y : Sys) : State :=
  let p := (s.chans[chanOf n y]).tapSum
  let o := (s.chans[chanOf n y.other]).tapSum
  { s with rt := some { port := n, sys := y, origin := s.now, mark := s.now, steps := [s.now],
                        preSum := p.1, preCnt := p.2, othSum := o.1, othCnt := o.2 } }

/-- RUNTIME_TEST_START (R61, R62). -/
def execRuntimeTestStart (dt : Nat) (s : State) : Out :=
  let s := s.pass dt
  match s.pickPort with
  | some n => s.when (!s.inReset && s.rt.isNone && s.railsNormal && s.retUp n && decide (s.mdl.phase = ModPhase.service)) (fun s =>
      let s := s.modPort n (fun p => { p with eligible := false, quietSince := none })
      { s with rtFirst := s.rtFirst.erase n }.beginTest n .cs1)
  | none => .next s

/-- RUNTIME_TEST_WINDOW_OPEN (R62): A at 2.00 ms, B at 8.00 ms. -/
def execRuntimeTestWindowOpen (dt : Nat) (s : State) : Out :=
  let s := s.pass dt
  match s.rt with
  | some r =>
    s.when (decide ((r.stage = RtStage.sinkA ∧ r.origin + 2000000 ≤ s.now) ∨
        (r.stage = RtStage.sinkB ∧ r.origin + 8000000 ≤ s.now))) (fun s =>
      { s with rt := some { r with stage := if r.stage = RtStage.sinkA then .winA else .winB } })
  | none => .next s

/-- RUNTIME_TEST_SINK_STEP (R62): window A closes at 6.00 ms. -/
def execRuntimeTestSinkStep (dt : Nat) (s : State) : Out :=
  let s := s.pass dt
  match s.rt with
  | some r => s.when (decide (r.stage = RtStage.winA ∧ r.origin + 6000000 ≤ s.now)) (fun s =>
      { s with rt := some { r with stage := .sinkB, mark := s.now, steps := s.now :: r.steps } })
  | none => .next s

/-- The mean of a window less the pre-test mean lies within `mA100`/100 mA ± 2 % ± 20 µA (R63), in exact integers. -/
def stepPasses (sum : Int) (cnt : Nat) (preSum : Int) (preCnt : Nat) (mA100 : Nat) : Bool :=
  let want : Int := mA100 * 2500 * 65536
  let tol : Int := mA100 * 50 * 65536 + 5000 * 65536
  decide (0 < cnt ∧ 0 < preCnt ∧
    (sum * preCnt - preSum * cnt - want * (cnt * preCnt : Nat)).natAbs ≤ (tol * (cnt * preCnt : Nat)).natAbs)

/-- RUNTIME_TEST_SINK_OFF (R62, R63): at 12.00 ms window B closes, the sink goes off and both steps are judged. -/
def execRuntimeTestSinkOff (dt : Nat) (s : State) : Out :=
  let s := s.pass dt
  match s.rt with
  | some r => s.when (decide (r.stage = RtStage.winB ∧ r.origin + 12000000 ≤ s.now)) (fun s =>
      let ok := stepPasses r.sumA r.cntA r.preSum r.preCnt 350 && stepPasses r.sumB r.cntB r.preSum r.preCnt 700
      let s := { s with rt := some { r with stage := .decay, mark := s.now, steps := s.now :: r.steps, stepFail := !ok } }
      if ok then s else (s.prtFault r.port 16 0x0206).failPoint r.port)
  | none => .next s

/-- RUNTIME_TEST_SETTLE (R62, R64): 0.50 ms after the sink went off, the tested channel enters single-cycle mode. -/
def execRuntimeTestSettle (dt : Nat) (s : State) : Out :=
  let s := s.pass dt
  match s.rt with
  | some r => s.when (decide (r.stage = RtStage.decay ∧ r.mark + 500000 ≤ s.now)) (fun s =>
      { s with rt := some { r with stage := .settle } }.modChan (chanOf r.port r.sys) Chan.enterScm)
  | none => .next s

/-- RESULT of a test that ends (Table 2-8). -/
def RunTest.result (r : RunTest) : BitVec 4 :=
  if r.crossFail then 3 else if r.stepFail then 2 else if r.abandoned then 4 else 1

/-- A test ends with its result; a completed test of both systems sets the age and ends OVERDUE (R66). -/
def State.endTest (s : State) (r : RunTest) : State :=
  { s with rt := none }.modPort r.port (fun p => { p with
    testRes := r.result
    abandoned := if r.result = 4 then satInc p.abandoned else p.abandoned
    lastTest := if r.sys = Sys.cs2 ∧ r.result ≠ 4 then some s.now else p.lastTest
    overdue := p.overdue && !decide (r.sys = Sys.cs2 ∧ r.result ≠ 4) })

/-- The tested channel is back: a VALID sample of the single-cycle path, or, on a failed point, its fill has ended. -/
def State.testBack (s : State) (r : RunTest) : Bool :=
  let c := s.chans[chanOf r.port r.sys]
  if (s.ports[r.port]).failed then c.filled || c.scm.isNone else c.out.valid

/-- RUNTIME_TEST_COMPLETE (R62). -/
def execRuntimeTestComplete (dt : Nat) (s : State) : Out :=
  let s := s.pass dt
  match s.rt with
  | some r => s.when (decide (r.stage = RtStage.settle) && s.testBack r) (fun s =>
      if r.sys = .cs1 ∧ r.result = 1 then { s with rt := some { r with stage := .gap, mark := s.now } }
      else s.endTest r)
  | none => .next s

/-- RUNTIME_TEST_CS2_START (R62): 100 ms after the test of CS1 is complete. -/
def execRuntimeTestCs2Start (dt : Nat) (s : State) : Out :=
  let s := s.pass dt
  match s.rt with
  | some r => s.when (decide (r.stage = RtStage.gap ∧ r.mark + 100000000 ≤ s.now)) (fun s => s.beginTest r.port .cs2)
  | none => .next s

/-- The running test is abandoned or fails by coupling (R64, R291): the sink goes off after `late` ns. -/
def State.stopTest (s : State) (cross : Bool) (late : Nat) : State :=
  match s.rt with
  | some r =>
    let r := if cross then { r with crossFail := true } else { r with abandoned := true }
    match r.stage with
    | .gap => s.endTest { r with sys := .cs1 }
    | .settle => { s with rt := some r }
    | .decay => { s with rt := some r }
    | _ => { s with rt := some { r with stage := .decay, mark := s.now + late } }
  | none => s

/-- A run-time test runs on a port of the set. -/
def State.testOn (s : State) (p : Fin 64 → Bool) : Bool :=
  match s.rt with
  | some r => p r.port
  | none => false

/-- SURGE_DETECTED (R68): the clamp current rises above 10 mA, in a quiet port or again within the 1 ms after a clamp event. A
run-time test on the port is abandoned (R356). -/
def execSurgeDetected (dt : Nat) (n : Fin 64) (uA : Nat) (s : State) : Out :=
  let s := s.pass dt
  s.when (!s.inReset && decide (10000 < uA)) (fun s =>
    let s := s.modPort n (fun p => { p with surge := true, surgeSince := s.now, surgeCnt := satInc p.surgeCnt })
    if s.testOn (fun m => decide (m = n)) then s.stopTest false 0 else s)

/-- RUNTIME_TEST_OVERDUE (R66). -/
def execRuntimeTestOverdue (dt : Nat) (n : Fin 64) (s : State) : Out :=
  let s := s.pass dt
  let p := s.ports[n]
  s.when (!s.inReset && s.assigned n && !p.overdue &&
      decide (p.lastTest.getD p.assignedAt + 86400000000000 ≤ s.now)) (fun s =>
    (s.modPort n (fun p => { p with overdue := true })).fault 0x0208 n.val)

/-- A sample of the other system during a test (R64): `d` is its damping, `off` its OFF threshold. -/
def State.otherSample (s : State) (n : Fin 64) (y : Sys) (d : Int) (m : Nat) : State :=
  match s.rt with
  | some r =>
    if r.port = n ∧ r.sys = y.other ∧ r.stage ≠ .gap ∧ r.abandoned = false ∧ r.crossFail = false then
      let tap := (s.chans[chanOf n y]).tapHist.headD 0
      let off := decide (0 < r.othCnt ∧ (tap * r.othCnt - r.othSum).natAbs > 37500 * 65536 * r.othCnt)
      let fresh := off && !r.off && r.steps.any (fun t => decide (t ≤ s.now ∧ s.now ≤ t + 500000))
      let s := { s with rt := some { r with off := off } }
      if fresh then ((s.stopTest true (250000 / m)).prtFault n 17 0x0207).failPoint n
      else if (s.offOf n y : Int) < d then s.stopTest false (250000 / m)
      else s
    else s
  | none => s

/-! ### LB0 and LB1 (R69 to R71) -/

/-- The newest absolute tap of both systems lies within `tol` of `want` (4 nA / 65,536). -/
def State.tapsNear (s : State) (n : Fin 64) (want tol : Int) : Bool :=
  [Sys.cs1, Sys.cs2].all (fun y =>
    let t := (s.chans[chanOf n y]).tapHist.headD 0
    decide (want - tol ≤ t ∧ t ≤ want + tol))

/-- The sink current of LB0's step, in 4 nA (R69). -/
def lb0Current (phase : Nat) : Nat :=
  match phase with
  | 0 => 1750000
  | 1 => 2625000
  | _ => 3500000

/-- A step or pattern of a loopback ends after 20 ms and is judged. -/
def State.stepLoop (s : State) (n : Fin 64) (ok : Bool) : State :=
  s.modPort n (fun p => { p with lb := p.lb.map (fun l => { l with phase := l.phase + 1, ok := l.ok && ok }) })

/-- The loopback of kind `k` on port `n` whose next step of 20 ms has ended. -/
def State.loopStepDue (s : State) (n : Fin 64) (k : LbKind) (steps : Nat) : Option PortLb :=
  match (s.ports[n]).lb with
  | some l => if l.kind = k ∧ l.phase < steps ∧ l.begin + 20000000 * (l.phase + 1) ≤ s.now ∧ s.inReset = false then some l
              else none
  | none => none

/-- LB0_STEP (R69): ±1 % ±20 µA. -/
def execLb0Step (dt : Nat) (n : Fin 64) (s : State) : Out :=
  let s := s.pass dt
  match s.loopStepDue n .lb0 3 with
  | some l =>
    let i := lb0Current l.phase
    .next (s.stepLoop n (s.tapsNear n (i * 65536) ((i / 100 + 5000) * 65536)))
  | none => .next s

/-- LB1_STEP (R70): zero, then 90 % of full scale, ±0.2 % of full scale; full scale is 2^23 · 4 nA. -/
def execLb1Step (dt : Nat) (n : Fin 64) (s : State) : Out :=
  let s := s.pass dt
  match s.loopStepDue n .lb1 2 with
  | some l =>
    let want : Int := if l.phase = 0 then 0 else 2 ^ 39 * 9 / 10
    .next (s.stepLoop n (s.tapsNear n want (2 ^ 39 / 500)))
  | none => .next s

/-- Both channels of a port enter single-cycle mode at the next output instant. -/
def State.scmPort (s : State) (n : Fin 64) : State :=
  (s.modChan (chanOf n .cs1) Chan.enterScm).modChan (chanOf n .cs2) Chan.enterScm

/-- A port loopback has ended: the sections leave UNPROVEN 100b, the channels return through single-cycle mode. -/
def State.endPortLoop (s : State) (n : Fin 64) : State :=
  ((s.modPort n (fun p => { p with lb := none })).scmPort n).postPoint (.loop n false false)

/-- PORT_LOOPBACK_END (R71, R55, R291). -/
def execPortLoopbackEnd (dt : Nat) (n : Fin 64) (s : State) : Out :=
  let s := s.pass dt
  match (s.ports[n]).lb with
  | some l =>
    s.when (!s.inReset && decide ((l.kind = LbKind.lb0 ∧ l.phase = 3) ∨ (l.kind = LbKind.lb1 ∧ l.phase = 2))) (fun s =>
      let s1 := s.endPortLoop n
      if s.overlapsSuspect n l.begin then s1
      else
        let s1 := s1.modPort n (fun p =>
          if l.kind = LbKind.lb0 then { p with lb0Fail := !l.ok } else { p with lb1Fail := !l.ok })
        if l.ok then s1.settleFail n else (s1.prtFault n 18 0x020A).failPoint n)
  | none => .next s

/-! ### LB2 (R103) -/

/-- LB2_PHASE_CHANGE (R103): the complement starts after 10 ms. -/
def execLb2PhaseChange (dt : Nat) (n : Fin 64) (s : State) : Out :=
  let s := s.pass dt
  match s.lb2Of (chanOf n .cs1) with
  | some l => s.when (!s.inReset && decide (l.phase = 0 ∧ l.begin + 10000000 ≤ s.now)) (fun s =>
      let s := s.modPort n (fun p => { p with lb := some { l with phase := 1 } })
      [Sys.cs1, Sys.cs2].foldl (fun s y => s.modChan (chanOf n y) (fun c => { c with lb2Mod := 0, lb2Out := 0 })) s)
  | none => .next s

/-- The result of LB2 on one channel. -/
def State.lb2Judge (s : State) (c : Fin 128) : State :=
  let bad := (s.chans[c]).lb2Bad
  let s := s.modChan c (fun x => { x with lb2Res := if bad then 2 else 1 })
  if bad then s.fltFault c 4 0x0410 else s

/-- LB2_END (R103, R291): after 20 ms. -/
def execLb2End (dt : Nat) (n : Fin 64) (s : State) : Out :=
  let s := s.pass dt
  match s.lb2Of (chanOf n .cs1) with
  | some l => s.when (!s.inReset && decide (l.phase = 1 ∧ l.begin + 20000000 ≤ s.now)) (fun s =>
      if s.overlapsSuspect n l.begin then s.endPortLoop n
      else
        let bad := (s.chans[chanOf n .cs1]).lb2Bad || (s.chans[chanOf n .cs2]).lb2Bad
        let s := (s.lb2Judge (chanOf n .cs1)).lb2Judge (chanOf n .cs2)
        let s := if bad then s.postPoint (.loopFail n) else s
        s.endPortLoop n)
  | none => .next s

/-- A port loopback starts (R69, R70, R103): LB2 clears the histories of both channels, and their fades complete (R87). -/
def State.startPortLoop (s : State) (n : Fin 64) (k : LbKind) : State :=
  let s := s.modPort n (fun p => { p with lb := some { kind := k, begin := s.now } })
  let s := if k = .lb2 then
      [Sys.cs1, Sys.cs2].foldl (fun s y => s.modChan (chanOf n y) (fun c =>
        { c with resetNow := true, lb2Mod := 0, lb2Out := 0, lb2Bad := false, scm := none, filled := false }.endFade)) s
    else s
  s.postPoint (.loop n false true)

end Sys2Proof.Machine
end

