-- ==== Sys2Proof/Machine/Lanes.lean ====
section
/-! DEFINITION. Isolator lanes and return lanes (R34, R35, R76 to R79) and the SAR converter (R52, R60, R75, R288). -/

namespace Sys2Proof.Machine
open Sys2Proof

/-! ### Isolator lanes -/

/-- CHK of a lane word: an even number of ones in its 20 bits (Table 3-1). -/
def chkOk (w : BitVec 20) : Bool := decide ((List.range 20).countP (fun i => w.getLsbD i) % 2 = 0)

/-- One overhead stream of a superframe: bit `b` of every word. -/
def stream (b : Nat) (ws : List (BitVec 20)) : List Bool := ws.map (fun w => w.getLsbD b)

/-- Words `i` to `i + n - 1` of a stream as a number, most significant first. -/
def streamNat (l : List Bool) (i n : Nat) : Nat := ofBits ((l.drop i).take n)

/-- Bytes of a bit list. -/
def bitsToBytes (l : List Bool) (n : Nat) : List Byte := (List.range n).map (fun i => BitVec.ofNat 8 (streamNat l (8 * i) 8))

/-- The superframe passes the checks of R78; `tick`: the number of the tick that opened it. -/
def superframeOk (tick : Nat) (ws : List (BitVec 20)) : Bool :=
  let sync := stream 19 ws
  let sar := stream 18 ws
  let stat := stream 17 ws
  ws.all chkOk && decide (streamNat sync 0 16 = 0xE4B8) && decide (streamNat sync 16 16 = tick % 65536) &&
    decide ((crc16 (bitsToBytes sar 16 ++ bitsToBytes stat 8)).toNat = streamNat stat 64 16)

/-- The 16 channels of a lane. -/
def laneChans (k : Fin 8) : List (Fin 128) := (allFin 16).map (fun i => ⟨16 * k.val + i.val, by omega⟩)

/-- The eight ports of a lane. -/
def lanePorts (k : Fin 8) : List (Fin 64) := (allFin 8).map (fun j => portOfLane k j)

/-- A SYNCED lane enters FAULT (R78): 0310h, and FLT_FAULT.LANE of its 16 channels. -/
def State.laneFault (s : State) (k : Fin 8) : State :=
  let l := s.lanes[k]
  if l.synced then
    let s := s.modLane k (fun l => { l with synced := false, good := 0, resetDue := none, faultAt := some s.now,
                                            timedOut := false, syncLoss := satInc l.syncLoss })
    let s := (laneChans k).foldl (fun s c => s.modChan c (fun x => { x with fault := setBit x.fault 1 })) s
    s.fault 0x0310 k.val
  else s.modLane k (fun l => { l with good := 0 })

/-- LANE_WORD_FAULT (R78). -/
def execLaneWordFault (dt : Nat) (k : Fin 8) (chk : Bool) (s : State) : Out :=
  let s := s.pass dt
  s.when (!s.inReset) (fun s =>
    (s.modLane k (fun l => { l with dirty := true, wordErr := if chk then satInc l.wordErr else l.wordErr })).laneFault k)

/-- LANE_RESYNC_TIMEOUT (R34): not back within 10 ms. -/
def execLaneResyncTimeout (dt : Nat) (k : Fin 8) (s : State) : Out :=
  let s := s.pass dt
  let l := s.lanes[k]
  let due : Bool := match l.faultAt with
    | some t => decide (t + 10000000 ≤ s.now)
    | none => false
  s.when (!s.inReset && !l.synced && due && !l.timedOut) (fun s =>
    (s.modLane k (fun l => { l with timedOut := true })).postPoint (.laneFail k))

/-- LANE_RETURN_SYNC_RESET (R78): at the tick after the one of the return. -/
def execLaneReturnSyncReset (k : Fin 8) (s : State) : Out :=
  match (s.lanes[k]).resetDue with
  | some n => s.when (!s.inReset && decide (n ≤ s.tickNo)) (fun s =>
      (laneChans k).foldl (fun s c => s.resetChan c false) (s.modLane k (fun l => { l with resetDue := none })))
  | none => .next s

/-- PRBS-15 of R79: the next bit and state; x^15 + x^14 + 1, the bit is the one shifted out. -/
def prbsStep (x : BitVec 15) : Bool × BitVec 15 :=
  (x.getLsbD 14, (x <<< 1) ||| (if xor (x.getLsbD 14) (x.getLsbD 13) then 1 else 0))

/-- The CH field of one word against the generator, bit 15 first; the state after it and whether a bit differs. -/
def prbsWord (x : BitVec 15) (w : BitVec 20) : BitVec 15 × Bool :=
  (List.range 16).foldl (fun a i =>
    let r := prbsStep a.1
    (r.2, a.2 || (r.1 != w.getLsbD (15 - i)))) (x, false)

/-- The echo of one superframe compared (R79). -/
def Echo.compare (ws : List (BitVec 20)) (e : Echo) : Echo :=
  let r := ws.foldl (fun a w =>
    let x := prbsWord a.1 w
    (x.1, a.2 || x.2)) (e.prbs, e.mismatch)
  { e with prbs := r.1, mismatch := r.2, frames := e.frames + 1 }

/-- A SAR result of 16 stream bits enters the measurement registers of its port (R75, Table 2-8). -/
def Port.takeSar (v : Nat) (sign : Int) (p : Port) : Port :=
  let code := v % 4096
  match v / 16384 with
  | 0 => { p with loopV1 := BitVec.ofNat 16 (roundConv (code * 3200) 4096).toNat }
  | 1 => { p with loopV2 := BitVec.ofNat 16 (roundConv (code * 3200) 4096).toNat }
  | 2 => { p with supplyV := BitVec.ofNat 16 (max 0 (roundConv (code * 3200 - sign * 409600) 4096)).toNat }
  | _ => { p with fieldV := BitVec.ofNat 16 (roundConv (code * 1600) 4096).toNat }

/-- The value of the chip in force at the conversion after the tick at `tb`, in V (R57, R75). -/
def chipValue (n tb : Nat) : Int := if chipPlus n ((tb + 5000) / 20000 % 64) then 1 else -1

/-- The ports that a return lane serves. -/
def retPorts (r : Fin 2) : List (Fin 64) := (allFin 64).filter (fun n => decide (retOfPort n = r))

/-- What a superframe reports of a return lane (R35): from the first report of a failure on the ports served are blind. A report
that the lane is back ends that; a ramp that its return has started blinds by itself until 2 ms after its end. -/
def State.returnReport (s : State) (r : Fin 2) (failed : Bool) : State :=
  let s := (retPorts r).foldl (fun (s : State) n => s.modPort n (fun p => { p with retBlind := failed })) s
  { s with retLanes := upd s.retLanes r (fun l =>
      { l with reportAt := if failed then some (l.reportAt.getD s.now) else none }) }

/-! ### What the field side puts into a superframe (R77) -/

/-- The sink or loopback switch that the logic side asks for: the sink of a run-time test, LB0, LB1 (R62, R69, R70). -/
def State.wantSwitch (s : State) (n : Fin 64) : Bool :=
  (match (s.ports[n]).lb with
    | some l => !decide (l.kind = LbKind.lb2)
    | none => false) ||
  (match s.rt with
    | some r => decide (r.port = n ∧
        (r.stage = RtStage.sinkA ∨ r.stage = RtStage.winA ∨ r.stage = RtStage.sinkB ∨ r.stage = RtStage.winB))
    | none => false)

/-- One bit for each of eight things, number 7 first. -/
def eightBits (f : Fin 8 → Bool) : Byte := BitVec.ofNat 8 (ofBits ((allFin 8).reverse.map f))

/-- The status words of the superframe that opens on lane `k` (Table 3-2). -/
def State.openSf (s : State) (k : Fin 8) : SfStat where
  surge := eightBits (fun j => (s.ports[portOfLane k j]).surge)
  regOn := eightBits (fun j => (s.ports[portOfLane k j]).supplyOn)
  ovl := BitVec.ofNat 16 (ofBits ((laneChans k).reverse.map (fun c => (s.chans[c]).ovlFlag)))
  ret := BitVec.ofNat 2 (2 * b2n (s.retLanes[(0 : Fin 2)]).failed + b2n (s.retLanes[(1 : Fin 2)]).failed)
  switch := eightBits (fun j => (s.ports[portOfLane k j]).switchOn)

/-- The field side at a tick: what the return lanes carry reaches the ports, the superframe that has run ends, and the next one
opens with the newest conversions and with the overloads flagged since the last tick. `old`: the number of the tick before; the words
of a superframe whose end has not been taken by now are let go. -/
def State.fieldAtTick (s : State) (old : Nat) : State :=
  let s := { s with ports := Vector.ofFn (fun (n : Fin 64) =>
    let p := s.ports[n]
    { p with convEnd := p.convRun, convRun := p.conv, switchOn := if s.retUp n then s.wantSwitch n else p.switchOn }) }
  { s with
    lanes := Vector.ofFn (fun (k : Fin 8) =>
      let l := s.lanes[k]
      { l with sfEnd := l.sfRun, sfRun := s.openSf k, inSf := if l.lastSf = some old then l.inSf else l.inSf - 1536 })
    chans := s.chans.map (fun (c : Chan) => { c with ovlFlag := false }) }

/-- A conversion as its 16 stream bits (Table 3-2). -/
def Conv.bits (c : Conv) : Nat := c.slot.val * 16384 + c.code.toNat

/-- The SAR and status words of a superframe are those that the field side sent. The housekeeping flag and the command sequence
number are not among what the state holds. -/
def State.carries (s : State) (k : Fin 8) (ws : List (BitVec 20)) : Bool :=
  let sar := stream 18 ws
  let stat := stream 17 ws
  let f := (s.lanes[k]).sfEnd
  (allFin 8).all (fun j => decide (streamNat sar (16 * j.val) 16 = (s.ports[portOfLane k j]).convEnd.bits)) &&
    decide (streamNat stat 0 16 = f.surge.toNat * 256 + f.regOn.toNat ∧ streamNat stat 16 16 = f.ovl.toNat ∧
      streamNat stat 32 16 / 16384 = f.ret.toNat ∧ streamNat stat 35 5 = 0 ∧ streamNat stat 40 8 = f.switch.toNat)

/-- The words of a superframe that the lane has already received are these (R76). -/
def Lane.begins (ws : List (BitVec 20)) (l : Lane) : Bool :=
  decide (ws.take l.inSf = ((l.rx.take l.inSf).reverse).take 1536)

/-- The lane's superframe has ended: the words of it that have not come with an output instant arrive, and later words belong to
the next superframe. -/
def Lane.endSf (ws : List (BitVec 20)) (l : Lane) : Lane :=
  let l' := l.receive (ws.drop l.inSf)
  { l' with inSf := l'.inSf - 1536 }

/-- The logic side declares the field bus cut-off (R293): at the first superframe that reports the regulators off. -/
def State.declareCutoff (s : State) : State :=
  if s.sup.cutDeclared then s
  else
    let s := { s with sup := { s.sup with cutDeclared := true, cutPending := false } }
    let s := if s.sup.cutOver then s.supFault 6 0x0107 0xFFFF else s.supFault 5 0x0106 0xFFFF
    s.beginCause .cutoff

/-- The data of a superframe that passed its checks (R74, R75, R77). -/
def State.takeSuperframe (s : State) (k : Fin 8) (ws : List (BitVec 20)) : State :=
  let sar := stream 18 ws
  let stat := stream 17 ws
  let s := (allFin 8).foldl (fun s j =>
    s.modPort (portOfLane k j) (fun p => p.takeSar (streamNat sar (16 * j.val) 16) p.convEnd.chip)) s
  let flags := streamNat stat 0 16
  let misc := streamNat stat 32 16
  let s := s.modLane k (fun l => { l with
    surgeStat := BitVec.ofNat 8 (flags / 256), regOn := BitVec.ofNat 8 flags
    retFail := BitVec.ofNat 2 (misc / 16384), hkLow := natBit misc 13, switch := BitVec.ofNat 8 misc
    seqEcho := BitVec.ofNat 16 (streamNat stat 48 16) })
  let ovl := streamNat stat 16 16
  let s := (laneChans k).foldl (fun s c => if natBit ovl (c.val % 16) then s.reportOverload c else s) s
  let s := (s.returnReport 0 (natBit misc 15)).returnReport 1 (natBit misc 14)
  let on := (lanePorts k).any (fun n => s.assigned n) || !(allFin 64).any (fun n => s.assigned n)
  if s.sup.cutPending = true ∧ on = true ∧ (lanePorts k).all (fun n => !natBit flags (n.val % 8)) = true then s.declareCutoff
  else s

/-- LANE_SUPERFRAME (R76 to R79): once per lane and tick, at the tick that ends it. A superframe that passes its checks carries
what the field side sent. -/
def execLaneSuperframe (k : Fin 8) (ws : List (BitVec 20)) (s : State) : Out :=
  if ws.length ≠ 1536 then .fault .notAnEvent
  else
    let l := s.lanes[k]
    let ok := superframeOk (s.clk.prevTb / 250000) ws
    s.when (!s.inReset && decide (l.lastSf ≠ some s.tickNo) && l.begins ws && (!ok || s.carries k ws)) (fun s =>
      let dirty := l.dirty
      let s := s.modLane k (fun l => { l.endSf ws with
        lastSf := some s.tickNo, dirty := false
        wordErr := if dirty then l.wordErr else satAdd l.wordErr (ws.countP (fun w => !chkOk w))
        echo := l.echo.map (fun e => if e.begin < s.clk.tickAt then e.compare ws else e) })
      if ok = true ∧ dirty = false then
        let s :=
          if l.synced then s
          else if l.good = 0 then s.modLane k (fun l => { l with good := 1 })
          else s.modLane k (fun l => { l with synced := true, good := 0, faultAt := none, timedOut := false,
                                              resetDue := some (s.tickNo + 1) })
        s.takeSuperframe k ws
      else s.laneFault k)

/-- LANE_ECHO_END (R79, R291): after 10 ms. -/
def execLaneEchoEnd (dt : Nat) (k : Fin 8) (s : State) : Out :=
  let s := s.pass dt
  match (s.lanes[k]).echo with
  | some e => s.when (!s.inReset && decide (e.begin + 10000000 ≤ s.now)) (fun s =>
      let skip := (lanePorts k).any (fun n => s.overlapsSuspect n e.begin)
      let s := s.modLane k (fun l => { l with echo := none })
      let s := if e.mismatch = true ∧ skip = false then
          ((laneChans k).foldl (fun s c => s.modChan c (fun x => { x with fault := setBit x.fault 0 })) s).fault 0x0312 k.val
            |>.postPoint (.laneFail k)
        else s
      let s := (laneChans k).foldl (fun s c => s.modChan c Chan.enterScm) s
      (lanePorts k).foldl (fun s n => s.postPoint (.loop n true false)) s)
  | none => .next s

/-- The echo starts (R79): the generator is seeded with k + 1, and the sections of the lane's points become UNPROVEN. -/
def State.startEcho (s : State) (k : Fin 8) : State :=
  let s := s.modLane k (fun l => { l with echo := some { begin := s.now, prbs := BitVec.ofNat 15 (k.val + 1) } })
  (lanePorts k).foldl (fun s n => s.postPoint (.loop n true true)) s

/-! ### Return lanes (R35) -/

/-- RETURN_LANE_FAILURE (R35): setpoints are held, test pulses stop; the superframes that open from the next tick on report it. -/
def execReturnLaneFailure (dt : Nat) (r : Fin 2) (s : State) : Out :=
  let s := s.pass dt
  s.when (!s.inReset && !(s.retLanes[r]).failed) (fun s =>
    let s := { s with retLanes := upd s.retLanes r (fun _ => { failed := true, failedAt := s.now }) }
    (retPorts r).foldl (fun s n => s.modPort n (fun p => { p with pulsesOn := false })) s)

/-- RETURN_LANE_TIMEOUT (R35): after 100 ms the field side switches the regulators off. -/
def execReturnLaneTimeout (dt : Nat) (r : Fin 2) (s : State) : Out :=
  let s := s.pass dt
  let l := s.retLanes[r]
  s.when (!s.inReset && l.failed && !l.off && decide (l.failedAt + 100000000 ≤ s.now)) (fun s =>
    let s := { s with retLanes := upd s.retLanes r (fun l => { l with off := true }) }
    (retPorts r).foldl (fun s n => s.supplyOff n) s)

/-- What reaches a port when its return lane is back (R35, R49): a regulator that was switched off, or whose setpoint an image has
changed meanwhile, ramps; that of a port no longer assigned goes off; the pulses run again. -/
def State.retBack (s : State) (off : Bool) (n : Fin 64) : State :=
  if !s.assigned n then s.supplyOff n
  else
    let s := s.modPort n (fun p => { p with pulsesOn := p.supplyOn })
    if (off || ((s.ports[n]).supplyOn && decide ((s.ports[n]).setpoint.toNat ≠ s.supplySet n))) &&
        decide (s.sup.field.st ≠ RailSt.cutoff) then s.startRamp n
    else s

/-- RETURN_LANE_RESTORED (R35, R49): the regulators of assigned ports ramp again where they had been switched off. -/
def execReturnLaneRestored (dt : Nat) (r : Fin 2) (s : State) : Out :=
  let s := s.pass dt
  let l := s.retLanes[r]
  s.when (!s.inReset && l.failed) (fun s =>
    let s := { s with retLanes := upd s.retLanes r (fun l => { reportAt := l.reportAt }) }
    (retPorts r).foldl (fun s n => s.retBack l.off n) s)

/-! ### SAR_CONVERSION (R52, R54, R60, R75, R286, R288) -/

/-- One port's conversion of `slot`. For the supply slot, R54's regulation against the voltage that the regulator holds and the chip
that the train carries, and R60's check of the train against the chip in force. Volts are code / 128; everything is compared in
1/1,280 V. Readings that are not judged start both rules anew (log 86). -/
def Port.convert (slot : Fin 4) (code : BitVec 12) (sign : Int) (judge : Bool) (now : Nat) (p : Port) :
    Port :=
  let chip : Int := if p.pulsesOn then sign else 0
  let p := { p with
    sarPrev := p.sarPrev.set slot.val p.sar[slot], sar := p.sar.set slot.val code, sarCount := p.sarCount + 1
    conv := { slot := slot, code := code, chip := chip } }
  if slot = 2 then
    if judge then
      let set : Int := p.ramped now
      let dev : Int := 10 * (code.toNat : Int) - set
      let out := decide (20 * (dev - 1280 * chip).natAbs > (set + 5120).natAbs)
      let bad := out && p.supplyPrev
      let pulse := decide ((dev - 1280 * sign).natAbs > 384)
      { p with supplySince := since now bad p.supplySince, supplyBad := p.supplyBad && bad, supplyPrev := out
               pulseBad := if pulse then p.pulseBad + 1 else 0, pulseFault := p.pulseFault && pulse }
    else { p with supplySince := none, supplyPrev := false, pulseBad := 0 }
  else p

/-- Insertion sort. -/
def insertNat (x : Nat) : List Nat → List Nat
  | [] => [x]
  | a :: l => if x ≤ a then x :: a :: l else a :: insertNat x l

def sortNat (l : List Nat) : List Nat := l.foldr insertNat []

/-- The field bus readings of one conversion tick (R286, R288). -/
def State.fieldReadings (s : State) (codes : Vector (BitVec 12) 64) : State :=
  let all := sortNat ((allFin 64).map (fun n => (codes[n]).toNat))
  let med2 : Int := (all.getD 31 0 + all.getD 32 0 : Nat)
  let s := (allFin 64).foldl (fun s n =>
    let off := decide (1000 * (2 * ((codes[n]).toNat : Int) - med2).natAbs > (102400 + 30 * med2).natAbs)
    s.modPort n (fun p =>
      let agree := since s.now (!off) p.agreeSince
      let back : Bool := match agree with
        | some t => decide (t + 1000000000 ≤ s.now)
        | none => false
      { p with diffSince := since s.now off p.diffSince, agreeSince := agree, excluded := p.excluded && !back })) s
  let used := sortNat ((allFin 64).filterMap (fun n => if (s.ports[n]).excluded then none else some (codes[n]).toNat))
  { s with sup := { s.sup with
      median := BitVec.ofNat 16 (roundConv (med2 * 800) 4096).toNat
      secondLow := BitVec.ofNat 16 (roundConv ((used.getD 1 (used.getD 0 0)) * 1600) 4096).toNat
      secondCode := some (BitVec.ofNat 12 (used.getD 1 (used.getD 0 0))) } }

/-- SAR_CONVERSION (R75): 5.00 µs after the tick, one slot of all 64 inputs, once per frame. -/
def execSarConversion (codes : Vector (BitVec 12) 64) (s : State) : Out :=
  s.when (!s.inReset && decide (s.clk.sarRead ≠ some s.clk.tickAt)) (fun s =>
    let s := s.upTo (s.inFrame 5000)
    let s := { s with clk := { s.clk with sarRead := some s.clk.tickAt } }
    let slot : Fin 4 := ⟨s.tickNo % 4, Nat.mod_lt _ (by decide)⟩
    let s := (allFin 64).foldl (fun (s : State) (n : Fin 64) =>
      let judge := s.supplyJudged n
      let s := s.modPort n (fun p => p.convert slot codes[n] (chipValue n.val s.clk.tickTb) judge s.now)
      if judge = true ∧ 8 ≤ (s.ports[n]).pulseBad ∧ (s.ports[n]).pulseFault = false then
        ((s.modPort n (fun p => { p with pulseFault := true })).prtFault n 11 0x0210).failPoint n
      else s.settleFail n) s
    if slot = 3 then s.fieldReadings codes else s)

/-- FIELD_READING_DEVIATION (R288): off the median for 10 ms. -/
def execFieldReadingDeviation (dt : Nat) (n : Fin 64) (s : State) : Out :=
  let s := s.pass dt
  let due : Bool := match (s.ports[n]).diffSince with
    | some t => decide (t + 10000000 ≤ s.now)
    | none => false
  s.when (!s.inReset && due && !(s.ports[n]).excluded) (fun s =>
    (s.modPort n (fun p => { p with excluded := true, agreeSince := none })).supFault 8 0x0109 n.val)

end Sys2Proof.Machine
end

