-- ==== Sys2Proof/Machine/Axles.lean ====
section
/-! DEFINITION. The wheel detection unit of a point (R107 to R125), LB3 (R104) and the waveform snippets (R320). -/

namespace Sys2Proof.Machine
open Sys2Proof

/-! ### Records -/

/-- The point's WDU emits a record (R118, R125, R320): entry number, snippet, and, but for a TEST record, the counters, the
last record and, for an uncertain one, fault 0501h with its cause. `cnt`: N of R320. DESIGN CHOICE (log 95): a TEST record
counts in no WDU register and logs nothing. -/
def State.emitRecord (s : State) (n : Fin 64) (r : AxleRec) (cnt : Nat) : State :=
  let str := if r.uncertain then 1 else min 8 (max 1 ((cnt + 31) / 32))
  let num := s.mgt.axlEmit
  let m := s.chanM (chanOf n .cs1)
  let s := { s with mgt := { s.mgt with axlEmit := num + 1 } }
  let s := s.modWdu n (fun w => { w with
    outQ := w.outQ ++ [{ record := r, num := num }]
    snips := w.snips ++ [{ record := r, num := num, stride := str, left := 24 * str, rate := m }] })
  if r.test then s
  else
    let s := s.modPort n (fun p => { p with quietSince := none, eligible := false })
    let s := s.modWdu n (fun w => { w with lastRec := some r })
    if r.uncertain then
      let s := s.modWdu n (fun w => { w with
        uncCnt := satInc w.uncCnt, lastCause := r.cause, fault := setBit w.fault 0 })
      s.logD 0x0501 (BitVec.ofNat 16 n.val) (r.cause.setWidth 48)
    else
      s.modWdu n (fun w =>
        if r.dir = 1 then { w with cntFwd := w.cntFwd + 1 } else { w with cntRev := w.cntRev + 1 })

/-- An event of the live context becomes a record. -/
def State.emitEvent (s : State) (n : Fin 64) (ev : WduEv) (inst : Nat) : State :=
  match ev with
  | .none => s
  | .unc c => s.emitRecord n (uncRecord (s.wduCfg n false) c inst) 1
  | .commit r k => s.emitRecord n r k

/-! ### Alignment (R107, R108) -/

/-- ALIGN_N and the delayed channel (true CS2); equal path delays keep the channel. -/
def State.alignFor (s : State) (n : Fin 64) (cur : Bool) : Nat × Bool :=
  let g1 := s.g0 (chanOf n .cs1)
  let g2 := s.g0 (chanOf n .cs2)
  (min 63 (roundConv ((g1 - g2).natAbs : Int) (250000 * 256)).toNat,
   if g1 = g2 then cur else decide (g2 < g1))

/-- A new sample through the delay line of `k` periods: what comes out, and the line. -/
def delayLine (line : List Sample) (x : Sample) : Sample × List Sample :=
  match line with
  | [] => (x, [])
  | a :: rest => (a, rest ++ [x])

/-- The delay line set to `k` periods: growth inserts samples with VALID=0, shrinking drops the oldest (R108). -/
def resizeLine (line : List Sample) (k : Nat) : List Sample :=
  if line.length ≤ k then List.replicate (k - line.length) ({} : Sample) ++ line else line.drop (line.length - k)

/-- ALIGN_N takes its value for the present path delays. -/
def State.realignPoint (s : State) (n : Fin 64) : State :=
  s.modWdu n (fun w =>
    let a := s.alignFor n w.alignCh
    { w with alignN := BitVec.ofNat 6 a.1, alignCh := a.2, realign := false, realignNow := false
             line := resizeLine (if a.2 = w.alignCh then w.line else []) a.1 })

/-- The half of a paired sample that a sample word gives (R110). -/
def halfOf (span : Nat) (x : Sample) : Half :=
  { d := damping span x.value.toInt, valid := x.valid, scm := decide (x.path = 2) }

/-! ### PAIRED_SAMPLE -/

/-- The history and the snippets that wait for later samples (R320). -/
def Wdu.history (h1 h2 : Half) (w : Wdu) : Wdu :=
  let it : HistItem := { d1 := BitVec.ofInt 16 h1.d, d2 := BitVec.ofInt 16 h2.d, v1 := h1.valid, v2 := h2.valid,
                         scm := h1.scm || h2.scm }
  let hist := (it :: w.hist).take 512
  { w with
    hist := hist
    snips := w.snips.map (fun x =>
      if x.left = 0 then x
      else if x.left = 1 then
        { x with left := 0, items := (List.range 64).map (fun i =>
            hist.getD ((63 - i) * x.stride) { d1 := 0, d2 := 0, v1 := false, v2 := false, scm := false }) }
      else { x with left := x.left - 1 }) }

/-- ACTIVE of a channel (R116): at or above FREEZE_LVL on a valid sample of this instant; the 50 ms run from it. -/
def State.judgeActive (s : State) (h1 h2 : Half) (c : Fin 128) : State :=
  let above (h : Half) : Bool := h.valid && decide ((s.freezeOf c : Int) ≤ h.d)
  if above h1 || above h2 then s.modChan c (fun x => { x with active := true, aboveAt := s.now }) else s

/-- R61's quiet time of a port: both channels valid, neither system above its OFF threshold. -/
def State.judgeQuiet (s : State) (n : Fin 64) (h1 h2 : Half) : State :=
  let quiet := h1.valid && h2.valid && decide (h1.d ≤ s.offOf n .cs1) && decide (h2.d ≤ s.offOf n .cs2)
  s.modPort n (fun p =>
    if quiet then { p with quietSince := some (p.quietSince.getD s.now) } else { p with quietSince := none, eligible := false })

/-- LB3's test context takes the stimulus of this output instant (R104). -/
def State.feedLb3 (s : State) (n : Fin 64) (inst : Nat) : State :=
  match (s.wdus[n]).lb3 with
  | none => s
  | some l =>
    let g := s.wduCfg n true
    let d := lb3Stimulus g.m g.spacing l.run l.k
    let h (x : Int) : Half := { d := clampInt (-2000) 2000 x, valid := true, scm := false }
    let r := l.ctx.evaluate g (h d.1) (h d.2) inst false
    let out : Option (AxleRec × Nat) := match r.2 with
      | .none => none
      | .unc c => some (uncRecord g c inst, 1)
      | .commit a k => some (a, k)
    let recs := match out with
      | some a => [a.1]
      | none => []
    let l := { l with ctx := r.1, k := l.k + 1 }
    let l := match l.run with
      | 1 => { l with res1 := l.res1 ++ recs }
      | 2 => { l with res2 := l.res2 ++ recs }
      | _ => { l with res3 := l.res3 ++ recs }
    let s := s.modWdu n (fun w => { w with lb3 := some l })
    match out with
    | some a => s.emitRecord n a.1 a.2
    | none => s

/-- The WDU on the aligned pair (R110 to R118, R124), after the samples have entered the delay line. -/
def State.evalPair (s : State) (n : Fin 64) (x1 x2 : Sample) (inst : Nat) : State :=
  let span := s.spanOf n
  let h1 := halfOf span x1
  let h2 := halfOf span x2
  let susp := s.suspect n
  let w := s.wdus[n]
  let r := w.ctx.evaluate (s.wduCfg n false) h1 h2 inst susp
  let neg (h : Half) (old : Option Nat) : Option Nat := if h.valid then since s.now (decide (h.d < -150)) old else none
  let s := s.modWdu n (fun w => { w.history h1 h2 with
    ctx := r.1, suspect := susp
    neg1 := neg h1 w.neg1, neg2 := neg h2 w.neg2
    last1 := if h1.valid then h1.d else w.last1, last2 := if h2.valid then h2.d else w.last2
    realign := w.realign || !h1.valid || !h2.valid })
  let s := s.judgeQuiet n h1 h2
  let s := (s.judgeActive h1 h2 (chanOf n .cs1)).judgeActive h1 h2 (chanOf n .cs2)
  let m := s.chanM (chanOf n .cs1)
  let s := if h1.valid then s.otherSample n .cs1 h1.d m else s
  let s := if h2.valid then s.otherSample n .cs2 h2.d m else s
  let s := s.emitEvent n r.2 inst
  if (h1.valid && h2.valid && (s.wdus[n]).realign) = true ∨ (s.wdus[n]).realignNow = true then s.realignPoint n else s

/-- The last output instant of a point that another one has followed. -/
def State.pastInst (s : State) (n : Fin 64) : Nat :=
  let t := toutUnits (s.chanM (chanOf n .cs1))
  s.tb * instUnit / t * t - t

/-- PAIRED_SAMPLE (R107 to R125): the samples of both channels at one output instant. A channel that delivered none counts
as VALID=0, and so do both at an instant that passed without any. -/
def execPairedSample (n : Fin 64) (s : State) : Out :=
  let w := s.wdus[n]
  let some' := w.in1.isSome || w.in2.isSome
  s.when (!s.inReset && s.assigned n && (some' || decide (w.ctx.inst < s.pastInst n))) (fun s =>
    let x1 := w.in1.getD {}
    let x2 := w.in2.getD {}
    let inst := if some' then w.inInst else s.pastInst n
    let p := delayLine w.line (if w.alignCh then x2 else x1)
    let s := s.modWdu n (fun w => { w with in1 := none, in2 := none, line := p.2 })
    let s := if w.alignCh then s.evalPair n x1 p.1 inst else s.evalPair n p.1 x2 inst
    s.feedLb3 n inst)

/-- NEGATIVE_DAMPING_TIMEOUT (R113): the baseline is repaired, 0503h, and a record with cause 09h unless SPENT. -/
def execNegativeDampingTimeout (dt : Nat) (n : Fin 64) (y : Sys) (s : State) : Out :=
  let s := s.pass dt
  let w := s.wdus[n]
  let t := match y with
    | .cs1 => w.neg1
    | .cs2 => w.neg2
  let due : Bool := match t with
    | some t => decide (t + 50000000 ≤ s.now)
    | none => false
  s.when (!s.inReset && s.assigned n && due) (fun s =>
    let s := s.modChan (chanOf n y) Chan.loadBase
    let s := s.modWdu n (fun w => match y with
      | .cs1 => { w with neg1 := none, baseDamped := false }
      | .cs2 => { w with neg2 := none, baseDamped := false })
    let s := s.wduFault n 2 0x0503
    if w.ctx.phase = Phase.spent then s
    else
      let s := s.modWdu n (fun w => { w with ctx := { w.ctx with phase := .spent } })
      s.emitEvent n (.unc 9) w.ctx.inst)

/-- ACTIVE_HOLD_END (R116): 50 ms after the last damping at or above FREEZE_LVL. -/
def execActiveHoldEnd (dt : Nat) (c : Fin 128) (s : State) : Out :=
  let s := s.pass dt
  let w := s.wdus[portOf c]
  let x := s.chans[c]
  s.when (!s.inReset && x.active && decide (w.last1 < s.freezeOf c ∧ w.last2 < s.freezeOf c) &&
      decide (x.aboveAt + 50000000 ≤ s.now)) (fun s =>
    s.modChan c (fun x => { x with active := false }))

/-! ### LB3 (R104) -/

/-- LB3_RUN (R104): 100 ms after the stimulus of a run, the next one starts. -/
def execLb3Run (dt : Nat) (n : Fin 64) (s : State) : Out :=
  let s := s.pass dt
  match (s.wdus[n]).lb3 with
  | some l => s.when (!s.inReset && decide (l.run < 3 ∧ l.begin + lb3RunNs (s.spacingOf n) l.run + 100000000 ≤ s.now)) (fun s =>
      s.modWdu n (fun w => { w with lb3 := some { l with run := l.run + 1, begin := s.now, k := 0 } }))
  | none => .next s

/-- LB3_RESULT (FLT_LOOP): wrong record count, wrong direction, speed outside 396 to 404, or PASS. -/
def Lb3.verdict (l : Lb3) : BitVec 4 :=
  match l.res1, l.res2, l.res3 with
  | [a], [b], [] =>
    if a.uncertain ∨ b.uncertain then 2
    else if a.dir ≠ 1 ∨ b.dir ≠ 2 then 3
    else if a.speed.toNat < 396 ∨ 404 < a.speed.toNat ∨ b.speed.toNat < 396 ∨ 404 < b.speed.toNat then 4
    else 1
  | _, _, _ => 2

/-- LB3_END (R104): after run 3. -/
def execLb3End (dt : Nat) (n : Fin 64) (s : State) : Out :=
  let s := s.pass dt
  match (s.wdus[n]).lb3 with
  | some l => s.when (!s.inReset && decide (l.run = 3 ∧ l.begin + lb3RunNs (s.spacingOf n) 3 ≤ s.now)) (fun s =>
      let s := s.modWdu n (fun w => { w with
        lb3 := none, lb3Res := l.verdict, lb3Speed := (l.res1.head?.map AxleRec.speed).getD 0 })
      if l.verdict = 1 then s else (s.wduFault n 4 0x0511).postPoint (.loopFail n))
  | none => .next s

/-- LB3 starts at its effective tick. -/
def State.startLb3 (s : State) (n : Fin 64) : State :=
  s.modWdu n (fun w => { w with lb3 := some { begin := s.now } })

/-! ### AXLE_ENTRY_WRITTEN (R320) -/

/-- The axle entry of a snippet that is complete. -/
def Snip.entry (x : Snip) : AxleEntry :=
  { num := x.num, record := x.record, stride := x.stride, rate := x.rate
    scm := x.items.any (fun i => i.scm)
    validMap := BitVec.ofNat 64 (ofBits ((x.items.map (fun i => i.v1 && i.v2)).reverse))
    samples := x.items.map (fun i => (i.d1, i.d2)) }

/-- AXLE_ENTRY_WRITTEN (R320): the oldest complete entry of the point enters the page buffer of the axle ring. -/
def execAxleEntryWritten (n : Fin 64) (s : State) : Out :=
  match (s.wdus[n]).snips.find? (fun x => decide (x.left = 0) && x.taken) with
  | some x => s.when s.pewterOn (fun s =>
      let s := s.modWdu n (fun w => { w with snips := w.snips.erase x })
      { s with mgt := { s.mgt with
          axlBufAt := if s.mgt.axlBuf.isEmpty then s.now else s.mgt.axlBufAt
          axlEpoch := if s.mgt.axlBuf.isEmpty then s.mgt.epoch.toNat else s.mgt.axlEpoch
          axlBuf := s.mgt.axlBuf ++ [x.entry] } })
  | none => .next s

end Sys2Proof.Machine
end

