-- ==== Sys2Proof/Machine/Supply.lean ====
section
/-! DEFINITION. The supervised rails, warning episodes, the field bus cut-off and the logic input (R286 to R293). -/

namespace Sys2Proof.Machine
open Sys2Proof

/-! ### Thresholds (Table 11-2) -/

/-- A reading of a rail below its warning level: mV, and 0.1 V for the field bus. -/
def Rail.low (r : Rail) (reading : Nat) : Bool :=
  match r with
  | .v33 => decide (reading < 3100)
  | .core => decide (reading < 855)
  | .field => decide (reading < 155)

/-- A reading of a logic rail above its upper reset threshold. -/
def Rail.high (r : Rail) (reading : Nat) : Bool :=
  match r with
  | .v33 => decide (3600 < reading)
  | .core => decide (960 < reading)
  | .field => false

/-- A reading, in mV or 10 mV, above the warning level plus hysteresis. -/
def Rail.above (r : Rail) (reading : Nat) : Bool :=
  match r with
  | .v33 => decide (3150 < reading)
  | .core => decide (865 < reading)
  | .field => decide (1555 < reading)

/-- A reading of a logic rail below its upper threshold minus hysteresis. -/
def Rail.belowUpper (r : Rail) (reading : Nat) : Bool :=
  match r with
  | .v33 => decide (reading < 3550)
  | .core => decide (reading < 950)
  | .field => true

/-! ### Tests under way (Table 11-8) -/

/-- An abort that is due takes hold where no segment runs: at a boundary, in a pause, before the first segment (R308). -/
def State.abortIfIdle (s : State) : State :=
  if s.tst.state = TstState.shutdown ∧ s.tst.abortReq.isSome = true ∧ s.tst.running = false then
    { s with tst := { s.tst with state := .aborting, abortAt := some s.now, pauseSince := none, firstAt := none } }
  else s

/-- A rail enters WARNING while a test runs: a start holds at its next segment boundary, a shutdown self-test is aborted
with the given cause. A cut-off within LB0 of a start repeats that step; the other places of a start wait by themselves. -/
def State.supplyMeetsTest (s : State) (cause : BitVec 4) : State :=
  if s.mdl.phase = ModPhase.start ∧ cause = 2 then
    { s with tst := { s.tst with held := true } }.tstFault 5 0x0C06
  else if s.mdl.phase = ModPhase.start ∧ s.mdl.startStage = StartStage.lb0 then
    { s with tst := { s.tst with held := true } }
  else if s.tst.state = TstState.shutdown then
    ({ s with tst := { s.tst with abortReq := some (s.tst.abortReq.getD cause) } }.tstFault 5 0x0C06).abortIfIdle
  else s

/-- The held start sequence goes on when NORMAL returns: the interrupted step from its first segment. -/
def Tst.repeatStep (t : Tst) : Tst :=
  if t.held then { t with held := false, running := true, count := t.count - BitVec.ofNat 16 t.segs, segs := 0, acc := 0xFFFFFFFF } else t

/-! ### Warning episodes (R287, R290) -/

/-- Bit of SUP_FAULT and code of a rail's warning fault. -/
def Rail.warnFault : Rail → Nat × Nat
  | .v33 => (0, 0x0101)
  | .core => (2, 0x0103)
  | .field => (4, 0x0105)

/-- SUP_CNT counts an episode. -/
def Sup.countEpisode (r : Rail) (p : Sup) : Sup :=
  match r with
  | .field => { p with cntField := satInc p.cntField }
  | _ => { p with cntLogic := satInc p.cntLogic }

/-- A warning episode of a rail begins (R290, R291). With module reset asserted, and for a rail above its upper limit, the
start logs the fault (R287). -/
def State.beginEpisode (s : State) (r : Rail) (upper : Bool) (reading : BitVec 16) : State :=
  let x : RailState := { st := .warning, upper := upper, began := s.now, lowest := reading }
  let s := { s with sup := s.sup.setRail r x }
  if s.inReset then s
  else
    let s := { s with sup := { s.sup.countEpisode r with snapDue := true } }
    let s := if upper then s else s.supFault r.warnFault.1 r.warnFault.2 0xFFFF
    (s.stopTest false 0).supplyMeetsTest 2

/-- The second-lowest field bus reading lies below `level` hundredths of a volt: code × 160 V / 4,096. -/
def Sup.secondBelow (level : Nat) (p : Sup) : Bool :=
  match p.secondCode with
  | some c => decide (c.toNat * 16000 < level * 4096)
  | none => false

/-- The second-lowest field bus reading lies above `level` hundredths of a volt. -/
def Sup.secondAbove (level : Nat) (p : Sup) : Bool :=
  match p.secondCode with
  | some c => decide (level * 4096 < c.toNat * 16000)
  | none => false

/-- The warning condition of a rail: a comparator reading of a logic rail, the second-lowest field bus reading (R286). -/
def Sup.railLow (r : Rail) (reading : Nat) (p : Sup) : Bool :=
  match r with
  | .field => p.secondBelow 1550
  | _ => r.low reading

/-- The rail lies above its warning level plus hysteresis. -/
def Sup.railAbove (r : Rail) (reading : Nat) (p : Sup) : Bool :=
  match r with
  | .field => p.secondAbove 1555
  | _ => r.above reading

/-- The reading that an episode keeps: that of the comparator, or SUP_FIELD.SECOND_LOW. -/
def Sup.railReading (r : Rail) (reading : BitVec 16) (p : Sup) : BitVec 16 :=
  match r with
  | .field => p.secondLow
  | _ => reading

/-- RAIL_WARNING (R286, R287): the rail enters WARNING, or returns to it from RECOVERING; a reading in WARNING is kept if lowest. The
field bus is judged on the readings of its last conversion tick; `reading` and `upper` are those of a logic rail's comparator. -/
def execRailWarning (dt : Nat) (r : Rail) (upper : Bool) (reading : BitVec 16) (s : State) : Out :=
  let s := s.pass dt
  let x := s.sup.rail r
  let upper := upper && decide (r ≠ Rail.field)
  let reading := s.sup.railReading r reading
  let v := reading.toNat
  match x.st with
  | .normal =>
    s.when ((!upper && s.sup.railLow r v) || (upper && r.high v)) (fun s => s.beginEpisode r upper reading)
  | .cutoff => .next s
  | _ =>
    s.when ((decide (r ≠ Rail.field ∨ s.sup.secondCode.isSome) && !s.sup.railAbove r v) || (x.upper && !r.belowUpper v) ||
        (upper && r.high v)) (fun s =>
      let y := { x with st := .warning, upper := x.upper || upper, lowest := if v < x.lowest.toNat then reading else x.lowest }
      { s with sup := s.sup.setRail r y })

/-- RAIL_RECOVERING (R287): from WARNING, above the warning level plus hysteresis and, for a rail that was too high, below
the upper threshold minus hysteresis. -/
def execRailRecovering (dt : Nat) (r : Rail) (reading : Nat) (s : State) : Out :=
  let s := s.pass dt
  let x := s.sup.rail r
  s.when (decide (x.st = RailSt.warning) && s.sup.railAbove r reading && (!x.upper || r.belowUpper reading)) (fun s =>
    { s with sup := s.sup.setRail r { x with st := .recovering, recSince := s.now } })

/-- The warning snapshot is written when NORMAL returns (R290, event 0007h). -/
def State.writeSnapshot (s : State) (rail : BitVec 2) (dur low : BitVec 16) : State :=
  if s.pewterOn = true ∧ s.sup.snapshot = true ∧ s.railsNormal = true then
    let slot : Byte := match s.mgt.snaps.getLast? with
      | some x => x.slot + 1
      | none => 0
    let x : Snapshot := { slot := slot, rail := rail, duration := dur, lowest := low,
                          images := s.mgt.snapNow }
    let old := if s.mgt.snaps.length < 256 then s.mgt.snaps else s.mgt.snaps.drop 1
    let s := { s with sup := { s.sup with snapshot := false }, mgt := { s.mgt with snaps := old ++ [x], snapNow := [] } }
    s.event 0x0007 0xFFFF (BitVec.ofNat 48 (slot.toNat * 2 ^ 40 + dur.toNat * 2 ^ 24))
  else s

/-- RAIL_NORMAL (R287, R290): after 20 ms without interruption in RECOVERING. A port stage or LB0 of a start that a cut-off
has met begins again with the ramps (Table 11-8). -/
def execRailNormal (dt : Nat) (r : Rail) (s : State) : Out :=
  let s := s.pass dt
  let x := s.sup.rail r
  s.when (decide (x.st = RailSt.recovering ∧ x.recSince + 20000000 ≤ s.now)) (fun s =>
    let ms := (s.now - x.began) / 1000000
    let s := { s with sup := { s.sup.setRail r {} with warnEnd := some s.now } }
    let s :=
      if x.hard then s
      else { s with sup := { s.sup with episode := episodeWord r.code false ms, episodeMin := x.lowest } }
    if s.inReset then s
    else
      let s := s.writeSnapshot (BitVec.ofNat 2 r.code) (satNat 16 ms) x.lowest
      let again := decide (s.mdl.phase = ModPhase.start) && x.hard &&
        decide (s.mdl.startStage = StartStage.ports ∨ s.mdl.startStage = StartStage.lb0)
      let s :=
        if again then
          { s with mdl := { s.mdl with startStage := .ports }, sup := { s.sup with cutDeclared := false, cutPending := false } }.startPortStage (allFin 64) false |>.endCause .cutoff
        else s
      if s.railsNormal then { s with tst := s.tst.repeatStep } else s)

/-! ### Resets and the cut-off (R292, R293) -/

/-- LOGIC_RAIL_RESET (R292): a logic rail crosses a reset threshold; the start logs its faults. A reset that is held for another
reason becomes a supervision reset. A crossing while one is held adds its faults once. -/
def execLogicRailReset (dt : Nat) (core upper : Bool) (s : State) : Out :=
  let s := s.pass dt
  let r : Rail := if core then .core else .v33
  let x := s.sup.rail r
  let x : RailState :=
    if x.st = .normal then { st := .warning, upper := upper, began := s.now, lowest := x.lowest }
    else { x with st := .warning, upper := x.upper || upper }
  let s := { s with sup := s.sup.setRail r x }
  let faults : List (BitVec 16 × BitVec 16) :=
    (if core then [(0x0104, 0xFFFF)] else [(0x0102, 0xFFFF)]) ++
    (if upper then (if core then [(0x0103, 0xFFFF)] else [(0x0101, 0xFFFF)]) else [])
  let new := faults.filter (fun f => !s.mdl.resetFaults.contains f)
  let s := { s with mdl := { s.mdl with resetFaults := s.mdl.resetFaults ++ new } }
  if s.inReset then .next { s with mdl := { s.mdl with resetCause := .supervision } }
  else .next (s.assertReset .supervision)

/-- FIELD_BUS_CUTOFF (R287, R293): below 14.0 V or above 160 V every port regulator switches off. -/
def execFieldBusCutoff (dt : Nat) (above : Bool) (s : State) : Out :=
  let s := s.pass dt
  s.when (decide (s.sup.field.st ≠ RailSt.cutoff)) (fun s =>
    let s := { s with sup := s.sup.endHard s.now .field }
    let s := { s with sup := { s.sup with cutOver := above, cutPending := true, field := { s.sup.field with st := .cutoff, hard := true } } }
    if s.inReset then s
    else
      let s := (allFin 64).foldl (fun (s : State) (n : Fin 64) => s.supplyOff n) s
      let s := s.dropStage
      (s.stopTest false 0).supplyMeetsTest 4)

/-- CUTOFF_RELEASE (R287): at 14.05 V rising or at 159.95 V falling. -/
def execCutoffRelease (dt reading : Nat) (s : State) : Out :=
  let s := s.pass dt
  let x := s.sup.field
  s.when (decide (x.st = RailSt.cutoff ∧ 1405 ≤ reading ∧ reading ≤ 15995)) (fun s =>
    { s with sup := { s.sup with field :=
      if 1555 < reading then { x with st := .recovering, recSince := s.now } else { x with st := .warning } } })

/-- PORT_STAGE (R293): the field bus is NORMAL again after a declared cut-off. -/
def execPortStage (dt : Nat) (s : State) : Out :=
  let s := s.pass dt
  s.when (!s.inReset && decide (s.mdl.phase = ModPhase.service) && decide (s.sup.field.st = RailSt.normal) &&
      s.sup.cutDeclared && !s.sup.portStage) (fun s => s.startPortStage (allFin 64) true)

/-- The port stage ends at a tick: the synchronising reset with baseline load. After a cut-off it covers every channel, and
the sections leave WHY 101b; after an activation it covers the ports that became assigned. -/
def State.endPortStage (s : State) : State :=
  if s.sup.stageReset then
    let s := s.resetAllChans true
    let s := { s with sup := { s.sup with
      cutDeclared := false, cutOver := false, startKind := 3, startCause := 8
      startDur := satNat 16 ((s.now - s.sup.stageStart) / 1000000) } }
    s.dropStage.endCause .cutoff
  else
    let s := (allFin 64).foldl (fun (s : State) (n : Fin 64) =>
      if (s.ports[n]).stageOn then (s.resetChan (chanOf n .cs1) true).resetChan (chanOf n .cs2) true else s) s
    s.dropStage

/-! ### Logic input (R289) -/

/-- INPUT_LOW (R289): eight consecutive readings below 16.8 V, once per episode. -/
def execInputLow (s : State) : Out :=
  s.when (!s.inReset && decide (8 ≤ s.sup.lowCnt) && !s.sup.lowEpisode) (fun s =>
    { s with sup := { s.sup with lowEpisode := true, highSince := none } }.supFault 7 0x0108 0xFFFF)

/-- A reading of the logic input, in 0.1 V, at a tick. -/
def Sup.inputReading (now : Nat) (v i : BitVec 16) (p : Sup) : Sup :=
  let high := since now (decide (173 ≤ v.toNat)) p.highSince
  let lasted : Bool := match high with
    | some t => decide (t + 1000000000 ≤ now)
    | none => false
  { p with vin := v, iin := i, lowCnt := if v.toNat < 168 then p.lowCnt + 1 else 0, highSince := high
           lowEpisode := p.lowEpisode && !lasted }

end Sys2Proof.Machine
end

