-- ==== Sys2Proof/Machine/Images.lean ====
section
/-! DEFINITION. Loading, verifying, confirming and activating a configuration image, and activating firmware (R264 to
R281). -/

namespace Sys2Proof.Machine
open Sys2Proof

/-! ### Loading (R269, R270) -/

/-- A command comes from a session that may act on the load or the staged image: its owner, or any session where none is
loading, verifying, staged or activating. -/
def State.ownedBy (s : State) (w : Who) : Bool :=
  match w with
  | .tool id => decide (s.img.stage = .empty) || decide (s.img.owner = id)
  | _ => false

/-- Session number of a source. -/
def Who.session : Who → BitVec 3
  | .tool id => id
  | _ => 0

/-- The load and the staged image are discarded; sections leave WHY 001b where an image is ACTIVE (R278). A running
verification is abandoned, and its command is answered CHECK_FAIL (R269). -/
def State.discardStaged (s : State) : State :=
  let v := s.img.verify
  let s := { s with img := { s.img with
    staged := none, loadBuf := [], loadLen := 0, stage := .empty, revert := false, verify := none } }
  let s := match v with
    | some v => s.finish v.cmd { status := stCheckFail }
    | none => s
  if s.hasImage then s.endCause .image else s

/-- What an executor answers: a result, or nothing yet. -/
abbrev Reply := Option Result

/-- A status alone. -/
def ret (st : Byte) : Reply := some { status := st }

/-- CFG_BEGIN (R269). -/
def State.opCfgBegin (s : State) (w : Who) (len : Word) : State × Reply :=
  if len.toNat < 64 ∨ 1048576 < len.toNat then (s, ret stBadParam)
  else
    let s := s.discardStaged
    ({ s with img := { s.img with stage := .loading, loadLen := len.toNat, owner := w.session } }, ret stOk)

/-- CFG_BLOCK (R269, R270). -/
def State.opCfgBlock (s : State) (w : Who) (off : Word) (data : List Byte) : State × Reply :=
  if data.isEmpty ∨ 236 < data.length then (s, ret stBadParam)
  else if s.img.stage = .empty then (s, ret stBadParam)
  else if s.ownedBy w = false ∨ s.img.stage ≠ .loading then (s, ret stNotPermitted)
  else if s.img.loadLen < off.toNat + data.length then (s, ret stBadParam)
  else ({ s with img := { s.img with loadBuf := Memory.writeBytes s.img.loadBuf off.toNat data } }, ret stOk)

/-- CFG_END (R271): the verification starts; the reply follows its end. -/
def State.opCfgEnd (s : State) (c : Cmd) (crc : Word) : State × Reply :=
  if s.ownedBy c.who = false ∨ s.img.stage ≠ .loading then (s, ret stNotPermitted)
  else
    ({ s with img := { s.img with stage := .verifying, verify := some { cmd := c, crc := crc, revert := false, begin := s.now } } },
     none)

/-! ### Verification (Table 10-4) -/

/-- A verification fails: MOD_CFG_ERR, the fault, STAGE EMPTY, and the reply with its offset where the status has one. -/
def State.failVerify (s : State) (v : Verify) (st : Byte) (reason : Byte) (off : Nat) : State :=
  let s := { s with img := { s.img with
    staged := none, loadBuf := [], loadLen := 0, stage := .empty, revert := false, verify := none
    errReason := reason, errOffset := BitVec.ofNat 21 off } }
  s.finish v.cmd { status := st, bytes := if st = stBadParam then toBytes 4 off else [] }

/-- Steps 3 to 7 of Table 10-4 on the bytes of an image. -/
def State.verifyBytes (s : State) (v : Verify) (bs : List Byte) (readBackOk : Bool) : State :=
  match parseImage bs with
  | .inr off => (s.imgFault 1 0x0A30).failVerify v stCheckFail 3 off
  | .inl items =>
    let cfg := cfgOf bs items
    let oldSerial : Option Nat := if v.revert then none else (s.img.active.map (fun i => i.cfg.serial.toNat))
    match identityBad s.img.fwLine bs with
    | some off => (s.imgFault 2 0x0A31).failVerify v stBadParam 4 off
    | none =>
      if (match oldSerial with | some n => decide (cfg.serial.toNat ≤ n) | none => false) = true then
        (s.imgFault 2 0x0A31).failVerify v stBadParam 6 16
      else
        match firstBreak cfg items with
        | some off => (s.imgFault 3 0x0A32).failVerify v stBadParam 5 off
        | none =>
          let check := crc64 bs
          let s := (s.useUnit 1 3 bs check).2
          if !readBackOk then (s.imgFault 1 0x0A30).failVerify v stCheckFail 3 0
          else
            let s := { s with img := { s.img with
              staged := some { bytes := bs, cfg := cfg, check := check }, stage := .staged, stagedAt := s.now
              revert := v.revert, verify := none } }
            (s.beginCause .image).finish v.cmd { status := stOk, bytes := if v.revert then [] else toBytes 8 check.toNat }

/-- CFG_VERIFICATION_END (R271, R277): the steps of Table 10-4 have run; the first that fails ended them. -/
def execCfgVerificationEnd (dt : Nat) (readBackOk : Bool) (s : State) : Out :=
  let s := s.pass dt
  match s.img.verify with
  | none => .next s
  | some v =>
    s.when (!s.inReset) (fun s =>
      if v.revert then
        match s.img.previous with
        | some p => s.verifyBytes v p.bytes readBackOk
        | none => s.failVerify v stNotPermitted 0 0
      else
        match Memory.readBytes s.img.loadBuf 0 s.img.loadLen with
        | none => (s.imgFault 1 0x0A30).failVerify v stCheckFail 1 0
        | some bs =>
          let r := s.useUnit 1 2 bs (v.crc.setWidth 64)
          if !r.1 then
            ({ r.2 with img := { r.2.img with fault := setBit r.2.img.fault 0 } }).failVerify v stCheckFail 2 0
          else r.2.verifyBytes v bs readBackOk)

/-! ### Confirmation (R275, R277, R278) -/

/-- A typed check value differs: CHECK_FAIL, with the fault that unit 1 has logged. -/
def State.refuseConfirm (s : State) : State :=
  { s with img := { s.img with refused := s.img.refused + 1, fault := setBit s.img.fault 4 } }

/-- CFG_CONFIRM (R275). -/
def State.opCfgConfirm (s : State) (w : Who) (check : BitVec 64) : State × Reply :=
  match s.img.staged with
  | none => (s, ret stNotPermitted)
  | some i =>
    if s.ownedBy w = false ∨ s.img.stage ≠ .staged then (s, ret stNotPermitted)
    else
      let r := s.useUnit 1 3 i.bytes check
      if r.1 then ({ r.2 with img := { r.2.img with stage := .activating } }, ret stOk)
      else (r.2.refuseConfirm, ret stCheckFail)

/-- CFG_REVERT (R277). The session that stages the previous image becomes its owner (log 12). -/
def State.opCfgRevert (s : State) (c : Cmd) (mode : Byte) : State × Reply :=
  if 1 < mode.toNat then (s, ret stBadParam)
  else if s.ownedBy c.who = false then (s, ret stNotPermitted)
  else if mode = 0 then
    if s.img.stage = .staged then (s.discardStaged, ret stOk) else (s, ret stNotPermitted)
  else if s.img.previous.isNone ∨ s.img.stage = .verifying ∨ s.img.stage = .activating then (s, ret stNotPermitted)
  else
    let s := s.discardStaged
    ({ s with img := { s.img with
        stage := .verifying, owner := c.who.session, revert := true
        verify := some { cmd := c, crc := 0, revert := true, begin := s.now } } }, none)

/-- STAGED_IMAGE_EXPIRY (R278): 60 min after the CFG_END reply. -/
def execStagedImageExpiry (dt : Nat) (s : State) : Out :=
  let s := s.pass dt
  s.when (!s.inReset && decide (s.img.stage = .staged ∧ s.img.stagedAt + 3600000000000 ≤ s.now)) (fun s =>
    s.discardStaged.imgFault 5 0x0A33)

/-! ### Activation (Table 10-5) -/

/-- How long ago a cause of UNPROVEN began among those that hold: 0 for the most recent one (R149). -/
def State.causeAge (s : State) (p : UCause × Option (Fin 4)) : Nat := (s.begun.findIdx? (fun q => decide (q = p))).getD s.begun.length

/-- Causes of UNPROVEN that hold for a section, most recently begun first (R149): module-wide ones, loopbacks at its points and on
its links, and a debug attach of engine `dbg`. -/
def State.secCauses (s : State) (d : SecDef) (dbg : Option (Fin 4)) : List UCause :=
  let wide := s.causes.filter (fun u => decide (u ≠ UCause.conflict) || d.remote s.addr)
  let near := d.members.flatMap (fun m =>
    if m.modAddr = s.addr then
      let n : Fin 64 := m.point.toFin
      (if (s.ports[n]).lb.isSome then [UCause.loop m.modAddr m.point false] else []) ++
        (if (s.lanes[laneOfPort n]).echo.isSome then [UCause.loop m.modAddr m.point true] else [])
    else
      match (s.areas.zip s.cfg.streams).find? (fun p => p.2.recv && decide (p.2.peer = m.modAddr)) with
      | some p => if p.1.pointLoop.getLsbD m.point.toNat then [UCause.loop m.modAddr m.point false] else []
      | none => [])
  let links := (allFin 8).filterMap (fun k =>
    if (s.links[k]).looped = true ∧ d.onLink s.cfg k = true then some (UCause.linkLoop k) else none)
  let debug : List (UCause × Option (Fin 4)) := match dbg with
    | some e => [(.debug, some e)]
    | none => []
  (sortBy s.causeAge (debug ++ (wide ++ near ++ links).map (fun u => (u, none)))).map Prod.fst

/-- The slot of a section in any engine's checkpoint, or its last one (Table 5-10). -/
def State.lastSec (s : State) (i : Fin 256) : Option Sec :=
  (((s.engines.toList.flatMap (fun g => g.committed.secs)) ++ s.parked).find? (fun x => decide (x.idx = i)))

/-- The reset key of a section is in reset fault (R145). -/
def State.keyFault (s : State) (d : SecDef) : Bool := (allFin 8).any (fun i => d.served i && (s.vis[i]).resetFault)

/-- A section as it enters an engine's image out of service (R149): DISTURBED 0Ch behind the causes that hold for it, its ledger
empty; its counts and last results go on. -/
def State.freshSec (s : State) (d : SecDef) (dbg : Option (Fin 4)) : Sec :=
  let causes := s.secCauses d dbg
  { (s.lastSec d.idx).getD { idx := d.idx } with
    idx := d.idx, st := .disturbed, cause := 0x0C, causes := causes, tainted := !causes.isEmpty, ledger := [], slots := []
    pend := [], mismatch := 0, sweep := 0, through := false, prev := none, keyInh := s.keyFault d }

/-- The sections that leave UNPROVEN as they enter an image log 070Bh (R136, R149). -/
def State.logFresh (s : State) (l : List Sec) : State :=
  (l.filter (fun x => x.causes.isEmpty && decide (x.cause = 0x0C))).foldl (fun s x => s.secLog (secLogOf x.idx 0x070B 0)) s

/-- An engine that executes no section: in MODE SPLIT, or joining (R178). -/
def Engine.away (g : Engine) : Bool := decide (g.mode = .split) || g.joining

/-- At activation every section is assigned to its home engine; an engine in MODE SPLIT, or joining, executes none until its
join (R178). -/
def State.assignSections (s : State) : State :=
  let held := s.engines.toList.flatMap (fun g => g.committed.secs)
  let new (e : Fin 4) : List Sec :=
    let g := s.engines[e]
    let secs := (s.cfg.homeSecs e).map (fun d =>
      s.freshSec d (if g.mode = .debug ∨ g.detaching = true then some e else none))
    if g.away then [] else if g.mode = .halted then haltSecs secs else secs
  let all := (allFin 4).flatMap new
  let s' := { s with
    parked := (held ++ s.parked).foldl (fun (l : List Sec) (x : Sec) =>
      if l.any (fun y => decide (y.idx = x.idx)) || all.any (fun y => decide (y.idx = x.idx)) then l else l ++ [x]) []
    engines := Vector.ofFn (fun (e : Fin 4) => (s.engines[e]).mapAll s.cfg e (fun _ => new e)) }
  let s' := (allFin 4).foldl (fun (t : State) e => if (s.engines[e]).away then t.noteBegin .noEngine (some e) else t)
    (s'.noteBegin .noEngine none)
  s'.logFresh all

/-- Ports whose setting changes ramp; ports that become assigned run the port stage; others are switched off, and the registers of
their points return to their reset values (R107). -/
def State.activatePorts (s : State) (old : Cfg) : State :=
  let used (c : Cfg) (n : Fin 64) : Bool := (c.prtCfg[n]).getLsbD 31
  let cut := decide (s.sup.field.st = .cutoff)
  let s := (allFin 64).foldl (fun (s : State) (n : Fin 64) =>
    if used old n = true ∧ used s.cfg n = false then
      ((s.supplyOff n).modPort n (fun p => { p with stageAt := none, stageOn := false, quietSince := none, eligible := false })).modWdu n
        (fun w => { outQ := w.outQ, snips := w.snips, lb3Res := w.lb3Res, lb3Speed := w.lb3Speed })
    else if used old n = true ∧ used s.cfg n = true ∧ old.prtCfg[n] ≠ s.cfg.prtCfg[n] ∧ cut = false then s.startRamp n
    else s) s
  let new := (allFin 64).filter (fun n => !used old n && used s.cfg n)
  let s := new.foldl (fun (s : State) (n : Fin 64) => s.modPort n (fun p => { p with assignedAt := s.now })) s
  if new.isEmpty ∨ cut = true then s else s.startPortStage new (s.sup.portStage && s.sup.stageReset)

/-- Channels whose filter settings change take a synchronising reset; the FLT_CFG selection and bank apply again, and FROZEN
modes end (R89, R96). Running fades complete (Table 10-5). -/
def State.activateChans (s : State) (old : Cfg) : State :=
  (allFin 128).foldl (fun (s : State) (c : Fin 128) =>
    let w := s.cfg.fltCfg[c]
    let sel : BitVec 2 := BitVec.ofNat 2 (fieldNat w 28 2)
    let bank := w.getLsbD 15
    let x := s.chans[c]
    let now := match x.fade with
      | some f => f.target
      | none => x.bank
    let changed := decide (old.fltCfg[c] ≠ w ∨ old.fltPhase[c] ≠ s.cfg.fltPhase[c] ∨ x.sel ≠ sel ∨ now ≠ bank)
    let s := s.modChan c (fun x => { x with sel := sel, dcFrozen := false, fade := none, bank := bank })
    if changed then s.resetChan c false else s) s

/-- Both banks are loaded from the image; open loads end (R84, R85). -/
def State.activateBanks (s : State) : State :=
  { s with banks := Vector.ofFn (fun (b : Fin 2) =>
      let l := s.cfg.bankCoef[b]
      { coef := Vector.ofFn (fun (i : Fin 256) => l.getD i.val 0), valid := s.cfg.bankOk b, crc := s.cfg.bankCrc[b] }) }

/-- A point whose settings change goes to phase SPENT; alignment takes its new value. -/
def State.activatePoints (s : State) (old : Cfg) : State :=
  (allFin 64).foldl (fun (s : State) (n : Fin 64) =>
    let c := s.cfg
    let chg (i : Fin 128) : Bool := decide (old.fltCfg[i] ≠ c.fltCfg[i] ∨ old.fltPhase[i] ≠ c.fltPhase[i])
    let changed := decide (old.wduHead[n] ≠ c.wduHead[n] ∨ old.wduLevels[n] ≠ c.wduLevels[n] ∨
      old.wduThr1[n] ≠ c.wduThr1[n] ∨ old.wduThr2[n] ≠ c.wduThr2[n] ∨ old.modAddr ≠ c.modAddr)
    s.modWdu n (fun w => { w with
      ctx := if changed then { w.ctx with phase := .spent } else w.ctx
      realignNow := w.realignNow || chg (chanOf n .cs1) || chg (chanOf n .cs2) })) s

/-- Streams kept unchanged go on; new ones start afresh, removed ones stop. Relay buffers likewise (R196, R202). -/
def State.activateStreams (s : State) (old : Cfg) : State :=
  let oldA := old.streams.zip s.areas
  let oldR := old.relays.zip s.relays
  let kept (l : List (StreamDef × Area)) (t : StreamDef) : Area :=
    match l.find? (fun p => decide (p.1 = t)) with
    | some p => p.2
    | none => { rx := { periodEnd := s.tb / (if t.ms4 then 4000000 else 1000000) * (if t.ms4 then 4000000 else 1000000) } }
  { s with
    areas := s.cfg.streams.map (kept oldA)
    relays := s.cfg.relays.map (fun r => match oldR.find? (fun p => decide (p.1 = r)) with
      | some p => p.2
      | none => [])
    links := Vector.ofFn (fun (k : Fin 8) =>
      let l := s.links[k]
      if old.lnkCfg[k] = s.cfg.lnkCfg[k] then l
      else { l with sync := false, up := false, armed := none, ready := none
                    rx := { periodEnd := s.tb / s.linkCycle k * s.linkCycle k } }) }

/-! ### Firmware (R280) -/

/-- KIND of the file in the staging store: its byte 4 (Table 12-6), 0 while none is written. -/
def State.stagedKind (s : State) : Nat :=
  if s.mgt.fwState = .verified then (if s.mgt.fwVital then 1 else 2)
  else ((Memory.read s.mgt.fwStore 4).getD 0).toNat

/-- FW_ACTIVATE (R280): a vital image that Pewter has staged, or is staging, without a report of its signature is refused with
0A35h. -/
def State.opFwActivate (s : State) (w : Who) (check : BitVec 64) : State × Reply :=
  if s.ownedBy w = false ∨ s.mgt.fwState = .none ∨ s.mgt.fwState = .failed ∨ s.stagedKind ≠ 1 ∨
      s.img.fwPending = true then (s, ret stNotPermitted)
  else if !s.img.fwVerified then (s.imgFault 8 0x0A35, ret stNotPermitted)
  else
    let r := s.useUnit 1 3 s.mgt.fwBytes check
    if r.1 then ({ r.2 with img := { r.2.img with fwPending := true, fwCheck := some check } }, ret stOk)
    else (r.2.refuseConfirm, ret stCheckFail)

/-- FIRMWARE_ACTIVATION (R280): at the first tick without a hand-over, module reset and a full start with the new firmware. -/
def execFirmwareActivation (s : State) : Out :=
  s.when (!s.inReset && s.atTick && s.img.fwPending && (allFin 4).all (fun e => (s.engines[e]).ho.isEmpty)) (fun s =>
    let s := { s with img := { s.img with
      fwPrev := s.img.fwRunning, fwPrevLine := s.img.fwLine, fwRunning := s.img.fwCheck
      fwLine := byteAt s.mgt.fwBytes 5, fwFallback := false } }
    s.assertReset .firmware)

end Sys2Proof.Machine
end

