-- ==== Sys2Proof/Machine/Recorder.lean ====
section
/-! DEFINITION. Pewter's queue and log, LOG_READ and firmware staging (R314, R318, R319, R323, R326). -/

namespace Sys2Proof.Machine
open Sys2Proof

/-- The 16 bytes of an event entry (Table 12-4). -/
def Event.bytes (e : Event) : List Byte :=
  toBytes 6 e.ts.toNat ++ toBytes 2 e.code.toNat ++ toBytes 2 e.obj.toNat ++ toBytes 6 e.detail.toNat

/-- A ring takes a page: full, it overwrites its oldest (R319). -/
def ringPush (blocks : Nat) (ring : List Page) (p : Page) : List Page :=
  (if ring.length < 64 * blocks then ring else ring.drop 1) ++ [p]

/-! ### Blocks of the flash (R319): a place of Table 12-3 and the block that serves it (log 81) -/

/-- What a sparse list gives for a number. -/
def getNat (k d : Nat) (l : List (Nat × Nat)) : Nat :=
  match l.find? (fun p => decide (p.1 = k)) with
  | some p => p.2
  | none => d

def putNat (k v : Nat) (l : List (Nat × Nat)) : List (Nat × Nat) := (k, v) :: l.filter (fun p => decide (p.1 ≠ k))

/-- The regions' places follow one another in the order of Table 12-3, 32,768 of 256 KiB: directory 128, event ring 2,048, axle ring
24,576, snapshots 1,024, commissioning 256, holds 4,096, spare 640. The first place of a ring: -/
def ringFirst (axles : Bool) : Nat := if axles then 2176 else 128

/-- Places of the protected regions. -/
def protectedPlaces : List Nat := (List.range 5376).map (· + 26752)

/-- The block at a place. -/
def Mgt.blockAt (m : Mgt) (p : Nat) : Nat := getNat p p m.moved

/-- Erase count of the block at a place. -/
def Mgt.erasesAt (m : Mgt) (p : Nat) : Nat := getNat (m.blockAt p) 0 m.erased

/-- Blocks left in a ring. -/
def Mgt.ringBlocks (axles : Bool) (m : Mgt) : Nat := if axles then m.axlBlocks else m.evtBlocks

/-- The place of a ring's write pointer. -/
def Mgt.writePlace (axles : Bool) (m : Mgt) : Nat :=
  ringFirst axles + (if axles then m.axlPages else m.evtPages) / 64 % m.ringBlocks axles

/-- The place of the protected regions whose block is least worn, lowest first. -/
def Mgt.leastWorn (m : Mgt) : Nat :=
  protectedPlaces.foldl (fun q p => if m.erasesAt p < m.erasesAt q then p else q) 26752

/-- The block at a ring's write pointer is erased; one whose count exceeds the ring's mean by 2,000 changes places with the
least-worn block of the protected regions (R319). -/
def Mgt.eraseAhead (axles : Bool) (m : Mgt) : Mgt :=
  let p := m.writePlace axles
  let n := m.ringBlocks axles
  let m := { m with erased := putNat (m.blockAt p) (m.erasesAt p + 1) m.erased, erases := m.erases + 1 }
  if ((List.range n).map (fun i => m.erasesAt (ringFirst axles + i))).sum + 2000 * n < m.erasesAt p * n then
    let q := m.leastWorn
    { m with moved := putNat p (m.blockAt q) (putNat q (m.blockAt p) m.moved) }
  else m

/-- A page of a ring has been written: after 64 pages the write pointer enters the next block, which is erased; WEAR is the mean
over the 32,768 blocks of the flash in % of 50,000 (R318, R319). -/
def Mgt.countPage (axles : Bool) (m : Mgt) : Mgt :=
  let n := (if axles then m.axlPages else m.evtPages) + 1
  let m := { m with evtPages := if axles then m.evtPages else n, axlPages := if axles then n else m.axlPages }
  let m := if n % 64 = 0 ∧ m.ringBlocks axles ≠ 0 then m.eraseAhead axles else m
  { m with wear := satNat 8 (m.erases / 16384000) }

/-- The page that a ring's buffer gives: its oldest 252 event entries or 14 axle entries, and its header (R318). -/
def Mgt.page (axles : Bool) (crc : Word) (ok : Bool) (m : Mgt) : Page :=
  if axles then
    { epoch := m.axlEpoch, first := ((m.axlBuf.head?).map AxleEntry.num).getD 0, axle := true, crc := crc, ok := ok
      axles := m.axlBuf.take 14 }
  else
    { epoch := m.evtEpoch, first := ((m.evtBuf.head?).map Prod.fst).getD 0, axle := false, crc := crc, ok := ok
      events := m.evtBuf.take 252 }

/-- Pewter writes a page of at most 252 event entries or 14 axle entries, padding the rest (R318, R319). A ring without a block
left records no more. The CRC-32C of the page is formed on CRC unit 2: how a page lies in its 4,096 bytes is not given, so its
value is free (log 15). -/
def State.writePage (s : State) (axles ok : Bool) : State :=
  let (n, s) := s.draw
  let crc : Word := BitVec.ofNat 32 n
  let m := s.mgt
  let p := m.page axles crc ok
  let s := { s with mgt :=
    (if axles then
      { m with
        axlRing := if m.axlBlocks = 0 then m.axlRing else ringPush m.axlBlocks m.axlRing p
        axlBuf := m.axlBuf.drop 14, axlBufAt := s.now }
    else
      { m with
        evtRing := if m.evtBlocks = 0 then m.evtRing else ringPush m.evtBlocks m.evtRing p
        evtBuf := m.evtBuf.drop 252, evtBufAt := s.now }).countPage axles }
  s.modCrc 2 (fun u => { u with algo := 2, acc := crc.setWidth 64, result := crcDone 2 (crc.setWidth 64), bytes := 4092 })

/-- Both page buffers are written out: an epoch opens with a page of its own (R318, R322; log 16). -/
def State.writeAllPages (s : State) : State :=
  let s := (List.range ((s.mgt.evtBuf.length + 251) / 252)).foldl (fun (s : State) _ => s.writePage false true) s
  (List.range ((s.mgt.axlBuf.length + 13) / 14)).foldl (fun (s : State) _ => s.writePage true true) s

/-- An event entry gets its number and enters the page buffer. -/
def State.takeEvent (s : State) (e : Event) : State :=
  let s := if e.code = 0x0003 then s.writeAllPages else s
  { s with mgt := { s.mgt with
    evtNext := s.mgt.evtNext + 1
    evtBufAt := if s.mgt.evtBuf.isEmpty then s.now else s.mgt.evtBufAt
    evtEpoch := if s.mgt.evtBuf.isEmpty then s.mgt.epoch.toNat else s.mgt.evtEpoch
    evtBuf := s.mgt.evtBuf ++ [(s.mgt.evtNext, e)] } }

/-- Pewter takes an entry from its queue: an event enters the page buffer; an axle entry waits for the end of its snippet
(R320); the images of a snapshot wait for the end of the warning, which may have come (R290). -/
def State.takeEntry (s : State) (q : QItem) : State :=
  match q with
  | .event e => s.takeEvent e
  | .axle a => { s with
      mgt := { s.mgt with axlNext := max s.mgt.axlNext (a.num + 1) }
      wdus := s.wdus.map (fun w => { w with snips := w.snips.map (fun x => if x.num = a.num then { x with taken := true } else x) }) }
  | .images l =>
    State.writeSnapshot { s with mgt := { s.mgt with snapNow := l }, sup := { s.sup with snapshot := true } }
      (s.sup.episode.extractLsb' 30 2) (s.sup.episode.setWidth 16) s.sup.episodeMin

/-- A loopback of X6 runs (R325). -/
def EthLoop.runs (k : EthLoop) : Bool := decide (k = .mac ∨ k = .phy)

/-- The port X6 carries traffic (R324, R325). -/
def State.ethOn (s : State) : Bool :=
  !s.inReset && decide (s.mgt.pw = .running) && s.mgt.ethEnable && !s.mgt.loopback.runs && s.mgt.link

/-- The endpoint of a source ID (R324, R225). -/
def Mgt.endpointOf (m : Mgt) (src : BitVec 16) : Option Endpoint :=
  match classOf src with
  | some .m => (m.clients.find? (fun c => decide (c.id = src.setWidth 4))).map Client.ep
  | some .t => (m.sessions.find? (fun c => decide (c.id = (src.setWidth 3 : BitVec 3).setWidth 4))).map Client.ep
  | _ => none

/-- Replies in the mailbox leave as datagrams of kind 02h; one without a client or session, or without a port that carries
traffic, is lost (R324). -/
def State.sendReplies (s : State) : State :=
  if s.cmd.mailbox.isEmpty then s
  else
    let out := if s.ethOn then s.cmd.mailbox.filterMap (fun bs => (s.mgt.endpointOf (hdrSource bs)).map (fun ep => (ep, (2 : Byte), bs)))
      else []
    { s with mgt := { s.mgt with datagrams := out }, cmd := { s.cmd with mailbox := [] } }

/-- Pewter, while it runs, takes what its queue and its mailbox hold (R314, R324). -/
def State.drainQueue (s : State) : State :=
  if s.pewterOn then
    let l := s.mgt.queue
    ((l.foldl State.takeEntry { s with mgt := { s.mgt with queue := [] } }).flushDropped).sendReplies
  else s

/-- Numbered 16-byte entries held, in the order of their numbers: those of pages that pass their check, and of the page buffer. Axle
entries are numbered in the order of emission and written in that of their completion (R320). -/
def State.heldEntries (s : State) (axles : Bool) : List (Nat × List Byte) :=
  if axles then
    sortBy Prod.fst (((s.mgt.axlRing.filter Page.ok).flatMap Page.axles ++ s.mgt.axlBuf).map (fun a => (a.num, a.record.toBytes)))
  else
    ((s.mgt.evtRing.filter Page.ok).flatMap Page.events ++ s.mgt.evtBuf).map (fun p => (p.1, p.2.bytes))

/-- Entry numbers of a page. -/
def Page.numbers (p : Page) : List Nat := p.events.map Prod.fst ++ p.axles.map AxleEntry.num

/-- Pages that fail their check and hold an entry that `p` picks are met on reading: fault 0B31h for each (R318). -/
def State.metBadPages (s : State) (ring : List Page) (p : Nat → Bool) : State :=
  ring.foldl (fun (s : State) (g : Page) => if !g.ok && g.numbers.any p then s.mgtLog 6 0x0B31 else s) s

/-- An axle entry with a number from `first` up to `n` still waits for its snippet: the numbers are not consecutive beyond it. -/
def State.waitsBelow (s : State) (axles : Bool) (first n : Nat) : Bool :=
  axles && s.wdus.any (fun w => w.snips.any (fun x => decide (first ≤ x.num ∧ x.num < n)))

/-- LOG_READ (R323). -/
def State.opLogRead (s : State) (log count : Byte) (first : BitVec 48) : State × Reply :=
  if 1 < log.toNat ∨ count = 0 ∨ 13 < count.toNat then (s, ret stBadParam)
  else
    let l := ((s.heldEntries (decide (log = 1))).filter (fun p =>
      decide (first.toNat ≤ p.1) && !s.waitsBelow (decide (log = 1)) first.toNat p.1)).take count.toNat
    let next := match l.getLast? with
      | some p => p.1 + 1
      | none => first.toNat
    let s := s.metBadPages (if log = 1 then s.mgt.axlRing else s.mgt.evtRing)
      (fun n => decide (first.toNat ≤ n) && (decide (l.length < count.toNat) || decide (n < next)))
    (s, some { status := stOk, bytes := toBytes 6 next ++ [BitVec.ofNat 8 l.length, 0] ++ l.flatMap Prod.snd })

/-! ### Firmware staging (R326) -/

/-- The staging store is emptied. -/
def State.clearStaging (s : State) (st : FwStage) : State :=
  { s with mgt := { s.mgt with fwStore := [], fwLen := 0, fwTotal := 0, fwBytes := [], fwState := st }
           img := { s.img with fwVerified := false, fwCheck := none } }

/-- A block of the firmware file (R326): a block at offset 0 discards whatever was staged. The CRC-32C on unit 3 runs over the
blocks as they are written. A block at another offset is taken while a file is being received (log 13). -/
def State.opFwStage (s : State) (off : Word) (data : List Byte) : State × Reply :=
  if data.isEmpty ∨ 236 < data.length ∨ 8388608 < off.toNat + data.length then (s, ret stBadParam)
  else if s.img.fwPending = true ∨ (off ≠ 0 ∧ s.mgt.fwState ≠ .receiving) then (s, ret stNotPermitted)
  else
    let s := if off = 0 then
        (s.clearStaging .receiving).modCrc 3 (fun u => ({ u with algo := 2 } : CrcUnit).start)
      else s
    let store := Memory.writeBytes s.mgt.fwStore off.toNat data
    let s := s.modCrc 3 (fun u => u.feed data)
    ({ s with mgt := { s.mgt with fwStore := store, fwLen := store.length } }, ret stOk)

/-- The close of the staging (R326): Pewter's checks begin. -/
def State.opFwClose (s : State) (len : Word) : State × Reply :=
  if s.mgt.fwState ≠ .receiving then (s, ret stNotPermitted)
  else
    let s := s.modCrc 3 CrcUnit.finish
    ({ s with mgt := { s.mgt with fwState := .verifying, fwTotal := len.toNat, fwAt := s.now } }, ret stAccepted)

/-- Header fields and total length of a firmware file (Table 12-6, check 1). -/
def fwHeaderOk (total : Nat) (bs : List Byte) : Bool :=
  decide (bytesAt bs 0 4 = 0x54463634) && inRange 1 2 (bytesAt bs 4 1) && decide (byteAt bs 7 = 0 ∧ bytesAt bs 12 4 = 0) &&
    decide (total = 112 + bytesAt bs 8 4)

/-- The number of the first check that fails; 0 none. -/
def State.fwFirstFail (s : State) (bs : Option (List Byte)) (digestOk keyOk sigOk : Bool) : BitVec 4 :=
  match bs with
  | none => 1
  | some bs =>
    if !fwHeaderOk s.mgt.fwTotal bs then 1
    else if crc32c bs ≠ ((s.crc[3]).result.setWidth 32) then 2
    else if !digestOk then 3
    else if !keyOk then 4
    else if !sigOk then 5
    else 0

/-- FW_STAGE_VERIFY_END (R326): within 10 s of the close. -/
def execFwStageVerifyEnd (dt : Nat) (digestOk keyOk sigOk : Bool) (s : State) : Out :=
  let s := s.pass dt
  s.when (s.pewterOn && decide (s.mgt.fwState = FwStage.verifying)) (fun s =>
    let bs := Memory.readBytes s.mgt.fwStore 0 s.mgt.fwTotal
    let f := s.fwFirstFail bs digestOk keyOk sigOk
    let bytes := bs.getD []
    if f = 0 then
      let vital := decide (byteAt bytes 4 = 1)
      { s with mgt := { s.mgt with fwState := .verified, fwVital := vital, fwFail := 0, fwBytes := bytes }
               img := { s.img with fwVerified := vital } }
    else
      let s := s.clearStaging .failed
      { s with mgt := { s.mgt with fwFail := f } }.mgtLog 3 0x0B20)

end Sys2Proof.Machine
end

