-- ==== Sys2Proof/Machine/Pewter.lean ====
section
/-! DEFINITION. Pewter's own commands: restart, sensors, recorder pages and holds, the management transport, the Ethernet
port and its loopbacks (12). -/

namespace Sys2Proof.Machine
open Sys2Proof

/-! ### Restart (R315, R326) -/

/-- Pewter's processor restarts: clients and sessions end, the mailbox empties, and what its queue and its page buffers hold is
lost without a count (R315). -/
def State.restartPewter (s : State) (watchdog bootBad : Bool) : State :=
  let nums := s.mgt.queue.filterMap (fun q => match q with
    | .axle a => some a.num
    | _ => none)
  { s with
    sup := { s.sup with snapshot := false }
    mgt := { s.mgt with
      pw := .restarting, restartAt := s.now, restartWd := watchdog, bootBad := bootBad, recOk := false
      clients := [], sessions := [], queue := [], dropped := 0, evtBuf := [], axlBuf := [], snapNow := [], datagrams := [] }
    cmd := { s.cmd with
      mailbox := [], inbox := s.cmd.inbox.filter (fun p => decide (p.path ≠ .mailbox)) }
    wdus := s.wdus.map (fun w => { w with snips := w.snips.filter (fun x => !x.taken && !nums.contains x.num) }) }

/-- PEWTER_WATCHDOG (R315): the processor has not served its watchdog for 1 s. -/
def execPewterWatchdog (dt : Nat) (s : State) : Out :=
  (s.pass dt).when (s.pass dt).pewterOn (fun s =>
    let s := { s with mgt := { s.mgt with restarts := satInc s.mgt.restarts } }
    s.restartPewter true false)

/-- PEWTER_RESTART_COMPLETE (R315, R326): 0B02h after a watchdog restart, 0B22h where the boot ROM has refused the image. -/
def execPewterRestartComplete (dt : Nat) (s : State) : Out :=
  let s := s.pass dt
  s.when (!s.inReset && decide (s.mgt.pw = PwState.restarting)) (fun s =>
    let s := { s with mgt := { s.mgt with pw := .running, recOk := true } }
    if s.mgt.restartWd then s.mgtLog 1 0x0B02
    else if s.mgt.bootBad then s.mgtLog 4 0x0B22
    else s)

/-! ### Sensors (R316, R317) -/

/-- Warning level of a sensor, and its fault (Table 12-2). -/
def Sensor.level : Sensor → Int
  | .tCore => 110
  | .tMgt => 95
  | .tInlet => 75
  | .humidity => 95

def Sensor.code : Sensor → Nat
  | .humidity => 0x0B11
  | _ => 0x0B10

def Mgt.sensor (m : Mgt) : Sensor → SensorSt
  | .tCore => m.wCore
  | .tMgt => m.wMgt
  | .tInlet => m.wInlet
  | .humidity => m.wHum

def Mgt.setSensor (q : Sensor) (x : SensorSt) (m : Mgt) : Mgt :=
  match q with
  | .tCore => { m with wCore := x }
  | .tMgt => { m with wMgt := x }
  | .tInlet => { m with wInlet := x }
  | .humidity => { m with wHum := x }

/-- A reading enters the timers of its sensor: above the level since, and 5 units inside it since. -/
def SensorSt.take (level v : Int) (now : Nat) (x : SensorSt) : SensorSt :=
  { x with
    aboveSince := if level < v then some (x.aboveSince.getD now) else none
    belowSince := if v ≤ level - 5 then some (x.belowSince.getD now) else none }

/-- Σ of SUPPLY_V × (LOOP_I(CS1) + LOOP_I(CS2)) over the assigned ports, in units of 10 nW (R317). -/
def State.portPower (s : State) : Nat :=
  ((allFin 64).map (fun n => if s.assigned n then
    (s.ports[n]).supplyV.toNat * ((s.ports[n]).loopI1.toNat + (s.ports[n]).loopI2.toNat) else 0)).sum

/-- PF in 0.1 W and the field bus current in mA (R317), rounded down (log 17). A median of 0 leaves the current open: a free
value. -/
def State.fieldPower (s : State) : State :=
  let p := 57400000 + s.portPower
  let s := { s with mgt := { s.mgt with power := satNat 16 (p / 8200000) } }
  if s.sup.median = 0 then
    let (n, s) := s.draw
    { s with mgt := { s.mgt with current := BitVec.ofNat 16 (n % 10000) } }
  else { s with mgt := { s.mgt with current := BitVec.ofNat 16 (min 9999 (p / (8200 * s.sup.median.toNat))) } }

/-- SENSOR_SAMPLE (R316): once per second. -/
def execSensorSample (dt : Nat) (tCore tMgt tInlet humidity : Byte) (s : State) : Out :=
  let s := s.pass dt
  let due := match s.mgt.sensorAt with
    | some t => decide (t + 1000000000 ≤ s.now)
    | none => true
  s.when (s.pewterOn && due) (fun s =>
    let t := s.now
    let s := { s with mgt := { s.mgt with
      sensorAt := some t, tCore := tCore, tMgt := tMgt, tInlet := tInlet, humidity := humidity
      wCore := s.mgt.wCore.take Sensor.tCore.level tCore.toInt t
      wMgt := s.mgt.wMgt.take Sensor.tMgt.level tMgt.toInt t
      wInlet := s.mgt.wInlet.take Sensor.tInlet.level tInlet.toInt t
      wHum := s.mgt.wHum.take Sensor.humidity.level humidity.toNat t } }
    s.fieldPower)

/-- SENSOR_WARNING (R316): beyond the level for 10 s, once per episode. -/
def execSensorWarning (dt : Nat) (q : Sensor) (s : State) : Out :=
  let s := s.pass dt
  let x := s.mgt.sensor q
  let due := match x.aboveSince with
    | some t => decide (t + 10000000000 ≤ s.now)
    | none => false
  s.when (s.pewterOn && !x.episode && due) (fun s =>
    { s with mgt := s.mgt.setSensor q { x with episode := true } }.mgtLog 2 q.code)

/-- SENSOR_WARNING_END (R316): 5 units inside the level for 60 s. -/
def execSensorWarningEnd (dt : Nat) (q : Sensor) (s : State) : Out :=
  let s := s.pass dt
  let x := s.mgt.sensor q
  let due := match x.belowSince with
    | some t => decide (t + 60000000000 ≤ s.now)
    | none => false
  s.when (s.pewterOn && x.episode && due) (fun s =>
    { s with mgt := s.mgt.setSensor q { x with episode := false } })

/-! ### Recorder (R318 to R321) -/

/-- A page of a ring is due: full, or 250 ms after its first entry (R319). -/
def State.pageDue (s : State) (axles : Bool) : Bool :=
  if axles then
    decide (s.mgt.axlBuf ≠ []) && (decide (14 ≤ s.mgt.axlBuf.length) || decide (s.mgt.axlBufAt + 250000000 ≤ s.now))
  else
    decide (s.mgt.evtBuf ≠ []) && (decide (252 ≤ s.mgt.evtBuf.length) || decide (s.mgt.evtBufAt + 250000000 ≤ s.now))

/-- A block fails to program or erase (R319): it is retired and replaced from the spare pool, and once the pool is empty the
ring has one block less, its last. -/
def State.retireBlock (s : State) (axles : Bool) : State :=
  let m := s.mgt
  let p := m.writePlace axles
  let m := { m with bad := m.bad ++ [m.blockAt p] }
  let m := if m.spare = 0 then
      { m with
        moved := putNat p (m.blockAt (ringFirst axles + m.ringBlocks axles - 1)) m.moved
        evtBlocks := if axles then m.evtBlocks else m.evtBlocks - 1
        axlBlocks := if axles then m.axlBlocks - 1 else m.axlBlocks }
    else { m with moved := putNat p (32768 - m.spare.toNat) m.moved, spare := m.spare - 1 }
  let s := { s with mgt := m }.mgtLog 6 0x0B31
  if s.mgt.spare.toNat < 32 ∧ s.mgt.spareLow = false then
    { s with mgt := { s.mgt with spareLow := true } }.mgtLog 7 0x0B32
  else s

/-- RECORDER_PAGE_WRITE (R318, R319). -/
def execRecorderPageWrite (dt : Nat) (axles : Bool) (fate : PageFate) (s : State) : Out :=
  let s := s.pass dt
  s.when (s.pewterOn && s.pageDue axles) (fun s => (if fate = .retired then s.retireBlock axles else s).writePage axles (decide (fate ≠ .decays)))

/-- Entries of a ring and its page buffer in a window of an epoch. -/
def Hold.eventsOf (h : Hold) (m : Mgt) : List (Nat × Event) :=
  let l := ((m.evtRing.filter (fun g => g.ok && decide (g.epoch = h.epoch))).flatMap Page.events) ++
    (if m.evtEpoch = h.epoch then m.evtBuf else [])
  l.filter (fun p => inWindow h.first h.last p.2.ts)

def Hold.axlesOf (h : Hold) (m : Mgt) : List AxleEntry :=
  let l := ((m.axlRing.filter (fun g => g.ok && decide (g.epoch = h.epoch))).flatMap Page.axles) ++
    (if m.axlEpoch = h.epoch then m.axlBuf else [])
  l.filter (fun a => inWindow h.first h.last a.record.ts)

/-- The window is copied into the slot of 64 MiB, behind what an earlier copy of an extended window left there: event pages, then
axle pages, as far as the 16,384 pages of the slot go (R321, log 18). -/
def Hold.copy (m : Mgt) (h : Hold) : Hold :=
  let evs := h.events ++ (h.eventsOf m).filter (fun p => !(h.events.map Prod.fst).contains p.1)
  let axs := h.axles ++ (h.axlesOf m).filter (fun a => !(h.axles.map AxleEntry.num).contains a.num)
  let evs := evs.take (252 * 16384)
  { h with copied := true, events := evs, axles := axs.take (14 * (16384 - (evs.length + 251) / 252)) }

/-- HOLD_COPY (R321): once the later bound has passed. -/
def execHoldCopy (dt : Nat) (slot : Fin 16) (s : State) : Out :=
  let s := s.pass dt
  match s.mgt.holds[slot] with
  | none => .next s
  | some h =>
    s.when (s.pewterOn && !h.copied && decide (h.until' ≤ s.now)) (fun s =>
      let s := s.metBadPages (s.mgt.evtRing.filter (fun g => decide (g.epoch = h.epoch))) (fun _ => true)
      let s := s.metBadPages (s.mgt.axlRing.filter (fun g => decide (g.epoch = h.epoch))) (fun _ => true)
      { s with mgt := { s.mgt with holds := upd s.mgt.holds slot (fun _ => some (h.copy s.mgt)) } })

/-! ### Management transport (R324) -/

/-- The sender lies inside the module's prefix, or is the gateway. -/
def Mgt.admits (m : Mgt) (ep : Endpoint) : Bool :=
  decide (ep.ip >>> (32 - m.prefixLen.toNat) = m.ipv4 >>> (32 - m.prefixLen.toNat)) || (decide (m.gw ≠ 0) && decide (ep.ip = m.gw))

/-- A datagram or a frame is discarded and counted. -/
def State.discardFrame (s : State) : State :=
  { s with mgt := { s.mgt with refused := satInc s.mgt.refused } }

/-- The lowest number of a list that no entry of `l` bears. -/
def freeId (l : List Client) (ids : List Nat) : Option Nat := ids.find? (fun i => !l.any (fun c => decide (c.id.toNat = i)))

/-- A sender is heard: a tool session of it, else its management client, numbered at its first datagram. No answer: a sixteenth
client. -/
def State.hear (s : State) (ep : Endpoint) : Option (Who × State) :=
  match s.mgt.sessions.find? (fun c => decide (c.ep = ep)) with
  | some c =>
    let l := s.mgt.sessions.map (fun (x : Client) => if x.ep = ep then { x with last := s.now } else x)
    some (.tool (c.id.setWidth 3), { s with mgt := { s.mgt with sessions := l } })
  | none =>
    match s.mgt.clients.find? (fun c => decide (c.ep = ep)) with
    | some c =>
      let l := s.mgt.clients.map (fun (x : Client) => if x.ep = ep then { x with last := s.now } else x)
      some (.mgt c.id, { s with mgt := { s.mgt with clients := l } })
    | none =>
      match freeId s.mgt.clients ((List.range 15).map (· + 1)) with
      | some i =>
        let c : Client := { id := BitVec.ofNat 4 i, ep := ep, last := s.now }
        some (.mgt c.id, { s with mgt := { s.mgt with clients := s.mgt.clients ++ [c] } })
      | none => none

/-- A datagram of the management transport arrives. -/
def datagram (dt : Nat) (ep : Endpoint) (f : Who → State → State) (s : State) : Out :=
  let s := s.pass dt
  s.when s.ethOn (fun s =>
    if s.mgt.admits ep then
      match s.hear ep with
      | some (w, s) => f w s
      | none => s.discardFrame
    else s.discardFrame)

/-- The answer of a datagram carries its kind (log 19). -/
def State.reply (s : State) (ep : Endpoint) (kind : Byte) (body : List Byte) : State :=
  { s with mgt := { s.mgt with datagrams := [(ep, kind, body)] } }

/-- Source ID of a sender (Table 8-2). -/
def Who.sourceId : Who → BitVec 16
  | .lanes _ => 0
  | .mgt id => 0x2000 ||| id.setWidth 16
  | .tool id => 0x3000 ||| id.setWidth 16

/-- Pewter sets the source ID of a packet and renews its trailer where the trailer matched; a packet whose trailer does not match
stays as it is (log 20). -/
def withSource (src : BitVec 16) (bs : List Byte) : List Byte :=
  if 20 ≤ bs.length ∧ (crc32c (bs.take (bs.length - 4))).toNat = bytesAt bs (bs.length - 4) 4 then
    let body := bs.take 4 ++ toBytes 2 src.toNat ++ (bs.take (bs.length - 4)).drop 6
    body ++ toBytes 4 (crc32c body).toNat
  else bs

/-- MGT_COMMAND (R324 01h): the packet is left in the mailbox. -/
def execMgtCommand (dt : Nat) (ep : Endpoint) (bytes : List Byte) (s : State) : Out :=
  datagram dt ep (fun w s =>
    let p : Packet := { path := .mailbox, bytes := withSource w.sourceId bytes, exempt := false, at' := s.now }
    { s with cmd := { s.cmd with inbox := s.cmd.inbox ++ [p] } }) s

/-- Session numbers that a new session may get: none that owns a staged image (R315). -/
def State.sessionIds (s : State) : List Nat :=
  (List.range 8).filter (fun i => !(decide (s.img.stage = .staged) && decide (s.img.owner.toNat = i)))

/-- SESSION_OPEN (R324 03h): the lowest free ID; the sender is then no management client. With eight sessions open, or no
number left, the datagram is discarded. -/
def execSessionOpen (dt : Nat) (ep : Endpoint) (s : State) : Out :=
  let s := s.pass dt
  s.when s.ethOn (fun s =>
    match s.mgt.admits ep, freeId s.mgt.sessions s.sessionIds with
    | true, some i =>
      let c : Client := { id := BitVec.ofNat 4 i, ep := ep, last := s.now }
      let l := s.mgt.sessions.map (fun (x : Client) => if x.ep = ep then { x with last := s.now } else x)
      let s := { s with mgt := { s.mgt with
        sessions := l ++ [c]
        clients := s.mgt.clients.filter (fun (x : Client) => decide (x.ep ≠ ep)) } }
      s.reply ep 0x03 (toBytes 2 (0x3000 + i))
    | _, _ => s.discardFrame)

/-- A session ends. -/
def State.endSession (s : State) (id : Nat) : State :=
  { s with mgt := { s.mgt with sessions := s.mgt.sessions.filter (fun (x : Client) => decide (x.id.toNat ≠ id)) } }

/-- SESSION_CLOSE (R324 04h). -/
def execSessionClose (dt : Nat) (ep : Endpoint) (id : BitVec 16) (s : State) : Out :=
  datagram dt ep (fun _ s => if 0x3000 ≤ id.toNat ∧ id.toNat ≤ 0x3007 then s.endSession (id.toNat - 0x3000) else s) s

/-- The 288 bytes of an axle entry (R320). -/
def AxleEntry.bytes (a : AxleEntry) : List Byte :=
  a.record.toBytes ++ [BitVec.ofNat 8 a.stride, BitVec.ofNat 8 a.rate, if a.scm then 1 else 0, 0] ++
    toBytes 8 a.validMap.toNat ++ toBytes 4 0 ++ a.samples.flatMap (fun p => toBytes 2 p.1.toNat ++ toBytes 2 p.2.toNat)

/-- RECORDER_READ (R324 05h): the entry, or an empty body when it is not held. -/
def execRecorderRead (dt : Nat) (ep : Endpoint) (num : BitVec 48) (s : State) : Out :=
  datagram dt ep (fun _ s =>
    let held := (s.mgt.axlRing.filter Page.ok).flatMap Page.axles ++ s.mgt.axlBuf
    match held.find? (fun a => decide (a.num = num.toNat)) with
    | some a => s.reply ep 0x05 a.bytes
    | none => (s.metBadPages s.mgt.axlRing (fun n => decide (n = num.toNat))).reply ep 0x05 []) s

/-- CLOCK_SET (R322, R324 06h). -/
def execClockSet (dt : Nat) (ep : Endpoint) (utc : BitVec 48) (s : State) : Out :=
  datagram dt ep (fun _ s =>
    let c : CalRef := { epoch := s.mgt.epoch.toNat, tb := s.stamp, utc := utc }
    { s with mgt := { s.mgt with calendar := s.mgt.calendar ++ [c] } }.event 0x0004 0xFFFF utc) s

/-- HOLD (R321, R324 07h). -/
def execHold (dt : Nat) (ep : Endpoint) (inst : Stamp) (s : State) : Out :=
  datagram dt ep (fun _ s =>
    match s.openHold inst with
    | (some i, s) => s.reply ep 0x07 [BitVec.ofNat 8 i.val]
    | (none, s) => s.reply ep 0x07 [0xFF]) s

/-- A tool session asks while VI6 is ACCEPTED. -/
def State.keyed (s : State) (w : Who) : Bool :=
  match w with
  | .tool _ => s.accepted 6
  | _ => false

/-- RELEASE (R321, R324 08h). -/
def execRelease (dt : Nat) (ep : Endpoint) (slot : Byte) (s : State) : Out :=
  datagram dt ep (fun w s =>
    if h : slot.toNat < 16 then
      if s.keyed w = true ∧ ((s.mgt.holds[slot.toNat]'h).isSome) = true then
        { s with mgt := { s.mgt with holds := upd s.mgt.holds ⟨slot.toNat, h⟩ (fun _ => none) } }.event 0x0006 0xFFFF
          (BitVec.ofNat 48 (slot.toNat * 2 ^ 40 + 2 ^ 32))
      else s
    else s) s

/-- FW_RESTART (R324 09h, R326): Pewter restarts with a verified management image, or, where its boot ROM refuses it, with the
firmware before. -/
def execFwRestart (dt : Nat) (ep : Endpoint) (bootOk : Bool) (s : State) : Out :=
  datagram dt ep (fun _ s =>
    if s.mgt.fwState = FwStage.verified ∧ s.mgt.fwVital = false then
      let s := { s with mdl := { s.mdl with fwMgtFallback := !bootOk } }
      let s := if bootOk then
          let (n, s) := s.draw
          { s with mgt := { s.mgt with fwLine := byteAt s.mgt.fwBytes 5, fwRelease := some (BitVec.ofNat 16 n) } }
        else s
      s.restartPewter false (!bootOk)
    else s) s

/-- NET_SET (R324 0Ah). -/
def execNetSet (dt : Nat) (ep : Endpoint) (addr : Word) (plen : Byte) (gw : Word) (s : State) : Out :=
  datagram dt ep (fun w s =>
    if s.keyed w = true ∧ 8 ≤ plen.toNat ∧ plen.toNat ≤ 30 then
      { s with mgt := { s.mgt with ipv4 := addr, prefixLen := plen.setWidth 6, gw := gw } }
    else s) s

/-- CLIENT_TIMEOUT (R324): 60 s without a datagram. -/
def execClientTimeout (dt : Nat) (id : BitVec 4) (s : State) : Out :=
  let s := s.pass dt
  s.when s.pewterOn (fun s =>
    { s with mgt := { s.mgt with
      clients := s.mgt.clients.filter (fun (x : Client) => !(decide (x.id = id) && decide (x.last + 60000000000 ≤ s.now))) } })

/-- SESSION_TIMEOUT (R324): 10 min without a datagram. -/
def execSessionTimeout (dt : Nat) (id : BitVec 3) (s : State) : Out :=
  let s := s.pass dt
  s.when s.pewterOn (fun s =>
    { s with mgt := { s.mgt with
      sessions := s.mgt.sessions.filter (fun (x : Client) =>
        !(decide (x.id = id.setWidth 4) && decide (x.last + 600000000000 ≤ s.now))) } })

/-! ### Ethernet (R324, R325) -/

/-- A loopback starts; one selected from the network ends every session (R325). -/
def State.startEthLoop (s : State) (k : EthLoop) (net : Bool) : State :=
  { s with mgt := { s.mgt with
    loopback := k, loopNet := net, loopAt := s.now, sessions := if net then [] else s.mgt.sessions } }

/-- ETH_LOOPBACK_MAC (R325). -/
def execEthLoopbackMac (dt : Nat) (net : Bool) (s : State) : Out :=
  (s.pass dt).when (s.pass dt).pewterOn (fun s => s.startEthLoop .mac net)

/-- ETH_LOOPBACK_PHY (R325). -/
def execEthLoopbackPhy (dt : Nat) (net : Bool) (s : State) : Out :=
  (s.pass dt).when (s.pass dt).pewterOn (fun s => s.startEthLoop .phy net)

/-- ETH_LOOPBACK_END (R325): all 64 frames are back, or 100 ms have passed. A loopback written at this very instant starts anew and
does not end (R334). -/
def execEthLoopbackEnd (dt : Nat) (back : Nat) (s : State) : Out :=
  let s := s.pass dt
  let ok := decide (64 ≤ back)
  s.when (!s.inReset && s.mgt.loopback.runs && decide (s.mgt.loopAt < s.now) &&
      (ok || decide (s.mgt.loopAt + 100000000 ≤ s.now))) (fun s =>
    let s := { s with mgt := { s.mgt with loopback := .none, loopNet := false, lbResult := if ok then 1 else 2 } }
    if ok then s else s.mgtLog 10 0x0B41)

/-- ETHERNET_FRAME (R324): ARP and ICMP echo are answered; anything else is discarded and counted. -/
def execEthernetFrame (dt : Nat) (f : EthFrame) (s : State) : Out :=
  (s.pass dt).when (s.pass dt).ethOn (fun s =>
    match f with
    | .badFcs => { s with mgt := { s.mgt with rxErr := satInc s.mgt.rxErr } }
    | .other => s.discardFrame
    | .arp => { s with mgt := { s.mgt with answered := some .arp } }
    | .icmpEcho => { s with mgt := { s.mgt with answered := some .icmpEcho } })

/-- The link of X6: up, with its mode. -/
def State.ethLink (s : State) (up : Bool) (mode : BitVec 2) : State :=
  { s with mgt := { s.mgt with link := up, ethMode := mode } }

/-- ETHERNET_LINK_CHANGE (R324). -/
def execEthernetLinkChange (dt : Nat) (p : EthPartner) (s : State) : Out :=
  let s := s.pass dt
  s.when (!s.inReset && s.mgt.ethEnable && decide (s.mgt.loopback ≠ EthLoop.phy)) (fun s =>
    match p with
    | .auto100 => s.ethLink true 2
    | .auto10 => s.ethLink true 1
    | .parallel10 => s.ethLink true 1
    | .parallel100 => (s.ethLink false 0).mgtLog 9 0x0B40
    | .down => s.ethLink false 0)

end Sys2Proof.Machine
end

