-- ==== Sys2Proof/Machine/Exec.lean ====
section
/-! DEFINITION. The executors of the opcodes (Tables 8-5, 8-6 and 8-8): reads from the published image, and operations that
take effect at the publication of the frame that executes them. -/

namespace Sys2Proof.Machine
open Sys2Proof

/-! ### Reads -/

/-- SEC_CFG, SEC_TOL and SEC_PLAUS of a section that the image does not define (Table 5-10). -/
def undefinedSec : List Word := [0x09000810, 0x08080808, 0x2880A232]

/-- SEC_STATE of a section without a slot in any image: UNPROVEN, WHY by the cause that began most recently (R149): a module-wide
one, 010b for a defined section that no engine executes, 111b for one that is not defined. -/
def State.orphanState (s : State) (def' : Option SecDef) : Word :=
  let own : UCause × Option (Fin 4) := (.noEngine, def'.map SecDef.engine)
  let why : BitVec 3 := match sortBy s.causeAge (s.causes.map (fun u => (u, none)) ++ [own]) with
    | p :: _ => if p = own then (if def'.isSome then 2 else 7) else p.1.why
    | [] => 7
  at32 why.toNat 26

/-- A section without a slot shows its counts since module reset (Table 5-10). -/
def State.orphanRegs (s : State) (i : Fin 256) : List Word :=
  let x := (s.parked.find? (fun x => decide (x.idx = i))).getD { idx := i }
  [s.orphanState (s.cfg.sec i), 0, x.matchWord, s.secFault[i], x.resetWord]

/-- The eight registers of a local section in offset order (Table 5-10). -/
def State.secRegs (s : State) (i : Fin 256) : List Word :=
  let cfg := match s.cfg.sec i with
    | some d => [d.cfg, d.tol, d.plaus]
    | none => undefinedSec
  let fault := s.secFault[i]
  match s.pubSec i with
  | some x => cfg ++ [x.stateWord, x.countWord, x.matchWord, fault, x.resetWord]
  | none => cfg ++ s.orphanRegs i

/-- Words as bytes. -/
def wordBytes (l : List Word) : List Byte := l.flatMap (fun w => toBytes 4 w.toNat)

/-- GET_SECTION. -/
def State.opGetSection (s : State) (gid : Word) : Reply :=
  match s.cfg.localSec gid with
  | none => ret stBadParam
  | some i =>
    let ms := match s.cfg.sec i with
      | some d => d.members
      | none => []
    some { status := stOk, bytes := wordBytes (s.secRegs i) ++ [BitVec.ofNat 8 ms.length, 0, 0, 0] ++ wordBytes (ms.map Member.word) }

/-- GET_AXLES. -/
def State.opGetAxles (s : State) (gid : Word) (first : BitVec 16) (count list : Byte) : Reply :=
  match s.cfg.localSec gid with
  | none => ret stBadParam
  | some i =>
    if count = 0 ∨ 13 < count.toNat ∨ 1 < list.toNat then ret stBadParam
    else
      let l : List AxleRec := match s.pubSec i with
        | some x => if list = 0 then x.ledger else x.pend.map Pend.x
        | none => []
      let frozen : Bool := match s.pubSec i with
        | some x => decide (x.st = .disturbed) && !x.discarded
        | none => false
      let out := (l.drop first.toNat).take count.toNat
      some { status := stOk, bytes := toBytes 2 l.length ++ [BitVec.ofNat 8 out.length, BitVec.ofNat 8 (b2n frozen)] ++
        out.flatMap AxleRec.toBytes }

/-- TBS_STATE. -/
def State.tbsStateWord (s : State) : Word :=
  let hold := if s.tbs.state = .holdover ∨ s.tbs.state = .invalid then (s.now - s.tbs.holdSince) / 1000000 else 0
  at32 s.tbs.state.code 29 ||| bitAt s.tbs.valid 28 ||| at32 ((s.tbs.source.map Fin.val).getD 0) 25 |||
    at32 s.tbs.depthSeen.toNat 20 ||| ((satNat 16 hold : BitVec 16).setWidth 32)

/-- TBS_STEER. -/
def State.tbsSteerWord (s : State) : Word := BitVec.ofInt 32 s.tbs.steer

/-- TBS_STEP. -/
def State.tbsStepWord (s : State) : Word := at32 s.tbs.stepCnt.toNat 16

/-- LNK_DELAY. -/
def State.delayWord (s : State) (k : Fin 8) : Word := at32 (s.links[k]).delay.toNat 16 ||| at32 (s.links[k]).offset.toNat 0

/-- TIMEBASE_STATUS. -/
def State.opTimebase (s : State) : Reply :=
  some { status := stOk, bytes := wordBytes [s.tbsStateWord, s.tbs.offset, s.tbsSteerWord, s.tbsStepWord, s.tbs.lastStep] ++
    toBytes 6 (s.tickExt % 2 ^ 48) ++ wordBytes [s.delayWord 3, s.delayWord 4, s.delayWord 5, s.delayWord 6, s.delayWord 7] }

/-! ### Inputs, banks, presets -/

/-- FAULT_ACK (R254): the reset fault of an input that the sampling tick found released ends, unless a feed or evaluator fault that
began since has put the input into reset fault anew. KEY_INHIBIT of the sections served returns to 0 in the images of the same
publication (`State.imposed`). -/
def State.opFaultAck (s : State) (snap : Snap) (input : Byte) : State × Reply :=
  if h : input.toNat < 6 then
    let i : Fin 8 := ⟨input.toNat, by omega⟩
    if !(s.vis[i]).resetFault then (s, ret stOk)
    else if !snap.released.getLsbD input.toNat then (s, ret stNotPermitted)
    else (s.modVi i (fun v => { v with resetFault := v.faulty }), ret stOk)
  else (s, ret stBadParam)

/-- A bank is in a fade: a channel fades into it or out of it (R85). -/
def State.bankFading (s : State) (b : Bool) : Bool :=
  (allFin 128).any (fun c => match (s.chans[c]).fade with
    | some f => decide (f.target = b ∨ (s.chans[c]).bank = b)
    | none => false)

/-- A bank is in use: a channel has it as BANK_NOW. -/
def State.bankUsed (s : State) (b : Bool) : Bool := (allFin 128).any (fun c => decide ((s.chans[c]).bank = b))

def State.modBank (s : State) (b : Bool) (f : Bank → Bank) : State :=
  { s with banks := upd s.banks (if b then 1 else 0) f }

/-- Taps written from `first` on. -/
def Bank.writeTaps (first : Nat) (l : List (BitVec 24)) (b : Bank) : Bank :=
  { b with
    valid := false, loading := true
    coef := Vector.ofFn (fun (i : Fin 256) =>
      if first ≤ i.val ∧ i.val < first + l.length then l.getD (i.val - first) 0 else b.coef[i]) }

/-- A bank is in a fade for a load (R85, R87): it was at the sampling tick of the load's frame, or a swap of that frame has started
one. -/
def State.bankBusy (s : State) (snap : Snap) (b : Bool) : Bool := snap.busy.getLsbD (b2n b) || s.bankFading b

/-- BANK_LOAD (R85). -/
def State.opBankLoad (s : State) (snap : Snap) (b : Bool) (first : Byte) (l : List (BitVec 24)) : State × Reply :=
  if l.isEmpty ∨ 64 < l.length ∨ 256 < first.toNat + l.length then (s, ret stBadParam)
  else if s.bankBusy snap b then (s, ret stFadeBusy)
  else if s.bankUsed b then (s, ret stNotPermitted)
  else (s.modBank b (Bank.writeTaps first.toNat l), ret stOk)

/-- The close of a BANK_LOAD (R84, R85), its CRC on check-value unit 0. -/
def State.opBankClose (s : State) (snap : Snap) (b : Bool) (crc : Word) : State × Reply :=
  if !(s.bank b).loading then (s, ret stBadParam)
  else if s.bankBusy snap b then (s, ret stFadeBusy)
  else if s.bankUsed b then (s, ret stNotPermitted)
  else
    let l := (s.bank b).coef.toList
    let r := s.useUnit 0 2 (coefBytes l) (crc.setWidth 64)
    let ok := r.1 && setOk l
    let s := r.2.modBank b (fun x => { x with loading := false, valid := ok, command := x.command || ok, crc := crc })
    if ok then (s, ret stOk) else (s.fault 0x0401 0xFFFF, ret stCheckFail)

/-- Ports first to last. -/
def portRange (first last : BitVec 6) : List (Fin 64) :=
  (allFin 64).filter (fun n => decide (first.toNat ≤ n.val ∧ n.val ≤ last.toNat))

/-- Channels of the ports. -/
def rangeChans (l : List (Fin 64)) : List (Fin 128) := l.flatMap (fun n => [chanOf n .cs1, chanOf n .cs2])

/-- BANK_SWAP (R86). -/
def State.opBankSwap (s : State) (snap : Snap) (first last : BitVec 6) (b : Bool) : State × Reply :=
  let cs := rangeChans (portRange first last)
  if last.toNat < first.toNat then (s, ret stBadParam)
  else if cs.any (fun c => snap.fading.getLsbD c.val) then (s, ret stFadeBusy)
  else if !(s.bank b).valid then (s, ret stNotPermitted)
  else (cs.foldl (fun s c => s.modChan c (Chan.swapBank b)) s, ret stOk)

/-- PRESET_SELECT (R96, R89). -/
def State.opPreset (s : State) (first last : BitVec 6) (sel : Option (BitVec 2)) (mode : Option Bool) : State × Reply :=
  if last.toNat < first.toNat then (s, ret stBadParam)
  else
    let ports := (portRange first last).filter (fun n => s.assigned n)
    ((rangeChans ports).foldl (fun s c =>
      let s := match mode with
        | some m => s.modChan c (fun x => { x with dcFrozen := m })
        | none => s
      match sel with
      | some q => if (s.chans[c]).sel = q then s else (s.modChan c (fun x => { x with sel := q })).resetChan c false
      | none => s) s, ret stOk)

/-- SYNC_RESET (R100). -/
def State.opSyncReset (s : State) (first last : BitVec 6) : State × Reply :=
  if last.toNat < first.toNat then (s, ret stBadParam)
  else
    let ports := (portRange first last).filter (fun n => s.assigned n)
    ((rangeChans ports).foldl (fun s c => s.resetChan c false) s, ret stOk)

/-! ### Engines (R173, R177, R179, R180) -/

/-- A hand-over or debug attach involves an engine. -/
def Engine.engaged (g : Engine) : Bool := !g.ho.isEmpty || decide (g.mode = .debug)

/-- Fault 0611h. -/
def State.refuseSplit (s : State) (e : Fin 4) : State × Reply := (s.cenFault e 11 0x0611, ret stNotPermitted)

/-- The engine against which a refused ENGINE_SPLIT is logged: the one that executes it, the source or, where that is not in
MODE RUN, the command engine (R173, R234). -/
def State.splitExecutor (s : State) (src : Fin 4) : Fin 4 :=
  if (s.engines[src]).mode = .run then src else s.signer.getD src

/-- ENGINE_SPLIT (R173): at T0 the hand-over of the source's sections starts. -/
def State.opSplit (s : State) (src tgt : Fin 4) : State × Reply :=
  let a := s.engines[src]
  let b := s.engines[tgt]
  let secs := a.committed.secs
  if src = tgt then (s, ret stBadParam)
  else if !(s.cfg.cenCfg[src]).getLsbD 31 ∨ a.mode ≠ .run ∨ b.mode ≠ .run ∨ a.engaged = true ∨ b.engaged = true ∨
      64 < secs.length + b.committed.secs.length ∨ 1024 < s.cfg.blocksOf secs + s.cfg.blocksOf b.committed.secs ∨
      s.img.stage = .staged then s.refuseSplit (s.splitExecutor src)
  else (s.startHandover src tgt false (secs.map Sec.idx), ret stAccepted)

/-- A sibling that executes a home section of engine `e`. -/
def State.holdsHome (s : State) (e j : Fin 4) : Bool :=
  decide (j ≠ e) && (s.engines[j]).committed.secs.any (fun x => (s.cfg.homeSecs e).any (fun d => decide (d.idx = x.idx)))

/-- ENGINE_JOIN (R177): at T1 the slots stop; the next frame begins four proving frames. -/
def State.opJoin (s : State) (e : Fin 4) : State × Reply :=
  let g := s.engines[e]
  if g.mode ≠ .split ∨ g.joining = true then (s, ret stNotPermitted)
  else if g.engaged = true ∨ (allFin 4).any (fun j => s.holdsHome e j && (s.engines[j]).engaged) = true then s.refuseSplit e
  else
    (s.modEngine e (fun g => { g with
      mode := .proving, joining := true, aRun := false, bRun := false, from' := g.frame + 1, proveLeft := 4, fails := 0
      work := none, done := none, sampled := [], committed := {}, published := {} }), ret stAccepted)

/-- DEBUG_ATTACH (R179). -/
def State.opAttach (s : State) (e : Fin 4) : State × Reply :=
  let g := s.engines[e]
  if !(s.cfg.cenCfg[e]).getLsbD 30 ∨ g.mode = .halted ∨ g.mode = .debug ∨ g.ho ≠ [] then (s, ret stNotPermitted)
  else ((s.attachDebug e).updateVos, ret stAccepted)

/-- DEBUG_DETACH (R180): the attach ends at the next tick. -/
def State.opDetach (s : State) (e : Fin 4) : State × Reply :=
  (if (s.engines[e]).mode = .debug then s.modEngine e (fun g => { g with detaching := true }) else s, ret stOk)

/-! ### Tests and loopbacks -/

/-- Running run-time tests and loopbacks end without a result (R304). -/
def State.endAllLoops (s : State) : State :=
  let s := { s with rt := none }
  let s := (allFin 64).foldl (fun (s : State) (n : Fin 64) =>
    let s := s.modWdu n (fun w => { w with lb3 := none })
    if (s.ports[n]).lb.isSome then
      let s := s.modPort n (fun p => { p with lb := none })
      let s := (s.modChan (chanOf n .cs1) Chan.enterScm).modChan (chanOf n .cs2) Chan.enterScm
      s.postPoint (.loop n false false)
    else s) s
  let s := (allFin 8).foldl (fun (s : State) (k : Fin 8) =>
    if (s.lanes[k]).echo.isSome then
      let s := s.modLane k (fun l => { l with echo := none })
      let s := (laneChans k).foldl (fun s c => s.modChan c Chan.enterScm) s
      (lanePorts k).foldl (fun s n => s.postPoint (.loop n true false)) s
    else s) s
  (allFin 8).foldl (fun (s : State) (k : Fin 8) =>
    let looped := (s.links[k]).looped
    let s := s.modLink k (fun l => { l with loop := none, testReq := 0, testNo := 0 })
    if looped then s.postLink (.linkLoop k false) else s) s

/-- The slowest used lane link's cycle in ns. -/
def State.laneCycle (s : State) : Nat :=
  (allFin 3).foldl (fun a i => if s.linkUsed (laneLink i) then max a (s.linkCycle (laneLink i)) else a) 1000000

/-- SELFTEST_SHUTDOWN (R304). The sections are out of service in the images of the same publication (`State.imposed`), by which
the outputs de-energise. -/
def State.opShutdown (s : State) (windowed : Bool) : State × Reply :=
  if !s.railsNormal ∨ (allFin 4).any (fun e => (s.engines[e]).engaged) = true ∨ s.img.stage = .verifying ∨
      s.img.stage = .activating ∨ s.img.fwPending = true then
    (s.tstFault 4 0x0C05, ret stNotPermitted)
  else
    let s := s.endAllLoops
    let s := { s with
      causes := if s.causes.contains .start then s.causes else .start :: s.causes
      engines := s.engines.map (fun (g : Engine) => { g with aRun := false, bRun := false })
      mdl := { s.mdl with phase := .shutdown }
      tst := { s.tst with
        state := .shutdown, kind := 3, windowed := windowed, step := 0, segs := 0, count := 0, expected := 1841
        acc := 0xFFFFFFFF, sigs := [], failStep := 0, sig := 0, sigExp := 0, running := false, held := false
        pauseSince := none, abortReq := none, abortAt := none, firstAt := some (s.now + s.laneCycle) } }
    (s, ret stAccepted)

/-- SELFTEST_PORT (R61). -/
def State.opTestPort (s : State) (n : Fin 64) : State × Reply :=
  if !s.assigned n then (s, ret stBadParam)
  else ({ s with rtFirst := n :: s.rtFirst.filter (fun m => decide (m ≠ n)) }, ret stAccepted)

/-- A loopback of a port starts (R69, R70, R103, R104). -/
def State.opPortLoop (s : State) (n : Fin 64) (kind : Byte) : State × Reply :=
  if 3 < kind.toNat ∨ (s.assigned n || s.clk.prodTest) = false then (s, ret stBadParam)
  else if (s.ports[n]).lb.isSome ∨ (s.wdus[n]).lb3.isSome ∨ s.testOn (fun m => decide (m = n)) = true ∨
      (kind ≠ 3 ∧ (s.lanes[laneOfPort n]).echo.isSome = true) then (s, ret stNotPermitted)
  else
    match kind.toNat with
    | 0 => (s.startPortLoop n .lb0, ret stAccepted)
    | 1 => (s.startPortLoop n .lb1, ret stAccepted)
    | 2 => (s.startPortLoop n .lb2, ret stAccepted)
    | _ => (s.startLb3 n, ret stAccepted)

/-- A lane echo starts (R79). -/
def State.opEcho (s : State) (k : Fin 8) : State × Reply :=
  if (s.lanes[k]).echo.isSome ∨ (lanePorts k).any (fun n => (s.ports[n]).lb.isSome) = true ∨
      s.testOn (fun m => decide (laneOfPort m = k)) = true then (s, ret stNotPermitted)
  else (s.startEcho k, ret stAccepted)

/-- A loopback of a link starts (R216 to R218). -/
def State.opLinkLoop (s : State) (k : Fin 8) (kind : LinkLb) : State × Reply :=
  if !(s.linkUsed k || s.clk.prodTest) ∨ (kind = .lbr ∧ k.val < 3) then (s, ret stBadParam)
  else if (s.links[k]).loop.isSome then (s, ret stNotPermitted)
  else (s.startLinkLoop k kind, ret stAccepted)

/-- LOOPBACK_SET by its parameters (Table 8-8). -/
def State.opLoopback (s : State) (target index kind : Byte) : State × Reply :=
  match target.toNat with
  | 0 => match portIx index with
    | some n => s.opPortLoop n kind
    | none => (s, ret stBadParam)
  | 1 => match linkIx index with
    | some k => if kind = 0 then s.opEcho k else (s, ret stBadParam)
    | none => (s, ret stBadParam)
  | 2 => match linkIx index with
    | some k =>
      match kind.toNat with
      | 0 => s.opLinkLoop k .lba
      | 1 => s.opLinkLoop k .lbf
      | 2 => s.opLinkLoop k .lbr
      | _ => (s, ret stBadParam)
    | none => (s, ret stBadParam)
  | _ => (s, ret stBadParam)

/-! ### One operation -/

/-- A reset, whose executor is the frame of an engine (R235): where none can run it, it is refused with 0709h (R143). -/
def State.refuseReset (s : State) (gid : Word) : State × Reply := (s.secLog (refusedLog s.cfg gid), ret stEngineHalted)

/-- What an operation does on the module's present state, and its result; none where the result follows later (R271). -/
def State.perform (s : State) (c : Cmd) (snap : Snap) : State × Reply :=
  match c.op with
  | .getStatus => (s, some { status := stOk, bytes := s.statusPayload 0 0 })
  | .getSection g => (s, s.opGetSection g)
  | .getAxles g f n l => (s, s.opGetAxles g f n l)
  | .resetDirect g => s.refuseReset g
  | .resetPreparatory g => s.refuseReset g
  | .resetCancel g => s.refuseReset g
  | .faultAck i => s.opFaultAck snap i
  | .cfgBegin len => s.opCfgBegin c.who len
  | .cfgBlock off d => s.opCfgBlock c.who off d
  | .cfgEnd crc => s.opCfgEnd c crc
  | .cfgConfirm v => s.opCfgConfirm c.who v
  | .cfgRevert m => s.opCfgRevert c m
  | .bankLoad b f l => s.opBankLoad snap b f l
  | .bankClose b crc => s.opBankClose snap b crc
  | .bankSwap a z b => s.opBankSwap snap a z b
  | .presetSelect a z q m => s.opPreset a z q m
  | .syncReset a z => s.opSyncReset a z
  | .engineSplit a b => s.opSplit a b
  | .engineJoin e => s.opJoin e
  | .debugAttach e => s.opAttach e
  | .debugDetach e => s.opDetach e
  | .selftestShutdown w => s.opShutdown w
  | .selftestPort n => s.opTestPort n
  | .loopback t i k => s.opLoopback t i k
  | .timebaseStatus => (s, s.opTimebase)
  | .logRead l n f => s.opLogRead l n f
  | .fwStage off d => s.opFwStage off d
  | .fwStageClose len => s.opFwClose len
  | .fwActivate v => s.opFwActivate c.who v

/-- The keys and conditions that an executor judges at its sampling tick. -/
def State.snap (s : State) : Snap where
  vi6 := s.accepted 6
  vi7 := s.accepted 7
  accepted := BitVec.ofNat 8 ((allFin 8).foldl (fun a i => a + b2n (s.accepted i) * 2 ^ i.val) 0)
  fading := (allFin 128).foldl (fun w c => if (s.chans[c]).fade.isSome then w ||| (1#128 <<< c.val) else w) 0
  busy := BitVec.ofNat 2 (b2n (s.bankFading false) + 2 * b2n (s.bankFading true))
  released := BitVec.ofNat 8 ((allFin 8).foldl (fun a i => a + b2n ((s.vis[i]).releasedAt s.now) * 2 ^ i.val) 0)

/-- Table 8-6, orders 1 and 2: the status that refuses the command. -/
def State.precheck (s : State) (c : Cmd) (snap : Snap) : Option Byte :=
  if needsImage c.op.code = true ∧ s.hasImage = false then some stUnconfirmed
  else
    match c.who.class, keyOf c.op.code with
    | .t, some k => if (if k = 6 then snap.vi6 else snap.vi7) then none else some stNotPermitted
    | _, _ => none

/-- The executor makes the checks of Table 8-6 and performs the operation (R236). -/
def State.runOp (s : State) (c : Cmd) (snap : Snap) : State :=
  match s.precheck c snap with
  | some st =>
    let s := if st = stNotPermitted then s.cmdFault 5 0x0A06 else s
    let s := match c.op.asReset with
      | some (_, g) => if st = stUnconfirmed then s.secLog (refusedLog s.cfg g) else s
      | none => s
    s.answerSt c.ref st
  | none =>
    let r := s.perform c snap
    match r.2 with
    | some x => r.1.finish c x
    | none => r.1

/-- A command that no engine executes (R235, R236): the first two checks of Table 8-6 still come first, then ENGINE_HALTED, with
0709h for a reset (R143). -/
def State.haltedAnswer (s : State) (c : Cmd) (snap : Snap) : State :=
  if (s.precheck c snap).isSome then s.runOp c snap
  else
    let s := match c.op.asReset with
      | some (_, g) => s.secLog (refusedLog s.cfg g)
      | none => s
    s.answerSt c.ref stEngineHalted

/-! ### Who executes (Table 8-5) -/

/-- An engine that executes commands. -/
def Engine.executes (g : Engine) : Bool :=
  match g.mode with
  | .run => true
  | .hoOut => true
  | .hoIn => true
  | _ => false

/-- Operations that the interpreter or Pewter executes on admission. -/
def Op.onAdmission (o : Op) : Bool := decide (o.code.toNat ∈ [0x01, 0x02, 0x03, 0x60, 0x21, 0x70, 0x71])

/-- The engine that executes an operation (R234); none where it is answered ENGINE_HALTED. -/
def State.executor (s : State) (o : Op) : Option (Fin 4) :=
  let e : Option (Fin 4) := match o with
    | .engineSplit src _ => if (s.engines[src]).mode = .run then some src else s.signer
    | _ =>
      match o.asReset with
      | some (_, g) =>
        match s.cfg.localSec g with
        | some i => if (s.cfg.sec i).isSome then (match s.publisher i with | some e => some e | none => s.signer) else s.signer
        | none => s.signer
      | none => s.signer
  match e with
  | some e => if (s.engines[e]).executes then some e else none
  | none => none

/-- A shutdown self-test runs, from its effective tick to the end of TEST_DONE (R307). -/
def State.testing (s : State) : Bool :=
  match s.tst.state with
  | .shutdown => true
  | .done => true
  | .aborting => true
  | _ => false

/-- A request for normal service (R307, R308): TEST_DONE ends in module reset; running segments are aborted at the end of the
one that runs, at once in a pause. -/
def State.normalService (s : State) : State :=
  match s.tst.state with
  | .done => s.assertReset .testDone
  | .shutdown =>
    { s with tst := { s.tst with abortReq := some (s.tst.abortReq.getD 1) } }.abortIfIdle
  | _ => s

/-- An engine has a frame open that still takes a command (R235). -/
def Engine.takesCommand (g : Engine) : Bool :=
  g.work.isSome && (match g.sampled.getLast? with
    | some j => decide (j.cmds.length < 8)
    | none => false)

/-- A reset that its row gives (R143, R235): a command of the frame that its engine has open, published at the tick that ends it;
without such a frame it waits for the next one (log 14). -/
def State.giveReset (s : State) (c : Cmd) (e : Fin 4) : State :=
  if (s.engines[e]).takesCommand then
    (s.modEngine e (fun g => g.reopen s.cfg s.hasImage (fun j => { j with cmds := j.cmds ++ [c] }))).writePool e
  else { s with cmd := { s.cmd with waiting := s.cmd.waiting ++ [{ eng := e, cmd := c, at' := s.now }] } }

/-- A loopback that its row starts through the test access port (R366): on any port, lane or link, without the permissions and the
checks of LOOPBACK_SET. -/
def State.tapRun (s : State) (c : Cmd) : State :=
  let r := s.perform c s.snap
  match r.2 with
  | some x => r.1.finish c x
  | none => r.1

/-- An operation of LOOPBACK_SET. -/
def Op.isLoopback (o : Op) : Bool :=
  match o with
  | .loopback _ _ _ => true
  | _ => false

/-- A command that its row gives (R234, R236, R238): admitted at the present state, where its checks and its effect fall into
this one step (log 14), but for a reset, which acts on the image of its engine's frame. -/
def State.giveOp (s : State) (w : Who) (o : Op) (ps : List Byte) : State :=
  let c : Cmd := { who := w, op := o, ref := .none }
  if s.clk.prodTest = true ∧ o.isLoopback = true then s.tapRun c
  else if classAdmits w.class o.code ps = false then (s.cmdFault 5 0x0A06).answerSt .none stNotPermitted
  else if s.testing = true ∧ isRead o.code = false then
    let s := s.answerSt .none stBusyTesting
    if w.class = .v then s.normalService else s
  else if (match w with | .lanes x => x | _ => false) = true ∧ isRead o.code = false then s.haltedAnswer c s.snap
  else if o.onAdmission then (if s.pewterOn ∨ o.code.toNat ∈ [0x01, 0x02, 0x03, 0x60] then s.runOp c s.snap else s)
  else
    match s.executor o with
    | none => s.haltedAnswer c s.snap
    | some e => if o.asReset.isSome = true ∧ (s.precheck c s.snap).isNone = true then s.giveReset c e else s.runOp c s.snap

/-- The row of an opcode. -/
def opRow (w : Who) (o : Op) (ps : List Byte) (s : State) : Out := s.when (!s.inReset) (fun s => s.giveOp w o ps)

def execGetStatus (who : Who) (s : State) : Out := opRow who .getStatus [] s
def execGetSection (who : Who) (gid : Word) (s : State) : Out := opRow who (.getSection gid) [] s
def execGetAxles (who : Who) (gid : Word) (first : BitVec 16) (count list : Byte) (s : State) : Out :=
  opRow who (.getAxles gid first count list) [] s
def execResetDirect (who : Who) (gid : Word) (s : State) : Out := opRow who (.resetDirect gid) [] s
def execResetPreparatory (who : Who) (gid : Word) (s : State) : Out := opRow who (.resetPreparatory gid) [] s
def execResetCancel (who : Who) (gid : Word) (s : State) : Out := opRow who (.resetCancel gid) [] s
def execFaultAck (who : Who) (input : Byte) (s : State) : Out := opRow who (.faultAck input) [] s
def execCfgBegin (who : Who) (len : Word) (s : State) : Out := opRow who (.cfgBegin len) [] s
def execCfgBlock (who : Who) (off : Word) (data : List Byte) (s : State) : Out := opRow who (.cfgBlock off data) [] s
def execCfgEnd (who : Who) (crc : Word) (s : State) : Out := opRow who (.cfgEnd crc) [] s
def execCfgConfirm (who : Who) (check : BitVec 64) (s : State) : Out := opRow who (.cfgConfirm check) [] s
def execCfgRevertDiscard (who : Who) (s : State) : Out := opRow who (.cfgRevert 0) [] s
def execCfgRevertPrevious (who : Who) (s : State) : Out := opRow who (.cfgRevert 1) [] s
def execBankLoad (who : Who) (bank : Bool) (first : Byte) (coefs : List (BitVec 24)) (s : State) : Out :=
  opRow who (.bankLoad bank first coefs) [] s
def execBankLoadClose (who : Who) (bank : Bool) (crc : Word) (s : State) : Out := opRow who (.bankClose bank crc) [] s
def execBankSwap (who : Who) (first last : BitVec 6) (bank : Bool) (s : State) : Out := opRow who (.bankSwap first last bank) [] s
def execPresetSelect (who : Who) (first last : BitVec 6) (sel : Option (BitVec 2)) (mode : Option Bool) (s : State) : Out :=
  opRow who (.presetSelect first last sel mode) [] s
def execSyncReset (who : Who) (first last : BitVec 6) (s : State) : Out := opRow who (.syncReset first last) [] s
def execEngineSplit (who : Who) (src tgt : Fin 4) (s : State) : Out := opRow who (.engineSplit src tgt) [] s
def execEngineJoin (who : Who) (e : Fin 4) (s : State) : Out := opRow who (.engineJoin e) [] s
def execDebugAttach (who : Who) (e : Fin 4) (s : State) : Out := opRow who (.debugAttach e) [] s
def execDebugDetach (who : Who) (e : Fin 4) (s : State) : Out := opRow who (.debugDetach e) [] s
def execSelftestShutdown (who : Who) (windowed : Bool) (s : State) : Out := opRow who (.selftestShutdown windowed) [] s
def execSelftestPort (who : Who) (n : Fin 64) (s : State) : Out := opRow who (.selftestPort n) [] s

/-- LOOPBACK_SET with its three parameter bytes. -/
def loopRow (who : Who) (target index kind : Byte) (s : State) : Out :=
  opRow who (.loopback target index kind) [target, index, kind] s

def execLoopbackSetLb0 (who : Who) (n : Fin 64) (s : State) : Out := loopRow who 0 (BitVec.ofNat 8 n.val) 0 s
def execLoopbackSetLb1 (who : Who) (n : Fin 64) (s : State) : Out := loopRow who 0 (BitVec.ofNat 8 n.val) 1 s
def execLoopbackSetLb2 (who : Who) (n : Fin 64) (s : State) : Out := loopRow who 0 (BitVec.ofNat 8 n.val) 2 s
def execLoopbackSetLb3 (who : Who) (n : Fin 64) (s : State) : Out := loopRow who 0 (BitVec.ofNat 8 n.val) 3 s
def execLoopbackSetEcho (who : Who) (k : Fin 8) (s : State) : Out := loopRow who 1 (BitVec.ofNat 8 k.val) 0 s
def execLoopbackSetLba (who : Who) (k : Fin 8) (s : State) : Out := loopRow who 2 (BitVec.ofNat 8 k.val) 0 s
def execLoopbackSetLbf (who : Who) (k : Fin 8) (s : State) : Out := loopRow who 2 (BitVec.ofNat 8 k.val) 1 s
def execLoopbackSetLbr (who : Who) (k : Fin 8) (s : State) : Out := loopRow who 2 (BitVec.ofNat 8 k.val) 2 s
def execTimebaseStatus (who : Who) (s : State) : Out := opRow who .timebaseStatus [] s
def execLogRead (who : Who) (log count : Byte) (first : BitVec 48) (s : State) : Out := opRow who (.logRead log count first) [] s
def execFwStage (who : Who) (off : Word) (data : List Byte) (s : State) : Out := opRow who (.fwStage off data) [] s
def execFwStageClose (who : Who) (len : Word) (s : State) : Out := opRow who (.fwStageClose len) [] s
def execFwActivate (who : Who) (check : BitVec 64) (s : State) : Out := opRow who (.fwActivate check) [] s

end Sys2Proof.Machine
end

