-- ==== Sys2Proof/Machine/Interp.lean ====
section
/-! DEFINITION. The command interpreter (08): admission checks, quotas, duplicates, votes, and the hand-over of admitted
commands to their executors. -/

namespace Sys2Proof.Machine
open Sys2Proof

/-- The trailer of a packet matches (check 1). -/
def trailerOk (bs : List Byte) : Bool :=
  decide (20 ≤ bs.length) && decide ((crc32c (bs.take (bs.length - 4))).toNat = bytesAt bs (bs.length - 4) 4)

/-- The format of a packet (check 2). -/
def packetFormatOk (bs : List Byte) : Bool :=
  decide (byteAt bs 0 = 1) && !(hdrFlags bs).getLsbD 7 && decide (hdrFlags bs &&& 0x3F = 0) && decide (bytesAt bs 14 2 = 0) &&
    decide ((hdrTag bs).toNat ≤ 127) && decide (hdrPlen bs ≤ 240) && decide (hdrPlen bs + 20 = bs.length)

/-- Lane `i`'s source ID. -/
def laneSource (i : Fin 3) : BitVec 16 := BitVec.ofNat 16 (0x1000 + i.val)

/-- The source ID is admitted on the path (check 3, R225). -/
def sourceOk (path : Path) (src : BitVec 16) : Bool :=
  match path with
  | .lane i => decide (src = laneSource i)
  | .mailbox => decide (classOf src = some .m ∨ classOf src = some .t)

/-- Sources that share a quota (Table 8-2). -/
def sameQuota (a b : BitVec 16) : Bool :=
  match classOf a with
  | some .v => decide (a = b)
  | k => decide (k = classOf b)

/-- Tags that a source may hold (Table 8-2). -/
def quotaOf (src : BitVec 16) : Nat :=
  match classOf src with
  | some .v => 32
  | some .m => 24
  | some .t => 8
  | none => 0

/-- Tags in flight in a source's quota. -/
def Interp.inFlight (c : Interp) (src : BitVec 16) : Nat :=
  (c.tags.filter (fun t => sameQuota src (hdrSource t.header))).length

/-- Sources as the executor sees them. -/
def whoOf (src : BitVec 16) : Who :=
  match classOf src with
  | some .t => .tool (src.setWidth 3)
  | _ => .mgt (src.setWidth 4)

/-- A packet refused at checks 2, 3, 5, 8, 9 or 10: its fault and CMD_ERR_CNT.REFUSED. -/
def State.refusePacket (s : State) (bit code : Nat) : State :=
  let s := s.cmdFault bit code
  { s with cmd := { s.cmd with errRefused := satInc s.cmd.errRefused } }

/-- An answer that the interpreter forms without a tag. -/
def State.bounce (s : State) (path : Path) (hdr : List Byte) (st : Byte) : State :=
  s.sendPacket path (replyPacket hdr false { status := st }) none

/-- A command goes to its executor (R234, R236). Without an engine that executes it, the checks before the third of Table 8-6
still come first. -/
def State.passOn (s : State) (c : Cmd) : State :=
  if c.op.onAdmission then s.runOp c s.snap
  else
    match s.executor c.op with
    | some e => { s with cmd := { s.cmd with waiting := s.cmd.waiting ++ [{ eng := e, cmd := c, at' := s.now }] } }
    | none => s.haltedAnswer c s.snap

/-- A vote admits its command (R206): BUSY_TESTING during a shutdown self-test, which makes it a request for normal service
(R238); ENGINE_HALTED for an exempt vote (R197); else it goes to its executor. -/
def State.admitVote (s : State) (v : Vote) (o : Op) (hdr : List Byte) : State :=
  let c : Cmd := { who := .lanes v.exempt, op := o, ref := .vote v.id }
  let s := { s with cmd := { s.cmd with
    admitCnt := s.cmd.admitCnt + 1, lastOp := o.code, lastVote := some v.id, lastCycle := hdrCycle hdr
    lastLanes := v.lanes.foldl (fun (w : BitVec 3) (i : Fin 3) => w ||| (1#3 <<< i.val)) 0 } }
  if isRead o.code then s.passOn c
  else if s.testing then (s.answerSt c.ref stBusyTesting).normalService
  else if v.exempt then s.haltedAnswer c s.snap
  else s.passOn c

/-- The open vote that a lane's packet meets at the instant `t` (R206). -/
def Interp.openVote (c : Interp) (key : List Byte) (i : Fin 3) (t : Nat) : Option Vote :=
  c.votes.find? (fun v => decide (v.key = key) && !v.closed && !v.lanes.contains i && decide (t < v.t0 + 20000000))

/-- A lane's packet with its tag enters the vote (R206, R232, R233). -/
def State.votePacket (s : State) (i : Fin 3) (p : Packet) (tag : Nat) (o : Op) : State :=
  match s.cmd.openVote (voteKey p.bytes) i p.at' with
  | none =>
    let v : Vote := { id := s.cmd.nextId, key := voteKey p.bytes, t0 := p.at', lanes := [i], tags := [tag], exempt := p.exempt }
    let s := { s with cmd := { s.cmd with nextId := s.cmd.nextId + 1, votes := s.cmd.votes ++ [v] } }
    if hdrInterim p.bytes then s.sendPacket p.path (replyPacket p.bytes true { status := stVotePending }) none else s
  | some v =>
    let w := { v with
      lanes := v.lanes ++ [i], tags := v.tags ++ [tag]
      admitted := true, confirmed := v.admitted, exempt := v.exempt || (p.exempt && !v.admitted) }
    let s := s.modVote v.id (fun _ => w)
    if v.admitted then
      let s := { s with cmd := { s.cmd with
        voteConfirm := satInc s.cmd.voteConfirm
        lastLanes := if s.cmd.lastVote = some v.id then s.cmd.lastLanes ||| (1#3 <<< i.val) else s.cmd.lastLanes } }
      match v.reply with
      | some r => s.replyTag tag r
      | none => s
    else s.admitVote w o p.bytes

/-- Checks 8 to 12 of a packet that holds a tag. -/
def State.taggedPacket (s : State) (p : Packet) (tag : Nat) (src : BitVec 16) : State :=
  let code := hdrOp p.bytes
  let ps := packetParams p.bytes
  let admits := match classOf src with
    | some k => classAdmits k code ps
    | none => false
  if !definedOpcodes.contains code then (s.refusePacket 6 0x0A07).answerSt (.tag tag) stBadOpcode
  else if !admits then (s.refusePacket 5 0x0A06).answerSt (.tag tag) stNotPermitted
  else
    match decodeOp code ps, p.path with
    | none, _ => (s.refusePacket 1 0x0A02).answerSt (.tag tag) stBadParam
    | some o, .lane i => s.votePacket i p tag o
    | some o, .mailbox =>
      if s.testing = true ∧ isRead code = false then s.answerSt (.tag tag) stBusyTesting
      else s.passOn { who := whoOf src, op := o, ref := .tag tag }

/-- A duplicate (R230, R231): marked on the entry of the packet that is still in flight, or answered at once; any other is
discarded. -/
def State.duplicate (s : State) (p : Packet) (d : DupEntry) : State :=
  let s := { s with cmd := { s.cmd with repeatDup := satInc s.cmd.repeatDup } }
  match s.cmd.tags.find? (fun t => decide (hdrSource t.header = d.src ∧ hdrSeq t.header = d.seq)) with
  | some t =>
    if t.dup.isSome then s
    else
      { s with cmd := { s.cmd with
        tags := s.cmd.tags.map (fun (x : TagEntry) => if x.id = t.id then { x with dup := some (p.bytes.take 16) } else x) } }
  | none =>
    match d.reply with
    | some r => s.sendPacket p.path (replyPacket p.bytes false r.duplicate) none
    | none => s

/-- The admission checks of Table 8-4, in their order. -/
def State.packet (s : State) (p : Packet) : State :=
  if !trailerOk p.bytes then
    let s := s.cmdFault 0 0x0A01
    { s with cmd := { s.cmd with errTrailer := satInc s.cmd.errTrailer } }
  else
    let s := { s with cmd := { s.cmd with rxCnt := s.cmd.rxCnt + 1 } }
    let src := hdrSource p.bytes
    let seq := hdrSeq p.bytes
    if !packetFormatOk p.bytes then (s.refusePacket 1 0x0A02).bounce p.path p.bytes stBadParam
    else if !sourceOk p.path src then s.refusePacket 2 0x0A03
    else
      match s.cmd.dup.find? (fun d => decide (d.src = src ∧ d.seq = seq)) with
      | some d => s.duplicate p d
      | none =>
        if s.cmd.tags.any (fun t => decide (hdrSource t.header = src ∧ hdrTag t.header = hdrTag p.bytes)) then
          (s.refusePacket 4 0x0A05).bounce p.path p.bytes stBadParam
        else if quotaOf src ≤ s.cmd.inFlight src then
          let s := s.cmdFault 3 0x0A04
          let s := { s with cmd := { s.cmd with repeatFull := satInc s.cmd.repeatFull } }
          s.bounce p.path p.bytes stQueueFull
        else
          let tag := s.cmd.nextId
          let t : TagEntry := { id := tag, header := p.bytes.take 16, path := p.path }
          let s := { s with cmd := { s.cmd with
            nextId := tag + 1, tags := s.cmd.tags ++ [t], dup := recordSeq src seq s.cmd.dup } }
          s.taggedPacket p tag src

/-- COMMAND_PACKET (R228): the oldest packet that waits, or one given with its path. A lane's packet that is given so is
exempt from check 9 where no engine can sign (R197); the mailbox carries nothing while Pewter is out of service (R315). -/
def execCommandPacket (dt : Nat) (p : PacketSrc) (s : State) : Out :=
  (s.pass dt).when (!s.inReset) (fun s =>
    match p with
    | .waiting =>
      match s.cmd.inbox with
      | [] => s
      | q :: rest => { s with cmd := { s.cmd with inbox := rest } }.packet q
    | .direct path bytes =>
      let lane := decide (path ≠ .mailbox)
      if lane = false ∧ s.pewterOn = false then s
      else s.packet { path := path, bytes := bytes, exempt := lane && !s.clk.signed, at' := s.now })

/-- The window of one vote ends (R206, R233): with one lane it expires; admitted without a third lane it is counted. -/
def State.closeVote (s : State) (v : Vote) : State :=
  let s := s.modVote v.id (fun v => { v with closed := true })
  if v.admitted then
    let s := if v.confirmed then s else { s with cmd := { s.cmd with voteNoThird := satInc s.cmd.voteNoThird } }
    s.dropVotes
  else
    let s := s.cmdFault 7 0x0A10
    let s := { s with cmd := { s.cmd with voteExpired := satInc s.cmd.voteExpired } }
    s.answerSt (.vote v.id) stVoteExpired

/-- VOTE_WINDOW_END (R206): every window that has reached its end, 20 ms after its first packet. -/
def execVoteWindowEnd (dt : Nat) (s : State) : Out :=
  (s.pass dt).when (!s.inReset) (fun s =>
    (s.cmd.votes.filter (fun v => !v.closed && decide (v.t0 + 20000000 ≤ s.now))).foldl State.closeVote s)

end Sys2Proof.Machine
end

