-- ==== Sys2Proof/Machine/Shown.lean ====
section
/-! DEFINITION. What shows the state of the last publication (R181, R314, R340), and the events at a publication tick that change
it: an image's activation (R276) and the steps of a hand-over (R174). -/

namespace Sys2Proof.Machine
open Sys2Proof

/-! ### What shows the state of the last publication (R181, R314, R340) -/

/-- CEN_STATE of an engine. -/
def State.cenState (s : State) (e : Fin 4) : Word :=
  let g := s.engines[e]
  at32 g.mode.code 29 ||| bitAt g.live 28 ||| bitAt (decide (s.signer = some e)) 27 ||| at32 (min 2 g.fails) 25 |||
    at32 ((g.ho.head?.map (fun h => h.peer.val)).getD 0) 23 ||| at32 ((g.ho.head?.map HandOver.step).getD 0) 21 |||
    at32 g.published.secs.length 14 ||| at32 (s.cfg.blocksOf g.published.secs) 3 ||| at32 g.proveLeft 0

/-- Word `j` of CEN_SECMAP. -/
def Engine.secMap (g : Engine) (j : Nat) : Word :=
  g.published.secs.foldl (fun w x => if x.idx.val / 32 = j then setBit w (x.idx.val % 32) else w) 0

/-- The RO registers of Table 6-8 by offset / 4. -/
def State.cenRegs (s : State) (e : Fin 4) : Vector Word 22 :=
  let g := s.engines[e]
  Vector.ofFn (fun (i : Fin 22) =>
    match i.val with
    | 1 => s.cenState e
    | 3 => BitVec.ofNat 32 g.frame
    | 4 => at32 g.cyc.toNat 16 ||| at32 g.schedEnd.toNat 0
    | 5 => at32 g.minCyc.toNat 16 ||| at32 g.maxEnd.toNat 0
    | 6 => at32 g.restartKind.toNat 16 ||| at32 g.restartCnt.toNat 0
    | 7 => g.mismatch
    | 8 => bitAt g.canaryFail 31 ||| at32 g.ncPos.toNat 0
    | 9 => g.tokenReg
    | 10 => at32 g.jMax 9 ||| at32 g.jLast 0
    | 11 => g.hoReg
    | 12 => bitAt g.bRun 17 ||| bitAt g.aRun 16
    | 21 => bitAt (decide (g.mode = EMode.debug)) 31 ||| bitAt (s.accepted 6) 30 ||| at32 g.dbgCnt.toNat 0
    | n => if 13 ≤ n ∧ n ≤ 20 then g.secMap (n - 13) else 0)

/-- MOD_STATE (R340). -/
def State.modState (s : State) : Word :=
  let phase : Nat := match s.mdl.phase with
    | .held => 0
    | .start => 0
    | .service => 1
    | .startFailed => 2
    | .shutdown => 3
    | .testDone => 4
  let clear := (s.cfg.secs.filter (fun d => match s.pubSec d.idx with
    | some x => x.isClear
    | none => false)).length
  at32 phase 29 ||| bitAt s.wideWhy.isSome 28 ||| at32 (s.wideWhy.getD 0).toNat 25 ||| bitAt s.debugging 24 |||
    bitAt s.signer.isSome 23 ||| bitAt s.tbs.valid 22 |||
    at32 (ofBits [(s.engines[(3 : Fin 4)]).live, (s.engines[(2 : Fin 4)]).live, (s.engines[(1 : Fin 4)]).live,
      (s.engines[(0 : Fin 4)]).live]) 18 |||
    at32 clear 9 ||| at32 s.cfg.secs.length 0

/-- STATE, DIST_CAUSE and WHY of a defined section as published. -/
def State.secShown (s : State) (i : Fin 256) : BitVec 3 × BitVec 5 × BitVec 3 :=
  match s.pubSec i with
  | some x => (x.state, x.cause, x.why)
  | none => (0, 0, BitVec.ofNat 3 (fieldNat (s.orphanState (s.cfg.sec i)) 26 3))

/-- The change list of a publication tick (R314): sections, then outputs. -/
def State.changeList (s : State) : State :=
  let now := s.cfg.secs.map (fun d => (d.idx, s.secShown d.idx))
  let old := s.mgt.posted
  let s := now.foldl (fun (s : State) p =>
    let was := ((old.find? (fun q => decide (q.1 = p.1))).map Prod.snd).getD (0, 0, 0)
    if was = p.2 then s
    else s.event 0x0001 (BitVec.ofNat 16 p.1.val)
      (BitVec.ofNat 48 (p.2.1.toNat * 2 ^ 40 + p.2.2.1.toNat * 2 ^ 32 + p.2.2.2.toNat * 2 ^ 24))) s
  let s := { s with mgt := { s.mgt with posted := now } }
  (allFin 8).foldl (fun (s : State) (j : Fin 8) =>
    let v := s.vos[j]
    if v.energised = v.posted then s
    else (s.modVo j (fun v => { v with posted := v.energised })).event 0x0005 (BitVec.ofNat 16 j.val)
      (BitVec.ofNat 48 (b2n v.energised * 2 ^ 40))) s

/-- At the first publication tick after a warning begins the published images are captured (R290), through Pewter's queue (R314). -/
def State.takeSnapshot (s : State) : State :=
  if s.sup.snapDue then
    { s with sup := { s.sup with snapDue := false } }.enqueue (.images (s.engines.map Engine.published).toList)
  else s

/-- The registers that a publication tick refreshes. -/
def State.showPublished (s : State) : State :=
  let s := { s with
    engines := Vector.ofFn (fun (e : Fin 4) => { s.engines[e] with pub := s.cenRegs e })
    mdl := { s.mdl with pub := s.modState } }
  (s.changeList).takeSnapshot

/-! ### Events at a publication tick -/

/-- IMAGE_ACTIVATION (R265, R276): at the effective tick, or the first tick after a running hand-over. The frames that this tick has
opened run on the new image (R275). -/
def execImageActivation (s : State) : Out :=
  match s.img.staged with
  | none => .next s
  | some i =>
    s.when (!s.inReset && s.atTick && decide (s.img.stage = .activating) && (allFin 4).all (fun e => (s.engines[e]).ho.isEmpty)) (fun s =>
      let old := s.cfg
      let s := { s with
        img := { s.img with
          active := some i, slot := some i, previous := s.img.slot, staged := none, loadBuf := [], loadLen := 0, stage := .empty
          revert := false, confirmed := s.img.confirmed + 1 }
        conflict := false
        causes := s.causes.filter (fun u => decide (u ≠ UCause.image ∧ u ≠ UCause.conflict))
        mgt := { s.mgt with commissioning := (if s.mgt.commissioning.length < 60 then s.mgt.commissioning
          else s.mgt.commissioning.drop 1) ++ [(i.check, s.stamp, i.bytes)] } }
      let s := ((((s.activatePorts old).activateBanks).activateChans old).activatePoints old).activateStreams old
      let s := if old.tbsCfg ≠ s.cfg.tbsCfg then s.tbStart else s
      let s := s.assignSections
      (allFin 4).foldl (fun s e =>
        (s.modEngine e (fun g => g.reopen s.cfg s.hasImage (fun j => j))).writePool e) s |>.tbLost.updateVos.showPublished.rearmAll)

/-- HANDOVER_FRAME (R174): at the ticks after T0 the hand-over's next frame has begun. -/
def execHandoverFrame (s : State) : Out :=
  s.when (!s.inReset && s.atTick && (allFin 4).any (fun e => !(s.engines[e]).ho.isEmpty)) (fun s =>
    State.showPublished { s with engines := s.engines.map (fun (g : Engine) =>
      { g with ho := g.ho.map (fun h => { h with step := min 3 (h.at' g + 1) }) }) })

/-- The hand-overs that engine `e` is the source of and whose three frames are over. -/
def Engine.switches (g : Engine) : List HandOver := g.ho.filter (fun h => h.source && decide (3 ≤ h.at' g))

/-- HANDOVER_SWITCH (R174, R176): at T0 + 750 µs. The next live engine signs from this tick on (R172). -/
def execHandoverSwitch (s : State) : Out :=
  s.when (!s.inReset && s.atTick && (allFin 4).any (fun e => !(s.engines[e]).switches.isEmpty)) (fun s =>
    let s := (allFin 4).foldl (fun s e => ((s.engines[e]).switches).foldl (fun s h => s.switchHandover e h) s) s
    State.rearmAll (State.showPublished { s with clk := { s.clk with signed := s.signer.isSome } }.updateVos))

end Sys2Proof.Machine
end

