-- ==== Sys2Proof/Machine/Start.lean ====
section
/-! DEFINITION. Module reset and its release, the start sequence, the test evaluator and the shutdown self-test, and the clock
supervision (R31, R294 to R310). -/

namespace Sys2Proof.Machine
open Sys2Proof

/-! ### Test steps and verdicts (R301 to R303) -/

/-- Table 11-5: the number after T and the segments of each step, in the order of the table. -/
def stepTable : List (Nat × Nat) :=
  [(1, 600), (2, 400), (3, 410), (4, 50), (5, 10), (6, 20), (11, 3), (12, 16), (13, 16), (14, 200), (15, 30), (10, 2), (8, 10),
   (7, 10), (9, 64)]

/-- The steps of a test: 1 a quick start, 2 a full start, 3 a shutdown self-test. -/
def stepsOf (kind : Nat) : List (Nat × Nat) :=
  match kind with
  | 1 => stepTable.filter (fun p => decide (p.1 ∈ [4, 5, 6, 12, 13, 15, 10]))
  | 2 => stepTable.filter (fun p => decide (p.1 ≠ 14))
  | _ => stepTable

/-- Segments of a test. -/
def segmentsOf (kind : Nat) : Nat := ((stepsOf kind).map Prod.snd).sum

/-- The step of a test that its next segment belongs to. -/
def Tst.stepNow (t : Tst) : Option (Nat × Nat) := (stepsOf t.kind.toNat)[t.step]?

/-- The check value of the running vital firmware (MOD_FW_ACT). -/
def State.fwCheckNow (s : State) : BitVec 64 := s.img.fwRunning.getD Config.firmwareCheck

/-- The completion token (R302): kind, count, step signatures in the order run, firmware check value, hardware serial number. -/
def completionToken (kind : Nat) (count : BitVec 16) (sigs : List Word) (fw : BitVec 64) : BitVec 64 :=
  crc64 (BitVec.ofNat 8 kind :: toBytes 2 count.toNat ++ sigs.flatMap (fun w => toBytes 4 w.toNat) ++ toBytes 8 fw.toNat ++
    toBytes 6 Config.hwSerial.toNat)

/-- A record's token recomputes. -/
def TestRecord.tokenOk (r : TestRecord) : Bool :=
  decide (r.token = some (completionToken r.kind r.count r.sigs r.fw))

/-- A record allows a quick start (TST_RESULT.QUICK_OK, R294). -/
def State.quickOk (s : State) : Bool :=
  match s.tst.record with
  | some r => decide (r.kind = 3 ∧ r.verdict = 1) && r.tokenOk && decide (r.fw = s.fwCheckNow)
  | none => false

/-- Causes of a reset after which a quick start is possible (R294). -/
def ResetCause.quick (c : ResetCause) : Bool := decide (c = .powerOn ∨ c = .button ∨ c = .testDone)

/-- A test begins: count and signatures start afresh. -/
def Tst.fresh (kind : Nat) (t : Tst) : Tst :=
  { t with
    kind := BitVec.ofNat 2 kind, step := 0, segs := 0, count := 0, expected := BitVec.ofNat 16 (segmentsOf kind)
    acc := 0xFFFFFFFF, sigs := [], failStep := 0, sig := 0, sigExp := 0, held := false, pauseSince := none }

/-! ### Release of module reset (R294, R295) -/

/-- A new recorder epoch opens with event 0003h (R322). -/
def State.newEpoch (s : State) (step : Int) : State :=
  let s := { s with mgt := { s.mgt with epoch := s.mgt.epoch + 1 } }
  s.event 0x0003 0xFFFF (BitVec.ofNat 48 (s.mgt.epoch.toNat * 2 ^ 32 + (BitVec.ofInt 32 step).toNat))

/-- A fault that a start logs for the reset before it (R292, R310, R341). -/
def State.startFault (s : State) (f : BitVec 16 × BitVec 16) : State :=
  match f.1.toNat with
  | 0x0101 => s.supFault 0 0x0101 0xFFFF
  | 0x0102 => s.supFault 1 0x0102 0xFFFF
  | 0x0103 => s.supFault 2 0x0103 0xFFFF
  | 0x0104 => s.supFault 3 0x0104 0xFFFF
  | 0x0920 => s.logD 0x0920 0xFFFF (s.mdl.btnHold.setWidth 48)
  | 0x0C02 => s.tstFault 1 0x0C02
  | 0x0C06 => s.tstFault 5 0x0C06
  | c => s.log c f.2.toNat

/-- The boot ROM's verdict (R281): on failure the previous firmware starts. -/
def State.bootFirmware (s : State) (bootOk : Bool) : State :=
  if bootOk then s
  else { s with img := { s.img with
    fwRunning := s.img.fwPrev, fwLine := s.img.fwPrevLine, fwFallback := true } }.imgFault 7 0x0A36

/-- At a start the Active slot gives the image in force where its release line is that of the running firmware (R281); the slot
keeps its content (R264), and its check follows (R279). -/
def State.loadSlot (s : State) (slotOk : Bool) : State :=
  { s with img := { s.img with
    active := (match s.img.slot with
      | none => none
      | some i => if byteAt i.bytes 13 = s.img.fwLine then some i else none)
    slotBad := s.img.slot.isSome && !slotOk } }

/-- The settings in force take hold at a start, where those of `old` were before: banks, selections, streams, relay buffers, ports in
use. -/
def State.loadSettings (s : State) (old : Cfg) : State :=
  let s := if s.hasImage then s.activateBanks else { s with banks := Vector.replicate 2 {} }
  let s := { s with
    chans := Vector.ofFn (fun (c : Fin 128) =>
      let w := s.cfg.fltCfg[c]
      { s.chans[c] with sel := BitVec.ofNat 2 (fieldNat w 28 2), bank := w.getLsbD 15 })
    ports := s.ports.map (fun (p : Port) => { p with assignedAt := s.now }) }
  s.activateStreams old

/-- Module reset may be released: the button is free; after a supervision reset both logic rails are NORMAL (R292); after an
abort by a supply warning every rail is (Table 11-8). -/
def State.releasable (s : State) : Bool :=
  s.mdl.btnHeld.isNone &&
    (decide (s.mdl.resetCause ≠ ResetCause.supervision) || decide (s.sup.v33.st = RailSt.normal ∧ s.sup.core.st = RailSt.normal)) &&
    (decide (s.mdl.resetCause ≠ ResetCause.abort ∨ s.tst.abortCause ≠ 2) || s.railsNormal)

/-- Release of module reset (R294, R297): the time base runs from 0, every fault of the reset is logged, the test record is
consumed, a quick or a full start begins, and the time base leaves INIT (R212). -/
def State.release (s : State) (bootOk slotOk : Bool) : State :=
  let s := { s with
    clk := { s.clk with tickTb := 0, tickAt := s.now, prevTb := 0 }
    mdl := { s.mdl with phase := .start, startStage := .logic, startAt := s.now }
    vis := s.vis.map (fun (v : Vi) => { v with since := s.now }) }
  let s := s.newEpoch 0
  let s := s.mdl.resetFaults.foldl State.startFault { s with mdl := { s.mdl with resetFaults := [] } }
  let s := s.bootFirmware bootOk
  let broken : Bool := match s.tst.record with
    | some r => decide (r.verdict = 1) && !r.tokenOk
    | none => false
  let s := if broken then s.tstFault 3 0x0C04 else s
  let kind := if s.quickOk && s.mdl.resetCause.quick then 1 else 2
  let hold := decide (s.sup.v33.st ≠ RailSt.normal ∨ s.sup.core.st ≠ RailSt.normal)
  let s := { s with tst := { s.tst.fresh kind with
    state := .startTest, record := none, startVerdict := 0, running := !hold, held := hold } }
  let s := ((s.loadSlot slotOk).loadSettings Cfg.reset).tbStart
  if s.hasImage then s else { s with causes := s.causes ++ [.image] }

/-- MODULE_RESET_RELEASE (R294). -/
def execModuleResetRelease (dt : Nat) (bootOk slotOk : Bool) (s : State) : Out :=
  (s.pass dt).when (s.inReset && s.releasable) (fun s => s.release bootOk slotOk)

/-! ### The start sequence (Table 11-4) -/

/-- START_FIELD_STEP (R296): the field bus is NORMAL, and every lane is SYNCED or 45 ms have passed. -/
def execStartFieldStep (dt : Nat) (s : State) : Out :=
  let s := s.pass dt
  let waited : Bool := match s.tst.firstAt with
    | some t => decide (t + 45000000 ≤ s.now)
    | none => false
  s.when (decide (s.mdl.phase = ModPhase.start ∧ s.mdl.startStage = StartStage.field ∧ s.sup.field.st = RailSt.normal) &&
      (waited || (allFin 8).all (fun k => (s.lanes[k]).synced))) (fun s =>
    { s with
      mdl := { s.mdl with startStage := .fieldTest }
      sup := { s.sup with cutDeclared := false, cutPending := false }
      tst := { s.tst with firstAt := none, running := !s.tst.held } }.endCause .cutoff)

/-- The stage of a start in which a step runs. -/
def stageOfStep (n : Nat) : StartStage :=
  if n = 9 then .lb0 else if n = 10 ∨ n = 8 ∨ n = 7 then .fieldTest else .logic

/-- The check of the Active slot at every start, when the logic-side steps have ended (R279, Table 11-4): a difference leaves the
module with no ACTIVE image. -/
def State.checkSlot (s : State) : State :=
  if s.img.slotBad then
    let old := s.cfg
    let s := { s with img := { s.img with active := none, slotBad := false } }.imgFault 6 0x0A34
    let s := if s.causes.contains .image then s else { s with causes := s.causes ++ [.image] }
    let s := s.loadSettings old
    if old.tbsCfg = s.cfg.tbsCfg then s else s.tbStart
  else s

/-- The port stage of a start begins, once the field bus is NORMAL and the sequence is not held (Table 11-8). -/
def State.startPorts (s : State) : State :=
  let s := { s with mdl := { s.mdl with startStage := .ports } }
  if s.sup.field.st = .normal ∧ s.tst.held = false then s.startPortStage (allFin 64) false else s

/-- A start test that did not pass ends the start sequence in START_FAILED (R300). -/
def State.failStart (s : State) : State :=
  let s := { s with
    mdl := { s.mdl with phase := .startFailed, startStage := .ended }
    tst := { s.tst with state := .startFailed, running := false } }
  s.tstFault 2 0x0C03

/-- A step's signature differs from its expected value (R302): the first one is shown. -/
def State.stepFails (s : State) (n : Nat) (sig want : Word) : State :=
  let s := if s.tst.failStep = 0 then
      { s with tst := { s.tst with failStep := BitVec.ofNat 5 n, sig := sig, sigExp := want } }
    else s
  if n = 15 then s.supFault 9 0x010A 0xFFFF else s

/-- The end of a step: its signature is compared, and the next step is due. -/
def State.endStep (s : State) (n : Nat) : State :=
  let sig := s.tst.acc ^^^ 0xFFFFFFFF
  let want := Config.expectedSignature s.tst.kind.toNat n
  let s := { s with tst := { s.tst with step := s.tst.step + 1, segs := 0, acc := 0xFFFFFFFF, sigs := s.tst.sigs ++ [sig] } }
  if sig = want then
    if s.tst.failStep = 0 then { s with tst := { s.tst with sig := sig, sigExp := want } } else s
  else s.stepFails n sig want

/-- What follows a step of a start: the verdict, or the next stage. -/
def State.afterStartStep (s : State) : State :=
  if s.tst.failStep ≠ 0 then ({ s with tst := { s.tst with startVerdict := 2 } }.tstFault 0 0x0C01).failStart
  else
    let s := if s.tst.stepNow.isNone then { s with tst := { s.tst with startVerdict := 1 } } else s
    match s.mdl.startStage, s.tst.stepNow with
    | .logic, some (n, _) =>
      if stageOfStep n = .fieldTest then
        { s with mdl := { s.mdl with startStage := .field }, tst := { s.tst with running := false, firstAt := some s.now } }.checkSlot
      else s
    | .fieldTest, some (n, _) => if stageOfStep n = .lb0 then { s with tst := { s.tst with running := false } }.startPorts else s
    | .fieldTest, none => { s with tst := { s.tst with running := false } }.startPorts
    | .lb0, none => { s with tst := { s.tst with running := false } }
    | _, _ => s

/-- The last segment of a shutdown self-test: its verdict, token and record, and TEST_DONE (R303, R307). -/
def State.endShutdown (s : State) : State :=
  let ok := decide (s.tst.failStep = 0)
  let r : TestRecord := {
    kind := 3, verdict := if ok then 1 else 2, count := s.tst.count
    token := if ok then some (completionToken 3 s.tst.count s.tst.sigs s.fwCheckNow) else none
    fw := s.fwCheckNow, sigs := s.tst.sigs }
  let s := { s with
    mdl := { s.mdl with phase := .testDone }
    tst := { s.tst with state := .done, running := false, pauseSince := none, record := some r } }
  if ok then s else s.tstFault 0 0x0C01

/-- What follows a segment of a shutdown self-test: an abort that is due, the end, or a pause of windowed mode (R305, R308). -/
def State.afterShutdownSegment (s : State) (n : Nat) : State :=
  if s.tst.abortReq.isSome then { s with tst := { s.tst with running := false } }.abortIfIdle
  else if s.tst.stepNow.isNone then s.endShutdown
  else if s.tst.windowed = true ∧ n ∈ [1, 2, 3, 14] then
    { s with tst := { s.tst with running := false, pauseSince := some s.now } }
  else s

/-- TEST_SEGMENT_END (R302): the segment is counted and its result word folded into the signature of its step. -/
def execTestSegmentEnd (dt : Nat) (result : Word) (s : State) : Out :=
  let s := s.pass dt
  match s.tst.stepNow with
  | none => .next s
  | some (n, segs) =>
    let start := decide (s.mdl.phase = ModPhase.start ∧ s.mdl.startStage = stageOfStep n)
    let shut := decide (s.tst.state = TstState.shutdown)
    s.when (s.tst.running && (start || shut)) (fun s =>
      let s := { s with tst := { s.tst with
        count := s.tst.count + 1, segs := s.tst.segs + 1
        acc := (toBytes 4 result.toNat).foldl (crcByteR poly32c) s.tst.acc } }
      let s := if s.tst.segs = segs then s.endStep n else s
      if shut then s.afterShutdownSegment n
      else
        let s := if s.tst.held then { s with tst := { s.tst with running := false } } else s
        if s.tst.segs = 0 then s.afterStartStep else s)

/-- Engines that proved enter RUN and take their sections in, out of service (R299). In production test mode the sections stay
UNPROVEN (R366). -/
def State.enterRun (s : State) (e : Fin 4) : State :=
  let secs := (s.cfg.homeSecs e).map (fun d => s.freshSec d none)
  let s := s.modEngine e (fun g => { g.mapAll s.cfg e (fun _ => secs) with
    mode := .run, token := true, tokenNext := false, tokenUntil := g.frame + 2 })
  s.logFresh secs

/-- The sections of an engine that halted while it proved (R169, R299). -/
def State.enterHalted (s : State) (e : Fin 4) : State :=
  let secs := haltSecs ((s.cfg.homeSecs e).map (fun d => s.freshSec d none))
  s.modEngine e (fun g => g.mapAll s.cfg e (fun _ => secs))

/-- A root's counter starts at 0 at the tick that ends the start sequence (R297). -/
def State.rootZero (s : State) : State :=
  if s.isRoot then
    let old := s.clk.tickTb
    let s := { s with clk := { s.clk with tickTb := 0, stepFrame := true, codeEnd := 0, imageTb := 0 } }
    (s.realignPeriods).newEpoch (-(old : Int))
  else s

/-- START_SEQUENCE_END (R297, R299): at the tick that ends the fourth proving frame. A lane that is not in synchronisation has its
10 ms from here (R34). -/
def execStartSequenceEnd (dt : Nat) (s : State) : Out :=
  let s := s.pass dt
  let over' := (allFin 4).any (fun e => (s.engines[e]).mode = .proving && decide ((s.engines[e]).from' + 4 ≤ (s.engines[e]).frame)) ||
    (allFin 4).all (fun e => decide ((s.engines[e]).mode = .halted))
  s.when (s.atTick && decide (s.mdl.phase = ModPhase.start ∧ s.mdl.startStage = StartStage.proving) && over') (fun s =>
    let s := { s with
      mdl := { s.mdl with phase := .service, startStage := .ended }
      tst := { s.tst with state := .service }
      sup := { s.sup with
        startKind := BitVec.ofNat 2 s.tst.kind.toNat
        startCause := (match s.mdl.resetCause with
          | .powerOn => 1
          | .button => 2
          | .supervision => 3
          | .clock => 4
          | .firmware => 5
          | .testDone => 6
          | .abort => 7
          | .tap => 2)
        startDur := satNat 16 ((s.now - s.mdl.startAt) / 1000000) }
      lanes := s.lanes.map (fun (l : Lane) => if l.synced then l else { l with faultAt := some s.now, timedOut := false }) }
    let s := if s.clk.prodTest then s else { s with causes := s.causes.erase .start }
    let s := (allFin 4).foldl (fun (s : State) (e : Fin 4) =>
      let g := s.engines[e]
      if g.mode = .halted then s.enterHalted e
      else if g.mode = .proving ∧ g.proveLeft = 0 then s.enterRun e
      else s) s
    let s := s.rootZero.tbLost.updateVos
    State.rearmAll (State.showPublished { s with clk := { s.clk with signed := s.signer.isSome } }))

/-! ### Shutdown self-test (R304 to R308) -/

/-- SELFTEST_FIRST_SEGMENT (R304): the tokens die, no frame is sourced, and the first segment begins. -/
def execSelftestFirstSegment (dt : Nat) (s : State) : Out :=
  let s := s.pass dt
  let due : Bool := match s.tst.firstAt with
    | some t => decide (t ≤ s.now)
    | none => false
  s.when (!s.inReset && decide (s.tst.state = TstState.shutdown) && due) (fun s =>
    { s with
      tst := { s.tst with running := true, firstAt := none }
      engines := s.engines.map (fun (g : Engine) =>
        { g with token := false, tokenNext := false, work := none, done := none, sampled := [], ring := [], delay := [] })
      links := s.links.map (fun (l : Link) => { l with armed := none, ready := none }) }.updateVos)

/-- TEST_PAUSE_END (R305): 30 ms after the segment. -/
def execTestPauseEnd (dt : Nat) (s : State) : Out :=
  let s := s.pass dt
  let due : Bool := match s.tst.pauseSince with
    | some t => decide (t + 30000000 ≤ s.now)
    | none => false
  s.when (!s.inReset && decide (s.tst.state = TstState.shutdown) && due) (fun s =>
    { s with tst := { s.tst with running := true, pauseSince := none } })

/-- SELFTEST_ABORT_COMPLETE (R308, Table 11-8): the record is INCOMPLETE, and module reset is asserted. -/
def execSelftestAbortComplete (dt : Nat) (s : State) : Out :=
  let s := s.pass dt
  s.when (!s.inReset && decide (s.tst.state = TstState.aborting)) (fun s =>
    let r : TestRecord := {
      kind := 3, verdict := 3, count := s.tst.count, token := none, fw := s.fwCheckNow, sigs := s.tst.sigs }
    let s := { s with tst := { s.tst with
      state := .service, aborts := s.tst.aborts + 1, abortCause := s.tst.abortReq.getD 1, record := some r } }
    (s.tstFault 1 0x0C02).assertReset .abort)

/-! ### Resets (R31, R262, R341, R353) -/

/-- A clock fault (Table 1-5): as module reset; the start logs it. -/
def clockFault (code : BitVec 16) (s : State) : Out :=
  s.when (!s.inReset) (fun s =>
    { s with mdl := { s.mdl with resetFaults := s.mdl.resetFaults ++ [(code, 0xFFFF)] } }.assertReset .clock)

/-- REFERENCE_ABSENT (R31). -/
def execReferenceAbsent (dt : Nat) (s : State) : Out := clockFault 0x0130 (s.pass dt)

/-- ROOT_PLL_OUT_OF_LOCK (R31). -/
def execRootPllOutOfLock (dt : Nat) (s : State) : Out := clockFault 0x0131 (s.pass dt)

/-- TICK_PERIOD_FAULT (R31): a tick that comes early, or none 525 µs after the last one. -/
def execTickPeriodFault (dt : Nat) (s : State) : Out :=
  let s := s.pass dt
  let n := s.now - s.clk.tickAt
  if n < 237500 ∨ 525000 ≤ n then clockFault 0x0133 s else .next s

/-- RESTART_BUTTON_PRESS (R262): the press has been held for 100 ms. -/
def execRestartButtonPress (dt : Nat) (s : State) : Out :=
  let s := s.pass dt
  s.when s.mdl.btnHeld.isNone (fun s =>
    let s := { s with mdl := { s.mdl with btnHeld := some s.now } }
    if s.inReset then s else s.assertReset .button)

/-- RESTART_BUTTON_RELEASE (R341): a hold of 30 s or more is a stuck button. -/
def execRestartButtonRelease (dt : Nat) (s : State) : Out :=
  let s := s.pass dt
  match s.mdl.btnHeld with
  | none => .next s
  | some t =>
    let held := s.now - t + 100000000
    let stuck := decide (30000000000 ≤ held)
    .next { s with mdl := { s.mdl with
      btnHeld := none, btnHold := satNat 16 (held / 100000000), btnResets := satInc s.mdl.btnResets, btnStuck := stuck
      resetFaults := if stuck then s.mdl.resetFaults ++ [(0x0920, 0xFFFF)] else s.mdl.resetFaults } }

/-- POWER_ON (R339, R341): what the supervision circuit kept is cleared, and production test mode ends. A shutdown self-test
that ran has met a module reset. -/
def execPowerOn (dt : Nat) (s : State) : Out :=
  let s := (s.pass dt).assertReset .powerOn
  .next { s with
    clk := { s.clk with prodTest := false }
    mdl := { s.mdl with
      resetFaults := s.mdl.resetFaults.filter (fun f => decide (f.1 = 0x0C02)), btnStuck := false, btnResets := 0, btnHold := 0
      btnHeld := none }
    sup := {} }

/-- TAP_INSTRUCTION (R353): another instruction than BYPASS and IDCODE enters production test mode by a module reset; in that mode
one switch of an output may be closed alone (R366). -/
def execTapInstruction (dt : Nat) (op : TapOp) (s : State) : Out :=
  let s := s.pass dt
  s.when (decide (op ≠ TapOp.bypass ∧ op ≠ TapOp.idcode)) (fun s =>
    if s.clk.prodTest then
      match s.inReset, op with
      | false, .closeAlone j low => s.tapSwitch j (!low) low
      | false, .openBoth j => s.tapSwitch j false false
      | _, _ => s
    else
      let s := { s with
        clk := { s.clk with prodTest := true }
        mdl := { s.mdl with resetFaults := s.mdl.resetFaults ++ [(0x0C07, 0xFFFF)] } }
      s.assertReset .tap)

/-! ### Steps of the time base (R24, R210, R211) -/

/-- A step applied at the tick: the counter takes its new value, streams' periods run from it, a new epoch begins. -/
def State.stepTb (s : State) (d : Int) : State :=
  let tb := (((s.clk.tickTb : Int) + d) % 2 ^ 64).toNat
  let s := { s with
    clk := { s.clk with tickTb := tb, stepFrame := true, stepDue := none, extDue := none, codeEnd := tb / 1280000 * 1280000
                        imageTb := if s.clk.imageTb = s.clk.tickTb then tb else s.clk.imageTb }
    tbs := { s.tbs with theta := none, stepCnt := s.tbs.stepCnt + 1, lastStep := BitVec.ofInt 32 d } }
  ((s.realignPeriods.tbsFault 0 0x0810).newEpoch d).rearmAll

/-- TIME_BASE_STEP (R24, R210): the step that the follower has decided. -/
def execTimeBaseStep (s : State) : Out :=
  match s.clk.stepDue with
  | some d => s.when (!s.inReset && decide (s.now = s.clk.tickAt)) (fun s => s.stepTb d)
  | none => .next s

/-- TIME_BASE_EXT_LOAD (R211): bits [63:48] of the extended time base. -/
def execTimeBaseExtLoad (s : State) : Out :=
  match s.clk.extDue with
  | some x => s.when (!s.inReset && decide (s.now = s.clk.tickAt)) (fun s =>
      s.stepTb ((x.toNat * 2 ^ 48 + s.clk.tickTb % 2 ^ 48 : Nat) - (s.clk.tickTb : Int)))
  | none => .next s

end Sys2Proof.Machine
end

