-- ==== Sys2Proof/Machine/Tick.lean ====
section
/-! DEFINITION. The tick (R19 to R28): publication of the frame that ends, sampling of the journals, opening of the next
frame; and the delivery of axle records (R126). -/

namespace Sys2Proof.Machine
open Sys2Proof

/-! ### Delivery (R126, R127, R158, R200) -/

/-- A record enters a journal; an uncertain record of a point after the first one of the frame is merged into it (R158). -/
def Journal.addRec (r : AxleRec) (j : Journal) : Journal :=
  if r.uncertain = true ∧ j.recs.any (fun x => x.r.uncertain && samePoint x.r r) = true then
    let go := j.recs.foldl (fun (a : List JRec × Bool) x =>
      if a.2 = false ∧ x.r.uncertain = true ∧ samePoint x.r r = true then (a.1 ++ [{ x with merged := x.merged + 1 }], true)
      else (a.1 ++ [x], a.2)) ([], false)
    { j with recs := go.1 }
  else { j with recs := j.recs ++ [{ r := r }] }

/-- An engine executes a section that contains a point, or takes one over: what the tick of H2 and the later ones sample goes to
both engines of a hand-over (R174). -/
def State.routesTo (s : State) (e : Fin 4) (r : AxleRec) : Bool :=
  let g := s.engines[e]
  let hit (i : Fin 256) : Bool := match s.cfg.sec i with
    | some d => d.has r.modAddr r.point
    | none => false
  g.published.secs.any (fun x => hit x.idx) ||
    g.ho.any (fun h => !h.source && h.secs.any hit)

/-- A record reaches the journals of the engines that own a section containing its point. -/
def State.toJournals (s : State) (r : AxleRec) : State :=
  { s with engines := Vector.ofFn (fun (e : Fin 4) =>
      let g := s.engines[e]
      if s.routesTo e r then g.post s.late (Journal.addRec r) else g) }

/-- A record reaches the queue of every AREA stream that carries the point; a full queue drops it, and LOST shows in the next
16 frames (R200). A link out of service keeps its registers (Table 7-10). -/
def State.toStreams (s : State) (n : Fin 64) (r : AxleRec) : State :=
  s.cfg.streams.zipIdx.foldl (fun (s : State) p =>
    if !p.1.recv && p.1.mask.getLsbD n.val then
      match s.areas[p.2]? with
      | some a =>
        if a.queue.length < 32 then s.modArea p.2 (fun a => { a with queue := a.queue ++ [r] })
        else
          let s := s.modArea p.2 (fun a => { a with lostLeft := 16 })
          if s.linkUsed p.1.link then s.lnkFault p.1.link 8 0x080A else s
      | none => s
    else s) s

/-- A record reaches Pewter's queue; one that is dropped there leaves no entry (R314). -/
def State.toPewter (s : State) (n : Fin 64) (o : OutRec) : State :=
  let s := s.flushDropped
  let full := decide (4096 ≤ s.mgt.queue.length)
  let s := s.enqueue (.axle { num := o.num, record := o.record })
  if full then s.modWdu n (fun w => { w with snips := w.snips.filter (fun x => decide (x.num ≠ o.num)) }) else s

/-- AXLE_RECORD_DELIVERED (R126): the oldest record that the point's WDU has emitted. A TEST record goes to Pewter only. -/
def execAxleRecordDelivered (n : Fin 64) (s : State) : Out :=
  match (s.wdus[n]).outQ with
  | [] => .next s
  | o :: rest =>
    s.when (!s.inReset) (fun s =>
      let s := s.modWdu n (fun w => { w with outQ := rest })
      let s := if o.record.test then s else (s.toJournals o.record).toStreams n o.record
      s.toPewter n o)

/-! ### Remote records (R146, R201) -/

/-- A record of a point that is no member of any section here is discarded: 070Ah against every section with a member point
on its module. -/
def State.foreign (s : State) (r : AxleRec) : State :=
  let hit := s.cfg.secs.filter (fun d => d.members.any (fun m => decide (m.modAddr = r.modAddr)))
  if hit.isEmpty then s.secLog { code := 0x070A, obj := 0xFFFF, sx := none }
  else hit.foldl (fun s d => s.secLog (secLogOf d.idx 0x070A 10)) s

/-- A record sampled at a tick enters the journals of the engines that own a section containing its point. -/
def State.toDue (s : State) (r : AxleRec) : State :=
  { s with engines := Vector.ofFn (fun (e : Fin 4) =>
      let g := s.engines[e]
      if s.routesTo e r then { g with due := g.due.addRec r } else g) }

/-- At a tick at most 16 of the remote records accepted before its instant are sampled, oldest first (R19, R201). -/
def State.sampleRemote (s : State) : State :=
  let l := (s.rxQueue.filter (fun p => decide (p.2.2 < s.clk.tickAt))).take 16
  l.foldl (fun (s : State) p =>
    if s.cfg.secs.any (fun d => d.has p.1.modAddr p.1.point) then s.toDue p.1 else s.foreign p.1)
    { s with rxQueue := s.rxQueue.drop l.length }

/-! ### Commands (R235, R236) -/

/-- A command that names a section, and one of a list. -/
def Cmd.onSec (c : Cmd) (cfg : Cfg) (l : List (Fin 256)) : Bool :=
  match c.op.asReset with
  | some (_, g) => (match cfg.localSec g with
    | some i => l.contains i
    | none => false)
  | none => false

/-- The commands that an engine held when it ceased to execute any are answered ENGINE_HALTED (R235). -/
def State.answerHalted (s : State) (e : Fin 4) : State :=
  let g := s.engines[e]
  if g.mode = .halted ∨ g.mode = .debug then
    let cs := g.sampled.flatMap Journal.cmds
    let s := s.modEngine e (fun g => { g with sampled := [], ring := [] })
    cs.foldl (fun s c => s.haltedAnswer c s.snap) s
  else s

/-- At the switch the commands that wait for the source go to the target: those to the sections that it takes over and, with a
source that enters MODE SPLIT, all others (R174, R176). -/
def State.passCommands (s : State) (e : Fin 4) : State :=
  (s.engines[e]).ho.foldl (fun (s : State) h =>
    if h.source = true ∧ 3 ≤ h.at' (s.engines[e]) then
      { s with cmd := { s.cmd with waiting := s.cmd.waiting.map (fun (w : Waiting) =>
          if w.eng = e ∧ (h.join = false ∨ w.cmd.onSec s.cfg h.secs = true) then { w with eng := h.peer } else w) } }
    else s) s

/-- Each engine takes up to eight of the commands that were admitted before the tick, in order of admission; a command for an
engine that executes none is answered ENGINE_HALTED. -/
def State.handCommands (s : State) (e : Fin 4) : State :=
  let mine := s.cmd.waiting.filter (fun w => decide (w.eng = e ∧ w.at' < s.clk.tickAt))
  if (s.engines[e]).executes then
    let l := mine.take 8
    let s := { s with cmd := { s.cmd with waiting := l.foldl (fun (q : List Waiting) w => q.erase w) s.cmd.waiting } }
    s.modEngine e (fun g => { g with due := { g.due with cmds := g.due.cmds ++ l.map Waiting.cmd } })
  else
    let s := { s with cmd := { s.cmd with waiting := mine.foldl (fun (q : List Waiting) w => q.erase w) s.cmd.waiting } }
    mine.foldl (fun s w => s.haltedAnswer w.cmd s.snap) s

/-- In H2 and H3 the target executes the commands to the sections too (R174). -/
def State.dualCommands (s : State) (e : Fin 4) : State :=
  (s.engines[e]).ho.foldl (fun (s : State) h =>
    let g := s.engines[e]
    if h.source = false ∧ (h.at' g = 1 ∨ h.at' g = 2) then
      let cs := (s.engines[h.peer]).due.cmds.filter (fun c => c.onSec s.cfg h.secs)
      s.modEngine e (fun g => { g with due := { g.due with dual := g.due.dual ++ cs } })
    else s) s

/-! ### Frames -/

/-- The engines run frames: in service, from the proving frames of a start on, and until the first segment of a shutdown
self-test (R295, R304). -/
def State.framesRun (s : State) : Bool :=
  match s.mdl.phase with
  | .service => true
  | .start => decide (s.mdl.startStage = StartStage.proving)
  | .shutdown => s.tst.firstAt.isSome
  | _ => false

/-- An engine opens a frame at this tick. -/
def Engine.opens (g : Engine) : Bool :=
  match g.mode with
  | .run => true
  | .hoOut => true
  | .hoIn => true
  | .proving => decide (g.from' ≤ g.frame)
  | _ => false

/-- The items of a journal that begin or end a cause of UNPROVEN. -/
def Work.causesOnly (cfg : Cfg) (w : Work) (j : Journal) : Work :=
  let isCause (e : PointEv) : Bool := match e with
    | .loop _ _ _ => true
    | .cause _ _ => true
    | _ => false
  let isLink (e : LinkEv) : Bool := match e with
    | .remoteLoop _ _ _ _ => true
    | .linkLoop _ _ => true
    | _ => false
  (j.points.filter isCause).foldl (Work.pointEv cfg) ((j.links.filter isLink).foldl (Work.linkEv cfg) w)

/-- The causes of UNPROVEN that begin or end reach the image of an engine under debug, whose sections stay UNPROVEN, and, unless
the session has stopped it, the plain pass runs on the working state alone (R179). -/
def Engine.debugTick (cfg : Cfg) (e : Fin 4) (image step : Bool) (j : Journal) (g : Engine) : Engine :=
  let r := Work.causesOnly cfg { img := g.committed } j
  let g := g.mapState cfg e (fun _ => r.img.secs)
  let ups := match g.dbgWork with
    | some w => w.plainUps
    | none => []
  { g with
    sampled := []
    dbgWork :=
      if g.dbgStop ∧ step = false then g.dbgWork
      else some { (Work.run cfg image { img := g.committed, base := g.committed } j) with plainUps := ups } }

/-- Sampling at the tick: the journal takes the tick's instant and what the executor judges there, and the frame opens. A word
marked uncorrectable that the engine reads, or a word of the checkpoint that is no codeword, fails the frame (R38, R167). -/
def State.openEngine (s : State) (sn : Snap) (m : TickMeas) (e : Fin 4) : State :=
  let g := s.engines[e]
  let j := { g.due with at' := s.clk.tickAt, tb := s.clk.tickTb, snap := sn }
  let s := s.modEngine e (fun g => { g with due := {}, opened := false })
  if s.framesRun && g.opens then
    let s := (s.engines[e]).ho.foldl (fun s h => s.enterHandover e h) s
    let s := s.modEngine e (fun g => g.openFrame s.cfg s.hasImage j)
    let s := s.writePool e
    if s.eccHits e then s.failFrame e .ecc
    else if (((s.engines[e]).loaded e).low.bad e).isSome then s.failFrame e .noncode
    else s
  else if g.mode = .debug then
    s.modEngine e (fun g => g.debugTick s.cfg e s.hasImage (m.sessions.contains (e, DebugAct.step)) j)
  else s

/-! ### Publication (R20, R27, R28, R163, R171) -/

/-- The cycle count of a frame is out of range (R27). -/
def State.cyclesBad (s : State) (cyc : BitVec 16) (stepFrame : Bool) : Bool :=
  let n := cyc.toNat
  !stepFrame &&
    (if s.clk.prodTest then decide (n < 61430 ∨ 61450 < n) else decide (n < 61120 ∨ 61150 < n))

/-- A frame that had committed fails at its end (R167): the checkpoint before it stands, whose marker is again the newer one once
the failed frame's is overwritten (log 91); its journals are processed again, and the failures before it still count. -/
def Engine.undo (cfg : Cfg) (e : Fin 4) (g : Engine) : Engine :=
  match g.done with
  | some w =>
    let g := g.modLoaded e (Slot.put markerPos 0)
    { g.modLoaded e (fun k => { k with low := k.low.setSecs cfg e w.base.secs }) with
      committed := w.base, sampled := w.js, ring := w.ring, done := none, tokenNext := false, fails := w.fails }
  | none => g

/-- An overrun (R28, R155): S7 may have begun, and leaves the slot cut short where the schedule stands (log 91). -/
def Engine.overrun (cfg : Cfg) (e : Fin 4) (sched : BitVec 16) (g : Engine) : Engine :=
  match g.work with
  | some w =>
    let h := { g with frame := g.frame - 1 }
    let n := sched.toNat
    let g := if 51711 < n then { g with canaryFail := false, ncPos := BitVec.ofNat 14 (nonCodePos h.frame) } else g
    if n ≤ 56320 then g
    else g.modOther e (Slot.write (min 16383 (4 * (n - 56320))) (encodeAll e h.frame (imageCells cfg h w w.imgC)))
  | none => g

/-- Cycle registers of an engine at a tick. -/
def Engine.measure (cyc sched : BitVec 16) (g : Engine) : Engine :=
  { g with
    cyc := cyc, schedEnd := sched
    minCyc := if cyc.toNat < g.minCyc.toNat then cyc else g.minCyc
    maxEnd := if g.maxEnd.toNat < sched.toNat then sched else g.maxEnd }

/-- The end of a frame: its cycle count, and an overrun. A frame that has failed already still logs a count out of range (R27). -/
def State.judgeFrame (s : State) (bad : Bool) (sched : BitVec 16) (e : Fin 4) : State :=
  let g := s.engines[e]
  let cfg := s.cfg
  if bad = true ∧ g.opened = true then
    if g.work.isSome ∨ g.done.isSome then (s.modEngine e (Engine.undo cfg e)).failFrame e .cycles
    else s.cenFault e 5 0x0132
  else if g.work.isSome then (s.modEngine e (Engine.overrun cfg e sched)).failFrame e .overrun
  else s

/-- A token formed by the frame takes effect (R171, R177, R299): not before the start sequence has ended, and for an engine that
proves only within a join or after a debug attach. -/
def Engine.renew (start : Bool) (g : Engine) : Engine :=
  let may : Bool := match g.mode with
    | .run => true
    | .hoOut => true
    | .hoIn => true
    | .proving => g.joining || g.detaching
    | _ => false
  if g.tokenNext then
    if !start && may then { g with token := true, tokenNext := false, tokenUntil := g.frame + 2 } else { g with tokenNext := false }
  else g

/-- The end of the proving frames of a join (R177, R178): orphaned home sections come in out of service, and every sibling that
executes a home section starts its hand-over. -/
def State.joinProved (s : State) (e : Fin 4) : State :=
  let cfg := s.cfg
  let orphans := ((s.cfg.homeSecs e).filter (fun d => (s.publisher d.idx).isNone)).map (fun d => s.freshSec d none)
  let s := s.modEngine e (fun g => { g.mapAll cfg e (fun l => addSecs l orphans) with mode := .run, joining := false })
  let s := s.logFresh orphans
  (allFin 4).foldl (fun (s : State) (j : Fin 4) =>
    let home := ((s.engines[j]).committed.secs.map Sec.idx).filter (fun i => (s.cfg.homeSecs e).any (fun d => decide (d.idx = i)))
    if j ≠ e ∧ home ≠ [] ∧ (s.engines[j]).executes = true then s.startHandover j e true home else s) s

/-- The end of the proving frames after a debug attach (R180): the sections leave WHY 011b. -/
def State.detachProved (s : State) (e : Fin 4) : State :=
  let cfg := s.cfg
  let logs := (s.engines[e]).committed.secs.flatMap (fun x => (endU .debug x).2)
  let s := s.modEngine e (fun g =>
    { g.mapAll cfg e (fun l => l.map (fun x => (endU .debug x).1)) with mode := .run, detaching := false })
  logs.foldl State.secLog s

/-- A proving frame has been published: the fourth one ends the proving (PROVING_COMPLETE, R177, R180, R299). -/
def State.provedFrame (s : State) (e : Fin 4) : State :=
  let g := s.engines[e]
  if g.mode = .proving ∧ 0 < g.proveLeft then
    let s := s.modEngine e (fun g => { g with proveLeft := g.proveLeft - 1 })
    if 1 < g.proveLeft then s
    else
      let s' := if g.detaching then s.detachProved e else s
      if g.joining then s'.joinProved e
      else if g.detaching then s'
      else if s.mdl.phase = .service then s.enterRun e
      else s
  else s

/-- The image of a frame is published: but for the sections that the engine is only taking over (R20, R174). At the tick after its
halt the halt image of an engine is (R169), and that of an engine under debug shows which causes of UNPROVEN hold (R179). -/
def State.publish (s : State) (e : Fin 4) : State :=
  let start := decide (s.mdl.phase = ModPhase.start)
  let cfg := s.cfg
  match (s.engines[e]).done with
  | some w =>
    s.modEngine e (fun g =>
      { g with published := { w.img with secs := w.img.secs.filter (fun x => !g.taken.contains x.idx) }, done := none }.renew start)
  | none =>
    let g := s.engines[e]
    if g.haltDue = true ∧ g.haltAt < g.frame then
      s.modEngine e (fun g => { g with haltDue := false }.mapAll cfg e (fun _ => haltSecs g.committed.secs))
    else if g.mode = .debug then s.modEngine e (fun g => { g with published := g.committed })
    else s

/-- What a published frame brings with it: faults and replies, in their order. -/
def State.publishLogs (s : State) (w : Work) : State :=
  let s := w.logs.foldl State.secLog s
  w.replies.foldl (fun s p => s.finish p.1 p.2) s

/-- The operations on the module that a published frame executed (R235). -/
def State.publishOps (s : State) (w : Work) : State := w.ops.foldl (fun s p => s.runOp p.1 p.2) s

/-- A section as the images of a publication show it at once: module-wide causes that an operation of this publication has begun
(R272, R304), a debug attach (R179), and KEY_INHIBIT ended by FAULT_ACK (R145, R254). -/
def State.imposed (s : State) (e : Fin 4) (x : Sec) : Sec :=
  let x := [UCause.start, UCause.image].foldl (fun (x : Sec) u => if s.causes.contains u then beginU u x else x) x
  let x := if (s.engines[e]).mode = .debug then beginU .debug x else x
  match s.cfg.sec x.idx with
  | some d => { x with keyInh := x.keyInh && s.keyFault d }
  | none => x

/-- What the operations of a publication impose on an engine's images. -/
def State.impose (s : State) (e : Fin 4) : State :=
  let g := s.engines[e]
  if (g.published.secs ++ g.committed.secs).any (fun x => decide (s.imposed e x ≠ x)) then
    s.modEngine e (fun g => g.mapAll s.cfg e (fun l => l.map (s.imposed e)))
  else s

/-! ### The detection side at a tick -/

/-- LOOP_I of a channel from its newest absolute tap, in µA (R83). -/
def Chan.loopI (c : Chan) : BitVec 16 :=
  satNat 16 (roundConv (reduce (c.tapHist.headD 0) 16) 250).toNat

/-- Channels and port measurements at a tick: the next output instant is the one at the tick. -/
def State.chansAtTick (s : State) : State :=
  { s with
    chans := s.chans.map (fun (c : Chan) => { c with outIdx := 0 })
    ports := Vector.ofFn (fun (n : Fin 64) =>
      { s.ports[n] with loopI1 := (s.chans[chanOf n .cs1]).loopI, loopI2 := (s.chans[chanOf n .cs2]).loopI }) }

/-- The report of a failure has stood for 10 ms. -/
def RetLane.overdue (l : RetLane) (now : Nat) : Bool :=
  match l.reportAt with
  | some t => decide (t + 10000000 ≤ now)
  | none => false

/-- A return lane whose failure was reported 10 ms ago fails the sections of its ports (R34, R35). -/
def State.returnLanesAtTick (s : State) : State :=
  (allFin 2).foldl (fun (s : State) (r : Fin 2) =>
    let l := s.retLanes[r]
    if s.mdl.phase = .service ∧ l.timedOut = false ∧ l.overdue s.now = true then
      let s := { s with retLanes := upd s.retLanes r (fun l => { l with timedOut := true }) }
      (allFin 8).foldl (fun (s : State) (k : Fin 8) => if k.val / 4 = r.val then s.postPoint (.laneFail k) else s) s
    else s) s

/-- The synchronising reset and the proving frames of a start (Table 11-4): the frames begin when the channels are VALID, 2 ms
after the reset. -/
def State.startProving (s : State) : State :=
  let s := s.resetAllChans true
  { s with
    mdl := { s.mdl with startStage := .proving }
    engines := s.engines.map (fun (g : Engine) =>
      if g.mode = .halted then g else { g with mode := .proving, proveLeft := 4, from' := g.frame + 8 }) }

/-- Port stages at a tick (Table 11-4, R293): groups ramp, and a stage whose ports have ramped ends. A start that is held goes no
further, and a port stage that it has held back begins when it goes on (Table 11-8). -/
def State.portsAtTick (s : State) : State :=
  let s := s.rampGroups
  if s.mdl.phase = .start then
    match s.mdl.startStage, s.tst.held with
    | .ports, false =>
      if s.sup.portStage = false ∧ s.sup.field.st = .normal then s.startPortStage (allFin 64) false
      else if s.stageRamped then
        let s := s.dropStage
        if s.tst.kind = 2 then
          { s with mdl := { s.mdl with startStage := .lb0 }, tst := { s.tst with running := true } }
        else s.startProving
      else s
    | .lb0, false => if s.tst.stepNow.isNone then s.startProving else s
    | _, _ => s
  else if s.stageRamped then s.endPortStage
  else s

/-- The measured supplies at a tick (SUP_LOGIC, SUP_INPUT). -/
def State.suppliesAtTick (s : State) (m : TickMeas) : State :=
  { s with sup := { s.sup.inputReading s.now m.vin m.iin with mv33 := m.v33, mvCore := m.vcore } }

/-- An attach that ends at this tick: the engine clears its stores and proves from the next tick on (R180). -/
def Engine.detachAtTick (g : Engine) : Engine :=
  if g.mode = .debug ∧ g.detaching = true then
    { g with mode := .proving, proveLeft := 4, fails := 0, from' := g.frame + 1, sampled := [], work := none, done := none }
  else g

/-- The frame fixed at the tick before is released for the slot that starts now, but for one that its signing engine did not
commit (R172, R185). -/
def State.releaseFrames (s : State) (ok : Vector Bool 4) : State :=
  { s with links := s.links.map (fun (l : Link) =>
      let free (a : Armed) : Bool := match a.signer with
        | some e => ok[e]
        | none => true
      { l with armed := none, ready := l.armed.filter free }) }

/-! ### TICK -/

/-- The clock passes to the next tick (R22, R24), where the steering of R209 takes hold, and with it the journals: what reached one
strictly before the tick's instant is due to be sampled (R19). -/
def State.clockTick (s : State) : State :=
  let tb := s.nextTb
  let at' := s.tickDue
  let over' := (at' - s.clk.tickAt) * s.clk.pace + s.clk.frac - (tb - s.clk.tickTb) * 10000000000
  { s with
    clk := { s.clk with elapsed := max s.clk.elapsed at', tickAt := at', prevTb := s.clk.tickTb, tickTb := tb % 2 ^ 64
                        stepFrame := false, rate := s.tbs.steer, frac := min over' 9999999999 }
    engines := s.engines.map (fun (g : Engine) =>
      ({ g with frame := g.frame + 1, due := g.journal, journal := g.next, next := {} } : Engine).slotTick) }

/-- The frames that have committed and are published at this tick, by engine. -/
def State.finished (s : State) : List (Fin 4 × Work) :=
  (allFin 4).filterMap (fun e => (s.engines[e]).done.map (fun w => (e, w)))

/-- The publication at a tick: one image per engine, then what the frames bring with them. -/
def State.publishAll (s : State) (m : TickMeas) (stepFrame : Bool) : State :=
  let s := (allFin 4).foldl (fun (s : State) (e : Fin 4) =>
    (s.modEngine e (Engine.measure m.cyc[e] m.sched[e])).judgeFrame (s.cyclesBad m.cyc[e] stepFrame) m.sched[e] e) s
  let s := s.releaseFrames (s.engines.map (fun (g : Engine) => g.done.isSome))
  let ws := s.finished
  let news := !ws.isEmpty || (allFin 4).any (fun e => (s.engines[e]).haltDue && decide ((s.engines[e]).haltAt < (s.engines[e]).frame))
  let s := (allFin 4).foldl State.publish (if news then { s with clk := { s.clk with imageTb := s.clk.tickTb } } else s)
  let s := ws.foldl (fun (s : State) p => s.publishLogs p.2) s
  let s := ws.foldl (fun (s : State) p => s.publishOps p.2) s
  let s := ws.foldl (fun (s : State) p => s.provedFrame p.1) s
  let s := (allFin 4).foldl State.answerHalted s
  let s := (allFin 4).foldl State.impose { s with engines := s.engines.map Engine.detachAtTick }
  s.updateVos.showPublished

/-- The sampling at a tick. -/
def State.sampleAll (s : State) (m : TickMeas) : State :=
  let sn := s.snap
  let s := s.sampleRemote
  let s := (allFin 4).foldl State.passCommands s
  let s := (allFin 4).foldl State.handCommands s
  let s := (allFin 4).foldl State.dualCommands s
  (allFin 4).foldl (fun s e => s.openEngine sn m e) s

/-- The frames of the slots that start at the next tick (R185). A step at this tick changes which slots these are: its own row
fixes the frames then. -/
def State.armAll (s : State) : State :=
  if s.clk.stepDue.isSome ∨ s.clk.extDue.isSome then s.signCodes else ((allFin 8).foldl State.armLink s).signCodes

/-- TICK (R19 to R28): one that comes later than 525 µs after the last one resets the module (R31). -/
def execTick (m : TickMeas) (s : State) : Out :=
  if s.clk.tickAt + 525000 < s.now then clockFault 0x0133 s
  else s.when (!s.inReset) (fun s =>
    let step := s.clk.stepFrame
    let old := s.tickNo
    let s := s.clockTick
    let s := m.sessions.foldl (fun (s : State) p => s.modEngine p.1 (Engine.debugAct p.2)) s
    let s := ((s.fieldAtTick old).suppliesAtTick m).chansAtTick
    let s := { s with vis := s.vis.map (Vi.atTick s.now) }
    let s := if step then s.resetAllChans false else s
    let s := s.returnLanesAtTick.portsAtTick
    let s := s.publishAll m step
    if s.inReset then s
    else
      let s := s.sampleAll m
      let s := { s with mgt := { s.mgt with
        pw := if s.mgt.pw = PwState.starting then PwState.running else s.mgt.pw
        recOk := s.mgt.recOk || decide (s.mgt.pw ≠ PwState.restarting) } }
      let s := s.drainQueue
      State.armAll { s with clk := { s.clk with signed := s.signer.isSome } })

end Sys2Proof.Machine
end

