-- ==== Sys2Proof/Machine/Registers.lean ====
section
/-! DEFINITION. The register map: where a register lies and what a 32-bit read of it returns (13, and the register tables of the
other chapters). -/

namespace Sys2Proof.Machine
open Sys2Proof

/-! ### Address map (R328, R329) -/

/-- Blocks of Table 13-1. -/
inductive Blk where
  | mod
  | sup
  | prt
  | flt
  | brass
  | bronze
  | wdu
  | cen
  | sec
  | lnk
  | tbs
  | vi
  | vo
  | cmd
  | crc
  | mgt
  | tst
  deriving DecidableEq, Repr

/-- A row of Table 13-1: base, first address beyond, stride, largest defined offset. -/
structure BlkRow where
  blk : Blk
  base : Nat
  limit : Nat
  stride : Nat
  last : Nat
  deriving DecidableEq, Repr

/-- Table 13-1. -/
def addressMap : List BlkRow :=
  [⟨.mod, 0x00000, 0x01000, 0x1000, 0x138⟩, ⟨.sup, 0x01000, 0x02000, 0x1000, 0x20⟩, ⟨.prt, 0x02000, 0x06000, 0x100, 0x24⟩,
   ⟨.flt, 0x06000, 0x0A000, 0x80, 0x38⟩, ⟨.brass, 0x0A000, 0x0A400, 4, 0⟩, ⟨.bronze, 0x0A400, 0x0A800, 4, 0⟩,
   ⟨.wdu, 0x0B000, 0x0D000, 0x80, 0x40⟩, ⟨.cen, 0x0D000, 0x0D400, 0x100, 0x54⟩, ⟨.sec, 0x0E000, 0x10000, 0x20, 0x1C⟩,
   ⟨.lnk, 0x10000, 0x10800, 0x100, 0x30⟩, ⟨.tbs, 0x10800, 0x10900, 0x100, 0x20⟩, ⟨.vi, 0x11000, 0x11100, 0x20, 0x10⟩,
   ⟨.vo, 0x11100, 0x11200, 0x20, 0x14⟩, ⟨.cmd, 0x12000, 0x12100, 0x100, 0x28⟩, ⟨.crc, 0x12100, 0x12200, 0x40, 0x28⟩,
   ⟨.mgt, 0x13000, 0x14000, 0x1000, 0x40⟩, ⟨.tst, 0x14000, 0x14100, 0x100, 0x1C⟩]

/-- A register: block, element, offset. -/
structure RegAt where
  blk : Blk
  idx : Nat
  off : Nat
  deriving DecidableEq, Repr

/-- decode(a) of R329, to the register that holds byte `a`; none: reserved or unmapped. -/
def decodeReg (a : Nat) : Option RegAt :=
  match addressMap.find? (fun r => decide (r.base ≤ a ∧ a < r.limit)) with
  | none => none
  | some r =>
    let off := (a - r.base) % r.stride / 4 * 4
    if off ≤ r.last ∧ (r.blk = .mod → off ≤ 0x2C ∨ 0x100 ≤ off) then some ⟨r.blk, (a - r.base) / r.stride, off⟩ else none

/-- High and low word of a 64-bit value. -/
def hi32 (v : BitVec 64) : Word := BitVec.ofNat 32 (v.toNat / 2 ^ 32)
def lo32 (v : BitVec 64) : Word := v.setWidth 32

/-! ### MOD (R340 to R342, R282) -/

/-- MOD_FAULT_SUM (R340): bit b while a W1C bit records a fault of subsystem b. -/
def State.faultSum (s : State) : Word :=
  let flt (m : Word) := s.chans.any (fun c => decide (c.fault &&& m ≠ 0))
  let cen (m : Word) := s.engines.any (fun g => decide (g.fault &&& m ≠ 0))
  bitAt (decide (s.sup.fault ≠ 0) || cen 0x20) 1 ||| bitAt (s.ports.any (fun p => decide (p.fault ≠ 0))) 2 |||
    bitAt (flt 0x07) 3 ||| bitAt (flt 0x18) 4 ||| bitAt (s.wdus.any (fun w => decide (w.fault ≠ 0))) 5 |||
    bitAt (cen 0xFDF) 6 ||| bitAt (s.secFault.any (fun w => decide (w ≠ 0))) 7 |||
    bitAt (s.links.any (fun l => decide (l.fault ≠ 0)) || decide (s.tbs.fault ≠ 0)) 8 |||
    bitAt (s.vis.any (fun v => decide (v.fault ≠ 0)) || s.vos.any (fun v => decide (v.fault ≠ 0))) 9 |||
    bitAt (decide (s.cmd.fault ≠ 0) || s.crc.any CrcUnit.fault || decide (s.img.fault ≠ 0)) 10 |||
    bitAt (decide (s.mgt.fault ≠ 0)) 11 ||| bitAt (decide (s.tst.fault ≠ 0)) 12

/-- MOD_IRQ; the interrupt line to Pewter is asserted while it is not 0 (R340). -/
def State.irqWord (s : State) : Word := at32 s.mdl.irqCrc.toNat 24 ||| at32 s.mdl.irqCheck.toNat 20

def Stage.code : Stage → Nat
  | .empty => 0
  | .loading => 1
  | .verifying => 2
  | .staged => 3
  | .activating => 4

/-- What MOD_CFG shows of an image slot: module reset keeps it, power-on clears it until the start loads it (R339, Table 13-3). -/
def State.keptImage (s : State) (live : Option CfgImage) (slot : Option CfgImage) : Option CfgImage :=
  if s.inReset then (if s.mdl.resetCause = .powerOn then none else slot) else live

/-- The active and the previous image that MOD_CFG shows. -/
def State.actShown (s : State) : Option CfgImage := s.keptImage s.img.active s.img.slot
def State.prevShown (s : State) : Option CfgImage := s.keptImage s.img.previous s.img.previous

/-- MOD_CFG_STATE: OWNER shows while a load or an image has one; STAGE_LEFT in whole seconds (log 22). -/
def State.cfgStateWord (s : State) : Word :=
  let left := if s.img.stage = .staged then (s.img.stagedAt + 3600000000000 - s.now) / 1000000000 else 0
  at32 s.img.stage.code 29 ||| bitAt s.actShown.isSome 28 ||| bitAt s.prevShown.isSome 27 ||| bitAt s.img.revert 26 |||
    at32 (if s.img.stage = .empty then 0 else s.img.owner.toNat) 23 ||| at32 left 0

/-- MOD_FW_STATE. -/
def State.fwStateWord (s : State) : Word :=
  let st := if s.img.fwPending then 3 else if s.img.fwVerified then 2
    else if (s.mgt.fwState = .receiving ∨ s.mgt.fwState = .verifying) ∧ s.stagedKind = 1 then 1 else 0
  at32 st 29 ||| bitAt s.img.fwFallback 28

def State.imageCheck (i : Option CfgImage) : BitVec 64 := (i.map CfgImage.check).getD 0
def State.imageSerial (i : Option CfgImage) : BitVec 64 := (i.map (fun x => x.cfg.serial)).getD 0

def State.modReg (s : State) (r : ReaderSt) (off : Nat) : Word :=
  match off with
  | 0x000 => at32 Config.orderCode.toNat 16 ||| at32 Config.hwIssue.toNat 8
  | 0x004 => at32 s.img.fwLine.toNat 24 ||| at32 (Config.vitalRelease s.fwCheckNow).toNat 8 ||| bitAt s.img.fwFallback 7
  | 0x008 => at32 s.mgt.fwLine.toNat 24 ||| at32 (s.mgt.fwRelease.getD Config.mgtRelease).toNat 8 |||
      bitAt s.mdl.fwMgtFallback 7
  | 0x00C => hi32 (Config.hwSerial.setWidth 64)
  | 0x010 => r.serialLo
  | 0x014 => bitAt s.hasImage 31 ||| at32 s.addr.toNat 0
  | 0x018 => s.mdl.pub
  | 0x01C => BitVec.ofNat 32 s.tickNo
  | 0x020 => s.mdl.faultLast
  | 0x024 => s.faultSum
  | 0x028 => s.irqWord
  | 0x02C => bitAt s.mdl.btnStuck 31 ||| at32 s.mdl.btnResets.toNat 16 ||| at32 s.mdl.btnHold.toNat 0
  | 0x100 => s.cfgStateWord
  | 0x104 => s.img.fault
  | 0x108 => at32 s.img.loadLen 0
  | 0x10C => at32 (Memory.countBelow s.img.loadBuf s.img.loadLen) 0
  | 0x110 => at32 s.img.errReason.toNat 24 ||| at32 s.img.errOffset.toNat 0
  | 0x114 => hi32 (State.imageCheck s.actShown)
  | 0x118 => r.cfgAct
  | 0x11C => hi32 (State.imageCheck s.prevShown)
  | 0x120 => r.cfgPrev
  | 0x124 => hi32 (State.imageSerial s.actShown)
  | 0x128 => r.cfgSerial
  | 0x12C => at32 s.img.confirmed.toNat 16 ||| at32 s.img.refused.toNat 0
  | 0x130 => s.fwStateWord
  | 0x134 => hi32 s.fwCheckNow
  | 0x138 => r.fwAct
  | _ => 0

/-! ### SUP and TST (R311, R312) -/

def RailSt.code : RailSt → Nat
  | .normal => 0
  | .warning => 1
  | .recovering => 2
  | .cutoff => 3

/-- Time in ms until NORMAL of a rail in RECOVERING. -/
def RailState.left (now : Nat) (r : RailState) : Nat :=
  if r.st = .recovering then (r.recSince + 20000000 - now) / 1000000 else 0

def State.supReg (s : State) (off : Nat) : Word :=
  let p := s.sup
  match off with
  | 0x00 => at32 p.v33.st.code 30 ||| at32 p.core.st.code 28 ||| at32 p.field.st.code 26 |||
      bitAt ((allFin 64).any s.suspect) 25 ||| bitAt p.snapshot 24 |||
      at32 (max (p.v33.left s.now) (max (p.core.left s.now) (p.field.left s.now))) 0
  | 0x04 => p.fault
  | 0x08 => at32 p.mv33.toNat 16 ||| at32 p.mvCore.toNat 0
  | 0x0C => at32 p.median.toNat 16 ||| at32 p.secondLow.toNat 0
  | 0x10 => at32 p.vin.toNat 16 ||| at32 p.iin.toNat 0
  | 0x14 => p.episode
  | 0x18 => at32 p.episodeMin.toNat 0
  | 0x1C => at32 p.cntLogic.toNat 16 ||| at32 p.cntField.toNat 0
  | 0x20 => at32 p.startKind.toNat 30 ||| at32 p.startCause.toNat 26 ||| at32 p.startDur.toNat 0
  | _ => 0

def TstState.code : TstState → Nat
  | .service => 0
  | .startTest => 1
  | .startFailed => 2
  | .shutdown => 3
  | .done => 4
  | .aborting => 5

def State.tstReg (s : State) (r : ReaderSt) (off : Nat) : Word :=
  let t := s.tst
  match off with
  | 0x00 => at32 t.state.code 29 ||| at32 t.kind.toNat 27 ||| bitAt t.windowed 26 |||
      at32 (if t.running then ((t.stepNow.map Prod.fst).getD 0) else 0) 21
  | 0x04 => t.fault
  | 0x08 => at32 t.expected.toNat 16 ||| at32 t.count.toNat 0
  | 0x0C => at32 t.startVerdict.toNat 29 ||| at32 ((t.record.map (fun x => x.verdict.toNat)).getD 0) 26 |||
      at32 t.failStep.toNat 21 ||| bitAt s.quickOk 20 ||| at32 t.abortCause.toNat 16 ||| at32 t.aborts.toNat 0
  | 0x10 => t.sig
  | 0x14 => t.sigExp
  | 0x18 => hi32 ((t.record.bind TestRecord.token).getD 0)
  | 0x1C => r.tokenLo
  | _ => 0

/-! ### PRT (R72) and FLT (R105, R106) -/

/-- A state that a register shows once module reset is over: in module reset it shows its reset value 0. -/
def State.shown (s : State) (b : Bool) : Bool := b && !s.inReset

/-- A run-time test runs on a system of the port. -/
def State.testOf (s : State) (n : Fin 64) (y : Sys) : Bool :=
  match s.rt with
  | some r => decide (r.port = n ∧ r.sys = y) && !decide (r.stage = RtStage.gap)
  | none => false

def State.prtStatus (s : State) (n : Fin 64) : Word :=
  let p := s.ports[n]
  let lb := match p.lb with
    | some l => match l.kind with
      | .lb0 => 1
      | .lb1 => 2
      | .lb2 => 0
    | none => 0
  bitAt p.overdue 19 ||| bitAt p.failed 18 ||| at32 lb 16 ||| bitAt (s.testOf n .cs2) 15 ||| bitAt (s.testOf n .cs1) 14 |||
    bitAt (s.shown (!(s.chans[chanOf n .cs2]).out.valid)) 13 ||| bitAt (s.shown (!(s.chans[chanOf n .cs1]).out.valid)) 12 |||
    bitAt p.pulseFault 11 ||| bitAt p.surge 10 ||| bitAt p.residual 9 ||| bitAt p.xshort 8 ||| bitAt p.over2 7 |||
    bitAt p.over1 6 ||| bitAt p.open2 5 ||| bitAt p.open1 4 ||| bitAt p.supplyBad 3 ||| bitAt p.rampEnd.isSome 2 |||
    bitAt p.supplyOn 1

def State.prtReg (s : State) (n : Fin 64) (off : Nat) : Word :=
  let p := s.ports[n]
  match off with
  | 0x00 => s.cfg.prtCfg[n] ||| at32 n.val 16
  | 0x04 => s.cfg.prtHead[n]
  | 0x08 => s.prtStatus n
  | 0x0C => p.fault
  | 0x10 => at32 p.fieldV.toNat 16 ||| at32 p.supplyV.toNat 0
  | 0x14 => at32 p.loopV1.toNat 16 ||| at32 p.loopI1.toNat 0
  | 0x18 => at32 p.loopV2.toNat 16 ||| at32 p.loopI2.toNat 0
  | 0x1C => p.xcorr
  | 0x20 =>
    let age := match p.lastTest with
      | some t => min 65535 ((s.now - t) / 60000000000)
      | none => 65535
    at32 age 16 ||| at32 p.testRes.toNat 8 ||| at32 p.abandoned.toNat 0
  | 0x24 => at32 p.surgeCnt.toNat 0
  | _ => 0

def State.fltState (s : State) (c : Fin 128) : Word :=
  let x := s.chans[c]
  let auto := !((s.chanEnv c).track && ({ x with dcFrozen := false } : Chan).tracks)
  bitAt x.out.valid 31 ||| at32 x.out.path.toNat 29 ||| at32 x.sel.toNat 27 ||| bitAt x.bank 26 ||| bitAt x.fade.isSome 25 |||
    at32 ((x.fade.map Fade.done).getD 0) 16 ||| bitAt (s.shown auto) 15 ||| bitAt x.dcFrozen 14 |||
    bitAt (s.shown (!(s.lanes[laneOfPort (portOf c)]).synced)) 13 ||| bitAt x.ovl 12 ||| bitAt ((s.lb2Of c).isSome || s.echoOn c) 11 |||
    bitAt x.scm.isSome 10 ||| bitAt x.settling 9 ||| bitAt (s.portBlind c) 8 ||| bitAt (decide (x.satLeft ≠ 0)) 7 |||
    at32 x.settleLeft 0

/-- FLT_BANKSTAT. -/
def State.bankStat (s : State) : Word :=
  let one (b : Bool) : Nat :=
    8 * b2n (s.bank b).valid + 4 * b2n (s.bank b).command + 2 * b2n (s.bank b).loading + b2n (s.shown (s.bankUsed b))
  at32 (one false) 12 ||| at32 (one true) 0

def State.fltReg (s : State) (c : Fin 128) (off : Nat) : Word :=
  let x := s.chans[c]
  let w := s.wdus[portOf c]
  let k := laneOfPort (portOf c)
  match off with
  | 0x00 => s.cfg.fltCfg[c]
  | 0x04 => s.cfg.fltPhase[c]
  | 0x08 => s.fltState c
  | 0x0C => x.fault
  | 0x10 => bitAt x.out.valid 31 ||| at32 x.out.path.toNat 29 ||| at32 x.out.value.toNat 0
  | 0x14 => (BitVec.ofInt 24 (reduce (x.tapHist.headD 0) 16)).setWidth 32
  | 0x18 => (BitVec.ofInt 24 (reduce (reduce x.base 32) 16)).setWidth 32
  | 0x1C => at32 (s.gdelay c) 0
  | 0x20 => at32 x.lb2Res.toNat 28 ||| at32 w.lb3Res.toNat 24 ||| at32 w.lb3Speed.toNat 0
  | 0x24 => s.bankStat
  | 0x28 => (s.bank false).crc
  | 0x2C => (s.bank true).crc
  | 0x30 => at32 x.satCnt.toNat 0
  | 0x34 => at32 x.blindCnt.toNat 0
  | 0x38 => at32 k.val 24 ||| at32 (s.lanes[k]).syncLoss.toNat 16 ||| at32 (s.lanes[k]).wordErr.toNat 0
  | _ => 0

/-! ### WDU (R129, R130) -/

def Phase.code : Phase → Nat
  | .idle => 0
  | .approach => 1
  | .track => 2
  | .spent => 3

def Region.code : Region → Nat
  | .none => 0
  | .near => 1
  | .mid => 2
  | .far => 3

def State.wduStatus (s : State) (n : Fin 64) : Word :=
  let w := s.wdus[n]
  let x := w.ctx
  at32 x.phase.code 30 ||| bitAt (x.entry && decide (x.phase = Phase.track)) 29 ||| at32 x.q.toNat 27 |||
    at32 x.region.code 25 ||| bitAt x.nearSeen 24 ||| bitAt x.c2.s 23 ||| bitAt x.c1.s 22 |||
    bitAt (s.chans[chanOf n .cs2]).active 21 ||| bitAt (s.chans[chanOf n .cs1]).active 20 |||
    bitAt (decide (x.inst ≠ 0) && !x.c2.valid) 19 ||| bitAt (decide (x.inst ≠ 0) && !x.c1.valid) 18 ||| bitAt w.suspect 17 ||| bitAt w.baseDamped 16 |||
    bitAt (decide (x.c2.d < -150)) 15 ||| bitAt (decide (x.c1.d < -150)) 14

/-- WDU_POS: x in 1/16,384 (R117), rounded convergently. -/
def Ctx.posWord (x : Ctx) : Word :=
  if x.xdef then
    let p1 := pos x.c1.d
    let p2 := pos x.c2.d
    bitAt true 31 ||| (BitVec.ofInt 16 (roundConv (16384 * (p2 - p1)) (p1 + p2).toNat)).setWidth 32
  else 0

/-- WDU_ROUTE (R126). -/
def State.routeWord (s : State) (n : Fin 64) : Word :=
  let r : AxleRec := { modAddr := s.addr, point := BitVec.ofNat 6 n.val }
  let links := (List.range 5).map (fun j => s.cfg.streams.any (fun t => !t.recv && t.mask.getLsbD n.val && decide (t.link.val = 3 + j)))
  let engs := (allFin 4).map (fun e => s.routesTo e r)
  at32 (ofBits links.reverse) 16 ||| at32 (ofBits engs.reverse) 0

/-- Word `j` of the last record. -/
def Wdu.recWord (w : Wdu) (j : Nat) : Word :=
  match w.lastRec with
  | some r => BitVec.ofNat 32 (bytesAt r.toBytes (4 * j) 4)
  | none => 0

/-- A register of the WDU of an unassigned point holds its reset value (R107). -/
def wduIdle (off : Nat) : Word := if off = 0x20 then 0x04B994 else 0

/-- RO, RC and W1C registers of the WDU of an assigned point. -/
def State.wduLive (s : State) (r : ReaderSt) (n : Fin 64) (off : Nat) : Word :=
  let w := s.wdus[n]
  match off with
  | 0x10 => s.wduStatus n
  | 0x14 => w.fault
  | 0x18 => at32 (BitVec.ofInt 16 w.ctx.c2.d).toNat 16 ||| at32 (BitVec.ofInt 16 w.ctx.c1.d).toNat 0
  | 0x1C => w.ctx.posWord
  | 0x20 => bitAt w.alignCh 31 ||| at32 w.alignN.toNat 24 ||| at32 (s.dpt n) 0
  | 0x24 => s.routeWord n
  | 0x28 => w.cntFwd
  | 0x2C => w.cntRev
  | 0x30 => at32 w.lastCause.toNat 16 ||| at32 w.uncCnt.toNat 0
  | 0x34 => w.recWord 0
  | 0x38 => r.lastrec1[n]
  | 0x3C => r.lastrec2[n]
  | 0x40 => r.lastrec3[n]
  | _ => 0

def State.wduReg (s : State) (r : ReaderSt) (n : Fin 64) (off : Nat) : Word :=
  match off with
  | 0x00 => s.cfg.wduHead[n]
  | 0x04 => s.cfg.wduLevels[n]
  | 0x08 => s.cfg.wduThr1[n]
  | 0x0C => s.cfg.wduThr2[n]
  | o => if s.assigned n then s.wduLive r n o else wduIdle o

/-! ### CEN (R181) and SEC (R150) -/

def State.cenReg (s : State) (e : Fin 4) (off : Nat) : Word :=
  let g := s.engines[e]
  match off with
  | 0x00 => s.cfg.cenCfg[e]
  | 0x08 => g.fault
  | 0x30 => g.pub[(12 : Fin 22)] ||| at32 g.progB.toNat 8 ||| at32 g.progA.toNat 0
  | o => g.pub.getD (o / 4) 0

def State.secReg (s : State) (i : Fin 256) (off : Nat) : Word := (s.secRegs i).getD (off / 4) 0

/-! ### LNK (R221) and TBS (R222) -/

def LinkLb.code : LinkLb → Nat
  | .lba => 1
  | .lbf => 2
  | .lbr => 3

/-- LNK_STATE.STATE: a looped link shows LOOP, then TIMEOUT goes before DOWN, SYNC and UP (log 24). -/
def State.lnkState (s : State) (k : Fin 8) : Nat :=
  let l := s.links[k]
  if s.inReset || !s.linkUsed k then 0
  else if l.looped then 5
  else if l.rx.timedOut || l.loopDown then 4
  else if !l.sync then 1
  else if l.up then 3
  else 2

def State.lnkStateWord (s : State) (k : Fin 8) : Word :=
  let l := s.links[k]
  at32 (s.lnkState k) 29 ||| at32 ((l.loop.map (fun x => x.kind.code)).getD 0) 27 ||| bitAt (decide (s.tbs.source = some k)) 26 |||
    at32 (s.cfg.streams.countP (fun t => !t.recv && decide (t.link = k))) 21 |||
    at32 (s.cfg.relays.countP (fun t => decide (t.outLink = k))) 16 ||| at32 l.peerSeen.toNat 0

def State.lnkReg (s : State) (k : Fin 8) (off : Nat) : Word :=
  let l := s.links[k]
  match off with
  | 0x00 => s.cfg.lnkCfg[k]
  | 0x04 => s.cfg.lnkAsym[k]
  | 0x08 => s.lnkStateWord k
  | 0x0C => l.fault
  | 0x10 => s.delayWord k
  | 0x14 => l.rxOk
  | 0x18 => at32 l.errCrc.toNat 16 ||| at32 l.errSc.toNat 0
  | 0x1C => at32 l.errOld.toNat 16 ||| at32 l.errMissing.toNat 0
  | 0x20 => at32 l.errFormat.toNat 24 ||| at32 l.errAge.toNat 16 ||| at32 l.errSync.toNat 8 ||| at32 l.errAddr.toNat 0
  | 0x24 => at32 l.relaySent.toNat 16 ||| at32 l.relayDropped.toNat 0
  | 0x28 => at32 l.timeouts.toNat 0
  | 0x2C => at32 l.loopKind.toNat 30 ||| at32 l.loopRes.toNat 27 ||| at32 l.loopDelay.toNat 0
  | 0x30 => s.cfg.seed
  | _ => 0

def State.tbsReg (s : State) (r : ReaderSt) (off : Nat) : Word :=
  match off with
  | 0x00 => s.cfg.tbsCfg
  | 0x04 => s.tbsStateWord
  | 0x08 => s.tbs.fault
  | 0x0C => hi32 (BitVec.ofNat 64 s.tb)
  | 0x10 => r.timeLo
  | 0x14 => s.tbs.offset
  | 0x18 => s.tbsSteerWord
  | 0x1C => s.tbsStepWord
  | 0x20 => s.tbs.lastStep
  | _ => 0

/-! ### VI and VO (R263) -/

def ViState.code : ViState → Nat
  | .unknown => 0
  | .inactive => 1
  | .transition => 2
  | .active => 3
  | .discrepant => 4

/-- ACCEPTED: a level input accepted active; of a press input, ACTIVE and not in reset fault (R251, log 25). -/
def State.viAccepted (s : State) (i : Fin 8) : Bool :=
  match s.viUse i with
  | .unused => false
  | .level => s.accepted i
  | .press => decide ((s.vis[i]).state = .active) && !(s.vis[i]).resetFault

def State.viReg (s : State) (i : Fin 8) (off : Nat) : Word :=
  let v := s.vis[i]
  match off with
  | 0x00 => if i.val ≥ 6 then 0x80000000 ||| (s.cfg.viCfg[i] &&& 0x1FF) else s.cfg.viCfg[i]
  | 0x04 => at32 v.state.code 29 ||| bitAt v.a.closed 28 ||| bitAt v.b.closed 27 ||| bitAt (s.viAccepted i) 26 |||
      bitAt v.resetFault 25 ||| bitAt (v.releasedAt s.now) 24 ||| at32 (min 65535 ((s.now - v.since) / 1000000)) 0
  | 0x08 => v.fault
  | 0x0C => at32 v.discMax.toNat 16 ||| at32 v.discLast.toNat 0
  | 0x10 => at32 v.refused.toNat 16 ||| at32 v.presses.toNat 0
  | _ => 0

def State.voReg (s : State) (j : Fin 8) (off : Nat) : Word :=
  let v := s.vos[j]
  match off with
  | 0x00 => s.cfg.voCfg[j]
  | 0x04 => bitAt v.demand 31 ||| bitAt v.energised 30 ||| bitAt v.hs 29 ||| bitAt v.ls 28 ||| bitAt (v.windowOpen s.now) 27 |||
      bitAt v.locked 26 ||| bitAt v.trip.isSome 25
  | 0x08 => v.fault
  | 0x0C => at32 v.volt.toNat 16 ||| at32 v.curr.toNat 0
  | 0x10 => at32 v.lastRes.toNat 30 ||| bitAt v.lastSwitch 29 ||| at32 v.passed.toNat 0
  | 0x14 => at32 v.discarded.toNat 0
  | _ => 0

/-! ### CMD (R244) and CRC (R245) -/

def Interp.tagsOf (c : Interp) (p : BitVec 16 → Bool) : Nat := c.tags.countP (fun t => p (hdrSource t.header))

def State.cmdReg (s : State) (off : Nat) : Word :=
  let c := s.cmd
  match off with
  | 0x00 => at32 c.tags.length 24 ||| at32 (c.tagsOf (fun x => decide (x = 0x1000))) 16 |||
      at32 (c.tagsOf (fun x => decide (x = 0x1001))) 8 ||| at32 (c.tagsOf (fun x => decide (x = 0x1002))) 0
  | 0x04 => at32 (c.tagsOf (fun x => decide (classOf x = some .m))) 8 ||| at32 (c.tagsOf (fun x => decide (classOf x = some .t))) 0
  | 0x08 => at32 (c.votes.countP (fun v => !v.closed)) 24
  | 0x0C => c.fault
  | 0x10 => c.rxCnt
  | 0x14 => at32 c.errTrailer.toNat 16 ||| at32 c.errRefused.toNat 0
  | 0x18 => at32 c.repeatFull.toNat 16 ||| at32 c.repeatDup.toNat 0
  | 0x1C => c.admitCnt
  | 0x20 => at32 c.voteExpired.toNat 24 ||| at32 c.voteNoThird.toNat 16 ||| at32 c.voteConfirm.toNat 0
  | 0x24 => at32 c.lastOp.toNat 24 ||| at32 c.lastLanes.toNat 20
  | 0x28 => c.lastCycle
  | _ => 0

/-- No register shows the check value of a staged image (R274): where unit 1 holds it, it reads as 0 (log 93). -/
def State.crcShown (s : State) (u : Fin 4) (v : BitVec 64) : BitVec 64 :=
  match s.img.staged with
  | some i => if u = 1 ∧ v = i.check then 0 else v
  | none => v

def State.crcReg (s : State) (r : ReaderSt) (u : Fin 4) (off : Nat) : Word :=
  let x := s.crc[u]
  match off with
  | 0x00 => bitAt (decide (u.val < 2)) 31 ||| at32 x.algo.toNat 0
  | 0x10 => hi32 (s.crcShown u x.result)
  | 0x14 => r.crcResult[u]
  | 0x18 => hi32 (s.crcShown u x.expect)
  | 0x1C => r.crcExpect[u]
  | 0x20 => at32 x.outcome.toNat 30 ||| at32 x.bytes.toNat 0
  | 0x24 => bitAt x.fault 0
  | 0x28 => at32 x.mismatchCnt.toNat 0
  | _ => 0

/-! ### MGT (R327) -/

def PwState.code : PwState → Nat
  | .starting => 0
  | .running => 1
  | .restarting => 2

def EthLoop.code : EthLoop → Nat
  | .none => 0
  | .mac => 1
  | .phy => 2
  | .reserved => 3

def FwStage.code : FwStage → Nat
  | .none => 0
  | .receiving => 1
  | .verifying => 2
  | .verified => 3
  | .failed => 4

def Mgt.holdBits (m : Mgt) : Nat := ((allFin 16).map (fun i => if (m.holds[i]).isSome then 2 ^ i.val else 0)).sum

def Mgt.holdCount (m : Mgt) : Nat := (allFin 16).countP (fun i => (m.holds[i]).isSome)

def State.mgtReg (s : State) (r : ReaderSt) (off : Nat) : Word :=
  let m := s.mgt
  match off with
  | 0x00 => at32 m.pw.code 30 ||| bitAt m.recOk 29 ||| at32 m.clients.length 24 |||
      at32 (((List.range 8).map (fun i => if m.sessions.any (fun (c : Client) => decide (c.id.toNat = i)) then 2 ^ i else 0)).sum) 16 |||
      at32 m.restarts.toNat 0
  | 0x04 => m.fault
  | 0x08 => at32 m.tCore.toNat 24 ||| at32 m.tMgt.toNat 16 ||| at32 m.tInlet.toNat 8 ||| at32 m.humidity.toNat 0
  | 0x0C => at32 m.power.toNat 16 ||| at32 m.current.toNat 0
  | 0x10 => at32 (if m.recOk then m.wear.toNat else 0) 24 ||| at32 (if m.recOk then m.spare.toNat else 0) 12 ||| at32 m.holdCount 7
  | 0x14 => at32 (m.evtNext / 2 ^ 32 % 2 ^ 16) 0
  | 0x18 => r.evtNext
  | 0x1C => at32 (m.axlNext / 2 ^ 32 % 2 ^ 16) 0
  | 0x20 => r.axlNext
  | 0x24 => at32 m.lostAxles.toNat 16 ||| at32 m.lostEvents.toNat 0
  | 0x28 => bitAt m.ethEnable 31 ||| at32 m.loopback.code 29 ||| at32 m.prefixLen.toNat 16
  | 0x2C => at32 m.lbResult.toNat 30 ||| bitAt m.link 29 ||| at32 m.ethMode.toNat 27
  | 0x30 => at32 m.rxErr.toNat 16 ||| at32 m.refused.toNat 0
  | 0x34 => m.ipv4
  | 0x38 => m.gw
  | 0x3C => at32 m.fwState.code 29 ||| bitAt (decide (s.stagedKind = 2)) 28 ||| at32 m.fwFail.toNat 24 ||| at32 m.fwLen 0
  | 0x40 => at32 m.holdBits 0
  | _ => 0

/-! ### A register (R330, R336) -/

def State.readerOf (s : State) : Reader → ReaderSt
  | .pewter => s.readers[0]
  | .interpreter => s.readers[1]

/-- The word that a register shows to a reader: one instant of it (R336). -/
def State.regWord (s : State) (rd : Reader) (a : RegAt) : Word :=
  let r := s.readerOf rd
  match a.blk with
  | .mod => s.modReg r a.off
  | .sup => s.supReg a.off
  | .prt => s.prtReg (Fin.ofNat 64 a.idx) a.off
  | .flt => s.fltReg (Fin.ofNat 128 a.idx) a.off
  | .brass => ((s.bank false).coef[Fin.ofNat 256 a.idx]).setWidth 32
  | .bronze => ((s.bank true).coef[Fin.ofNat 256 a.idx]).setWidth 32
  | .wdu => s.wduReg r (Fin.ofNat 64 a.idx) a.off
  | .cen => s.cenReg (Fin.ofNat 4 a.idx) a.off
  | .sec => s.secReg (Fin.ofNat 256 a.idx) a.off
  | .lnk => s.lnkReg (Fin.ofNat 8 a.idx) a.off
  | .tbs => s.tbsReg r a.off
  | .vi => s.viReg (Fin.ofNat 8 a.idx) a.off
  | .vo => s.voReg (Fin.ofNat 8 a.idx) a.off
  | .cmd => s.cmdReg a.off
  | .crc => s.crcReg r (Fin.ofNat 4 a.idx) a.off
  | .mgt => s.mgtReg r a.off
  | .tst => s.tstReg r a.off

/-- What a 32-bit read of an address returns: the register, 0 where none lies (R329). -/
def State.peek (s : State) (rd : Reader) (addr : Nat) : Word :=
  match decodeReg addr with
  | some a => s.regWord rd a
  | none => 0

/-- Bytes of an access width. -/
def Width.bytes : Width → Nat
  | .w8 => 1
  | .w16 => 2
  | .w32 => 4

/-- What an aligned read of any width returns (R330): the bytes at its address, offset 0 holding bits [31:24]. A read narrower than
32 bits does nothing else (R331). -/
def State.peekW (s : State) (rd : Reader) (addr : Nat) (wd : Width) : Word :=
  let bs := (toBytes 4 (s.peek rd (addr / 4 * 4)).toNat).drop (addr % 4)
  BitVec.ofNat 32 (ofBytes (bs.take wd.bytes))

end Sys2Proof.Machine
end

