-- ==== Sys2Proof/Machine/Access.lean ====
section
/-! DEFINITION. Accesses to the register space: reads with an effect, and Pewter's writes (R13, R313, R329 to R337). -/

namespace Sys2Proof.Machine
open Sys2Proof

/-- The reader can read: Pewter runs; the interpreter needs no Pewter. -/
def State.canRead (s : State) : Reader → Bool
  | .pewter => s.pewterOn
  | .interpreter => !s.inReset

def State.modReader (s : State) (rd : Reader) (f : ReaderSt → ReaderSt) : State :=
  { s with readers := upd s.readers (match rd with
      | .pewter => 0
      | .interpreter => 1) f }

/-! ### RC registers (R13, R331) -/

/-- A counter that a read clears keeps an increment of the same clock cycle. -/
def rcLeft {n : Nat} (inc : BitVec 4) (j : Nat) : BitVec n := if inc.getLsbD j then 1 else 0

/-- The RC fields of a register are cleared; bit j of `inc`: its RC field of place j, counted from the low end, is incremented
in the same cycle. A register without RC fields is unchanged. -/
def State.clearRc (s : State) (a : RegAt) (inc : BitVec 4) : State :=
  match a.blk, a.off with
  | .sup, 0x1C => { s with sup := { s.sup with cntLogic := rcLeft inc 1, cntField := rcLeft inc 0 } }
  | .prt, 0x24 => s.modPort (Fin.ofNat 64 a.idx) (fun p => { p with surgeCnt := rcLeft inc 0 })
  | .flt, 0x30 => s.modChan (Fin.ofNat 128 a.idx) (fun c => { c with satCnt := rcLeft inc 0 })
  | .flt, 0x34 => s.modChan (Fin.ofNat 128 a.idx) (fun c => { c with blindCnt := rcLeft inc 0 })
  | .wdu, 0x30 => s.modWdu (Fin.ofNat 64 a.idx) (fun w => { w with uncCnt := rcLeft inc 0 })
  | .lnk, 0x18 => s.modLink (Fin.ofNat 8 a.idx) (fun l => { l with errCrc := rcLeft inc 1, errSc := rcLeft inc 0 })
  | .lnk, 0x1C => s.modLink (Fin.ofNat 8 a.idx) (fun l => { l with errOld := rcLeft inc 1, errMissing := rcLeft inc 0 })
  | .lnk, 0x20 => s.modLink (Fin.ofNat 8 a.idx) (fun l =>
      { l with errFormat := rcLeft inc 3, errAge := rcLeft inc 2, errSync := rcLeft inc 1, errAddr := rcLeft inc 0 })
  | .lnk, 0x24 => s.modLink (Fin.ofNat 8 a.idx) (fun l => { l with relayDropped := rcLeft inc 0 })
  | .lnk, 0x28 => s.modLink (Fin.ofNat 8 a.idx) (fun l => { l with timeouts := rcLeft inc 0 })
  | .vo, 0x14 => s.modVo (Fin.ofNat 8 a.idx) (fun v => { v with discarded := rcLeft inc 0 })
  | .cmd, 0x14 => { s with cmd := { s.cmd with errTrailer := rcLeft inc 1, errRefused := rcLeft inc 0 } }
  | .cmd, 0x18 => { s with cmd := { s.cmd with repeatFull := rcLeft inc 1, repeatDup := rcLeft inc 0 } }
  | .cmd, 0x20 => { s with cmd := { s.cmd with voteExpired := rcLeft inc 2, voteNoThird := rcLeft inc 1, voteConfirm := rcLeft inc 0 } }
  | .crc, 0x28 => s.modCrc (Fin.ofNat 4 a.idx) (fun u => { u with mismatchCnt := rcLeft inc 0 })
  | .mgt, 0x24 => { s with mgt := { s.mgt with lostAxles := rcLeft inc 1, lostEvents := rcLeft inc 0 } }
  | .mgt, 0x30 => { s with mgt := { s.mgt with rxErr := rcLeft inc 1, refused := rcLeft inc 0 } }
  | _, _ => s

/-! ### Latching registers (R337) -/

/-- A read of a latching register latches its partners for the reader. -/
def State.latch (s : State) (a : RegAt) (r : ReaderSt) : ReaderSt :=
  match a.blk, a.off with
  | .wdu, 0x34 =>
    let n : Fin 64 := Fin.ofNat 64 a.idx
    let w := s.wdus[n]
    { r with
      lastrec1 := upd r.lastrec1 n (fun _ => w.recWord 1), lastrec2 := upd r.lastrec2 n (fun _ => w.recWord 2)
      lastrec3 := upd r.lastrec3 n (fun _ => w.recWord 3) }
  | .tbs, 0x0C => { r with timeLo := BitVec.ofNat 32 s.tb }
  | .crc, 0x10 => { r with crcResult := upd r.crcResult (Fin.ofNat 4 a.idx) (fun _ => lo32 (s.crcShown (Fin.ofNat 4 a.idx) (s.crc[Fin.ofNat 4 a.idx]).result)) }
  | .crc, 0x18 => { r with crcExpect := upd r.crcExpect (Fin.ofNat 4 a.idx) (fun _ => lo32 (s.crcShown (Fin.ofNat 4 a.idx) (s.crc[Fin.ofNat 4 a.idx]).expect)) }
  | .mod, 0x00C => { r with serialLo := Config.hwSerial.setWidth 32 }
  | .mod, 0x114 => { r with cfgAct := lo32 (State.imageCheck s.actShown) }
  | .mod, 0x11C => { r with cfgPrev := lo32 (State.imageCheck s.prevShown) }
  | .mod, 0x124 => { r with cfgSerial := lo32 (State.imageSerial s.actShown) }
  | .mod, 0x134 => { r with fwAct := lo32 s.fwCheckNow }
  | .mgt, 0x14 => { r with evtNext := BitVec.ofNat 32 s.mgt.evtNext }
  | .mgt, 0x1C => { r with axlNext := BitVec.ofNat 32 s.mgt.axlNext }
  | .tst, 0x18 => { r with tokenLo := lo32 ((s.tst.record.bind TestRecord.token).getD 0) }
  | _, _ => r

/-- An access that does not lie on a boundary of its own width (R330). -/
def unaligned (addr : Nat) (wd : Width) : Bool := decide (addr % wd.bytes ≠ 0)

/-- An unaligned access is refused and logged (R330): a read returns 0, with a bus error to Pewter's processor. -/
def State.refuseAccess (s : State) (rd : Reader) (wr : Bool) : State :=
  let s := if wr then s
    else s.modReader rd (fun r => { r with data := 0, busError := decide (rd = .pewter) })
  s.log 0x0B03 0xFFFF

/-- A 32-bit read: its value, then the effects of an RC or a latching register. A reserved or unmapped address reads as 0. -/
def State.read32 (s : State) (rd : Reader) (addr : Nat) (inc : BitVec 4) : State :=
  if unaligned addr .w32 then s.refuseAccess rd false
  else
    let v := s.peek rd addr
    match decodeReg addr with
    | none => s.modReader rd (fun r => { r with data := v, busError := false })
    | some a => (s.modReader rd (fun r => { s.latch a r with data := v, busError := false })).clearRc a inc

/-- RC_READ (R13, R331). -/
def execRcRead (rd : Reader) (addr : BitVec 20) (inc : BitVec 4) (s : State) : Out :=
  s.when (s.canRead rd) (fun s => s.read32 rd addr.toNat inc)

/-- LATCHING_READ (R337). -/
def execLatchingRead (rd : Reader) (addr : BitVec 20) (s : State) : Out :=
  s.when (s.canRead rd) (fun s => s.read32 rd addr.toNat 0)

/-! ### W1C registers (R332) -/

/-- The W1C bits of a register; 0 for one that has none. -/
def w1cMask (a : RegAt) : Word :=
  match a.blk, a.off with
  | .mod, 0x028 => 0xFF300000
  | .mod, 0x104 => 0x1FF
  | .sup, 0x04 => 0x3FF
  | .prt, 0x0C => 0x70FF8
  | .flt, 0x0C => 0x1F
  | .wdu, 0x14 => 0x1F
  | .cen, 0x08 => 0xFFF
  | .sec, 0x18 => 0x7FF
  | .lnk, 0x0C => 0x1FFF
  | .tbs, 0x08 => 0xF
  | .vi, 0x08 => 0xF
  | .vo, 0x08 => 0xF
  | .cmd, 0x0C => 0xFF
  | .crc, 0x24 => 1
  | .mgt, 0x04 => 0x7FF
  | .tst, 0x04 => 0x3F
  | _, _ => 0

/-- The fault word of a W1C register is changed. -/
def State.mapW1c (s : State) (a : RegAt) (f : Word → Word) : State :=
  match a.blk, a.off with
  | .mod, 0x028 =>
    let w := f s.irqWord
    { s with mdl := { s.mdl with irqCrc := BitVec.ofNat 8 (fieldNat w 24 8), irqCheck := BitVec.ofNat 2 (fieldNat w 20 2) } }
  | .mod, 0x104 => { s with img := { s.img with fault := f s.img.fault } }
  | .sup, 0x04 => { s with sup := { s.sup with fault := f s.sup.fault } }
  | .prt, 0x0C => s.modPort (Fin.ofNat 64 a.idx) (fun p => { p with fault := f p.fault })
  | .flt, 0x0C => s.modChan (Fin.ofNat 128 a.idx) (fun c => { c with fault := f c.fault })
  | .wdu, 0x14 => s.modWdu (Fin.ofNat 64 a.idx) (fun w => { w with fault := f w.fault })
  | .cen, 0x08 => s.modEngine (Fin.ofNat 4 a.idx) (fun g => { g with fault := f g.fault })
  | .sec, 0x18 => { s with secFault := upd s.secFault (Fin.ofNat 256 a.idx) f }
  | .lnk, 0x0C => s.modLink (Fin.ofNat 8 a.idx) (fun l => { l with fault := f l.fault })
  | .tbs, 0x08 => { s with tbs := { s.tbs with fault := f s.tbs.fault } }
  | .vi, 0x08 => s.modVi (Fin.ofNat 8 a.idx) (fun v => { v with fault := f v.fault })
  | .vo, 0x08 => s.modVo (Fin.ofNat 8 a.idx) (fun v => { v with fault := f v.fault })
  | .cmd, 0x0C => { s with cmd := { s.cmd with fault := f s.cmd.fault } }
  | .crc, 0x24 => s.modCrc (Fin.ofNat 4 a.idx) (fun u => { u with fault := (f (bitAt u.fault 0)).getLsbD 0 })
  | .mgt, 0x04 => { s with mgt := { s.mgt with fault := f s.mgt.fault } }
  | .tst, 0x04 => { s with tst := { s.tst with fault := f s.tst.fault } }
  | _, _ => s

/-- Bits written 1 are cleared, but for those that an event sets in the same clock cycle, `ev` (R13). -/
def w1cWord (mask v ev old : Word) : Word := (old &&& ~~~(v &&& mask)) ||| (ev &&& mask)

/-! ### Writes (R313, R329, R332, R333) -/

/-- MGT_ETH_CTRL is written: ENABLE, LOOPBACK and PREFIX are set; LOOPBACK 01b or 10b starts a loopback anew (R334), and with the
reserved 11b none runs (log 26). A port that is not enabled has no link. -/
def State.writeEthCtrl (s : State) (v : Word) : State :=
  let en := v.getLsbD 31
  let s := { s with mgt := { s.mgt with
    ethEnable := en, prefixLen := BitVec.ofNat 6 (fieldNat v 16 6)
    link := s.mgt.link && en, ethMode := if en then s.mgt.ethMode else 0 } }
  match fieldNat v 29 2 with
  | 0 => { s with mgt := { s.mgt with loopback := .none, loopNet := false } }
  | 1 => s.startEthLoop .mac false
  | 2 => s.startEthLoop .phy false
  | _ => { s with mgt := { s.mgt with loopback := .reserved, loopNet := false } }

/-- CEN_SLOT is written; the programs start at the next tick (R334). -/
def State.writeSlot (s : State) (e : Fin 4) (w : Word) : State :=
  s.modEngine e (fun g => { g with
    progB := BitVec.ofNat 8 (fieldNat w 8 8), progA := BitVec.ofNat 8 (fieldNat w 0 8), slotNew := true })

/-- A write to a register of a check-value unit that Pewter drives (R243). -/
def State.writeCrc (s : State) (u : Fin 4) (off : Nat) (v : Word) : State :=
  match off with
  | 0x00 => s.modCrc u (fun x => { x with algo := v.setWidth 2 })
  | 0x04 =>
    let s := if v.getLsbD 0 then s.modCrc u CrcUnit.start else s
    if v.getLsbD 1 then s.modCrc u CrcUnit.finish else s
  | 0x08 => s.modCrc u (fun x => x.feed (toBytes 4 v.toNat))
  | 0x0C => s.modCrc u (fun x => x.feed [v.setWidth 8])
  | _ => s

/-- A 32-bit write to a register without W1C bits: the destinations of Table 12-1, each field by its own code (R333); every other
write is discarded and logged (R313). -/
def State.writeReg (s : State) (addr : Nat) (a : RegAt) (v : Word) : State :=
  match a.blk with
  | .mgt =>
    match a.off with
    | 0x28 => s.writeEthCtrl v
    | 0x34 => { s with mgt := { s.mgt with ipv4 := v } }
    | 0x38 => { s with mgt := { s.mgt with gw := v } }
    | _ => s
  | .cen => if a.off = 0x30 then s.writeSlot (Fin.ofNat 4 a.idx) v else s.blocked addr
  | .crc => if a.idx < 2 then s.blocked addr else s.writeCrc (Fin.ofNat 4 a.idx) a.off v
  | _ => s.blocked addr

/-- A write by Pewter, with the bits that an event sets in the same cycle. A narrow write has no effect and is logged (R332). -/
def State.write (s : State) (addr : Nat) (v ev : Word) (wd : Width) : State :=
  if unaligned addr wd then s.refuseAccess .pewter true
  else if wd ≠ .w32 then s.blocked addr
  else
    match decodeReg addr with
    | none => s.blocked addr
    | some a => if w1cMask a ≠ 0 then s.mapW1c a (w1cWord (w1cMask a) v ev) else s.writeReg addr a v

/-- W1C_WRITE (R332, R13). -/
def execW1cWrite (addr : BitVec 20) (v ev : Word) (s : State) : Out :=
  s.when s.pewterOn (fun s => s.write addr.toNat v ev .w32)

/-- REGISTER_WRITE (R313, R329, R332 to R334). -/
def execRegisterWrite (addr : BitVec 20) (v : Word) (wd : Width) (s : State) : Out :=
  s.when s.pewterOn (fun s => s.write addr.toNat v 0 wd)

/-- CEN_SLOT_WRITE (R334). -/
def execCenSlotWrite (e : Fin 4) (w : Word) (s : State) : Out :=
  s.when s.pewterOn (fun s => s.writeSlot e w)

/-- UNALIGNED_ACCESS (R330). Only Pewter writes. -/
def execUnalignedAccess (rd : Reader) (addr : BitVec 20) (wd : Width) (wr : Bool) (s : State) : Out :=
  s.when (s.canRead rd && unaligned addr.toNat wd && !(wr && decide (rd = .interpreter))) (fun s => s.refuseAccess rd wr)

end Sys2Proof.Machine
end

