-- ==== Sys2Proof/Machine/Dispatch.lean ====
section
/-! DEFINITION. The dispatcher: one arm for each row of spec/opcode_table.json. -/

namespace Sys2Proof.Machine
open Sys2Proof

def exec (i : Instr) (s : State) : Host.Outcome State Fault Refusal :=
  match i with
  | .moduleResetRelease dt bootOk slotOk => Sys2Proof.Machine.execModuleResetRelease dt bootOk slotOk s
  | .startFieldStep dt => Sys2Proof.Machine.execStartFieldStep dt s
  | .startSequenceEnd dt => Sys2Proof.Machine.execStartSequenceEnd dt s
  | .tick m => Sys2Proof.Machine.execTick m s
  | .pendingExitExpiry sx => Sys2Proof.Machine.execPendingExitExpiry sx s
  | .frameCommit e token => Sys2Proof.Machine.execFrameCommit e token s
  | .frameFailure e k p v => Sys2Proof.Machine.execFrameFailure e k p v s
  | .tokenExpiry e => Sys2Proof.Machine.execTokenExpiry e s
  | .handoverFrame => Sys2Proof.Machine.execHandoverFrame s
  | .handoverSwitch => Sys2Proof.Machine.execHandoverSwitch s
  | .splitSlotsStart e => Sys2Proof.Machine.execSplitSlotsStart e s
  | .debugKeyEnd => Sys2Proof.Machine.execDebugKeyEnd s
  | .eccScrub word o => Sys2Proof.Machine.execEccScrub word o s
  | .referenceAbsent dt => Sys2Proof.Machine.execReferenceAbsent dt s
  | .rootPllOutOfLock dt => Sys2Proof.Machine.execRootPllOutOfLock dt s
  | .tickPeriodFault dt => Sys2Proof.Machine.execTickPeriodFault dt s
  | .timeBaseStep => Sys2Proof.Machine.execTimeBaseStep s
  | .timeBaseExtLoad => Sys2Proof.Machine.execTimeBaseExtLoad s
  | .laneSuperframe k ws => Sys2Proof.Machine.execLaneSuperframe k ws s
  | .laneResyncTimeout dt k => Sys2Proof.Machine.execLaneResyncTimeout dt k s
  | .laneReturnSyncReset k => Sys2Proof.Machine.execLaneReturnSyncReset k s
  | .returnLaneFailure dt r => Sys2Proof.Machine.execReturnLaneFailure dt r s
  | .returnLaneTimeout dt r => Sys2Proof.Machine.execReturnLaneTimeout dt r s
  | .returnLaneRestored dt r => Sys2Proof.Machine.execReturnLaneRestored dt r s
  | .supplyRampEnd dt n => Sys2Proof.Machine.execSupplyRampEnd dt n s
  | .sarConversion codes => Sys2Proof.Machine.execSarConversion codes s
  | .loopConditionDetected dt n q => Sys2Proof.Machine.execLoopConditionDetected dt n q s
  | .pointFailureEnd dt n => Sys2Proof.Machine.execPointFailureEnd dt n s
  | .codePeriodEnd => Sys2Proof.Machine.execCodePeriodEnd s
  | .portTestEligible dt n => Sys2Proof.Machine.execPortTestEligible dt n s
  | .runtimeTestStart dt => Sys2Proof.Machine.execRuntimeTestStart dt s
  | .runtimeTestWindowOpen dt => Sys2Proof.Machine.execRuntimeTestWindowOpen dt s
  | .runtimeTestSinkStep dt => Sys2Proof.Machine.execRuntimeTestSinkStep dt s
  | .runtimeTestSinkOff dt => Sys2Proof.Machine.execRuntimeTestSinkOff dt s
  | .runtimeTestSettle dt => Sys2Proof.Machine.execRuntimeTestSettle dt s
  | .runtimeTestComplete dt => Sys2Proof.Machine.execRuntimeTestComplete dt s
  | .runtimeTestCs2Start dt => Sys2Proof.Machine.execRuntimeTestCs2Start dt s
  | .runtimeTestOverdue dt n => Sys2Proof.Machine.execRuntimeTestOverdue dt n s
  | .surgeDetected dt n uA => Sys2Proof.Machine.execSurgeDetected dt n uA s
  | .surgeEnd dt n => Sys2Proof.Machine.execSurgeEnd dt n s
  | .surgeLong dt x => Sys2Proof.Machine.execSurgeLong dt x s
  | .lb0Step dt n => Sys2Proof.Machine.execLb0Step dt n s
  | .lb1Step dt n => Sys2Proof.Machine.execLb1Step dt n s
  | .portLoopbackEnd dt n => Sys2Proof.Machine.execPortLoopbackEnd dt n s
  | .modulatorOverload dt x => Sys2Proof.Machine.execModulatorOverload dt x s
  | .outputSample c words => Sys2Proof.Machine.execOutputSample c words s
  | .saturationEnd dt c => Sys2Proof.Machine.execSaturationEnd dt c s
  | .fadeComplete c => Sys2Proof.Machine.execFadeComplete c s
  | .scmFillEnd dt c => Sys2Proof.Machine.execScmFillEnd dt c s
  | .scmChangeover dt c => Sys2Proof.Machine.execScmChangeover dt c s
  | .syncResetSettled c => Sys2Proof.Machine.execSyncResetSettled c s
  | .lb2PhaseChange dt n => Sys2Proof.Machine.execLb2PhaseChange dt n s
  | .lb2End dt n => Sys2Proof.Machine.execLb2End dt n s
  | .lb3Run dt n => Sys2Proof.Machine.execLb3Run dt n s
  | .lb3End dt n => Sys2Proof.Machine.execLb3End dt n s
  | .laneEchoEnd dt k => Sys2Proof.Machine.execLaneEchoEnd dt k s
  | .pairedSample n => Sys2Proof.Machine.execPairedSample n s
  | .negativeDampingTimeout dt n y => Sys2Proof.Machine.execNegativeDampingTimeout dt n y s
  | .activeHoldEnd dt c => Sys2Proof.Machine.execActiveHoldEnd dt c s
  | .axleRecordDelivered n => Sys2Proof.Machine.execAxleRecordDelivered n s
  | .linkSyncAcquired dt k pairs => Sys2Proof.Machine.execLinkSyncAcquired dt k pairs s
  | .linkSyncLoss dt k bad => Sys2Proof.Machine.execLinkSyncLoss dt k bad s
  | .linkSlotStart k => Sys2Proof.Machine.execLinkSlotStart k s
  | .frameReceived dt k lineOk sof bytes => Sys2Proof.Machine.execFrameReceived dt k lineOk sof bytes s
  | .streamPeriodEnd dt t => Sys2Proof.Machine.execStreamPeriodEnd dt t s
  | .holdoverExpiry dt => Sys2Proof.Machine.execHoldoverExpiry dt s
  | .voteWindowEnd dt => Sys2Proof.Machine.execVoteWindowEnd dt s
  | .lbaEnd dt k errs delay ref => Sys2Proof.Machine.execLbaEnd dt k errs delay ref s
  | .lbfRun dt k crc sc => Sys2Proof.Machine.execLbfRun dt k crc sc s
  | .lbfNoSlot dt k => Sys2Proof.Machine.execLbfNoSlot dt k s
  | .lbrRequestTimeout dt k => Sys2Proof.Machine.execLbrRequestTimeout dt k s
  | .lbrLoopStart dt k => Sys2Proof.Machine.execLbrLoopStart dt k s
  | .lbrEnd dt k errs delay => Sys2Proof.Machine.execLbrEnd dt k errs delay s
  | .commandPacket dt p => Sys2Proof.Machine.execCommandPacket dt p s
  | .getStatus who => Sys2Proof.Machine.execGetStatus who s
  | .getSection who gid => Sys2Proof.Machine.execGetSection who gid s
  | .getAxles who gid first count list => Sys2Proof.Machine.execGetAxles who gid first count list s
  | .resetDirect who gid => Sys2Proof.Machine.execResetDirect who gid s
  | .resetPreparatory who gid => Sys2Proof.Machine.execResetPreparatory who gid s
  | .resetCancel who gid => Sys2Proof.Machine.execResetCancel who gid s
  | .faultAck who input => Sys2Proof.Machine.execFaultAck who input s
  | .cfgBegin who len => Sys2Proof.Machine.execCfgBegin who len s
  | .cfgBlock who off data => Sys2Proof.Machine.execCfgBlock who off data s
  | .cfgEnd who crc => Sys2Proof.Machine.execCfgEnd who crc s
  | .cfgVerificationEnd dt readBackOk => Sys2Proof.Machine.execCfgVerificationEnd dt readBackOk s
  | .cfgConfirm who check => Sys2Proof.Machine.execCfgConfirm who check s
  | .imageActivation => Sys2Proof.Machine.execImageActivation s
  | .cfgRevertDiscard who => Sys2Proof.Machine.execCfgRevertDiscard who s
  | .cfgRevertPrevious who => Sys2Proof.Machine.execCfgRevertPrevious who s
  | .stagedImageExpiry dt => Sys2Proof.Machine.execStagedImageExpiry dt s
  | .bankLoad who bank first coefs => Sys2Proof.Machine.execBankLoad who bank first coefs s
  | .bankLoadClose who bank crc => Sys2Proof.Machine.execBankLoadClose who bank crc s
  | .bankSwap who first last bank => Sys2Proof.Machine.execBankSwap who first last bank s
  | .presetSelect who first last sel mode => Sys2Proof.Machine.execPresetSelect who first last sel mode s
  | .syncReset who first last => Sys2Proof.Machine.execSyncReset who first last s
  | .engineSplit who src tgt => Sys2Proof.Machine.execEngineSplit who src tgt s
  | .engineJoin who e => Sys2Proof.Machine.execEngineJoin who e s
  | .debugAttach who e => Sys2Proof.Machine.execDebugAttach who e s
  | .debugDetach who e => Sys2Proof.Machine.execDebugDetach who e s
  | .selftestShutdown who windowed => Sys2Proof.Machine.execSelftestShutdown who windowed s
  | .selftestPort who n => Sys2Proof.Machine.execSelftestPort who n s
  | .loopbackSetLb0 who n => Sys2Proof.Machine.execLoopbackSetLb0 who n s
  | .loopbackSetLb1 who n => Sys2Proof.Machine.execLoopbackSetLb1 who n s
  | .loopbackSetLb2 who n => Sys2Proof.Machine.execLoopbackSetLb2 who n s
  | .loopbackSetLb3 who n => Sys2Proof.Machine.execLoopbackSetLb3 who n s
  | .loopbackSetEcho who k => Sys2Proof.Machine.execLoopbackSetEcho who k s
  | .loopbackSetLba who k => Sys2Proof.Machine.execLoopbackSetLba who k s
  | .loopbackSetLbf who k => Sys2Proof.Machine.execLoopbackSetLbf who k s
  | .loopbackSetLbr who k => Sys2Proof.Machine.execLoopbackSetLbr who k s
  | .timebaseStatus who => Sys2Proof.Machine.execTimebaseStatus who s
  | .logRead who log count first => Sys2Proof.Machine.execLogRead who log count first s
  | .fwStage who off data => Sys2Proof.Machine.execFwStage who off data s
  | .fwStageClose who len => Sys2Proof.Machine.execFwStageClose who len s
  | .fwStageVerifyEnd dt digestOk keyOk sigOk => Sys2Proof.Machine.execFwStageVerifyEnd dt digestOk keyOk sigOk s
  | .fwActivate who check => Sys2Proof.Machine.execFwActivate who check s
  | .firmwareActivation => Sys2Proof.Machine.execFirmwareActivation s
  | .crcStart u => Sys2Proof.Machine.execCrcStart u s
  | .crcData u w => Sys2Proof.Machine.execCrcData u w s
  | .crcDataB u b => Sys2Proof.Machine.execCrcDataB u b s
  | .crcFinish u => Sys2Proof.Machine.execCrcFinish u s
  | .inputRead a b => Sys2Proof.Machine.execInputRead a b s
  | .feedGap => Sys2Proof.Machine.execFeedGap s
  | .discrepancyTimeout dt ix => Sys2Proof.Machine.execDiscrepancyTimeout dt ix s
  | .discrepantEnd dt ix => Sys2Proof.Machine.execDiscrepantEnd dt ix s
  | .stuckDeclaration dt ix => Sys2Proof.Machine.execStuckDeclaration dt ix s
  | .evaluatorFault ix => Sys2Proof.Machine.execEvaluatorFault ix s
  | .evaluatorFaultEnd dt ix => Sys2Proof.Machine.execEvaluatorFaultEnd dt ix s
  | .feedFaultEnd ix => Sys2Proof.Machine.execFeedFaultEnd ix s
  | .pressReportEnd dt ix => Sys2Proof.Machine.execPressReportEnd dt ix s
  | .outputReadbackFault dt j => Sys2Proof.Machine.execOutputReadbackFault dt j s
  | .overcurrentTrip dt j => Sys2Proof.Machine.execOvercurrentTrip dt j s
  | .overcurrentTripEnd dt j => Sys2Proof.Machine.execOvercurrentTripEnd dt j s
  | .offPulseTestStart j => Sys2Proof.Machine.execOffPulseTestStart j s
  | .offPulseWindowClose dt j => Sys2Proof.Machine.execOffPulseWindowClose dt j s
  | .offPulseCheck dt j => Sys2Proof.Machine.execOffPulseCheck dt j s
  | .restartButtonPress dt => Sys2Proof.Machine.execRestartButtonPress dt s
  | .restartButtonRelease dt => Sys2Proof.Machine.execRestartButtonRelease dt s
  | .railWarning dt r upper reading => Sys2Proof.Machine.execRailWarning dt r upper reading s
  | .railRecovering dt r reading => Sys2Proof.Machine.execRailRecovering dt r reading s
  | .railNormal dt r => Sys2Proof.Machine.execRailNormal dt r s
  | .logicRailReset dt core upper => Sys2Proof.Machine.execLogicRailReset dt core upper s
  | .fieldBusCutoff dt above => Sys2Proof.Machine.execFieldBusCutoff dt above s
  | .cutoffRelease dt reading => Sys2Proof.Machine.execCutoffRelease dt reading s
  | .portStage dt => Sys2Proof.Machine.execPortStage dt s
  | .fieldReadingDeviation dt n => Sys2Proof.Machine.execFieldReadingDeviation dt n s
  | .inputLow => Sys2Proof.Machine.execInputLow s
  | .testSegmentEnd dt result => Sys2Proof.Machine.execTestSegmentEnd dt result s
  | .selftestFirstSegment dt => Sys2Proof.Machine.execSelftestFirstSegment dt s
  | .testPauseEnd dt => Sys2Proof.Machine.execTestPauseEnd dt s
  | .pewterWatchdog dt => Sys2Proof.Machine.execPewterWatchdog dt s
  | .pewterRestartComplete dt => Sys2Proof.Machine.execPewterRestartComplete dt s
  | .sensorSample dt tCore tMgt tInlet humidity => Sys2Proof.Machine.execSensorSample dt tCore tMgt tInlet humidity s
  | .sensorWarning dt q => Sys2Proof.Machine.execSensorWarning dt q s
  | .sensorWarningEnd dt q => Sys2Proof.Machine.execSensorWarningEnd dt q s
  | .recorderPageWrite dt axles fate => Sys2Proof.Machine.execRecorderPageWrite dt axles fate s
  | .axleEntryWritten n => Sys2Proof.Machine.execAxleEntryWritten n s
  | .holdCopy dt slot => Sys2Proof.Machine.execHoldCopy dt slot s
  | .mgtCommand dt ep bytes => Sys2Proof.Machine.execMgtCommand dt ep bytes s
  | .sessionOpen dt ep => Sys2Proof.Machine.execSessionOpen dt ep s
  | .sessionClose dt ep id => Sys2Proof.Machine.execSessionClose dt ep id s
  | .recorderRead dt ep num => Sys2Proof.Machine.execRecorderRead dt ep num s
  | .clockSet dt ep utc => Sys2Proof.Machine.execClockSet dt ep utc s
  | .hold dt ep inst => Sys2Proof.Machine.execHold dt ep inst s
  | .release dt ep slot => Sys2Proof.Machine.execRelease dt ep slot s
  | .fwRestart dt ep bootOk => Sys2Proof.Machine.execFwRestart dt ep bootOk s
  | .netSet dt ep addr plen gw => Sys2Proof.Machine.execNetSet dt ep addr plen gw s
  | .clientTimeout dt id => Sys2Proof.Machine.execClientTimeout dt id s
  | .sessionTimeout dt id => Sys2Proof.Machine.execSessionTimeout dt id s
  | .ethLoopbackMac dt net => Sys2Proof.Machine.execEthLoopbackMac dt net s
  | .ethLoopbackPhy dt net => Sys2Proof.Machine.execEthLoopbackPhy dt net s
  | .ethLoopbackEnd dt back => Sys2Proof.Machine.execEthLoopbackEnd dt back s
  | .cenSlotWrite e w => Sys2Proof.Machine.execCenSlotWrite e w s
  | .rcRead rd addr inc => Sys2Proof.Machine.execRcRead rd addr inc s
  | .latchingRead rd addr => Sys2Proof.Machine.execLatchingRead rd addr s
  | .w1cWrite addr v ev => Sys2Proof.Machine.execW1cWrite addr v ev s
  | .registerWrite addr v wd => Sys2Proof.Machine.execRegisterWrite addr v wd s
  | .unalignedAccess rd addr wd wr => Sys2Proof.Machine.execUnalignedAccess rd addr wd wr s
  | .tapInstruction dt op => Sys2Proof.Machine.execTapInstruction dt op s
  | .laneWordFault dt k chk => Sys2Proof.Machine.execLaneWordFault dt k chk s
  | .outputReadbackSample dt j volt curr => Sys2Proof.Machine.execOutputReadbackSample dt j volt curr s
  | .powerOn dt => Sys2Proof.Machine.execPowerOn dt s
  | .ethernetFrame dt f => Sys2Proof.Machine.execEthernetFrame dt f s
  | .ethernetLinkChange dt p => Sys2Proof.Machine.execEthernetLinkChange dt p s
  | .selftestAbortComplete dt => Sys2Proof.Machine.execSelftestAbortComplete dt s

end Sys2Proof.Machine
end

