-- ==== Sys2Proof/Safety.lean ====
section
/-! DEFINITION. The words in which statements speak of a step: what every step keeps, what a command leaves unchanged, and
what logging a fault writes. -/

namespace Sys2Proof.Machine

/-- The addressed buffers keep their canonical form. -/
def State.memOk (s : State) : Bool := Memory.wf s.img.loadBuf && Memory.wf s.mgt.fwStore

/-- Every element but element `i` is the same. -/
def OthersSame {α : Type} {n : Nat} (v w : Vector α n) (i : Fin n) : Prop := ∀ k : Fin n, k ≠ i → w[k] = v[k]

/-- `t` is `s` but for what logging faults and events writes: Pewter's queue with its counters (R314), MGT_FAULT, holds that
a fault opens (R321), and MOD_FAULT_LAST (R340). -/
def State.SameButLog (s t : State) : Prop :=
  t = { s with
    mdl := { s.mdl with faultLast := t.mdl.faultLast }
    mgt := { s.mgt with queue := t.mgt.queue, dropped := t.mgt.dropped, lostEvents := t.mgt.lostEvents,
                        fault := t.mgt.fault, holds := t.mgt.holds } }

/-- MOD_FAULT_LAST shows the code and the object of a fault (R340, R363). -/
def State.lastFault (t : State) (code obj : Nat) : Prop :=
  t.mdl.faultLast = BitVec.ofNat 32 (code * 65536 + obj)

/-- An event entry with this code, object and detail stands at the tail of Pewter's queue (R314, R323). -/
def State.queuedLast (s t : State) (code obj : Nat) : Prop :=
  t.mgt.queue = s.mgt.queue ++ [.event { ts := s.stamp, code := BitVec.ofNat 16 code, obj := BitVec.ofNat 16 obj, detail := 0 }]

/-- Every engine's journal of vital input events gains `ev`, and nothing else of an engine changes (R156, R159): the journal that
the coming tick samples, or, from that tick's instant on, the one of the tick after it (R19). -/
def State.viPosted (s t : State) (ev : ViEv) : Prop :=
  ∀ e : Fin 4, t.engines[e] = (s.engines[e]).post s.late (fun j => { j with vis := j.vis ++ [ev] })

/-- Every engine's journal of point events gains `ev`, and nothing else of an engine changes. -/
def State.pointPosted (s t : State) (ev : PointEv) : Prop :=
  ∀ e : Fin 4, t.engines[e] = (s.engines[e]).post s.late (fun j => { j with points := j.points ++ [ev] })

/-- Every engine's journal of link events gains `ev`, and nothing else of an engine changes. -/
def State.linkPosted (s t : State) (ev : LinkEv) : Prop :=
  ∀ e : Fin 4, t.engines[e] = (s.engines[e]).post s.late (fun j => { j with links := j.links ++ [ev] })

/-- One read of a contact whose state `c` becomes `c'` (R247 to R249): outside its own gap, a definite level `x` that both
evaluators see changes a known state at the fourth such read in a row and at no other, and a level equal to the state ends
the count; a gap read, or one on which the evaluators disagree, leaves state and count. -/
def Contact.ReadRule (c c' : Contact) (gap : Bool) (r : ContactRead) : Prop :=
  (∀ x : Bool, c.known = true → gap = false → r.evA = (if x then .closed else .opened) → r.evB = r.evA →
    (x ≠ c.closed → 3 ≤ c.run → c.runVal = x → c'.closed = x) ∧
    (x = c.closed ∨ c.run < 3 ∨ c.runVal ≠ x → c'.closed = c.closed) ∧
    (x = c.closed → c'.run = 0)) ∧
  (gap = true ∨ (r.evA = .closed ∧ r.evB = .opened) ∨ (r.evA = .opened ∧ r.evB = .closed) →
    c'.closed = c.closed ∧ c'.known = c.known ∧ c'.run = c.run)

/-- Module reset has been asserted over `s` with this cause (R262, R292, R338, Table 13-3): engines, links, outputs, inputs,
ports, channels, wheel detection units, lanes, check-value units, interpreter and time base stand at their reset values, the
inputs in the state that begins now; the image slots, the rings and holds of the recorder, the waiting commands and the instant
are kept. -/
def State.resetAsserted (s t : State) (cause : ResetCause) : Prop :=
  t.mdl.phase = .held ∧ t.mdl.resetCause = cause ∧ t.causes = [.start] ∧
  t.engines = State.reset.engines ∧ t.links = State.reset.links ∧ t.vos = State.reset.vos ∧
  t.vis = Vector.replicate 8 { since := s.now } ∧
  t.ports = State.reset.ports ∧ t.chans = State.reset.chans ∧ t.wdus = State.reset.wdus ∧ t.lanes = State.reset.lanes ∧
  t.crc = State.reset.crc ∧ t.cmd = {} ∧ t.tbs = {} ∧ t.rt = none ∧
  t.img.active = none ∧ t.img.slot = s.img.slot ∧ t.img.previous = s.img.previous ∧ t.img.staged = none ∧
  t.mgt.evtRing = s.mgt.evtRing ∧ t.mgt.axlRing = s.mgt.axlRing ∧ t.mgt.holds = s.mgt.holds ∧ t.mgt.queue = [] ∧
  t.pending = s.pending ∧ t.now = s.now

/-- The source, the operation and the parameter bytes of a command that its own row gives (Table 8-8); none for a row that is
no opcode. -/
def asOp : Instr → Option (Who × Op × List Byte)
  | .getStatus w => some (w, .getStatus, [])
  | .getSection w g => some (w, .getSection g, [])
  | .getAxles w g f n l => some (w, .getAxles g f n l, [])
  | .resetDirect w g => some (w, .resetDirect g, [])
  | .resetPreparatory w g => some (w, .resetPreparatory g, [])
  | .resetCancel w g => some (w, .resetCancel g, [])
  | .faultAck w i => some (w, .faultAck i, [])
  | .cfgBegin w len => some (w, .cfgBegin len, [])
  | .cfgBlock w off d => some (w, .cfgBlock off d, [])
  | .cfgEnd w crc => some (w, .cfgEnd crc, [])
  | .cfgConfirm w v => some (w, .cfgConfirm v, [])
  | .cfgRevertDiscard w => some (w, .cfgRevert 0, [])
  | .cfgRevertPrevious w => some (w, .cfgRevert 1, [])
  | .bankLoad w b f l => some (w, .bankLoad b f l, [])
  | .bankLoadClose w b crc => some (w, .bankClose b crc, [])
  | .bankSwap w a z b => some (w, .bankSwap a z b, [])
  | .presetSelect w a z q m => some (w, .presetSelect a z q m, [])
  | .syncReset w a z => some (w, .syncReset a z, [])
  | .engineSplit w a b => some (w, .engineSplit a b, [])
  | .engineJoin w e => some (w, .engineJoin e, [])
  | .debugAttach w e => some (w, .debugAttach e, [])
  | .debugDetach w e => some (w, .debugDetach e, [])
  | .selftestShutdown w x => some (w, .selftestShutdown x, [])
  | .selftestPort w n => some (w, .selftestPort n, [])
  | .loopbackSetLb0 w n => some (w, .loopback 0 (BitVec.ofNat 8 n.val) 0, [0, BitVec.ofNat 8 n.val, 0])
  | .loopbackSetLb1 w n => some (w, .loopback 0 (BitVec.ofNat 8 n.val) 1, [0, BitVec.ofNat 8 n.val, 1])
  | .loopbackSetLb2 w n => some (w, .loopback 0 (BitVec.ofNat 8 n.val) 2, [0, BitVec.ofNat 8 n.val, 2])
  | .loopbackSetLb3 w n => some (w, .loopback 0 (BitVec.ofNat 8 n.val) 3, [0, BitVec.ofNat 8 n.val, 3])
  | .loopbackSetEcho w k => some (w, .loopback 1 (BitVec.ofNat 8 k.val) 0, [1, BitVec.ofNat 8 k.val, 0])
  | .loopbackSetLba w k => some (w, .loopback 2 (BitVec.ofNat 8 k.val) 0, [2, BitVec.ofNat 8 k.val, 0])
  | .loopbackSetLbf w k => some (w, .loopback 2 (BitVec.ofNat 8 k.val) 1, [2, BitVec.ofNat 8 k.val, 1])
  | .loopbackSetLbr w k => some (w, .loopback 2 (BitVec.ofNat 8 k.val) 2, [2, BitVec.ofNat 8 k.val, 2])
  | .timebaseStatus w => some (w, .timebaseStatus, [])
  | .logRead w l n f => some (w, .logRead l n f, [])
  | .fwStage w off d => some (w, .fwStage off d, [])
  | .fwStageClose w len => some (w, .fwStageClose len, [])
  | .fwActivate w v => some (w, .fwActivate v, [])
  | _ => none

/-- A command that its row gives passes every check that comes before the operation's own (R197, R227, R234 to R238,
Table 8-6): its class is admitted, no shutdown self-test and no missing engine bars it, an image is there where it needs one,
and the key of a class T source is ACCEPTED. -/
def State.admits (s : State) (w : Who) (o : Op) (ps : List Byte) : Prop :=
  s.inReset = false ∧ classAdmits w.class o.code ps = true ∧ (s.testing = false ∨ isRead o.code = true) ∧
  (w ≠ .lanes true ∨ isRead o.code = true) ∧
  (o.onAdmission = true → s.pewterOn = true ∨ o.code.toNat ∈ [0x01, 0x02, 0x03, 0x60]) ∧
  (o.onAdmission = false → (s.executor o).isSome = true) ∧
  s.precheck { who := w, op := o, ref := .none } s.snap = none

/-- `t` is `s` but for the reply of a command that its row gives, `r`, and the log (R226, R323). -/
def State.answered (s t : State) (r : Result) : Prop :=
  ({ s with cmd := { s.cmd with lastReply := some r } } : State).SameButLog t

/-- The image of an engine's open frame after these journals, from the checkpoint on (R154, R159). -/
def Engine.imageAfter (cfg : Cfg) (image : Bool) (js : List Journal) (g : Engine) : Img :=
  (js.foldl (Work.run cfg image) { img := g.committed }).img

/-- The open frame of an engine fails by `k`, on an engine that goes on (R167, R168): the frame is lost, counted and logged; the
checkpoint, the mode and the token stand. -/
def State.frameLost (s t : State) (e : Fin 4) (k : FrameFail) : Prop :=
  OthersSame s.engines t.engines e ∧ ({ s with engines := t.engines, vos := t.vos } : State).SameButLog t ∧
  (t.engines[e]).work = none ∧ (t.engines[e]).delay = [] ∧ (t.engines[e]).fails = (s.engines[e]).fails + 1 ∧
  (t.engines[e]).mode = (s.engines[e]).mode ∧ (t.engines[e]).token = (s.engines[e]).token ∧
  (t.engines[e]).committed = (s.engines[e]).committed ∧ (t.engines[e]).sampled = (s.engines[e]).sampled ∧
  (t.engines[e]).restartCnt = satInc (s.engines[e]).restartCnt ∧ (t.engines[e]).restartKind = k.row.2.2 ∧
  (t.engines[e]).fault = setBit (s.engines[e]).fault k.row.1 ∧ t.lastFault k.row.2.1 e.val

/-- The open frame of an engine fails and the engine halts (R167, R169): its token is dead, the halt image is due, and the outputs
of its sections are open. -/
def State.frameHalts (s t : State) (e : Fin 4) (k : FrameFail) : Prop :=
  OthersSame s.engines t.engines e ∧ ({ s with engines := t.engines, vos := t.vos } : State).SameButLog t ∧
  (t.engines[e]).work = none ∧ (t.engines[e]).mode = .halted ∧ (t.engines[e]).token = false ∧
  (t.engines[e]).haltDue = true ∧ (t.engines[e]).haltAt = (s.engines[e]).frame ∧
  (t.engines[e]).committed = (s.engines[e]).committed ∧
  (t.engines[e]).fault = setBit (setBit (s.engines[e]).fault k.row.1) 7 ∧ t.lastFault 0x0605 e.val ∧
  (∀ j : Fin 8, s.publisher (s.voSection j) = some e → (t.vos[j]).closed = false)

/-- Only link `k` changes, to `l`, and a fault of the link is logged (R191: a dropped frame has no other effect). -/
def State.onlyLink (s t : State) (k : Fin 8) (l : Link) (code : Nat) : Prop :=
  OthersSame s.links t.links k ∧ ({ s with links := t.links } : State).SameButLog t ∧ t.links[k] = l ∧ t.lastFault code k.val

/-- Pewter's queue has a free place and nothing dropped waits to be reported (R314). -/
def State.hasRoom (s : State) : Prop := s.mgt.dropped = 0 ∧ s.mgt.queue.length < 4096

/-- The RC fields of a register, lowest bit and width, from the low end (Tables of 2 to 12). -/
def rcFields (a : RegAt) : List (Nat × Nat) :=
  match a.blk, a.off with
  | .sup, 0x1C => [(0, 16), (16, 16)]
  | .prt, 0x24 => [(0, 16)]
  | .flt, 0x30 => [(0, 16)]
  | .flt, 0x34 => [(0, 16)]
  | .wdu, 0x30 => [(0, 16)]
  | .lnk, 0x18 => [(0, 16), (16, 16)]
  | .lnk, 0x1C => [(0, 16), (16, 16)]
  | .lnk, 0x20 => [(0, 8), (8, 8), (16, 8), (24, 8)]
  | .lnk, 0x24 => [(0, 16)]
  | .lnk, 0x28 => [(0, 16)]
  | .vo, 0x14 => [(0, 16)]
  | .cmd, 0x14 => [(0, 16), (16, 16)]
  | .cmd, 0x18 => [(0, 16), (16, 16)]
  | .cmd, 0x20 => [(0, 16), (16, 8), (24, 8)]
  | .crc, 0x28 => [(0, 16)]
  | .mgt, 0x24 => [(0, 16), (16, 16)]
  | .mgt, 0x30 => [(0, 16), (16, 16)]
  | _, _ => []

/-- Table 13-2: the addresses that a read of a latching register latches, each with the value that its register has then (R130,
R222, R245, R282, R312, R327, R342). -/
def State.latched (s : State) (hi : Nat) : List (Nat × Word) :=
  match decodeReg hi with
  | some ⟨.wdu, n, 0x34⟩ =>
    let w (k : Fin 4) : Word := if s.assigned (Fin.ofNat 64 n) then (s.wdus[Fin.ofNat 64 n]).recWord k else 0
    [(hi + 4, w 1), (hi + 8, w 2), (hi + 12, w 3)]
  | some ⟨.tbs, _, 0x0C⟩ => [(hi + 4, BitVec.ofNat 32 s.tb)]
  | some ⟨.crc, u, 0x10⟩ => [(hi + 4, lo32 (s.crcShown (Fin.ofNat 4 u) (s.crc[Fin.ofNat 4 u]).result))]
  | some ⟨.crc, u, 0x18⟩ => [(hi + 4, lo32 (s.crcShown (Fin.ofNat 4 u) (s.crc[Fin.ofNat 4 u]).expect))]
  | some ⟨.mod, _, 0x00C⟩ => [(hi + 4, Config.hwSerial.setWidth 32)]
  | some ⟨.mod, _, 0x114⟩ => [(hi + 4, lo32 (State.imageCheck s.actShown))]
  | some ⟨.mod, _, 0x11C⟩ => [(hi + 4, lo32 (State.imageCheck s.prevShown))]
  | some ⟨.mod, _, 0x124⟩ => [(hi + 4, lo32 (State.imageSerial s.actShown))]
  | some ⟨.mod, _, 0x134⟩ => [(hi + 4, lo32 s.fwCheckNow)]
  | some ⟨.mgt, _, 0x14⟩ => [(hi + 4, BitVec.ofNat 32 s.mgt.evtNext)]
  | some ⟨.mgt, _, 0x1C⟩ => [(hi + 4, BitVec.ofNat 32 s.mgt.axlNext)]
  | some ⟨.tst, _, 0x18⟩ => [(hi + 4, lo32 ((s.tst.record.bind TestRecord.token).getD 0))]
  | _ => []

/-- A latched register of Table 13-2. -/
def isLatched (a : RegAt) : Bool :=
  match a.blk, a.off with
  | .wdu, 0x38 => true
  | .wdu, 0x3C => true
  | .wdu, 0x40 => true
  | .tbs, 0x10 => true
  | .crc, 0x14 => true
  | .crc, 0x1C => true
  | .mod, 0x010 => true
  | .mod, 0x118 => true
  | .mod, 0x120 => true
  | .mod, 0x128 => true
  | .mod, 0x138 => true
  | .mgt, 0x18 => true
  | .mgt, 0x20 => true
  | .tst, 0x1C => true
  | _, _ => false

/-- What a step keeps besides the canonical form of the buffers: Pewter's queue never holds more than 4,096 entries (R314). -/
def State.Inv (s : State) : Prop := s.memOk = true ∧ s.mgt.queue.length ≤ 4096

/-- A write that the filter discards has no effect but its report: 0B01h with the address in the event detail, and
WRITE_BLOCKED (R313). -/
def State.writeBlocked (s t : State) (addr : Nat) : Prop :=
  s.SameButLog t ∧ t.lastFault 0x0B01 0xFFFF ∧ t.mgt.fault.getLsbD 0 = true ∧
  (s.hasRoom → t.mgt.queue = s.mgt.queue ++
    [.event { ts := s.stamp, code := 0x0B01, obj := 0xFFFF, detail := BitVec.ofNat 48 addr }])

end Sys2Proof.Machine
end

