-- ==== Sys2Proof/Certificates/Slice0/Obligations.lean ====
section
/-! DEFINITION. The statements for the provers, family by family. -/

open Sys2Proof Sys2Proof.Machine

/-! ### The queue, reset, and what every step keeps (R22, R181, R314, R335, R338, R340, R367) -/

/-- A step takes the command at the front of the queue and runs it on the state with the queue's rest; an empty queue idles,
which is the model's choice (log 1). -/
def Obligations.StepRunsFrontCommand : Prop :=
  (∀ (s : State) (c : Instr) (rest : List Instr), s.pending = c :: rest → step s = exec c { s with pending := rest }) ∧
  (∀ s : State, s.pending = [] → step s = .next s)

/-- R14, R22, R171, R256, R338, R367: right after power-on module reset is asserted, the time base stands at 0, no image is
active, previous or staged and every CFG register reads as without an image, no test record is kept, every engine is without
a token, every output switch is open, no fault bit is set, and every section is UNPROVEN for WHY 000b. -/
def Obligations.ResetValues : Prop :=
  State.reset.inReset = true ∧ State.reset.tb = 0 ∧ State.reset.cfg = Cfg.reset ∧
  State.reset.img.active = none ∧ State.reset.img.slot = none ∧ State.reset.img.previous = none ∧ State.reset.img.staged = none ∧
  State.reset.tst.record = none ∧ State.reset.causes = [.start] ∧ State.reset.pending = [] ∧
  State.reset.mdl.btnStuck = false ∧ State.reset.mdl.btnHold = 0 ∧ State.reset.mdl.btnResets = 0 ∧
  (∀ e : Fin 4, (State.reset.engines[e]).token = false ∧ (State.reset.engines[e]).published.secs = [] ∧
    (State.reset.engines[e]).work = none ∧ (State.reset.engines[e]).done = none) ∧
  (∀ j : Fin 8, (State.reset.vos[j]).hs = false ∧ (State.reset.vos[j]).ls = false ∧ (State.reset.vos[j]).demand = false) ∧
  (∀ i : Fin 8, (State.reset.vis[i]).state = .unknown) ∧
  State.reset.faultSum = 0 ∧ State.reset.mdl.faultLast = 0 ∧ State.reset.mgt.ipv4 = 0xC0A80A0A ∧
  State.reset.mgt.prefixLen = 24

/-- The state after reset meets the invariant of the steps. -/
def Obligations.ResetMeetsInvariant : Prop :=
 State.reset.Inv

/-- Every command, from every state, keeps the load buffer and the staging store in their canonical form and Pewter's queue
within its 4,096 entries (R314). -/
def Obligations.StepKeepsInvariant : Prop :=
  ∀ s t : State, s.Inv → step s = .next t → t.Inv

/-- R264, R265, R276, R279, R335: no command but the activation of an image, the release of module reset, which loads it from the
slot, and the test segment after which the start check finds a difference, changes the ACTIVE image, and with it the CFG fields; one
that asserts module reset takes it out of force until the next start, and the slot keeps its content. -/
def Obligations.ConfigurationChangesAtActivation : Prop :=
  ∀ (c : Instr) (s t : State), c ≠ .imageActivation → (∀ (dt : Nat) (a b : Bool), c ≠ .moduleResetRelease dt a b) →
    (∀ (dt : Nat) (r : Word), c = .testSegmentEnd dt r → s.img.slotBad = false) →
    exec c s = .next t → t.img.slot = s.img.slot ∧
      ((t.img.active = s.img.active ∧ t.cfg = s.cfg) ∨ (t.inReset = true ∧ t.img.active = none ∧ t.cfg = Cfg.reset))

/-! ### Check-value units (R241 to R243) -/

/-- R243: each of Pewter's four writes to unit 2 or 3 has its effect on that unit alone; R242: on unit 0 or 1 the filter
discards it with fault 0B01h. -/
def Obligations.CheckUnitWritesByPewter : Prop :=
  (∀ (s : State) (u : Fin 4), s.pewterOn = true → 2 ≤ u.val →
    (∃ t, exec (.crcStart u) s = .next t ∧ t = { s with crc := t.crc } ∧ OthersSame s.crc t.crc u ∧
      t.crc[u] = { s.crc[u] with acc := crcInit s.crc[u].algo, bytes := 0 }) ∧
    (∀ w, ∃ t, exec (.crcData u w) s = .next t ∧ t = { s with crc := t.crc } ∧ OthersSame s.crc t.crc u ∧
      t.crc[u] = { s.crc[u] with
        acc := (toBytes 4 w.toNat).foldl (crcFeed s.crc[u].algo) s.crc[u].acc, bytes := satAdd s.crc[u].bytes 4 }) ∧
    (∀ b, ∃ t, exec (.crcDataB u b) s = .next t ∧ t = { s with crc := t.crc } ∧ OthersSame s.crc t.crc u ∧
      t.crc[u] = { s.crc[u] with acc := crcFeed s.crc[u].algo s.crc[u].acc b, bytes := satAdd s.crc[u].bytes 1 }) ∧
    (∃ t, exec (.crcFinish u) s = .next t ∧ t = { s with crc := t.crc } ∧ OthersSame s.crc t.crc u ∧
      t.crc[u] = { s.crc[u] with result := crcDone s.crc[u].algo s.crc[u].acc })) ∧
  (∀ (s : State) (u : Fin 4) (w : Word) (b : Byte), s.pewterOn = true → u.val < 2 →
    ∀ c ∈ [Instr.crcStart u, .crcData u w, .crcDataB u b, .crcFinish u],
      ∃ t, exec c s = .next t ∧ s.SameButLog t ∧ t.lastFault 0x0B01 0xFFFF)

/-- R241, R243, Table 8-10: START, any bytes through CRC_DATA_B and FINISH, one command after the other from the queue,
leave the CRC-32C of the bytes in the result of a unit set to it. -/
def Obligations.CheckUnitGivesCrc32cOfBytes : Prop :=
  ∀ (s : State) (u : Fin 4) (bs : List Byte) (rest : List Instr),
    s.pewterOn = true → 2 ≤ u.val → s.crc[u].algo = 2 →
    s.pending = .crcStart u :: (bs.map (Instr.crcDataB u) ++ .crcFinish u :: rest) →
    ∃ t, Host.Core.run core (bs.length + 2) s = .next t ∧ t.pending = rest ∧
      t.crc[u].result = (crc32c bs).setWidth 64 ∧ t = { s with crc := t.crc, pending := rest } ∧
      OthersSame s.crc t.crc u

/-! ### Vital inputs (R246 to R255) -/

/-- R247, R248, R249: the input read of a frame, 125 µs after its tick, follows `Contact.ReadRule` on both contacts of every
input. Nothing but the clock, the inputs, the engines' journals of input events and the fault log changes; a second read in
the same frame does not happen. FEED_GAP opens the gap of contact A of VIi where N mod 400 = 25 i, of contact B where
N mod 400 = 25 i + 200, and of no other. -/
def Obligations.InputReadDebouncesContacts : Prop :=
  (∀ (s : State) (a b : Vector ContactRead 8), s.inReset = false → s.clk.inputRead ≠ some s.clk.tickAt →
    ∃ t, exec (.inputRead a b) s = .next t ∧
      t.clk = { s.clk with elapsed := max s.clk.elapsed (s.clk.tickAt + 125000), inputRead := some s.clk.tickAt } ∧
      ({ s with clk := t.clk, vis := t.vis, engines := t.engines } : State).SameButLog t ∧
      (∃ evs : List ViEv, ∀ e : Fin 4, t.engines[e] = (s.engines[e]).post t.late (fun j => { j with vis := j.vis ++ evs })) ∧
      ∀ i : Fin 8, Contact.ReadRule (s.vis[i]).a (t.vis[i]).a (s.vis[i]).gapA a[i] ∧
        Contact.ReadRule (s.vis[i]).b (t.vis[i]).b (s.vis[i]).gapB b[i]) ∧
  (∀ (s : State) (a b : Vector ContactRead 8), s.clk.inputRead = some s.clk.tickAt → exec (.inputRead a b) s = .next s) ∧
  (∀ s : State, s.inReset = false →
    ∃ t, exec .feedGap s = .next t ∧ t = { s with clk := t.clk, vis := t.vis } ∧
      t.clk = { s.clk with elapsed := max s.clk.elapsed (s.clk.tickAt + 50000) } ∧
      ∀ i : Fin 8, t.vis[i] = { s.vis[i] with
        gapA := decide (s.clk.tickTb / 250000 % 400 = 25 * i.val)
        gapB := decide (s.clk.tickTb / 250000 % 400 = 25 * i.val + 200) })

/-- R250, R253: a TRANSITION that an input read finds as old as DISC becomes DISCREPANT, and 10 s of ACTIVE of a press input
are a stuck declaration; each logs its fault, 0901h or 0902h, and puts a press input in reset fault, which the engines hear.
DISCREPANT ends for INACTIVE after 1 s of the rest position, which the engines hear for a level input.
R247, R248, R251: three reads of disagreement put a used input in evaluator fault with 0904h and a press input in reset
fault; evaluator and feed fault end after 1 s of agreement and after ten gap reads of both contacts; the report of a press
ends 20 ms after its publication. -/
def Obligations.InputFaultsBeginAndEnd : Prop :=
  (∀ (s : State) (dt : Nat) (i : Fin 8), s.inReset = false → (s.vis[i]).state = .transition →
    s.readSince ((s.vis[i]).since + s.viDisc i) = true →
    ∃ t, exec (.discrepancyTimeout dt i) s = .next t ∧ OthersSame s.vis t.vis i ∧
      ({ s.pass dt with vis := t.vis, engines := t.engines } : State).SameButLog t ∧
      t.vis[i] = { s.vis[i] with
        state := .discrepant, since := s.now + dt, relSince := none
        restSince := if (s.vis[i]).combo = .inactive then some (s.now + dt) else none
        fault := if s.viUse i = .unused then (s.vis[i]).fault else setBit (s.vis[i]).fault 0
        resetFault := (s.vis[i]).resetFault || decide (s.viUse i = .press) } ∧
      (s.viUse i ≠ .unused → t.lastFault 0x0901 i.val) ∧
      (s.viUse i = .press ∧ (s.vis[i]).resetFault = false → (s.pass dt).viPosted t (.stuck i)) ∧
      (s.viUse i ≠ .press ∨ (s.vis[i]).resetFault = true → t.engines = s.engines)) ∧
  (∀ (s : State) (dt : Nat) (i : Fin 8), s.inReset = false → (s.vis[i]).state = .active → (s.vis[i]).stuck = false →
    s.viUse i = .press → s.readSince ((s.vis[i]).since + 10000000000) = true →
    ∃ t, exec (.stuckDeclaration dt i) s = .next t ∧ OthersSame s.vis t.vis i ∧
      ({ s.pass dt with vis := t.vis, engines := t.engines } : State).SameButLog t ∧
      t.vis[i] = { s.vis[i] with stuck := true, fault := setBit (s.vis[i]).fault 1, resetFault := true } ∧
      t.lastFault 0x0902 i.val ∧
      ((s.vis[i]).resetFault = false → (s.pass dt).viPosted t (.stuck i))) ∧
  (∀ (s : State) (dt : Nat) (i : Fin 8) (r : Nat), s.inReset = false → (s.vis[i]).state = .discrepant →
    (s.vis[i]).restSince = some r → r + 1000000000 ≤ s.now + dt →
    ∃ t, exec (.discrepantEnd dt i) s = .next t ∧ OthersSame s.vis t.vis i ∧
      t = { s.pass dt with vis := t.vis, engines := t.engines } ∧
      t.vis[i] = { s.vis[i] with
        state := .inactive, since := s.now + dt, restSince := none
        relSince := if (s.vis[i]).faulty then none else some ((s.vis[i]).relSince.getD (s.now + dt)) } ∧
      (s.viUse i = .level → (s.pass dt).viPosted t (.faultEnd i)) ∧
      (s.viUse i ≠ .level → t.engines = s.engines)) ∧
  (∀ (s : State) (i : Fin 8), s.inReset = false → 3 ≤ (s.vis[i]).evalBad → (s.vis[i]).evalFault = false →
    s.viUse i ≠ .unused →
    ∃ t, exec (.evaluatorFault i) s = .next t ∧ OthersSame s.vis t.vis i ∧
      ({ s with vis := t.vis, engines := t.engines } : State).SameButLog t ∧
      t.vis[i] = { s.vis[i] with
        evalFault := true, relSince := none, fault := setBit (s.vis[i]).fault 3
        resetFault := (s.vis[i]).resetFault || decide (s.viUse i = .press) } ∧
      t.lastFault 0x0904 i.val ∧
      (s.viUse i = .press ∧ (s.vis[i]).resetFault = false → s.viPosted t (.stuck i))) ∧
  (∀ (s : State) (dt : Nat) (i : Fin 8) (r : Nat), s.inReset = false → (s.vis[i]).evalFault = true →
    (s.vis[i]).evalOkSince = some r → r + 1000000000 ≤ s.now + dt →
    ∃ t, exec (.evaluatorFaultEnd dt i) s = .next t ∧ OthersSame s.vis t.vis i ∧
      t = { s.pass dt with vis := t.vis, engines := t.engines } ∧ t.vis[i] = { s.vis[i] with evalFault := false } ∧
      (s.viUse i = .level → (s.pass dt).viPosted t (.faultEnd i)) ∧ (s.viUse i ≠ .level → t.engines = s.engines)) ∧
  (∀ (s : State) (i : Fin 8), s.inReset = false → (s.vis[i]).feedFault = true →
    10 ≤ (s.vis[i]).a.gapsOk → 10 ≤ (s.vis[i]).b.gapsOk →
    ∃ t, exec (.feedFaultEnd i) s = .next t ∧ OthersSame s.vis t.vis i ∧
      t = { s with vis := t.vis, engines := t.engines } ∧ t.vis[i] = { s.vis[i] with feedFault := false } ∧
      (s.viUse i = .level → s.viPosted t (.faultEnd i)) ∧ (s.viUse i ≠ .level → t.engines = s.engines)) ∧
  (∀ (s : State) (dt : Nat) (i : Fin 8) (r : Nat), s.inReset = false → (s.vis[i]).report = true →
    (s.vis[i]).reportUntil = some r → r ≤ s.now + dt →
    ∃ t, exec (.pressReportEnd dt i) s = .next t ∧ OthersSame s.vis t.vis i ∧ t = { s.pass dt with vis := t.vis } ∧
      t.vis[i] = { s.vis[i] with report := false, reportUntil := none })

/-! ### Vital outputs (R256 to R261) -/

/-- R258: a readback stores its readings and ENERGISED and touches no switch; 100 µs beyond the limits log 0912h while both
switches are closed and 0913h otherwise, once per episode, and move no switch; 1 ms of overcurrent opens both switches for
100 ms with 0914h; at the end of the trip the demand of R257 is applied again.
R259 to R261: the off-pulse test opens one switch of an energised output 125 µs after its tick, the high side first and
the sides in turn, and opens a window of 300 µs; at its close the switches follow the demand; the check passes, or locks the
output with 0911h and both switches open. An output that is not energised starts no test. -/
def Obligations.OutputReadbackTripAndOffPulse : Prop :=
  (∀ (s : State) (dt : Nat) (j : Fin 8) (volt curr : BitVec 16), s.inReset = false →
    ∃ t, exec (.outputReadbackSample dt j volt curr) s = .next t ∧ OthersSame s.vos t.vos j ∧
      t = { s.pass dt with vos := t.vos } ∧
      (t.vos[j]).volt = volt ∧ (t.vos[j]).curr = curr ∧
      (t.vos[j]).energised = ((s.vos[j]).hs && (s.vos[j]).ls && decide (s.sup.vin.toNat * 10 - 300 ≤ volt.toNat)) ∧
      (t.vos[j]).hs = (s.vos[j]).hs ∧ (t.vos[j]).ls = (s.vos[j]).ls ∧ (t.vos[j]).locked = (s.vos[j]).locked ∧
      (6000 < curr.toNat → (t.vos[j]).overSince = some ((s.vos[j]).overSince.getD (s.now + dt))) ∧
      (curr.toNat ≤ 6000 → (t.vos[j]).overSince = none)) ∧
  (∀ (s : State) (dt : Nat) (j : Fin 8) (b : Nat), s.inReset = false → (s.vos[j]).badSince = some b →
    b + 100000 ≤ s.now + dt → (s.vos[j]).episode = false →
    ∃ t, exec (.outputReadbackFault dt j) s = .next t ∧ OthersSame s.vos t.vos j ∧
      ({ s.pass dt with vos := t.vos } : State).SameButLog t ∧
      ((s.vos[j]).hs = true ∧ (s.vos[j]).ls = true → t.lastFault 0x0912 j.val ∧
        t.vos[j] = { s.vos[j] with episode := true, fault := setBit (s.vos[j]).fault 1 }) ∧
      ((s.vos[j]).hs = false ∨ (s.vos[j]).ls = false → t.lastFault 0x0913 j.val ∧
        t.vos[j] = { s.vos[j] with episode := true, fault := setBit (s.vos[j]).fault 2 })) ∧
  (∀ (s : State) (dt : Nat) (j : Fin 8) (b : Nat), s.inReset = false → (s.vos[j]).overSince = some b →
    b + 1000000 ≤ s.now + dt → (s.vos[j]).trip = none →
    ∃ t, exec (.overcurrentTrip dt j) s = .next t ∧ OthersSame s.vos t.vos j ∧
      ({ s.pass dt with vos := t.vos } : State).SameButLog t ∧
      (t.vos[j]).hs = false ∧ (t.vos[j]).ls = false ∧ (t.vos[j]).demand = false ∧ (t.vos[j]).test = none ∧
      (t.vos[j]).trip = some (s.now + dt + 100000000) ∧ (t.vos[j]).fault = setBit (s.vos[j]).fault 3 ∧
      (t.vos[j]).locked = (s.vos[j]).locked ∧ t.lastFault 0x0914 j.val) ∧
  (∀ (s : State) (dt : Nat) (j : Fin 8) (b : Nat), s.inReset = false → (s.vos[j]).trip = some b → b ≤ s.now + dt →
    ∃ t, exec (.overcurrentTripEnd dt j) s = .next t ∧ OthersSame s.vos t.vos j ∧ t = { s.pass dt with vos := t.vos } ∧
      (t.vos[j]).trip = none ∧
      (t.vos[j]).demand = (s.voUsed j && s.clearLive (s.voSection j) && !(s.vos[j]).locked && !s.clk.prodTest) ∧
      ((t.vos[j]).demand = false → (t.vos[j]).hs = false ∧ (t.vos[j]).ls = false) ∧
      ((t.vos[j]).demand = true → (s.vos[j]).test = none → (s.vos[j]).window = none →
        (t.vos[j]).hs = true ∧ (t.vos[j]).ls = true) ∧
      ((t.vos[j]).demand = true → (s.vos[j]).test = none → (s.vos[j]).window ≠ none →
        (t.vos[j]).hs = (s.vos[j]).hs ∧ (t.vos[j]).ls = (s.vos[j]).ls)) ∧
  (∀ (s : State) (j : Fin 8), s.inReset = false → s.tickNo % 4000 = 500 * j.val → s.now ≤ s.clk.tickAt + 125000 →
    (s.vos[j]).hs = true → (s.vos[j]).ls = true → (s.vos[j]).test = none → (s.vos[j]).window = none → s.warning = false →
    ∃ t, exec (.offPulseTestStart j) s = .next t ∧ OthersSame s.vos t.vos j ∧
      t = { s with clk := { s.clk with elapsed := s.clk.tickAt + 125000 }, vos := t.vos } ∧
      (t.vos[j]).hs = (s.vos[j]).nextLow ∧ (t.vos[j]).ls = !(s.vos[j]).nextLow ∧
      (t.vos[j]).nextLow = !(s.vos[j]).nextLow ∧
      (t.vos[j]).test = some { begin := s.clk.tickAt + 125000, low := (s.vos[j]).nextLow } ∧
      (t.vos[j]).window = some (s.clk.tickAt + 125000 + 300000)) ∧
  (∀ (s : State) (j : Fin 8), (s.vos[j]).hs = false ∨ (s.vos[j]).ls = false → exec (.offPulseTestStart j) s = .next s) ∧
  (∀ (s : State) (dt : Nat) (j : Fin 8) (w : Nat), s.inReset = false → (s.vos[j]).window = some w → w ≤ s.now + dt →
    ∃ t, exec (.offPulseWindowClose dt j) s = .next t ∧ OthersSame s.vos t.vos j ∧ t = { s.pass dt with vos := t.vos } ∧
      (t.vos[j]).window = none ∧ (t.vos[j]).hs = s.voDemand j ∧ (t.vos[j]).ls = s.voDemand j ∧
      (t.vos[j]).locked = (s.vos[j]).locked ∧ (t.vos[j]).passed = (s.vos[j]).passed) ∧
  (∀ (s : State) (dt : Nat) (j : Fin 8) (x : PulseTest), s.inReset = false → (s.vos[j]).test = some x →
    x.fell = true → x.bad = false → x.begin + 350000 ≤ s.now + dt →
    s.sup.vin.toNat * 10 - 300 ≤ (s.vos[j]).volt.toNat →
    ∃ t, exec (.offPulseCheck dt j) s = .next t ∧ OthersSame s.vos t.vos j ∧ t = { s.pass dt with vos := t.vos } ∧
      t.vos[j] = { s.vos[j] with test := none, lastRes := 1, lastSwitch := x.low, passed := (s.vos[j]).passed + 1 }) ∧
  (∀ (s : State) (dt : Nat) (j : Fin 8) (x : PulseTest), s.inReset = false → (s.vos[j]).test = some x →
    (x.bad = true ∨ (x.fell = false ∧ x.begin + 150000 ≤ s.now + dt) ∨
      (x.begin + 350000 ≤ s.now + dt ∧ (s.vos[j]).volt.toNat < s.sup.vin.toNat * 10 - 300)) →
    ∃ t, exec (.offPulseCheck dt j) s = .next t ∧ OthersSame s.vos t.vos j ∧
      ({ s.pass dt with vos := t.vos } : State).SameButLog t ∧
      (t.vos[j]).hs = false ∧ (t.vos[j]).ls = false ∧ (t.vos[j]).locked = true ∧ (t.vos[j]).window = none ∧
      (t.vos[j]).test = none ∧ (t.vos[j]).lastRes = 2 ∧ (t.vos[j]).lastSwitch = x.low ∧
      (t.vos[j]).passed = (s.vos[j]).passed ∧ (t.vos[j]).fault = setBit (s.vos[j]).fault 0 ∧
      t.lastFault 0x0911 j.val)

/-! ### Supplies (R286 to R293) -/

/-- R286, R287, R290: a rail in NORMAL that lies below its warning level, by the comparator of a logic rail or by the second-lowest
field bus reading, enters WARNING, begins an episode and logs the rail's fault; above the warning level plus hysteresis it passes to
RECOVERING, falls back to WARNING where it is not above it any more, and after 20 ms there to NORMAL, which closes
the episode in SUP_EPISODE. The other rails stay as they are.
R292: a logic rail across a reset threshold holds module reset, whose start will log 0102h or 0104h, and the rail's
warning fault for the upper threshold, each once; a crossing during a held reset adds its own faults; every engine, link and output is at its reset value, so every token is dead and every
output open. R287, R293: the field bus cut-off switches every port supply off, stops a port stage, and is left for RECOVERING
above 15.55 V and for WARNING otherwise.
R293: with the field bus NORMAL again after a declared cut-off the port stage gives every assigned port the instant of its
group, 25 ms apart; R288 and R289: a field reading off the median for 10 ms is left out with 0109h, and eight low readings of
the logic input log 0108h once per episode. -/
def Obligations.SupplyRailEpisodes : Prop :=
  (∀ (s : State) (dt : Nat) (r : Rail) (reading low : BitVec 16), s.mdl.phase = .service → s.rt = none →
    s.tst.state = .service → (s.sup.rail r).st = .normal →
    (r ≠ .field ∧ r.low reading.toNat = true ∧ low = reading) ∨
      (r = .field ∧ s.sup.secondBelow 1550 = true ∧ low = s.sup.secondLow) →
    ∃ t, exec (.railWarning dt r false reading) s = .next t ∧
      ({ s.pass dt with sup := t.sup } : State).SameButLog t ∧
      t.sup.rail r = { st := .warning, upper := false, began := s.now + dt, lowest := low } ∧
      (∀ q : Rail, q ≠ r → t.sup.rail q = s.sup.rail q) ∧ t.sup.snapDue = true ∧
      t.sup.fault = setBit s.sup.fault r.warnFault.1 ∧ t.lastFault r.warnFault.2 0xFFFF) ∧
  (∀ (s : State) (dt : Nat) (r : Rail) (reading : BitVec 16), (s.sup.rail r).st = .recovering →
    (r ≠ .field ∧ (r.above reading.toNat = false ∨ ((s.sup.rail r).upper = true ∧ r.belowUpper reading.toNat = false))) ∨
      (r = .field ∧ s.sup.secondCode.isSome = true ∧ s.sup.secondAbove 1555 = false) →
    ∃ t, exec (.railWarning dt r false reading) s = .next t ∧ t = { s.pass dt with sup := t.sup } ∧
      (t.sup.rail r).st = .warning ∧ (t.sup.rail r).began = (s.sup.rail r).began ∧
      (∀ q : Rail, q ≠ r → t.sup.rail q = s.sup.rail q)) ∧
  (∀ (s : State) (dt reading : Nat) (r : Rail), (s.sup.rail r).st = .warning →
    (r ≠ .field ∧ r.above reading = true) ∨ (r = .field ∧ s.sup.secondAbove 1555 = true) →
    (s.sup.rail r).upper = false ∨ r.belowUpper reading = true →
    ∃ t, exec (.railRecovering dt r reading) s = .next t ∧ t = { s.pass dt with sup := t.sup } ∧
      t.sup.rail r = { s.sup.rail r with st := .recovering, recSince := s.now + dt } ∧
      (∀ q : Rail, q ≠ r → t.sup.rail q = s.sup.rail q)) ∧
  (∀ (s : State) (dt : Nat) (r : Rail), s.mdl.phase = .service → (s.sup.rail r).st = .recovering →
    (s.sup.rail r).recSince + 20000000 ≤ s.now + dt → (s.sup.rail r).hard = false → s.sup.snapshot = false →
    s.tst.held = false →
    ∃ t, exec (.railNormal dt r) s = .next t ∧ t = { s.pass dt with sup := t.sup } ∧
      t.sup.rail r = {} ∧ (∀ q : Rail, q ≠ r → t.sup.rail q = s.sup.rail q) ∧ t.sup.warnEnd = some (s.now + dt) ∧
      t.sup.episode = episodeWord r.code false ((s.now + dt - (s.sup.rail r).began) / 1000000) ∧
      t.sup.episodeMin = (s.sup.rail r).lowest) ∧
  (∀ (s : State) (dt : Nat) (core upper : Bool), s.inReset = false → s.tst.state ≠ .shutdown → s.tst.state ≠ .aborting →
    ∃ t, exec (.logicRailReset dt core upper) s = .next t ∧
      (s.pass dt).resetAsserted t .supervision ∧
      t.mdl.resetFaults = s.mdl.resetFaults ++ ((if core then [(0x0104, 0xFFFF)] else [(0x0102, 0xFFFF)]) ++
        (if upper then (if core then [(0x0103, 0xFFFF)] else [(0x0101, 0xFFFF)]) else []) : List (BitVec 16 × BitVec 16)).filter
          (fun f => !s.mdl.resetFaults.contains f) ∧
      (t.sup.rail (if core then .core else .v33)).st = .warning ∧
      t.tst.record = s.tst.record) ∧
  (∀ (s : State) (dt : Nat) (core upper : Bool), s.inReset = true →
    ∃ t, exec (.logicRailReset dt core upper) s = .next t ∧ t = { s.pass dt with sup := t.sup, mdl := t.mdl } ∧
      t.mdl = { s.mdl with resetFaults := t.mdl.resetFaults, resetCause := .supervision } ∧
      t.mdl.resetFaults = s.mdl.resetFaults ++ ((if core then [(0x0104, 0xFFFF)] else [(0x0102, 0xFFFF)]) ++
        (if upper then (if core then [(0x0103, 0xFFFF)] else [(0x0101, 0xFFFF)]) else []) : List (BitVec 16 × BitVec 16)).filter
          (fun f => !s.mdl.resetFaults.contains f) ∧
      (t.sup.rail (if core then .core else .v33)).st = .warning) ∧
  (∀ (s : State) (dt : Nat) (above : Bool), s.mdl.phase = .service → s.rt = none → s.tst.state = .service →
    s.sup.field.st ≠ .cutoff →
    ∃ t, exec (.fieldBusCutoff dt above) s = .next t ∧
      t = { s.pass dt with sup := t.sup, ports := t.ports } ∧
      t.sup.field.st = .cutoff ∧ t.sup.cutOver = above ∧ t.sup.portStage = false ∧
      ∀ n : Fin 64, t.ports[n] = { s.ports[n] with
        supplyOn := false, pulsesOn := false, setpoint := 0, rampEnd := none, stageAt := none, stageOn := false }) ∧
  (∀ (s : State) (dt reading : Nat), s.sup.field.st = .cutoff → 1405 ≤ reading → reading ≤ 15995 →
    ∃ t, exec (.cutoffRelease dt reading) s = .next t ∧ t = { s.pass dt with sup := { s.sup with field := t.sup.field } } ∧
      (1555 < reading → t.sup.field = { s.sup.field with st := .recovering, recSince := s.now + dt }) ∧
      (reading ≤ 1555 → t.sup.field = { s.sup.field with st := .warning })) ∧
  (∀ (s : State) (dt reading : Nat), reading < 1405 ∨ 15995 < reading →
    exec (.cutoffRelease dt reading) s = .next (s.pass dt)) ∧
  (∀ (s : State) (dt : Nat), s.mdl.phase = .service → s.sup.field.st = .normal → s.sup.cutDeclared = true →
    s.sup.portStage = false →
    ∃ t, exec (.portStage dt) s = .next t ∧
      t = { s.pass dt with
        sup := { s.sup with portStage := true, stageReset := true, stageStart := s.now + dt }, ports := t.ports } ∧
      ∀ n : Fin 64,
        (s.assigned n = true → t.ports[n] = { s.ports[n] with
          stageAt := some (s.now + dt + 25000000 * (n.val / 8)), stageOn := true }) ∧
        (s.assigned n = false → t.ports[n] = s.ports[n])) ∧
  (∀ (s : State) (dt : Nat) (n : Fin 64) (b : Nat), s.inReset = false → (s.ports[n]).diffSince = some b →
    b + 10000000 ≤ s.now + dt → (s.ports[n]).excluded = false →
    ∃ t, exec (.fieldReadingDeviation dt n) s = .next t ∧ OthersSame s.ports t.ports n ∧
      ({ s.pass dt with ports := t.ports, sup := { s.sup with fault := setBit s.sup.fault 8 } } : State).SameButLog t ∧
      t.ports[n] = { s.ports[n] with excluded := true, agreeSince := none } ∧ t.lastFault 0x0109 n.val) ∧
  (∀ s : State, s.inReset = false → 8 ≤ s.sup.lowCnt → s.sup.lowEpisode = false →
    ∃ t, exec .inputLow s = .next t ∧
      ({ s with sup := { s.sup with lowEpisode := true, highSince := none, fault := setBit s.sup.fault 7 } } :
        State).SameButLog t ∧ t.lastFault 0x0108 0xFFFF)

/-! ### Detection ports (R49 to R55, R68) -/

/-- R49: a ramp ends with both channels blind for 2 ms more. R54, R55: a loop condition that has held for its minimum duration
sets its bit and its fault, fails the point and reaches every engine's journal, but not during a declared cut-off (R293). The
failure ends 1 s after its last condition, when both system states become 0.
R68: a clamp current above 10 mA is a surge and is counted, one that follows within the 1 ms after another too, and
abandons a run-time test of the port (R356); one that lasts longer than 10 ms fails the point with 0209h; its end, 1 ms after the
clamp stopped, ends that condition. -/
def Obligations.PointFailuresAndSurges : Prop :=
  (∀ (s : State) (dt : Nat) (n : Fin 64) (e : Nat), s.inReset = false → (s.ports[n]).rampEnd = some e → e ≤ s.now + dt →
    ∃ t, exec (.supplyRampEnd dt n) s = .next t ∧ OthersSame s.ports t.ports n ∧ t = { s.pass dt with ports := t.ports } ∧
      t.ports[n] = { s.ports[n] with rampEnd := none, blindUntil := e + 2000000 }) ∧
  (∀ (s : State) (dt : Nat) (n : Fin 64) (q : LoopCond) (b : Nat), s.inReset = false →
    ((s.ports[n]).loopCond q).1 = some b → ((s.ports[n]).loopCond q).2.1 = false →
    b + ((s.ports[n]).loopCond q).2.2 ≤ s.now + dt → (s.pass dt).condJudged n q = true →
    ∃ t, exec (.loopConditionDetected dt n q) s = .next t ∧ OthersSame s.ports t.ports n ∧
      ({ s.pass dt with ports := t.ports, engines := t.engines } : State).SameButLog t ∧
      ((t.ports[n]).loopCond q).2.1 = true ∧ (t.ports[n]).failed = true ∧ (t.ports[n]).failEnd = none ∧
      (t.ports[n]).fault = setBit (s.ports[n]).fault q.fault.1 ∧ t.lastFault q.fault.2 n.val ∧
      (s.sup.cutDeclared = false ∧ (s.ports[n]).failed = false → (s.pass dt).pointPosted t (.failed n)) ∧
      (s.sup.cutDeclared = true ∨ (s.ports[n]).failed = true → t.engines = s.engines)) ∧
  (∀ (s : State) (dt : Nat) (n : Fin 64) (e : Nat), s.inReset = false → (s.ports[n]).failed = true →
    (s.ports[n]).condition = false → (s.ports[n]).failEnd = some e → e ≤ s.now + dt →
    ∃ t, exec (.pointFailureEnd dt n) s = .next t ∧ OthersSame s.ports t.ports n ∧ OthersSame s.wdus t.wdus n ∧
      t = { s.pass dt with ports := t.ports, wdus := t.wdus, engines := t.engines } ∧
      t.ports[n] = { s.ports[n] with failed := false, failEnd := none } ∧
      (t.wdus[n]).ctx.c1.s = false ∧ (t.wdus[n]).ctx.c2.s = false ∧ (s.pass dt).pointPosted t (.failEnd n)) ∧
  (∀ (s : State) (dt uA : Nat) (n : Fin 64), s.inReset = false → 10000 < uA → (∀ r, s.rt = some r → r.port = n → r.stage ≠ .gap) →
    ∃ t, exec (.surgeDetected dt n uA) s = .next t ∧ OthersSame s.ports t.ports n ∧
      t = { s.pass dt with ports := t.ports, rt := t.rt } ∧
      t.ports[n] = { s.ports[n] with
        surge := true, surgeSince := s.now + dt, surgeCnt := satInc (s.ports[n]).surgeCnt } ∧
      (s.rt = none → t.rt = none) ∧ (∀ r, s.rt = some r → r.port ≠ n → t.rt = some r) ∧
      (∀ r, s.rt = some r → r.port = n → t.rt = some { r with
        abandoned := true
        stage := if r.stage = .settle then .settle else .decay
        mark := if r.stage = .settle ∨ r.stage = .decay then r.mark else s.now + dt })) ∧
  (∀ (s : State) (dt uA : Nat) (n : Fin 64) (r : RunTest), s.inReset = false → 10000 < uA → s.rt = some r → r.port = n →
    r.stage = .gap →
    ∃ t, exec (.surgeDetected dt n uA) s = .next t ∧ OthersSame s.ports t.ports n ∧
      t = { s.pass dt with ports := t.ports, rt := none } ∧ (t.ports[n]).surge = true ∧
      (t.ports[n]).surgeSince = s.now + dt ∧ (t.ports[n]).surgeCnt = satInc (s.ports[n]).surgeCnt) ∧
  (∀ (s : State) (dt uA : Nat) (n : Fin 64), uA ≤ 10000 → exec (.surgeDetected dt n uA) s = .next (s.pass dt)) ∧
  (∀ (s : State) (dt uA : Nat) (n : Fin 64), s.inReset = false → (s.ports[n]).surge = true → (s.ports[n]).surgeLong = false →
    10000 < uA → (s.ports[n]).surgeSince + 10000000 < s.now + dt →
    ∃ t, exec (.surgeLong dt (n, uA)) s = .next t ∧ OthersSame s.ports t.ports n ∧
      ({ s.pass dt with ports := t.ports, engines := t.engines } : State).SameButLog t ∧
      t.ports[n] = { s.ports[n] with
        surgeLong := true, fault := setBit (s.ports[n]).fault 10, failed := true, failEnd := none } ∧
      t.lastFault 0x0209 n.val ∧ (s.sup.cutDeclared = false ∧ (s.ports[n]).failed = false → (s.pass dt).pointPosted t (.failed n))) ∧
  (∀ (s : State) (dt : Nat) (n : Fin 64), s.inReset = false → (s.ports[n]).surge = true →
    (s.ports[n]).surgeSince + 1000000 ≤ s.now + dt →
    ∃ t, exec (.surgeEnd dt n) s = .next t ∧ OthersSame s.ports t.ports n ∧ t = { s.pass dt with ports := t.ports } ∧
      (t.ports[n]).surge = false ∧ (t.ports[n]).surgeLong = false ∧ (t.ports[n]).failed = (s.ports[n]).failed ∧
      (t.ports[n]).fault = (s.ports[n]).fault)

/-! ### Module reset, start and self-test (R31, R262, R294 to R310, R341, R353) -/

/-- R31, R262, R341, R353, R310: a clock fault (a tick 237.5 µs early or less, or none or a late one 525 µs after the last, among
them), a button press of 100 ms, a power cycle and a test-port instruction assert
module reset with their cause, and the next start logs the clock fault and 0C07h; a shutdown self-test that runs then ends
INCOMPLETE with cause 03h and 0C02h. The release of the button keeps its hold time and logs a hold of 30 s. In production test
mode the test access port closes one switch of an output alone (R366). -/
def Obligations.CausesOfModuleReset : Prop :=
  (∀ (s : State) (dt : Nat), s.inReset = false → s.tst.state ≠ .shutdown → s.tst.state ≠ .aborting →
    ∀ p ∈ [(Instr.referenceAbsent dt, (0x0130 : BitVec 16)), (.rootPllOutOfLock dt, 0x0131)],
      ∃ t, exec p.1 s = .next t ∧ (s.pass dt).resetAsserted t .clock ∧
        t.mdl.resetFaults = s.mdl.resetFaults ++ [(p.2, 0xFFFF)] ∧ t.tst.record = s.tst.record) ∧
  (∀ (s : State) (dt : Nat), s.inReset = false → s.tst.state ≠ .shutdown → s.tst.state ≠ .aborting →
    s.now + dt - s.clk.tickAt < 237500 ∨ 525000 ≤ s.now + dt - s.clk.tickAt →
    ∃ t, exec (.tickPeriodFault dt) s = .next t ∧ (s.pass dt).resetAsserted t .clock ∧
      t.mdl.resetFaults = s.mdl.resetFaults ++ [(0x0133, 0xFFFF)] ∧ t.tst.record = s.tst.record) ∧
  (∀ (s : State) (dt : Nat), 237500 ≤ s.now + dt - s.clk.tickAt → s.now + dt - s.clk.tickAt < 525000 →
    exec (.tickPeriodFault dt) s = .next (s.pass dt)) ∧
  (∀ (s : State) (m : TickMeas), s.inReset = false → s.tst.state ≠ .shutdown → s.tst.state ≠ .aborting →
    s.clk.tickAt + 525000 < s.now →
    ∃ t, exec (.tick m) s = .next t ∧ s.resetAsserted t .clock ∧
      t.mdl.resetFaults = s.mdl.resetFaults ++ [(0x0133, 0xFFFF)] ∧ t.tst.record = s.tst.record) ∧
  (∀ (s : State) (dt : Nat), s.inReset = false → s.tst.state = .shutdown →
    ∃ t, exec (.referenceAbsent dt) s = .next t ∧ (s.pass dt).resetAsserted t .clock ∧
      t.mdl.resetFaults = s.mdl.resetFaults ++ [(0x0130, 0xFFFF), (0x0C02, 0xFFFF)] ∧ t.tst.abortCause = 3 ∧
      t.tst.aborts = s.tst.aborts + 1 ∧ ∃ r, t.tst.record = some r ∧ r.kind = 3 ∧ r.verdict = 3 ∧ r.token = none) ∧
  (∀ (s : State) (dt : Nat), s.inReset = false → s.tst.state ≠ .shutdown → s.tst.state ≠ .aborting →
    s.mdl.btnHeld = none →
    ∃ t, exec (.restartButtonPress dt) s = .next t ∧ (s.pass dt).resetAsserted t .button ∧
      t.mdl.btnHeld = some (s.now + dt)) ∧
  (∀ (s : State) (dt b : Nat), s.mdl.btnHeld = some b →
    ∃ t, exec (.restartButtonRelease dt) s = .next t ∧ t = { s.pass dt with mdl := t.mdl } ∧
      t.mdl.phase = s.mdl.phase ∧ t.mdl.btnHeld = none ∧ t.mdl.btnResets = satInc s.mdl.btnResets ∧
      t.mdl.btnHold = satNat 16 ((s.now + dt - b + 100000000) / 100000000) ∧
      t.mdl.btnStuck = decide (30000000000 ≤ s.now + dt - b + 100000000) ∧
      (t.mdl.btnStuck = true → t.mdl.resetFaults = s.mdl.resetFaults ++ [(0x0920, 0xFFFF)]) ∧
      (t.mdl.btnStuck = false → t.mdl.resetFaults = s.mdl.resetFaults)) ∧
  (∀ (s : State) (dt : Nat), s.tst.state ≠ .shutdown → s.tst.state ≠ .aborting →
    ∃ t, exec (.powerOn dt) s = .next t ∧ (s.pass dt).resetAsserted t .powerOn ∧ t.clk.prodTest = false ∧ t.sup = {} ∧
      t.mdl.btnHeld = none ∧ t.mdl.btnStuck = false ∧ t.mdl.btnHold = 0 ∧ t.mdl.btnResets = 0) ∧
  (∀ (s : State) (dt : Nat) (op : TapOp), s.clk.prodTest = false → s.tst.state ≠ .shutdown → s.tst.state ≠ .aborting →
    op ≠ .bypass → op ≠ .idcode →
    ∃ t, exec (.tapInstruction dt op) s = .next t ∧ (s.pass dt).resetAsserted t .tap ∧ t.clk.prodTest = true ∧
      t.mdl.resetFaults = s.mdl.resetFaults ++ [(0x0C07, 0xFFFF)]) ∧
  (∀ (s : State) (dt : Nat), exec (.tapInstruction dt .bypass) s = .next (s.pass dt) ∧
    exec (.tapInstruction dt .idcode) s = .next (s.pass dt)) ∧
  (∀ (s : State) (dt : Nat) (j : Fin 8) (low : Bool), s.clk.prodTest = true → s.inReset = false →
    ∃ t, exec (.tapInstruction dt (.closeAlone j low)) s = .next t ∧ OthersSame s.vos t.vos j ∧
      t = { s.pass dt with vos := t.vos } ∧ (t.vos[j]).hs = !low ∧ (t.vos[j]).ls = low) ∧
  (∀ (s : State) (dt : Nat) (j : Fin 8), s.clk.prodTest = true → s.inReset = false →
    ∃ t, exec (.tapInstruction dt (.openBoth j)) s = .next t ∧ OthersSame s.vos t.vos j ∧
      t = { s.pass dt with vos := t.vos } ∧ (t.vos[j]).hs = false ∧ (t.vos[j]).ls = false)

/-- R294, R296, R299: the release of module reset starts the time base at 0, opens an epoch, consumes the test record and
starts a quick test only with a valid record after a power cycle, the button or a finished self-test; the Active slot gives the
image if its release line is that of the firmware, and keeps its content (R264, R281), and its check follows (R279); the time
base leaves INIT (R212). The field step waits for the field bus and the lanes; at the tick that ends the sequence every engine that has proved runs with a live token,
and the cause 000b of UNPROVEN ends. -/
def Obligations.StartSequence : Prop :=
  (∀ (s : State) (dt : Nat) (slotOk : Bool), s.inReset = true → s.releasable = true →
    ∃ t, exec (.moduleResetRelease dt true slotOk) s = .next t ∧
      t.mdl.phase = .start ∧ t.mdl.startStage = .logic ∧ t.mdl.resetFaults = [] ∧
      t.clk.tickTb = 0 ∧ t.clk.tickAt = s.now + dt ∧ t.now = s.now + dt ∧ t.mgt.epoch = s.mgt.epoch + 1 ∧
      t.tst.state = .startTest ∧ t.tst.record = none ∧ t.tst.count = 0 ∧ t.tst.failStep = 0 ∧
      (t.tst.kind = 1 ↔ s.quickOk = true ∧ s.mdl.resetCause.quick = true) ∧ (t.tst.kind = 1 ∨ t.tst.kind = 2) ∧
      t.img.slot = s.img.slot ∧ (s.img.slot = none → t.img.active = none ∧ t.img.slotBad = false) ∧
      (∀ i, s.img.slot = some i → t.img.slotBad = !slotOk ∧
        t.img.active = if byteAt i.bytes 13 = s.img.fwLine then some i else none) ∧
      (t.isRoot = true → t.tbs.state = .root) ∧ (t.isRoot = false → t.tbs.state = .acquire) ∧
      t.vos = s.vos ∧ t.pending = s.pending) ∧
  (∀ (s : State) (dt : Nat), s.mdl.phase = .start → s.mdl.startStage = .field → s.sup.field.st = .normal →
    (∀ k : Fin 8, (s.lanes[k]).synced = true) →
    ∃ t, exec (.startFieldStep dt) s = .next t ∧
      t = { s.pass dt with mdl := t.mdl, sup := { s.sup with cutDeclared := false, cutPending := false }, tst := t.tst,
                           causes := t.causes, engines := t.engines } ∧
      t.mdl = { s.mdl with startStage := .fieldTest } ∧ t.tst.running = !s.tst.held ∧
      t.causes = s.causes.erase .cutoff) ∧
  (∀ (s : State) (dt : Nat), s.mdl.phase = .start → s.mdl.startStage = .proving → s.clk.prodTest = false →
    s.now + dt = s.clk.tickAt →
    (∃ e : Fin 4, (s.engines[e]).mode = .proving ∧ (s.engines[e]).from' + 4 ≤ (s.engines[e]).frame) →
    ∃ t, exec (.startSequenceEnd dt) s = .next t ∧
      t.mdl.phase = .service ∧ t.mdl.startStage = .ended ∧ t.tst.state = .service ∧
      t.causes = s.causes.erase .start ∧ t.now = s.now + dt ∧
      (∀ e : Fin 4, (s.engines[e]).mode = .proving → (s.engines[e]).proveLeft = 0 →
        (t.engines[e]).mode = .run ∧ (t.engines[e]).token = true ∧
        (t.engines[e]).tokenUntil = (s.engines[e]).frame + 2) ∧
      (∀ e : Fin 4, (s.engines[e]).mode = .halted → (t.engines[e]).mode = .halted ∧
        (t.engines[e]).token = (s.engines[e]).token) ∧
      t.img = s.img ∧ t.vis = s.vis ∧ t.pending = s.pending)

/-- R302 to R308: a segment is counted and its result folded into the signature of its step; after the last logic-side step of a
start the Active slot is checked and the field step is next (R279, R295), or the start fails (R300); the last segment of a shutdown
self-test leaves the record with its verdict, and its token where it passed; the first segment kills every token and opens
every output; a pause of windowed mode ends after 30 ms; a completed abort leaves an INCOMPLETE record and asserts module
reset. -/
def Obligations.TestSegmentsAndSelfTest : Prop :=
  (∀ (s : State) (dt n segs : Nat) (result : Word), s.tst.stepNow = some (n, segs) → s.tst.running = true →
    s.mdl.phase = .start → s.mdl.startStage = stageOfStep n → s.tst.state ≠ .shutdown → s.tst.held = false →
    s.tst.segs + 1 < segs →
    ∃ t, exec (.testSegmentEnd dt result) s = .next t ∧ t = { s.pass dt with tst := t.tst } ∧
      t.tst = { s.tst with
        count := s.tst.count + 1, segs := s.tst.segs + 1
        acc := (toBytes 4 result.toNat).foldl (crcByteR poly32c) s.tst.acc }) ∧
  (∀ (s : State) (dt n segs m x : Nat) (result sig : Word), s.tst.stepNow = some (n, segs) → s.tst.running = true →
    s.mdl.phase = .start → s.mdl.startStage = .logic → stageOfStep n = .logic → s.tst.state ≠ .shutdown →
    s.tst.segs + 1 = segs → s.tst.failStep = 0 → (stepsOf s.tst.kind.toNat)[s.tst.step + 1]? = some (m, x) →
    stageOfStep m = .fieldTest → sig = (toBytes 4 result.toNat).foldl (crcByteR poly32c) s.tst.acc ^^^ 0xFFFFFFFF →
    ∃ t, exec (.testSegmentEnd dt result) s = .next t ∧ t.tst.running = false ∧ t.img.slot = s.img.slot ∧
      (sig ≠ Config.expectedSignature s.tst.kind.toNat n → t.mdl.phase = .startFailed ∧ t.tst.state = .startFailed ∧
        t.img = s.img ∧ t.lastFault 0x0C03 0xFFFF) ∧
      (sig = Config.expectedSignature s.tst.kind.toNat n → t.mdl.phase = .start ∧ t.mdl.startStage = .field ∧
        t.tst.firstAt = some (s.now + dt) ∧ t.tst.failStep = 0 ∧
        (s.img.slotBad = false → t.img = s.img ∧ t.causes = s.causes ∧ t.tbs = s.tbs) ∧
        (s.img.slotBad = true → t.lastFault 0x0A34 0xFFFF ∧ t.img.active = none ∧ t.cfg = Cfg.reset ∧
          t.img.fault = setBit s.img.fault 6 ∧ .image ∈ t.causes))) ∧
  (∀ (s : State) (dt : Nat) (result sig : Word), s.tst.state = .shutdown → s.tst.kind = 3 → s.tst.running = true →
    s.mdl.phase = .shutdown → s.tst.step = 14 → s.tst.segs = 63 → s.tst.abortReq = none →
    sig = (toBytes 4 result.toNat).foldl (crcByteR poly32c) s.tst.acc ^^^ 0xFFFFFFFF →
    ∃ t r, exec (.testSegmentEnd dt result) s = .next t ∧
      ({ s.pass dt with tst := t.tst, mdl := { s.mdl with phase := .testDone } } : State).SameButLog t ∧
      t.tst.state = .done ∧ t.tst.running = false ∧ t.tst.count = s.tst.count + 1 ∧
      t.tst.record = some r ∧ r.kind = 3 ∧ r.count = s.tst.count + 1 ∧ r.sigs = s.tst.sigs ++ [sig] ∧
      (s.tst.failStep = 0 ∧ sig = Config.expectedSignature 3 9 → r.verdict = 1 ∧
        r.token = some (completionToken 3 (s.tst.count + 1) (s.tst.sigs ++ [sig]) s.fwCheckNow)) ∧
      (s.tst.failStep ≠ 0 ∨ sig ≠ Config.expectedSignature 3 9 → r.verdict = 2 ∧ r.token = none ∧
        t.lastFault 0x0C01 0xFFFF)) ∧
  (∀ (s : State) (dt b : Nat), s.inReset = false → s.tst.state = .shutdown → s.tst.firstAt = some b → b ≤ s.now + dt →
    ∃ t, exec (.selftestFirstSegment dt) s = .next t ∧
      t = { s.pass dt with tst := { s.tst with running := true, firstAt := none }, engines := t.engines, links := t.links,
                           vos := t.vos } ∧
      (∀ e : Fin 4, t.engines[e] = { s.engines[e] with
        token := false, tokenNext := false, work := none, done := none, sampled := [], ring := [], delay := [] }) ∧
      (∀ k : Fin 8, t.links[k] = { s.links[k] with armed := none, ready := none }) ∧
      ∀ j : Fin 8, (t.vos[j]).closed = false ∧
        (s.clk.prodTest = false → (t.vos[j]).hs = false ∧ (t.vos[j]).ls = false ∧ (t.vos[j]).demand = false)) ∧
  (∀ (s : State) (dt b : Nat), s.inReset = false → s.tst.state = .shutdown → s.tst.pauseSince = some b →
    b + 30000000 ≤ s.now + dt →
    exec (.testPauseEnd dt) s = .next { s.pass dt with tst := { s.tst with running := true, pauseSince := none } }) ∧
  (∀ (s : State) (dt : Nat), s.inReset = false → s.tst.state = .aborting →
    ∃ t r, exec (.selftestAbortComplete dt) s = .next t ∧ (s.pass dt).resetAsserted t .abort ∧
      t.tst.aborts = s.tst.aborts + 1 ∧ t.tst.abortCause = s.tst.abortReq.getD 1 ∧
      t.tst.record = some r ∧ r.verdict = 3 ∧ r.token = none ∧ r.sigs = s.tst.sigs)

/-! ### Time base (R24, R210 to R212) -/

/-- R24, R210, R211: at a tick a decided step, and a load of bits [63:48], set the extended time base and open an epoch, with
0810h in TBS_FAULT; R212: HOLDOVER passes to INVALID after 2 s with 0812h, and sections with remote points hear of it. A frame that an engine signs may be signed anew (R172). -/
def Obligations.TimeBaseStepsAndHoldover : Prop :=
  (∀ (s : State) (d : Int), s.inReset = false → s.clk.stepDue = some d → s.now = s.clk.tickAt →
    ∃ t, exec .timeBaseStep s = .next t ∧
      t.clk.tickTb = (((s.clk.tickTb : Int) + d) % 2 ^ 64).toNat ∧ t.clk.tickAt = s.clk.tickAt ∧ t.now = s.now ∧
      t.clk.stepDue = none ∧ t.clk.stepFrame = true ∧ t.tbs.stepCnt = s.tbs.stepCnt + 1 ∧
      t.tbs.lastStep = BitVec.ofInt 32 d ∧ t.tbs.fault = setBit s.tbs.fault 0 ∧ t.mgt.epoch = s.mgt.epoch + 1 ∧
      (∀ e : Fin 4, t.engines[e] = { s.engines[e] with work := (t.engines[e]).work } ∧
        (t.engines[e]).work.map Work.img = (s.engines[e]).work.map Work.img) ∧
      t.vis = s.vis ∧ t.vos = s.vos ∧ t.ports = s.ports ∧ t.chans = s.chans ∧ t.img = s.img) ∧
  (∀ (s : State) (x : BitVec 16), s.inReset = false → s.clk.extDue = some x → s.now = s.clk.tickAt →
    ∃ t, exec .timeBaseExtLoad s = .next t ∧
      t.clk.tickTb = x.toNat * 2 ^ 48 + s.clk.tickTb % 2 ^ 48 ∧ t.clk.tickAt = s.clk.tickAt ∧ t.now = s.now ∧
      t.clk.extDue = none ∧ t.tbs.stepCnt = s.tbs.stepCnt + 1 ∧ t.mgt.epoch = s.mgt.epoch + 1 ∧
      (∀ e : Fin 4, t.engines[e] = { s.engines[e] with work := (t.engines[e]).work } ∧
        (t.engines[e]).work.map Work.img = (s.engines[e]).work.map Work.img) ∧
      t.vis = s.vis ∧ t.vos = s.vos ∧ t.ports = s.ports ∧ t.chans = s.chans ∧ t.img = s.img) ∧
  (∀ (s : State) (dt : Nat), s.inReset = false → s.tbs.state = .holdover → s.tbs.holdSince + 2000000000 ≤ s.now + dt →
    ∃ t, exec (.holdoverExpiry dt) s = .next t ∧
      ({ s.pass dt with tbs := t.tbs, engines := t.engines } : State).SameButLog t ∧
      t.tbs.state = .invalid ∧ t.tbs.valid = false ∧ t.tbs.fault = setBit s.tbs.fault 2 ∧ t.lastFault 0x0812 0xFFFF ∧
      (s.pass dt).linkPosted t .allLost)

/-! ### Run-time tests and port loopbacks (R61 to R71, R103) -/

/-- R61, R62: a port whose conditions have held for 30 s becomes eligible; the scheduler picks an eligible port, one named by
SELFTEST_PORT before any other, and the test of its first system starts with window A closed; window A opens 2 ms after the
origin and closes with the step to the second current at 6 ms; window B opens at 8 ms.
R62, R63, R64, R66: at 12 ms the sink goes off and both steps are judged, a failed one with 0206h and a failed point;
0.50 ms later the tested channel enters single-cycle mode; a test of the first system that passed waits 100 ms for the test of
the second, whose end leaves its result and ends OVERDUE; 24 h without a test log 0208h. -/
def Obligations.RunTimePortTests : Prop :=
  (∀ (s : State) (dt : Nat) (n : Fin 64) (b : Nat), s.inReset = false → s.assigned n = true →
    (s.ports[n]).quietSince = some b → b + 30000000000 ≤ s.now + dt →
    ∃ t, exec (.portTestEligible dt n) s = .next t ∧ OthersSame s.ports t.ports n ∧ t = { s.pass dt with ports := t.ports } ∧
      t.ports[n] = { s.ports[n] with eligible := true }) ∧
  (∀ (s : State) (n : Fin 64), s.pickPort = some n → (s.ports[n]).eligible = true ∧
    ((∃ m ∈ s.rtFirst, (s.ports[m]).eligible = true) → n ∈ s.rtFirst)) ∧
  (∀ (s : State) (dt : Nat) (n : Fin 64), s.pickPort = some n → s.rt = none → s.railsNormal = true → s.retUp n = true →
    s.mdl.phase = .service →
    ∃ t r, exec (.runtimeTestStart dt) s = .next t ∧ OthersSame s.ports t.ports n ∧
      t = { s.pass dt with ports := t.ports, rt := some r, rtFirst := s.rtFirst.erase n } ∧
      t.ports[n] = { s.ports[n] with eligible := false, quietSince := none } ∧
      r.port = n ∧ r.sys = .cs1 ∧ r.stage = .sinkA ∧ r.origin = s.now + dt ∧ r.abandoned = false ∧ r.stepFail = false ∧
      r.preCnt = (s.chans[chanOf n .cs1]).tapHist.length) ∧
  (∀ (s : State) (dt : Nat) (r : RunTest), s.rt = some r → r.stage = .sinkA → r.origin + 2000000 ≤ s.now + dt →
    exec (.runtimeTestWindowOpen dt) s = .next { s.pass dt with rt := some { r with stage := .winA } }) ∧
  (∀ (s : State) (dt : Nat) (r : RunTest), s.rt = some r → r.stage = .sinkB → r.origin + 8000000 ≤ s.now + dt →
    exec (.runtimeTestWindowOpen dt) s = .next { s.pass dt with rt := some { r with stage := .winB } }) ∧
  (∀ (s : State) (dt : Nat) (r : RunTest), s.rt = some r → r.stage = .winA → r.origin + 6000000 ≤ s.now + dt →
    exec (.runtimeTestSinkStep dt) s = .next { s.pass dt with
      rt := some { r with stage := .sinkB, mark := s.now + dt, steps := (s.now + dt) :: r.steps } }) ∧
  (∀ (s : State) (dt : Nat) (r : RunTest), s.rt = some r → r.stage = .winB → r.origin + 12000000 ≤ s.now + dt →
    stepPasses r.sumA r.cntA r.preSum r.preCnt 350 = true → stepPasses r.sumB r.cntB r.preSum r.preCnt 700 = true →
    exec (.runtimeTestSinkOff dt) s = .next { s.pass dt with
      rt := some { r with stage := .decay, mark := s.now + dt, steps := (s.now + dt) :: r.steps, stepFail := false } }) ∧
  (∀ (s : State) (dt : Nat) (r : RunTest), s.rt = some r → r.stage = .winB → r.origin + 12000000 ≤ s.now + dt →
    stepPasses r.sumA r.cntA r.preSum r.preCnt 350 = false ∨ stepPasses r.sumB r.cntB r.preSum r.preCnt 700 = false →
    ∃ t, exec (.runtimeTestSinkOff dt) s = .next t ∧ OthersSame s.ports t.ports r.port ∧
      ({ s.pass dt with ports := t.ports, engines := t.engines, rt := t.rt } : State).SameButLog t ∧
      t.rt = some { r with stage := .decay, mark := s.now + dt, steps := (s.now + dt) :: r.steps, stepFail := true } ∧
      (t.ports[r.port]).failed = true ∧ (t.ports[r.port]).fault = setBit (s.ports[r.port]).fault 16 ∧
      t.lastFault 0x0206 r.port.val ∧
      (s.sup.cutDeclared = false ∧ (s.ports[r.port]).failed = false → (s.pass dt).pointPosted t (.failed r.port))) ∧
  (∀ (s : State) (dt : Nat) (r : RunTest), s.rt = some r → r.stage = .decay → r.mark + 500000 ≤ s.now + dt →
    ∃ t, exec (.runtimeTestSettle dt) s = .next t ∧ OthersSame s.chans t.chans (chanOf r.port r.sys) ∧
      t = { s.pass dt with rt := some { r with stage := .settle }, chans := t.chans } ∧
      t.chans[chanOf r.port r.sys] = (s.chans[chanOf r.port r.sys]).enterScm) ∧
  (∀ (s : State) (dt : Nat) (r : RunTest), s.rt = some r → r.stage = .settle → s.testBack r = true → r.sys = .cs1 →
    r.result = 1 →
    exec (.runtimeTestComplete dt) s = .next { s.pass dt with rt := some { r with stage := .gap, mark := s.now + dt } }) ∧
  (∀ (s : State) (dt : Nat) (r : RunTest), s.rt = some r → r.stage = .settle → s.testBack r = true → r.sys = .cs2 →
    r.result ≠ 4 →
    ∃ t, exec (.runtimeTestComplete dt) s = .next t ∧ OthersSame s.ports t.ports r.port ∧
      t = { s.pass dt with rt := none, ports := t.ports } ∧
      t.ports[r.port] = { s.ports[r.port] with testRes := r.result, lastTest := some (s.now + dt), overdue := false }) ∧
  (∀ (s : State) (dt : Nat) (r : RunTest), s.rt = some r → r.stage = .gap → r.mark + 100000000 ≤ s.now + dt →
    ∃ t q, exec (.runtimeTestCs2Start dt) s = .next t ∧ t = { s.pass dt with rt := some q } ∧
      q.port = r.port ∧ q.sys = .cs2 ∧ q.stage = .sinkA ∧ q.origin = s.now + dt) ∧
  (∀ (s : State) (dt : Nat) (n : Fin 64), s.inReset = false → s.assigned n = true → (s.ports[n]).overdue = false →
    (s.ports[n]).lastTest.getD (s.ports[n]).assignedAt + 86400000000000 ≤ s.now + dt →
    ∃ t, exec (.runtimeTestOverdue dt n) s = .next t ∧ OthersSame s.ports t.ports n ∧
      ({ s.pass dt with ports := t.ports } : State).SameButLog t ∧
      t.ports[n] = { s.ports[n] with overdue := true } ∧ t.lastFault 0x0208 n.val)

/-- R69, R70, R71: every 20 ms a step of LB0 (7, 10.5 and 14 mA within 1 % and 20 µA) or LB1 (0 and 90 % within 0.2 % of full
scale) is judged. At its end the channels return through single-cycle mode and the engines hear of it; a deviation fails the
point with 020Ah; an interval that overlaps a suspect one leaves no result (R291).
R103: LB2 starts the complement of its pattern after 10 ms and ends after 20 ms: each channel gets its result, a deviation
logs 0410h for the channel and reaches the engines, and both channels return through single-cycle mode.
R104: 100 ms after the stimulus of a run of LB3 the next one starts; at the end of run 3 the verdict is stored, and a
failure logs 0511h and reaches the engines. The live context is untouched. -/
def Obligations.LoopbacksLb0ToLb3 : Prop :=
  (∀ (s : State) (dt : Nat) (n : Fin 64) (l : PortLb), s.inReset = false → (s.ports[n]).lb = some l → l.kind = .lb0 →
    l.phase < 3 → l.begin + 20000000 * (l.phase + 1) ≤ s.now + dt →
    ∃ t, exec (.lb0Step dt n) s = .next t ∧ OthersSame s.ports t.ports n ∧ t = { s.pass dt with ports := t.ports } ∧
      t.ports[n] = { s.ports[n] with lb := some { l with
        phase := l.phase + 1
        ok := l.ok && s.tapsNear n (lb0Current l.phase * 65536) ((lb0Current l.phase / 100 + 5000) * 65536) } }) ∧
  (∀ (s : State) (dt : Nat) (n : Fin 64) (l : PortLb), s.inReset = false → (s.ports[n]).lb = some l → l.kind = .lb1 →
    l.phase < 2 → l.begin + 20000000 * (l.phase + 1) ≤ s.now + dt →
    ∃ t, exec (.lb1Step dt n) s = .next t ∧ OthersSame s.ports t.ports n ∧ t = { s.pass dt with ports := t.ports } ∧
      (l.phase = 0 → t.ports[n] = { s.ports[n] with
        lb := some { l with phase := 1, ok := l.ok && s.tapsNear n 0 (2 ^ 39 / 500) } }) ∧
      (l.phase = 1 → t.ports[n] = { s.ports[n] with
        lb := some { l with phase := 2, ok := l.ok && s.tapsNear n (2 ^ 39 * 9 / 10) (2 ^ 39 / 500) } })) ∧
  (∀ (s : State) (dt : Nat) (n : Fin 64) (l : PortLb), s.inReset = false → (s.ports[n]).lb = some l → l.kind = .lb0 →
    l.phase = 3 → l.ok = true → (s.pass dt).overlapsSuspect n l.begin = false → (s.ports[n]).failed = false →
    ∃ t, exec (.portLoopbackEnd dt n) s = .next t ∧ OthersSame s.ports t.ports n ∧
      t = { s.pass dt with ports := t.ports, chans := t.chans, engines := t.engines } ∧
      t.ports[n] = { s.ports[n] with lb := none, lb0Fail := false } ∧
      (∀ c : Fin 128, portOf c = n → t.chans[c] = (s.chans[c]).enterScm) ∧
      (∀ c : Fin 128, portOf c ≠ n → t.chans[c] = s.chans[c]) ∧ (s.pass dt).pointPosted t (.loop n false false)) ∧
  (∀ (s : State) (dt : Nat) (n : Fin 64) (l : PortLb), s.inReset = false → (s.ports[n]).lb = some l → l.kind = .lb1 →
    l.phase = 2 → l.ok = false → (s.pass dt).overlapsSuspect n l.begin = false → s.sup.cutDeclared = true →
    ∃ t, exec (.portLoopbackEnd dt n) s = .next t ∧ OthersSame s.ports t.ports n ∧
      ({ s.pass dt with ports := t.ports, chans := t.chans, engines := t.engines } : State).SameButLog t ∧
      (t.ports[n]).lb = none ∧ (t.ports[n]).lb1Fail = true ∧ (t.ports[n]).failed = true ∧
      (t.ports[n]).fault = setBit (s.ports[n]).fault 18 ∧ t.lastFault 0x020A n.val ∧
      (s.pass dt).pointPosted t (.loop n false false)) ∧
  (∀ (s : State) (dt : Nat) (n : Fin 64) (l : PortLb), s.inReset = false → (s.ports[n]).lb = some l → l.kind = .lb0 →
    l.phase = 3 → (s.pass dt).overlapsSuspect n l.begin = true →
    ∃ t, exec (.portLoopbackEnd dt n) s = .next t ∧ OthersSame s.ports t.ports n ∧
      t = { s.pass dt with ports := t.ports, chans := t.chans, engines := t.engines } ∧
      t.ports[n] = { s.ports[n] with lb := none } ∧ (s.pass dt).pointPosted t (.loop n false false)) ∧
  (∀ (s : State) (dt : Nat) (n : Fin 64) (l : PortLb), s.inReset = false → (s.ports[n]).lb = some l → l.kind = .lb2 →
    l.phase = 0 → l.begin + 10000000 ≤ s.now + dt →
    ∃ t, exec (.lb2PhaseChange dt n) s = .next t ∧ OthersSame s.ports t.ports n ∧
      t = { s.pass dt with ports := t.ports, chans := t.chans } ∧
      t.ports[n] = { s.ports[n] with lb := some { l with phase := 1 } } ∧
      (∀ c : Fin 128, portOf c = n → t.chans[c] = { s.chans[c] with lb2Mod := 0, lb2Out := 0 }) ∧
      (∀ c : Fin 128, portOf c ≠ n → t.chans[c] = s.chans[c])) ∧
  (∀ (s : State) (dt : Nat) (n : Fin 64) (l : PortLb), s.inReset = false → (s.ports[n]).lb = some l → l.kind = .lb2 →
    l.phase = 1 → l.begin + 20000000 ≤ s.now + dt → (s.pass dt).overlapsSuspect n l.begin = false →
    (s.chans[chanOf n .cs1]).lb2Bad = false → (s.chans[chanOf n .cs2]).lb2Bad = false →
    ∃ t, exec (.lb2End dt n) s = .next t ∧ OthersSame s.ports t.ports n ∧
      t = { s.pass dt with ports := t.ports, chans := t.chans, engines := t.engines } ∧
      t.ports[n] = { s.ports[n] with lb := none } ∧
      (∀ c : Fin 128, portOf c = n → t.chans[c] = ({ s.chans[c] with lb2Res := 1 } : Chan).enterScm) ∧
      (∀ c : Fin 128, portOf c ≠ n → t.chans[c] = s.chans[c]) ∧ (s.pass dt).pointPosted t (.loop n false false)) ∧
  (∀ (s : State) (dt : Nat) (n : Fin 64) (l : PortLb), s.inReset = false → (s.ports[n]).lb = some l → l.kind = .lb2 →
    l.phase = 1 → l.begin + 20000000 ≤ s.now + dt → (s.pass dt).overlapsSuspect n l.begin = false →
    (s.chans[chanOf n .cs1]).lb2Bad = true → (s.chans[chanOf n .cs2]).lb2Bad = false →
    ∃ t, exec (.lb2End dt n) s = .next t ∧
      ({ s.pass dt with ports := t.ports, chans := t.chans, engines := t.engines } : State).SameButLog t ∧
      (t.ports[n]).lb = none ∧ (t.chans[chanOf n .cs1]).lb2Res = 2 ∧ (t.chans[chanOf n .cs2]).lb2Res = 1 ∧
      (t.chans[chanOf n .cs1]).fault = setBit (s.chans[chanOf n .cs1]).fault 4 ∧
      t.lastFault 0x0410 (chanOf n .cs1).val) ∧
  (∀ (s : State) (dt : Nat) (n : Fin 64) (l : Lb3), s.inReset = false → (s.wdus[n]).lb3 = some l → l.run < 3 →
    l.begin + lb3RunNs (s.spacingOf n) l.run + 100000000 ≤ s.now + dt →
    ∃ t, exec (.lb3Run dt n) s = .next t ∧ OthersSame s.wdus t.wdus n ∧ t = { s.pass dt with wdus := t.wdus } ∧
      t.wdus[n] = { s.wdus[n] with lb3 := some { l with run := l.run + 1, begin := s.now + dt, k := 0 } }) ∧
  (∀ (s : State) (dt : Nat) (n : Fin 64) (l : Lb3), s.inReset = false → (s.wdus[n]).lb3 = some l → l.run = 3 →
    l.begin + 150000000 ≤ s.now + dt → l.verdict = 1 →
    ∃ t, exec (.lb3End dt n) s = .next t ∧ OthersSame s.wdus t.wdus n ∧ t = { s.pass dt with wdus := t.wdus } ∧
      (∀ a b, l.res1 = [a] → l.res2 = [b] → t.wdus[n] = { s.wdus[n] with lb3 := none, lb3Res := 1, lb3Speed := a.speed })) ∧
  (∀ (s : State) (dt : Nat) (n : Fin 64) (l : Lb3), s.inReset = false → (s.wdus[n]).lb3 = some l → l.run = 3 →
    l.begin + 150000000 ≤ s.now + dt → l.verdict ≠ 1 →
    ∃ t, exec (.lb3End dt n) s = .next t ∧ OthersSame s.wdus t.wdus n ∧
      ({ s.pass dt with wdus := t.wdus, engines := t.engines } : State).SameButLog t ∧
      (t.wdus[n]).lb3 = none ∧ (t.wdus[n]).lb3Res = l.verdict ∧ (t.wdus[n]).ctx = (s.wdus[n]).ctx ∧
      (t.wdus[n]).fault = setBit (s.wdus[n]).fault 4 ∧ t.lastFault 0x0511 n.val ∧ (s.pass dt).pointPosted t (.loopFail n)) ∧
  (∀ (l : Lb3) (a b : AxleRec), l.res1 = [a] → l.res2 = [b] → l.res3 = [] →
    (l.verdict = 1 ↔ a.uncertain = false ∧ b.uncertain = false ∧ a.dir = 1 ∧ b.dir = 2 ∧
      396 ≤ a.speed.toNat ∧ a.speed.toNat ≤ 404 ∧ 396 ≤ b.speed.toNat ∧ b.speed.toNat ≤ 404))

/-! ### Signal chain (R57 to R101) -/

/-- R76, R99 to R101: an output instant takes the words that have arrived on the channel's lane, emits the next sample of one channel and
hands it to the detection unit of its point; PATH
names the path in effect, and a sample is not VALID while the channel is blind (a ramp or failed return lane, a lane in FAULT,
lane echo), under LB2, or settling. More words than two frames hold are no event. -/
def Obligations.OutputSampleEmitted : Prop :=
  (∀ (s u : State) (c : Fin 128) (words : List (BitVec 20)), s.inReset = false → (s.chans[c]).outIdx < s.chanM c →
    words.length ≤ 3072 → u = s.upTo (s.clk.tickAt + (s.chans[c]).outIdx * 250000 / s.chanM c) →
    ∃ t, exec (.outputSample c words) s = .next t ∧ t.clk = u.clk ∧
      OthersSame s.lanes t.lanes (laneOfChan c) ∧ t.lanes[laneOfChan c] = (s.lanes[laneOfChan c]).receive words ∧
      OthersSame s.chans t.chans c ∧ OthersSame s.wdus t.wdus (portOf c) ∧ OthersSame s.ports t.ports (portOf c) ∧
      ({ s with clk := t.clk, lanes := t.lanes, chans := t.chans, wdus := t.wdus, ports := t.ports, rt := t.rt } : State).SameButLog t ∧
      (t.chans[c]).outIdx = (s.chans[c]).outIdx + 1 ∧
      ((s.chans[c]).scm.isSome = true → (t.chans[c]).out.path = 2) ∧
      ((s.chans[c]).scm = none → (s.chans[c]).sel = 0 → (t.chans[c]).out.path = 0) ∧
      ((s.chans[c]).scm = none → (s.chans[c]).sel ≠ 0 → (t.chans[c]).out.path = 1) ∧
      ((u.chanEnv c).blind = true → (t.chans[c]).out.valid = false) ∧
      ((u.chanEnv c).lb2.isSome = true → (t.chans[c]).out.valid = false) ∧
      ((s.chans[c]).settleLeft ≠ 0 → (t.chans[c]).out.valid = false) ∧
      (sysOf c = .cs1 → (t.wdus[portOf c]).in1 = some (t.chans[c]).out ∧
        (t.wdus[portOf c]).in2 = (s.wdus[portOf c]).in2) ∧
      (sysOf c = .cs2 → (t.wdus[portOf c]).in2 = some (t.chans[c]).out ∧
        (t.wdus[portOf c]).in1 = (s.wdus[portOf c]).in1)) ∧
  (∀ (s : State) (c : Fin 128) (words : List (BitVec 20)), 3072 < words.length →
    exec (.outputSample c words) s = .fault .notAnEvent)

/-- R74, R86, R98, R100, R101: the ends of a saturation interval, a fade, the fill and the stay in single-cycle mode, and a
synchronising reset, and a modulator overload, 64 equal outputs in a row, which clears the integrators and is flagged, each on one
channel alone; the changeover waits while the point is
ACTIVE and has the detection unit take its alignment anew. -/
def Obligations.ChannelIntervalsEnd : Prop :=
  (∀ (s : State) (dt : Nat) (c : Fin 128) (bits : BitVec 64), s.inReset = false → bits = 0 ∨ bits = BitVec.allOnes 64 →
    ∃ t, exec (.modulatorOverload dt (c, bits)) s = .next t ∧ OthersSame s.chans t.chans c ∧ t = { s.pass dt with chans := t.chans } ∧
      t.chans[c] = { s.chans[c] with ovlFlag := true, integClear := some (s.now + dt) }) ∧
  (∀ (s : State) (dt : Nat) (c : Fin 128) (bits : BitVec 64), bits ≠ 0 → bits ≠ BitVec.allOnes 64 →
    exec (.modulatorOverload dt (c, bits)) s = .next (s.pass dt)) ∧
  (∀ (s : State) (dt : Nat) (c : Fin 128), s.inReset = false → (s.chans[c]).sat = true → (s.chans[c]).satLeft = 0 →
    ∃ t, exec (.saturationEnd dt c) s = .next t ∧ OthersSame s.chans t.chans c ∧ t = { s.pass dt with chans := t.chans } ∧
      t.chans[c] = { s.chans[c] with sat := false }) ∧
  (∀ (s : State) (c : Fin 128) (f : Fade), s.inReset = false → (s.chans[c]).fade = some f → 256 ≤ f.done →
    ∃ t, exec (.fadeComplete c) s = .next t ∧ OthersSame s.chans t.chans c ∧ t = { s with chans := t.chans } ∧
      t.chans[c] = { s.chans[c] with fade := none, bank := f.target }) ∧
  (∀ (s : State) (c : Fin 128) (f : Fade), (s.chans[c]).fade = some f → f.done < 256 →
    exec (.fadeComplete c) s = .next s) ∧
  (∀ (s : State) (dt : Nat) (c : Fin 128) (q : Scm), s.inReset = false → (s.chans[c]).scm = some q →
    (s.chans[c]).filled = false → s.chanM c ≤ q.count →
    ∃ t, exec (.scmFillEnd dt c) s = .next t ∧ OthersSame s.chans t.chans c ∧ t = { s.pass dt with chans := t.chans } ∧
      t.chans[c] = { s.chans[c] with filled := true, ovl := (s.chans[c]).ovlNew }) ∧
  (∀ (s : State) (dt : Nat) (c : Fin 128) (q : Scm), s.inReset = false → (s.chans[c]).scm = some q →
    settleLen (s.chans[c]).sel (s.chanM c) (s.chanPd c) ≤ q.count → (s.chans[c]).active = false →
    ∃ t, exec (.scmChangeover dt c) s = .next t ∧ OthersSame s.chans t.chans c ∧ OthersSame s.wdus t.wdus (portOf c) ∧
      t = { s.pass dt with chans := t.chans, wdus := t.wdus } ∧
      t.chans[c] = { s.chans[c] with scm := none, filled := false } ∧
      t.wdus[portOf c] = { s.wdus[portOf c] with realignNow := true }) ∧
  (∀ (s : State) (dt : Nat) (c : Fin 128), (s.chans[c]).active = true →
    exec (.scmChangeover dt c) s = .next (s.pass dt)) ∧
  (∀ (s : State) (c : Fin 128), s.inReset = false → (s.chans[c]).settling = true → (s.chans[c]).settleLeft = 0 →
    ∃ t, exec (.syncResetSettled c) s = .next t ∧ OthersSame s.chans t.chans c ∧ t = { s with chans := t.chans } ∧
      t.chans[c] = { s.chans[c] with
        settling := false, baseLoad := false, loadDue := (s.chans[c]).baseLoad || (s.chans[c]).loadDue })

/-- R58, R59: at the end of a code period, when its bits have come, a channel whose period overlaps a blind interval is left out; a port becomes
residual, or short to another, only by a coefficient above its limit in two code periods in a row. -/
def Obligations.CodePeriodConditions : Prop :=
  ∀ (s : State) (x : Nat), s.inReset = false → x = (s.clk.tickTb + 250000) / 1280000 * 1280000 → 0 < x → x ≠ s.clk.codeEnd →
    s.periodIn (x / 1280000 - 1) = true →
    ∃ t, exec .codePeriodEnd s = .next t ∧
      t.clk = { s.clk with elapsed := max s.clk.elapsed (s.clk.tickAt + (x - s.clk.tickTb)), codeEnd := x } ∧
      ({ s with clk := t.clk, chans := t.chans, ports := t.ports, engines := t.engines } : State).SameButLog t ∧
      (∀ c : Fin 128, (∀ k, (s.chans[c]).codePeriod (x / 1280000 - 1) = some k → k.blind = true) →
        t.chans[c] = s.chans[c]) ∧
      (∀ n : Fin 64, (t.ports[n]).residual = true →
        ∃ c : Fin 128, portOf c = n ∧ (s.chans[c]).prevOwn = true ∧ (t.chans[c]).prevOwn = true) ∧
      (∀ n : Fin 64, (t.ports[n]).xshort = true →
        ∃ (c : Fin 128) (k : Fin 64), (portOf c = n ∨ k = n) ∧ k ≠ portOf c ∧
          (s.chans[c]).prevX.getLsbD k.val = true ∧ (t.chans[c]).prevX.getLsbD k.val = true) ∧
      (∀ n : Fin 64, (t.ports[n]).xcorr =
        xcorrWord n.val (t.chans[chanOf n .cs1]).lastX (t.chans[chanOf n .cs2]).lastX)

/-! ### Isolator lanes, return lanes and the SAR converter (R34, R35, R75 to R79) -/

/-- R34, R78: a word failure takes a SYNCED lane into FAULT with 0310h and marks its 16 channels; 10 ms in FAULT reach the
engines; at the tick after the return the 16 channels take a synchronising reset without baseline load.
R79: lane echo ends after 10 ms; its 16 channels return through single-cycle mode; a mismatch logs 0312h and reaches the
engines, unless the echo overlapped a suspect interval (R291).
R35: a failed return lane stops the pulses of its ports and holds their setpoints, and after 100 ms their regulators go off.
Once it is back, ports whose regulators kept running take their pulses up again, and ramp where an image has changed their
setpoint meanwhile; those that had been switched off ramp again if they are assigned and the field bus is not cut off; a port no
longer assigned goes off. When the ports are blind is said by the superframes' report (LaneSuperframeRule). -/
def Obligations.LanesFailAndReturn : Prop :=
  (∀ (s : State) (dt : Nat) (k : Fin 8) (chk : Bool), s.inReset = false → (s.lanes[k]).synced = true →
    ∃ t, exec (.laneWordFault dt k chk) s = .next t ∧ OthersSame s.lanes t.lanes k ∧
      ({ s.pass dt with lanes := t.lanes, chans := t.chans } : State).SameButLog t ∧
      t.lanes[k] = { s.lanes[k] with
        synced := false, good := 0, resetDue := none, faultAt := some (s.now + dt), timedOut := false, dirty := true
        wordErr := if chk then satInc (s.lanes[k]).wordErr else (s.lanes[k]).wordErr
        syncLoss := satInc (s.lanes[k]).syncLoss } ∧
      (∀ c : Fin 128, c.val / 16 = k.val → t.chans[c] = { s.chans[c] with fault := setBit (s.chans[c]).fault 1 }) ∧
      (∀ c : Fin 128, c.val / 16 ≠ k.val → t.chans[c] = s.chans[c]) ∧ t.lastFault 0x0310 k.val) ∧
  (∀ (s : State) (dt : Nat) (k : Fin 8) (f : Nat), s.inReset = false → (s.lanes[k]).synced = false →
    (s.lanes[k]).faultAt = some f → (s.lanes[k]).timedOut = false → f + 10000000 ≤ s.now + dt →
    ∃ t, exec (.laneResyncTimeout dt k) s = .next t ∧ OthersSame s.lanes t.lanes k ∧
      t = { s.pass dt with lanes := t.lanes, engines := t.engines } ∧
      t.lanes[k] = { s.lanes[k] with timedOut := true } ∧ (s.pass dt).pointPosted t (.laneFail k)) ∧
  (∀ (s : State) (k : Fin 8) (n : Nat), s.inReset = false → (s.lanes[k]).resetDue = some n → n ≤ s.tickNo →
    ∃ t, exec (.laneReturnSyncReset k) s = .next t ∧ OthersSame s.lanes t.lanes k ∧
      t = { s with lanes := t.lanes, chans := t.chans } ∧ t.lanes[k] = { s.lanes[k] with resetDue := none } ∧
      (∀ c : Fin 128, c.val / 16 = k.val → t.chans[c] = (s.chans[c]).syncReset (s.chanM c) (s.chanPd c) false) ∧
      (∀ c : Fin 128, c.val / 16 ≠ k.val → t.chans[c] = s.chans[c])) ∧
  (∀ (s : State) (dt : Nat) (k : Fin 8) (e : Echo), s.inReset = false → (s.lanes[k]).echo = some e →
    e.begin + 10000000 ≤ s.now + dt → e.mismatch = true →
    (∀ n : Fin 64, laneOfPort n = k → (s.pass dt).overlapsSuspect n e.begin = false) →
    ∃ t, exec (.laneEchoEnd dt k) s = .next t ∧ OthersSame s.lanes t.lanes k ∧
      ({ s.pass dt with lanes := t.lanes, chans := t.chans, engines := t.engines } : State).SameButLog t ∧
      t.lanes[k] = { s.lanes[k] with echo := none } ∧
      (∀ c : Fin 128, c.val / 16 = k.val →
        t.chans[c] = ({ s.chans[c] with fault := setBit (s.chans[c]).fault 0 } : Chan).enterScm) ∧
      (∀ c : Fin 128, c.val / 16 ≠ k.val → t.chans[c] = s.chans[c]) ∧
      (∀ g : Fin 4, t.engines[g] = (s.engines[g]).post (s.pass dt).late (fun j => { j with
        points := j.points ++ .laneFail k :: (lanePorts k).map (fun n => PointEv.loop n true false) })) ∧ t.lastFault 0x0312 k.val) ∧
  (∀ (s : State) (dt : Nat) (k : Fin 8) (e : Echo), s.inReset = false → (s.lanes[k]).echo = some e →
    e.begin + 10000000 ≤ s.now + dt → e.mismatch = false →
    ∃ t, exec (.laneEchoEnd dt k) s = .next t ∧ OthersSame s.lanes t.lanes k ∧
      t = { s.pass dt with lanes := t.lanes, chans := t.chans, engines := t.engines } ∧
      t.lanes[k] = { s.lanes[k] with echo := none } ∧
      (∀ c : Fin 128, c.val / 16 = k.val → t.chans[c] = (s.chans[c]).enterScm) ∧
      (∀ c : Fin 128, c.val / 16 ≠ k.val → t.chans[c] = s.chans[c]) ∧
      (∀ g : Fin 4, t.engines[g] = (s.engines[g]).post (s.pass dt).late (fun j => { j with
        points := j.points ++ (lanePorts k).map (fun n => PointEv.loop n true false) }))) ∧
  (∀ (s : State) (dt : Nat) (r : Fin 2), s.inReset = false → (s.retLanes[r]).failed = false →
    ∃ t, exec (.returnLaneFailure dt r) s = .next t ∧ OthersSame s.retLanes t.retLanes r ∧
      t = { s.pass dt with retLanes := t.retLanes, ports := t.ports } ∧
      t.retLanes[r] = { failed := true, failedAt := s.now + dt } ∧
      (∀ n : Fin 64, n.val / 32 = r.val → t.ports[n] = { s.ports[n] with pulsesOn := false }) ∧
      (∀ n : Fin 64, n.val / 32 ≠ r.val → t.ports[n] = s.ports[n])) ∧
  (∀ (s : State) (dt : Nat) (r : Fin 2), s.inReset = false → (s.retLanes[r]).failed = true → (s.retLanes[r]).off = false →
    (s.retLanes[r]).failedAt + 100000000 ≤ s.now + dt →
    ∃ t, exec (.returnLaneTimeout dt r) s = .next t ∧ OthersSame s.retLanes t.retLanes r ∧
      t = { s.pass dt with retLanes := t.retLanes, ports := t.ports } ∧
      t.retLanes[r] = { s.retLanes[r] with off := true } ∧
      (∀ n : Fin 64, n.val / 32 = r.val →
        t.ports[n] = { s.ports[n] with supplyOn := false, pulsesOn := false, setpoint := 0, rampEnd := none }) ∧
      (∀ n : Fin 64, n.val / 32 ≠ r.val → t.ports[n] = s.ports[n])) ∧
  (∀ (s : State) (dt : Nat) (r : Fin 2), s.inReset = false → (s.retLanes[r]).failed = true →
    ∃ t, exec (.returnLaneRestored dt r) s = .next t ∧ OthersSame s.retLanes t.retLanes r ∧
      t = { s.pass dt with retLanes := t.retLanes, ports := t.ports } ∧
      t.retLanes[r] = { reportAt := (s.retLanes[r]).reportAt } ∧
      (∀ n : Fin 64, n.val / 32 = r.val → s.assigned n = false →
        t.ports[n] = { s.ports[n] with supplyOn := false, pulsesOn := false, setpoint := 0, rampEnd := none }) ∧
      (∀ n : Fin 64, n.val / 32 = r.val → s.assigned n = true → (s.retLanes[r]).off = false →
        (s.ports[n]).supplyOn = false ∨ (s.ports[n]).setpoint.toNat = s.supplySet n →
        t.ports[n] = { s.ports[n] with pulsesOn := (s.ports[n]).supplyOn }) ∧
      (∀ n : Fin 64, n.val / 32 = r.val → s.assigned n = true → s.sup.field.st ≠ .cutoff →
        (s.retLanes[r]).off = true ∨ ((s.ports[n]).supplyOn = true ∧ (s.ports[n]).setpoint.toNat ≠ s.supplySet n) →
        (t.ports[n]).supplyOn = true ∧ (t.ports[n]).pulsesOn = true ∧ (t.ports[n]).rampAt = s.now + dt ∧
        (t.ports[n]).rampEnd.isSome = true ∧ (t.ports[n]).setpoint = BitVec.ofNat 9 (s.supplySet n)) ∧
      (∀ n : Fin 64, n.val / 32 ≠ r.val → t.ports[n] = s.ports[n]))

/-- R77, R78: a superframe that fails its checks takes a SYNCED lane into FAULT with 0310h; a lane in FAULT returns with the
second good one in a row, its reset due at the next tick; a good one is taken into the lane's status, and its report of a
failed return lane makes the ports served blind (R35). A superframe is 1,536 words, of which those taken with an output instant
have come already, and a good one carries what the field side sent; anything else is no event. -/
def Obligations.LaneSuperframeRule : Prop :=
  (∀ (s : State) (k : Fin 8) (ws : List (BitVec 20)), ws.length ≠ 1536 →
    exec (.laneSuperframe k ws) s = .fault .notAnEvent) ∧
  (∀ (s : State) (k : Fin 8) (ws : List (BitVec 20)), ws.length = 1536 → s.inReset = false →
    (s.lanes[k]).lastSf ≠ some s.tickNo → (s.lanes[k]).begins ws = true → (s.lanes[k]).synced = true →
    superframeOk (s.clk.prevTb / 250000) ws = false →
    ∃ t, exec (.laneSuperframe k ws) s = .next t ∧ OthersSame s.lanes t.lanes k ∧
      ({ s with lanes := t.lanes, chans := t.chans } : State).SameButLog t ∧
      (t.lanes[k]).synced = false ∧ (t.lanes[k]).good = 0 ∧ (t.lanes[k]).faultAt = some s.now ∧
      (t.lanes[k]).lastSf = some s.tickNo ∧
      (∀ c : Fin 128, c.val / 16 = k.val → t.chans[c] = { s.chans[c] with fault := setBit (s.chans[c]).fault 1 }) ∧
      (∀ c : Fin 128, c.val / 16 ≠ k.val → t.chans[c] = s.chans[c]) ∧ t.lastFault 0x0310 k.val) ∧
  (∀ (s : State) (k : Fin 8) (ws : List (BitVec 20)), ws.length = 1536 → s.inReset = false →
    (s.lanes[k]).lastSf ≠ some s.tickNo → (s.lanes[k]).begins ws = true → s.carries k ws = true →
    (s.lanes[k]).dirty = false → superframeOk (s.clk.prevTb / 250000) ws = true →
    ∃ t, exec (.laneSuperframe k ws) s = .next t ∧ OthersSame s.lanes t.lanes k ∧ t.clk = s.clk ∧
      ({ s with lanes := t.lanes, chans := t.chans, ports := t.ports, sup := t.sup, causes := t.causes,
                begun := t.begun, engines := t.engines, retLanes := t.retLanes } : State).SameButLog t ∧
      ((s.lanes[k]).synced = true → (t.lanes[k]).synced = true) ∧
      ((s.lanes[k]).synced = false → (s.lanes[k]).good = 0 → (t.lanes[k]).synced = false ∧ (t.lanes[k]).good = 1) ∧
      ((s.lanes[k]).synced = false → (s.lanes[k]).good ≠ 0 →
        (t.lanes[k]).synced = true ∧ (t.lanes[k]).resetDue = some (s.tickNo + 1)) ∧
      (t.lanes[k]).surgeStat = BitVec.ofNat 8 (streamNat (stream 17 ws) 0 8) ∧
      (t.lanes[k]).regOn = BitVec.ofNat 8 (streamNat (stream 17 ws) 8 8) ∧
      (t.lanes[k]).seqEcho = BitVec.ofNat 16 (streamNat (stream 17 ws) 48 16) ∧
      ∀ n : Fin 64, (t.ports[n]).retBlind = natBit (streamNat (stream 17 ws) 32 16) (15 - n.val / 32))

/-- R52, R75: the conversion of a frame, 5 µs after its tick, stores the code of the slot that the tick number selects in
every port; R60: eight supply readings in a row that lie more than 0.3 V off the chip in force, around the voltage that the
regulator holds, put a point out of service with 0210h; a reading within it, or with the regulator off, starts the count anew.
A second conversion in the frame does not happen. -/
def Obligations.SarConversionSlots : Prop :=
  (∀ (s : State) (codes : Vector (BitVec 12) 64), s.inReset = false → s.clk.sarRead ≠ some s.clk.tickAt →
    ∃ t, exec (.sarConversion codes) s = .next t ∧
      t.clk = { s.clk with elapsed := max s.clk.elapsed (s.clk.tickAt + 5000), sarRead := some s.clk.tickAt } ∧
      ({ s with clk := t.clk, ports := t.ports, sup := t.sup, engines := t.engines } : State).SameButLog t ∧
      (∀ n : Fin 64, (t.ports[n]).sar = (s.ports[n]).sar.set (s.tickNo % 4) codes[n] (Nat.mod_lt _ (by decide)) ∧
        (t.ports[n]).sarCount = (s.ports[n]).sarCount + 1) ∧
      (∀ n : Fin 64, s.tickNo % 4 ≠ 2 →
        (t.ports[n]).pulseBad = (s.ports[n]).pulseBad ∧ (t.ports[n]).supplyPrev = (s.ports[n]).supplyPrev) ∧
      (∀ n : Fin 64, (t.ports[n]).pulseFault = true → (s.ports[n]).pulseFault = false →
        8 ≤ (t.ports[n]).pulseBad ∧ (t.ports[n]).fault.getLsbD 11 = true ∧ (t.ports[n]).failed = true) ∧
      (∀ n : Fin 64, s.tickNo % 4 = 2 → s.assigned n = true → (s.ports[n]).supplyOn = true →
        let off := (10 * ((codes[n]).toNat : Int) - (s.ports[n]).ramped (max s.clk.elapsed (s.clk.tickAt + 5000)) -
          1280 * chipValue n.val s.clk.tickTb).natAbs
        (off ≤ 384 → (t.ports[n]).pulseBad = 0) ∧
        (384 < off → (t.ports[n]).pulseBad = (s.ports[n]).pulseBad + 1 ∧
          (7 ≤ (s.ports[n]).pulseBad → (t.ports[n]).pulseFault = true))) ∧
      (∀ n : Fin 64, s.tickNo % 4 = 2 → (s.assigned n = false ∨ (s.ports[n]).supplyOn = false) → (t.ports[n]).pulseBad = 0)) ∧
  (∀ (s : State) (codes : Vector (BitVec 12) 64), s.clk.sarRead = some s.clk.tickAt →
    exec (.sarConversion codes) s = .next s)

/-! ### Wheel detection units (R107 to R126, R104, R320) -/

/-- R118, R125: the trajectory rule of a detection context. SPENT emits nothing and ends only on a sample that is valid on
both channels and quiet; every uncertain record leads into SPENT; a record is committed only in TRACK, on a sample valid on
both channels, with a direction and a speed code up to 2,000; APPROACH and TRACK meet a VALID=0 sample with cause 01h. -/
def Obligations.TrajectoryRule : Prop :=
  ∀ (g : WduCfg) (h1 h2 : Half) (inst : Nat) (susp : Bool) (x : Ctx) (y : Ctx) (ev : WduEv),
    x.evaluate g h1 h2 inst susp = (y, ev) →
    (x.phase = .spent → ev = .none) ∧
    (x.phase = .spent → y.phase ≠ .spent →
      h1.valid = true ∧ h2.valid = true ∧ y.c1.s = false ∧ y.c2.s = false ∧ pos h1.d + pos h2.d < g.posMin) ∧
    (∀ c, ev = .unc c → y.phase = .spent) ∧
    (∀ r k, ev = .commit r k → x.phase = .track ∧ h1.valid = true ∧ h2.valid = true ∧ y.phase = .track ∧
      y.entry = !x.entry ∧ r.dir = (if x.entry then 2 else 1) ∧ r.uncertain = false ∧ r.speed.toNat ≤ 2000 ∧
      r.point = g.point ∧ r.modAddr = g.modAddr) ∧
    ((x.phase = .approach ∨ x.phase = .track) → (h1.valid = false ∨ h2.valid = false) → ev = .unc 1)

/-- R107, R108, R118, R123: a paired sample of an assigned point runs the trajectory rule on the pair after the delay line of the
delayed channel; a missing sample counts as VALID=0, and at an output instant that passed without any both do. An uncertain record
counts, logs 0501h and waits for delivery; a sample that yields no record leaves the counters and the entry number. -/
def Obligations.PairedSampleRunsTheRule : Prop :=
  (∀ (s : State) (n : Fin 64) (x1 x2 : Sample) (inst : Nat) (y : Ctx) (ev : WduEv), s.inReset = false → s.assigned n = true →
    (((s.wdus[n]).in1.isSome = true ∨ (s.wdus[n]).in2.isSome = true) ∧ inst = (s.wdus[n]).inInst) ∨
      ((s.wdus[n]).in1 = none ∧ (s.wdus[n]).in2 = none ∧ (s.wdus[n]).ctx.inst < inst ∧ inst = s.pastInst n) →
    (s.wdus[n]).lb3 = none →
    x1 = (if (s.wdus[n]).alignCh then (s.wdus[n]).in1.getD {}
      else (((s.wdus[n]).line ++ [(s.wdus[n]).in1.getD {}]).head?).getD {}) →
    x2 = (if (s.wdus[n]).alignCh then (((s.wdus[n]).line ++ [(s.wdus[n]).in2.getD {}]).head?).getD {}
      else (s.wdus[n]).in2.getD {}) →
    (s.wdus[n]).ctx.evaluate (s.wduCfg n false) (halfOf (s.spanOf n) x1) (halfOf (s.spanOf n) x2) inst
      (s.suspect n) = (y, ev) →
    ∃ t, exec (.pairedSample n) s = .next t ∧ OthersSame s.wdus t.wdus n ∧ OthersSame s.ports t.ports n ∧ t.clk = s.clk ∧
      ({ s with wdus := t.wdus, ports := t.ports, chans := t.chans, rt := t.rt, engines := t.engines,
                mgt := { s.mgt with axlEmit := t.mgt.axlEmit } } : State).SameButLog t ∧
      (∀ c : Fin 128, portOf c ≠ n → t.chans[c] = s.chans[c]) ∧
      (t.wdus[n]).in1 = none ∧ (t.wdus[n]).in2 = none ∧ (t.wdus[n]).ctx = y ∧
      (ev = .none → t.mgt.axlEmit = s.mgt.axlEmit ∧ (t.wdus[n]).outQ = (s.wdus[n]).outQ ∧
        (t.wdus[n]).cntFwd = (s.wdus[n]).cntFwd ∧ (t.wdus[n]).cntRev = (s.wdus[n]).cntRev ∧
        (t.wdus[n]).uncCnt = (s.wdus[n]).uncCnt) ∧
      (∀ c, ev = .unc c → t.mgt.axlEmit = s.mgt.axlEmit + 1 ∧ (t.wdus[n]).uncCnt = satInc (s.wdus[n]).uncCnt ∧
        (t.wdus[n]).lastCause = c ∧ t.lastFault 0x0501 n.val ∧
        (∃ o, (t.wdus[n]).outQ = (s.wdus[n]).outQ ++ [o] ∧ o.record.uncertain = true ∧ o.record.cause = c ∧
          o.num = s.mgt.axlEmit) ∧
        (t.wdus[n]).cntFwd = (s.wdus[n]).cntFwd ∧ (t.wdus[n]).cntRev = (s.wdus[n]).cntRev)) ∧
  (∀ (s : State) (n : Fin 64), s.assigned n = false → exec (.pairedSample n) s = .next s)

/-- R113, R116: 50 ms below −150 ‰ load the baseline of the system, log 0503h, clear BASE_DAMPED and, but in SPENT, emit an
uncertain record with cause 09h; ACTIVE ends 50 ms after the last damping at FREEZE_LVL. -/
def Obligations.DampingTimeouts : Prop :=
  (∀ (s : State) (dt : Nat) (n : Fin 64) (b : Nat), s.inReset = false → s.assigned n = true →
    (s.wdus[n]).neg1 = some b → b + 50000000 ≤ s.now + dt → (s.wdus[n]).ctx.phase = .spent →
    ∃ t, exec (.negativeDampingTimeout dt n .cs1) s = .next t ∧ OthersSame s.wdus t.wdus n ∧
      OthersSame s.chans t.chans (chanOf n .cs1) ∧
      ({ s.pass dt with wdus := t.wdus, chans := t.chans } : State).SameButLog t ∧
      t.wdus[n] = { s.wdus[n] with neg1 := none, baseDamped := false, fault := setBit (s.wdus[n]).fault 2 } ∧
      t.chans[chanOf n .cs1] = (s.chans[chanOf n .cs1]).loadBase ∧ t.lastFault 0x0503 n.val) ∧
  (∀ (s : State) (dt : Nat) (n : Fin 64) (b : Nat), s.inReset = false → s.assigned n = true →
    (s.wdus[n]).neg2 = some b → b + 50000000 ≤ s.now + dt → (s.wdus[n]).ctx.phase ≠ .spent →
    ∃ t, exec (.negativeDampingTimeout dt n .cs2) s = .next t ∧ OthersSame s.wdus t.wdus n ∧
      OthersSame s.ports t.ports n ∧ OthersSame s.chans t.chans (chanOf n .cs2) ∧
      ({ s.pass dt with wdus := t.wdus, chans := t.chans, ports := t.ports,
                        mgt := { s.mgt with axlEmit := s.mgt.axlEmit + 1 } } : State).SameButLog t ∧
      t.chans[chanOf n .cs2] = (s.chans[chanOf n .cs2]).loadBase ∧ (t.wdus[n]).ctx.phase = .spent ∧
      (t.wdus[n]).neg2 = none ∧ (t.wdus[n]).baseDamped = false ∧ (t.wdus[n]).lastCause = 9 ∧
      (t.wdus[n]).uncCnt = satInc (s.wdus[n]).uncCnt ∧ t.lastFault 0x0501 n.val) ∧
  (∀ (s : State) (dt : Nat) (c : Fin 128), s.inReset = false → (s.chans[c]).active = true →
    (s.wdus[portOf c]).last1 < s.freezeOf c → (s.wdus[portOf c]).last2 < s.freezeOf c →
    (s.chans[c]).aboveAt + 50000000 ≤ s.now + dt →
    ∃ t, exec (.activeHoldEnd dt c) s = .next t ∧ OthersSame s.chans t.chans c ∧ t = { s.pass dt with chans := t.chans } ∧
      t.chans[c] = { s.chans[c] with active := false })

/-- R126, R314, R320: the oldest record of a point is delivered: a TEST record to Pewter's queue alone, any other also to the
journal of each engine that it concerns; and Pewter writes the oldest complete entry of a point into the page buffer. -/
def Obligations.AxleRecordsDelivered : Prop :=
  (∀ (s : State) (n : Fin 64) (o : OutRec) (rest : List OutRec), s.inReset = false → (s.wdus[n]).outQ = o :: rest →
    o.record.test = true → s.hasRoom →
    ∃ t, exec (.axleRecordDelivered n) s = .next t ∧ OthersSame s.wdus t.wdus n ∧
      t = { s with wdus := t.wdus, mgt := { s.mgt with queue := s.mgt.queue ++ [.axle { num := o.num, record := o.record }] } } ∧
      t.wdus[n] = { s.wdus[n] with outQ := rest }) ∧
  (∀ (s : State) (n : Fin 64) (o : OutRec) (rest : List OutRec), s.inReset = false → (s.wdus[n]).outQ = o :: rest →
    o.record.test = false → s.hasRoom → s.cfg.streams = [] →
    ∃ t, exec (.axleRecordDelivered n) s = .next t ∧ OthersSame s.wdus t.wdus n ∧
      t = { s with wdus := t.wdus, engines := t.engines,
                   mgt := { s.mgt with queue := s.mgt.queue ++ [.axle { num := o.num, record := o.record }] } } ∧
      t.wdus[n] = { s.wdus[n] with outQ := rest } ∧
      (∀ e : Fin 4, s.routesTo e o.record = true →
        t.engines[e] = (s.engines[e]).post s.late (Journal.addRec o.record)) ∧
      (∀ e : Fin 4, s.routesTo e o.record = false → t.engines[e] = s.engines[e])) ∧
  (∀ (s : State) (n : Fin 64) (x : Snip) (rest : List Snip), s.pewterOn = true → (s.wdus[n]).snips = x :: rest →
    x.left = 0 → x.taken = true →
    ∃ t, exec (.axleEntryWritten n) s = .next t ∧ OthersSame s.wdus t.wdus n ∧
      t = { s with wdus := t.wdus, mgt := { s.mgt with
        axlBuf := s.mgt.axlBuf ++ [x.entry], axlBufAt := t.mgt.axlBufAt, axlEpoch := t.mgt.axlEpoch } } ∧
      t.wdus[n] = { s.wdus[n] with snips := rest })

/-! ### Links (R184 to R206, R216 to R219) -/

/-- R191, Table 7-6, checks 1 to 6: the first check that fails drops the frame, counts it, logs its code and ends the checks,
with no other effect but the CRC's interrupt bit; a second segment that fails at its destination drops the first one held too
(R189). A frame is 256 bytes: any other length is no event. -/
def Obligations.FrameChecksOneToSix : Prop :=
  (∀ (s : State) (dt : Nat) (k : Fin 8) (ok : Bool) (sof : Stamp) (b : List Byte), b.length ≠ 256 →
    exec (.frameReceived dt k ok sof b) s = .fault .notAnEvent) ∧
  (∀ (s : State) (dt : Nat) (k : Fin 8) (sof : Stamp) (b : List Byte), b.length = 256 → s.inReset = false →
    s.linkUsed k = true → (s.links[k]).sync = true → (s.links[k]).looped = false →
    (∃ t, exec (.frameReceived dt k false sof b) s = .next t ∧ (s.pass dt).onlyLink t k
      { s.links[k] with errSync := satInc (s.links[k]).errSync, fault := setBit (s.links[k]).fault 7 } 0x0809) ∧
    (bytesAt b 252 4 ≠ (crc32c (b.take 252)).toNat →
      ∃ t, exec (.frameReceived dt k true sof b) s = .next t ∧ OthersSame s.links t.links k ∧
        ({ s.pass dt with links := t.links, mdl := { s.mdl with irqCrc := s.mdl.irqCrc ||| (1 <<< k.val) } } : State).SameButLog t ∧
        t.links[k] = { s.links[k] with
          errCrc := satInc (s.links[k]).errCrc, fault := setBit (s.links[k]).fault 0 } ∧
        t.lastFault 0x0801 k.val) ∧
    (bytesAt b 252 4 = (crc32c (b.take 252)).toNat → 31 < (byteAt b 248).toNat →
      ∃ t, exec (.frameReceived dt k true sof b) s = .next t ∧ (s.pass dt).onlyLink t k
        { s.links[k] with errAddr := satInc (s.links[k]).errAddr, fault := setBit (s.links[k]).fault 10 } 0x080C) ∧
    (bytesAt b 252 4 = (crc32c (b.take 252)).toNat → (byteAt b 248).toNat ≤ 31 →
      (frDst b = moduleWord s.addr ∨ k.val < 3 ∨ s.fromSelf b = false) →
      (laneOk k b = false ∨ (frDst b ≠ moduleWord s.addr ∧ (k.val < 3 ∨ s.relayFor k b = none))) →
      ∃ t, exec (.frameReceived dt k true sof b) s = .next t ∧ (s.pass dt).onlyLink t k
        { s.links[k] with errAddr := satInc (s.links[k]).errAddr, fault := setBit (s.links[k]).fault 2 } 0x0804) ∧
    (bytesAt b 252 4 = (crc32c (b.take 252)).toNat → (byteAt b 248).toNat ≤ 31 → laneOk k b = true →
      frDst b = moduleWord s.addr → (scPrime ≤ bytesAt b 244 4 ∨ bytesAt b 244 4 ≠ (safetyCode s.cfg.seed b).toNat) →
      ∃ t, exec (.frameReceived dt k true sof b) s = .next t ∧ (s.pass dt).onlyLink t k
        { s.links[k] with errSc := satInc (s.links[k]).errSc, seg := ((s.dropSecond k b).links[k]).seg
                          fault := setBit (s.links[k]).fault 1 } 0x0802) ∧
    (bytesAt b 252 4 = (crc32c (b.take 252)).toNat → (byteAt b 248).toNat ≤ 31 → laneOk k b = true →
      frDst b = moduleWord s.addr → bytesAt b 244 4 < scPrime → bytesAt b 244 4 = (safetyCode s.cfg.seed b).toNat →
      formatOk (decide (k.val < 3)) b = false →
      ∃ t, exec (.frameReceived dt k true sof b) s = .next t ∧ (s.pass dt).onlyLink t k
        { s.links[k] with errFormat := satInc (s.links[k]).errFormat, seg := ((s.dropSecond k b).links[k]).seg } 0x0803))

/-- R191 (checks 7 to 9), R193, R196, R197: a frame to the module that passes checks 1 to 6. One from the module's own address
is an address conflict, and so is one that a relay table routes back on a neighbour link, whatever its DST; one of no stream, with
a SEQ not ahead, or too old is dropped; any other is accepted, sets the reference of its stream and counts the frames missing before
it. Periods of the stream that have ended by the acceptance are closed before it (R198). -/
def Obligations.FrameChecksSevenToNine : Prop :=
  (∀ (s : State) (dt : Nat) (k : Fin 8) (sof : Stamp) (b : List Byte), b.length = 256 → s.inReset = false →
    s.linkUsed k = true → (s.links[k]).sync = true → (s.links[k]).looped = false → 3 ≤ k.val →
    bytesAt b 252 4 = (crc32c (b.take 252)).toNat → (byteAt b 248).toNat ≤ 31 →
    frDst b ≠ moduleWord s.addr → frSrc b = moduleWord s.addr → byteAt b 2 ≠ 6 →
    ∃ t, exec (.frameReceived dt k true sof b) s = .next t ∧ OthersSame s.links t.links k ∧ t.conflict = true ∧
      UCause.conflict ∈ t.causes ∧ t.lastFault 0x080E k.val) ∧
  (∀ (s : State) (dt : Nat) (k : Fin 8) (sof : Stamp) (b : List Byte), b.length = 256 → s.inReset = false →
    s.linkUsed k = true → (s.links[k]).sync = true → (s.links[k]).looped = false →
    bytesAt b 252 4 = (crc32c (b.take 252)).toNat → (byteAt b 248).toNat ≤ 31 → laneOk k b = true →
    frDst b = moduleWord s.addr → bytesAt b 244 4 < scPrime → bytesAt b 244 4 = (safetyCode s.cfg.seed b).toNat →
    formatOk (decide (k.val < 3)) b = true →
    (frSrc b = moduleWord s.addr → byteAt b 2 ≠ 6 →
      ∃ t, exec (.frameReceived dt k true sof b) s = .next t ∧ OthersSame s.links t.links k ∧ t.conflict = true ∧
        UCause.conflict ∈ t.causes ∧ t.lastFault 0x080E k.val ∧
        ({ s.pass dt with links := t.links, conflict := true, causes := t.causes, begun := t.begun,
                          engines := t.engines } : State).SameButLog t) ∧
    (frSrc b ≠ moduleWord s.addr → s.streamOf k b = none →
      ∃ t, exec (.frameReceived dt k true sof b) s = .next t ∧ (s.pass dt).onlyLink t k
        { s.links[k] with errAddr := satInc (s.links[k]).errAddr, fault := setBit (s.links[k]).fault 2 } 0x0804) ∧
    (∀ (st : StreamRef), frSrc b ≠ moduleWord s.addr → s.streamOf k b = some st → (s.rxOf st).isSome = true →
      exec (.frameReceived dt k true sof b) s = exec (.frameReceived 0 k true sof b) ((s.pass dt).closePeriods st)) ∧
    (∀ (st : StreamRef) (rx : Rx) (j : Fin 8) (q : Word), frSrc b ≠ moduleWord s.addr → s.streamOf k b = some st →
      s.rxOf st = some (rx, j) → (s.pass dt).tb < rx.periodEnd + s.periodOf st → rx.last = some q → rx.timedOut = false →
      ((frSeq b - q).toNat = 0 ∨ 65536 < (frSeq b - q).toNat) →
      ∃ t, exec (.frameReceived dt k true sof b) s = .next t ∧ (s.pass dt).onlyLink t k
        { s.links[k] with errOld := satInc (s.links[k]).errOld, fault := setBit (s.links[k]).fault 3 } 0x0805) ∧
    (∀ (st : StreamRef) (rx : Rx) (j : Fin 8), frSrc b ≠ moduleWord s.addr → s.streamOf k b = some st →
      s.rxOf st = some (rx, j) → (s.pass dt).tb < rx.periodEnd + s.periodOf st →
      (rx.last = none ∨ rx.timedOut = true) → ((s.pass dt).ageOk k b).1 = false →
      ∃ t, exec (.frameReceived dt k true sof b) s = .next t ∧ (s.pass dt).onlyLink t k
        { s.links[k] with errAge := satInc (s.links[k]).errAge, seg := ((s.dropSecond k b).links[k]).seg
                          fault := setBit (s.links[k]).fault 5 } 0x0807) ∧
    (∀ (st : StreamRef) (rx : Rx) (j : Fin 8), frSrc b ≠ moduleWord s.addr → s.streamOf k b = some st →
      s.rxOf st = some (rx, j) → (s.pass dt).tb < rx.periodEnd + s.periodOf st → ((s.pass dt).ageOk k b).1 = true →
      (∀ q, rx.last = some q → rx.timedOut = false → 1 ≤ (frSeq b - q).toNat ∧ (frSeq b - q).toNat ≤ 65536) →
      ∃ t, exec (.frameReceived dt k true sof b) s = .next t ∧
        ({ s.pass dt with links := t.links, areas := t.areas, tbs := t.tbs, cmd := t.cmd, engines := t.engines,
                          rxQueue := t.rxQueue, begun := t.begun,
                          clk := { (s.pass dt).clk with stepDue := t.clk.stepDue, extDue := t.clk.extDue } } : State).SameButLog t ∧
        (t.links[k]).rxOk = (s.links[k]).rxOk + 1 ∧ (t.links[k]).up = true ∧ (t.links[k]).loopDown = false ∧
        t.rxOf st = some ({ rx with last := some (frSeq b), got := true, timedOut := false }, j) ∧
        (∀ q, rx.last = some q → rx.timedOut = false →
          (t.links[k]).errMissing = satAdd (s.links[k]).errMissing ((frSeq b - q).toNat - 1))))

/-- R184, R185, R202: three idle pairs in a row give sync, four bad characters of 16 lose it with 0809h; a slot start puts on the
line the frame fixed for that tick, else the oldest frame of a relay entry due there, else idle; on a link that is looped back, the
TEST frame of the loopback.
R198, Table 7-7: at the end of a stream period a frame accepted in it ends the count of missed periods; the third missed one
in a row times the stream out with 0808h. -/
def Obligations.LinkSyncSlotsAndTimeouts : Prop :=
  (∀ (s : State) (dt : Nat) (k : Fin 8) (p : Nat), s.inReset = false → s.linkUsed k = true → (s.links[k]).sync = false →
    3 ≤ p → ∃ t, exec (.linkSyncAcquired dt k p) s = .next t ∧ OthersSame s.links t.links k ∧
      t = { s.pass dt with links := t.links } ∧ t.links[k] = { s.links[k] with sync := true, up := false }) ∧
  (∀ (s : State) (dt : Nat) (k : Fin 8) (bad : BitVec 16), s.inReset = false → s.linkUsed k = true →
    (s.links[k]).sync = true → 4 ≤ (List.range 16).countP (fun i => bad.getLsbD i) →
    ∃ t, exec (.linkSyncLoss dt k bad) s = .next t ∧ (s.pass dt).onlyLink t k
      { s.links[k] with sync := false, up := false, errSync := satInc (s.links[k]).errSync,
                        fault := setBit (s.links[k]).fault 7 } 0x0809) ∧
  (∀ (s : State) (dt : Nat) (k : Fin 8) (p : Nat), p < 3 → exec (.linkSyncAcquired dt k p) s = .next (s.pass dt)) ∧
  (∀ (s : State) (k : Fin 8) (i : Nat), s.inReset = false → s.linkUsed k = true → s.slotAt k s.clk.tickTb = some i →
    (s.links[k]).txTick ≠ some s.tickNo →
    ∃ t, exec (.linkSlotStart k) s = .next t ∧ OthersSame s.links t.links k ∧
      t = { s with links := t.links, relays := t.relays } ∧ (t.links[k]).txTick = some s.tickNo ∧
      ((s.links[k]).looped = true → (t.links[k]).tx = s.testTx k ∧ t.relays = s.relays) ∧
      (∀ a : Armed, (s.links[k]).looped = false → (s.links[k]).ready = some a → a.tick = s.tickNo →
        (t.links[k]).tx = some a.bytes ∧ (t.links[k]).ready = none ∧ t.relays = s.relays) ∧
      ((s.links[k]).looped = false → (s.links[k]).ready = none → s.relayDue k i = none →
        (t.links[k]).tx = none ∧ t.relays = s.relays) ∧
      (∀ (j : Nat) (f : RelayFrame), (s.links[k]).looped = false → (s.links[k]).ready = none →
        s.relayDue k i = some (j, f) →
        (t.links[k]).tx = some (s.relayedFrame k i f.bytes) ∧ (t.links[k]).relaySent = (s.links[k]).relaySent + 1 ∧
        t.relays = s.relays.mapIdx (fun n (b : List RelayFrame) => if n = j then b.drop 1 else b))) ∧
  (∀ (s : State) (dt : Nat) (st : StreamRef) (rx : Rx) (k : Fin 8), s.inReset = false → s.rxOf st = some (rx, k) →
    s.linkUsed k = true → rx.periodEnd + s.periodOf st ≤ (s.pass dt).tb → rx.got = true →
    ∃ t, exec (.streamPeriodEnd dt st) s = .next t ∧ t = { s.pass dt with links := t.links, areas := t.areas } ∧
      t.rxOf st = some ({ rx with periodEnd := rx.periodEnd + s.periodOf st, got := false, missed := 0 }, k)) ∧
  (∀ (s : State) (dt : Nat) (i : Fin 3) (rx : Rx) (k : Fin 8), s.inReset = false → s.rxOf (.command i) = some (rx, k) →
    s.linkUsed k = true → rx.periodEnd + s.periodOf (.command i) ≤ (s.pass dt).tb → rx.got = false → rx.missed = 2 →
    rx.timedOut = false →
    ∃ t, exec (.streamPeriodEnd dt (.command i)) s = .next t ∧ (s.pass dt).onlyLink t k
      { s.links[k] with
        rx := { rx with periodEnd := rx.periodEnd + s.periodOf (.command i), missed := 3, timedOut := true }
        timeouts := satInc (s.links[k]).timeouts, fault := setBit (s.links[k]).fault 6 } 0x0808) ∧
  (∀ (s : State) (dt : Nat) (i : Nat) (d : StreamDef) (rx : Rx) (k : Fin 8), s.inReset = false →
    s.rxOf (.area i) = some (rx, k) → s.cfg.streams[i]? = some d → s.linkUsed k = true →
    rx.periodEnd + s.periodOf (.area i) ≤ (s.pass dt).tb → rx.got = false → rx.missed = 2 → rx.timedOut = false →
    ∃ t, exec (.streamPeriodEnd dt (.area i)) s = .next t ∧ OthersSame s.links t.links k ∧
      ({ s.pass dt with links := t.links, areas := t.areas, engines := t.engines } : State).SameButLog t ∧
      t.rxOf (.area i) = some ({ rx with
        periodEnd := rx.periodEnd + s.periodOf (.area i), missed := 3, timedOut := true }, k) ∧
      t.lastFault 0x0808 k.val ∧ (s.pass dt).linkPosted t (.lost d.link d.peer (BitVec.allOnes 64))) ∧
  (∀ (s : State) (dt : Nat) (j : Fin 8) (rx : Rx) (k : Fin 8), s.inReset = false → s.rxOf (.status j) = some (rx, k) →
    s.linkUsed k = true → rx.periodEnd + s.periodOf (.status j) ≤ (s.pass dt).tb → rx.got = false → rx.missed = 2 →
    rx.timedOut = false →
    ∃ t, exec (.streamPeriodEnd dt (.status j)) s = .next t ∧ OthersSame s.links t.links k ∧
      ({ s.pass dt with links := t.links, tbs := t.tbs, engines := t.engines } : State).SameButLog t ∧
      t.rxOf (.status j) = some ({ rx with
        periodEnd := rx.periodEnd + s.periodOf (.status j), missed := 3, timedOut := true }, k) ∧
      (t.links[k]).timeouts = satInc (s.links[k]).timeouts)

/-- R216, R217, R242: LBA ends after 20 ms, PASS with every TEST frame intact and the delay within 16 ns of the reference, and
else fails with 080Dh. LBF passes its three TEST frames in a slot with nothing to send: PASS where the CRC checker and both
safety-code checkers compute what they should, and else 080Dh; or it ends with NO_SLOT after 100 ms. Unit 0 computes the reference
CRC.
R218: an unanswered LBR request fails after eight link cycles; the loop starts with the cycle after the acknowledgement; it
ends after 50 ms, at the requesting end with PASS for intact TEST frames and a round-trip delay within 50 ns of twice the last measured
one, at the peer's end at the next cycle start and without a result. -/
def Obligations.LoopbacksOfALink : Prop :=
  (∀ (s : State) (dt : Nat) (k : Fin 8) (x : LinkLoop) (errs : List (Fin 80 × Fin 2048)) (d r : BitVec 24), s.inReset = false →
    (s.links[k]).loop = some x → x.kind = .lba → x.begin + 20000000 ≤ s.now + dt →
    ∃ t, exec (.lbaEnd dt k errs d r) s = .next t ∧ OthersSame s.links t.links k ∧ OthersSame s.crc t.crc 0 ∧
      ({ s.pass dt with links := t.links, engines := t.engines, crc := t.crc,
                        mdl := { s.mdl with irqCheck := t.mdl.irqCheck } } : State).SameButLog t ∧
      (s.pass dt).linkPosted t (.linkLoop k false) ∧
      (errs = [] → d.toNat ≤ r.toNat + 16 → r.toNat ≤ d.toNat + 16 → t.mgt = s.mgt ∧ t.mdl = s.mdl ∧
        (t.crc[(0 : Fin 4)]).outcome = 1 ∧ t.links[k] = { s.links[k] with
          loop := none, testReq := 0, testNo := 0, loopKind := 1, loopRes := 1, loopDelay := d }) ∧
      ((∃ p ∈ (s.pass dt).testErrs k x.begin (s.testCount k 20) (errs.map (fun q => (q.1.val, q.2.val))),
          testIntact s.seed (decide (k.val < 3)) p.1 p.2 = false) ∨ r.toNat + 16 < d.toNat ∨ d.toNat + 16 < r.toNat →
        t.lastFault 0x080D k.val ∧ t.links[k] = { s.links[k] with
          loop := none, testReq := 0, testNo := 0, loopKind := 1, loopRes := 2, loopDelay := d, loopDown := true
          fault := setBit (s.links[k]).fault 12 })) ∧
  (∀ (s : State) (dt : Nat) (k : Fin 8) (x : LinkLoop) (crc a b : Word), s.inReset = false →
    (s.links[k]).loop = some x → x.kind = .lbf → x.begin ≤ s.now + dt → (s.slotAt k s.clk.tickTb).isSome = true →
    (s.links[k]).txTick = some s.tickNo → (s.links[k]).tx = none →
    ∃ t, exec (.lbfRun dt k crc (a, b)) s = .next t ∧ OthersSame s.links t.links k ∧ OthersSame s.crc t.crc 0 ∧
      ({ s.pass dt with links := t.links, crc := t.crc, mdl := { s.mdl with irqCheck := t.mdl.irqCheck } } : State).SameButLog t ∧
      (t.links[k]).loop = none ∧ (t.links[k]).loopKind = 2 ∧
      (crc = 0 ∧ a = 0 ∧ b = 0 → (t.links[k]).loopRes = 1 ∧ t.mgt = s.mgt) ∧
      (crc ≠ 0 ∨ a ≠ 0 ∨ b ≠ 0 → (t.links[k]).loopRes = 2 ∧ t.lastFault 0x080D k.val)) ∧
  (∀ (s : State) (dt : Nat) (k : Fin 8) (x : LinkLoop), s.inReset = false → (s.links[k]).loop = some x → x.kind = .lbf →
    x.begin + 100000000 ≤ s.now + dt →
    ∃ t, exec (.lbfNoSlot dt k) s = .next t ∧ OthersSame s.links t.links k ∧ t = { s.pass dt with links := t.links } ∧
      t.links[k] = { s.links[k] with
        loop := none, testReq := 0, testNo := 0, loopKind := 2, loopRes := 3, loopDelay := 0 }) ∧
  (∀ (s : State) (dt : Nat) (k : Fin 8) (x : LinkLoop), s.inReset = false → (s.links[k]).loop = some x → x.kind = .lbr →
    x.peer = false → x.stage = 0 → x.begin + 8 * s.linkCycle k ≤ s.now + dt →
    ∃ t, exec (.lbrRequestTimeout dt k) s = .next t ∧ (s.pass dt).onlyLink t k
      { s.links[k] with
        loop := none, testReq := 0, testNo := 0, loopKind := 3, loopRes := 2, loopDelay := 0, loopDown := true
        fault := setBit (s.links[k]).fault 12 } 0x080D) ∧
  (∀ (s : State) (dt : Nat) (k : Fin 8) (x : LinkLoop), s.inReset = false → (s.links[k]).loop = some x → x.kind = .lbr →
    x.stage = 1 → s.clk.tickTb % s.linkCycle k = 0 → s.now + dt = s.clk.tickAt → (s.links[k]).txTick ≠ some s.tickNo →
    ∃ t, exec (.lbrLoopStart dt k) s = .next t ∧ OthersSame s.links t.links k ∧
      ({ s.pass dt with links := t.links, engines := t.engines, tbs := t.tbs, begun := t.begun } : State).SameButLog t ∧
      t.links[k] = { s.links[k] with
        loop := some { x with stage := 2, begin := s.now + dt }, testReq := 0, testNo := 0, armed := none, ready := none } ∧
      (s.pass dt).linkPosted t (.linkLoop k true)) ∧
  (∀ (s : State) (dt : Nat) (k : Fin 8) (x : LinkLoop) (errs : List (Fin 200 × Fin 2048)) (d : BitVec 24),
    s.inReset = false → (s.links[k]).loop = some x → x.kind = .lbr → x.stage = 2 → x.begin + 50000000 ≤ s.now + dt →
    x.peer = true → s.now + dt = s.clk.tickAt → s.clk.tickTb % s.linkCycle k = 0 →
    ∃ t, exec (.lbrEnd dt k errs d) s = .next t ∧ OthersSame s.links t.links k ∧
      t = { s.pass dt with links := t.links, engines := t.engines } ∧
      t.links[k] = { s.links[k] with loop := none } ∧ (s.pass dt).linkPosted t (.linkLoop k false)) ∧
  (∀ (s : State) (dt : Nat) (k : Fin 8) (x : LinkLoop) (errs : List (Fin 200 × Fin 2048)) (d : BitVec 24),
    s.inReset = false → (s.links[k]).loop = some x → x.kind = .lbr → x.stage = 2 → x.begin + 50000000 ≤ s.now + dt →
    x.peer = false →
    ∃ t, exec (.lbrEnd dt k errs d) s = .next t ∧ OthersSame s.links t.links k ∧
      ({ s.pass dt with links := t.links, engines := t.engines } : State).SameButLog t ∧
      (s.pass dt).linkPosted t (.linkLoop k false) ∧
      (t.links[k]).loop = none ∧ (t.links[k]).loopKind = 3 ∧ (t.links[k]).loopDelay = d ∧
      ((t.links[k]).loopRes = 1 ↔
        (∀ p ∈ (s.pass dt).testErrs k x.begin (s.testCount k 50) (errs.map (fun q => (q.1.val, q.2.val))),
          testIntact s.seed false p.1 p.2 = true) ∧
         d.toNat ≤ (s.links[k]).delta2 + 50 ∧ (s.links[k]).delta2 ≤ d.toNat + 50) ∧
      ((t.links[k]).loopRes ≠ 1 → (t.links[k]).loopRes = 2 ∧ t.lastFault 0x080D k.val))

/-! ### Commands by opcode: what bars them, reads, resets (R227, R234 to R238, R143, R254) -/

/-- R227, R197, R235, R236, R238: what bars a command that its row gives. A class that the opcode does not admit, or a class T
source without its key, is answered NOT_PERMITTED with 0A06h; a command that is no read meets BUSY_TESTING during a shutdown
self-test and ENGINE_HALTED where its vote was exempt or no engine executes it, by which a reset logs 0709h; without an ACTIVE
image it meets UNCONFIRMED. Nothing else happens. None of this bars a loopback that the test access port starts in production
test mode (R366). -/
def Obligations.CommandsBarred : Prop :=
  ∀ (c : Instr) (w : Who) (o : Op) (ps : List Byte) (s : State), asOp c = some (w, o, ps) → s.inReset = false →
    (s.clk.prodTest = false ∨ o.isLoopback = false) →
    (classAdmits w.class o.code ps = false →
      ∃ t, exec c s = .next t ∧
        ({ s with cmd := { s.cmd with fault := setBit s.cmd.fault 5 } } : State).answered t { status := stNotPermitted } ∧
        t.lastFault 0x0A06 0xFFFF) ∧
    (classAdmits w.class o.code ps = true → isRead o.code = false → s.testing = true → w.class ≠ .v →
      exec c s = .next { s with cmd := { s.cmd with lastReply := some { status := stBusyTesting } } }) ∧
    (classAdmits w.class o.code ps = true → isRead o.code = false → s.testing = false → w = .lanes true →
      o.asReset = none → s.precheck { who := w, op := o, ref := .none } s.snap = none →
      exec c s = .next { s with cmd := { s.cmd with lastReply := some { status := stEngineHalted } } }) ∧
    (classAdmits w.class o.code ps = true → (s.testing = false ∨ isRead o.code = true) →
      (w ≠ .lanes true ∨ isRead o.code = true) → o.onAdmission = false → s.executor o = none →
      s.precheck { who := w, op := o, ref := .none } s.snap = none → o.asReset = none →
      exec c s = .next { s with cmd := { s.cmd with lastReply := some { status := stEngineHalted } } }) ∧
    (classAdmits w.class o.code ps = true → s.testing = false → (w = .lanes true ∨ s.executor o = none) →
      s.precheck { who := w, op := o, ref := .none } s.snap = none → o.asReset.isSome = true →
      ∃ t, exec c s = .next t ∧ ({ s with secFault := t.secFault } : State).answered t { status := stEngineHalted } ∧
        ∃ obj, t.lastFault 0x0709 obj) ∧
    (classAdmits w.class o.code ps = true → (s.testing = false ∨ isRead o.code = true) →
      (w ≠ .lanes true ∨ isRead o.code = true) →
      (o.onAdmission = true → s.pewterOn = true ∨ o.code.toNat ∈ [0x01, 0x02, 0x03, 0x60]) → o.asReset = none →
      s.hasImage = false → needsImage o.code = true →
      exec c s = .next { s with cmd := { s.cmd with lastReply := some { status := stUnconfirmed } } }) ∧
    (∀ (id : BitVec 3) (k : Nat), w = .tool id → keyOf o.code = some k → s.testing = false →
      (if k = 6 then s.accepted 6 else s.accepted 7) = false → classAdmits .t o.code ps = true →
      (s.hasImage = true ∨ needsImage o.code = false) →
      ∃ t, exec c s = .next t ∧
        ({ s with cmd := { s.cmd with fault := setBit s.cmd.fault 5 } } : State).answered t { status := stNotPermitted } ∧
        t.lastFault 0x0A06 0xFFFF)

/-- R233 to R238, R323: a command that nothing bars, but for a reset, which a frame of its engine executes, runs on the present
state and is answered with its result, with event 0002h unless Pewter itself sent it; a verification is answered when it ends. -/
def Obligations.CommandsRun : Prop :=
  ∀ (c : Instr) (w : Who) (o : Op) (ps : List Byte) (s u : State), asOp c = some (w, o, ps) → s.admits w o ps → o.asReset = none →
    (∀ r, s.perform { who := w, op := o, ref := .none } s.snap = (u, some r) → ∃ t, exec c s = .next t ∧ u.answered t r ∧
      (w ≠ .mgt 0 → u.hasRoom → ∃ e : Event, t.mgt.queue = u.mgt.queue ++ [.event e] ∧ e.code = 0x0002 ∧ e.obj = 0xFFFF)) ∧
    (s.perform { who := w, op := o, ref := .none } s.snap = (u, none) → exec c s = .next u)

/-- Table 8-8: the reads answer from the published image and leave everything else. GET_SECTION and GET_AXLES of another
module's section are answered BAD_PARAM; LOG_READ gives up to 13 entries from the number asked for.
R254: FAULT_ACK ends the reset fault of an input that has been released for 1 s, unless a feed or evaluator fault holds, and the
images of the publication show KEY_INHIBIT of the sections that it serves as 0; before that it is NOT_PERMITTED; without a reset
fault it changes nothing. -/
def Obligations.ReadsAndFaultAcknowledge : Prop :=
  (∀ (s : State) (w : Who), s.admits w .getStatus [] →
    ∃ t, exec (.getStatus w) s = .next t ∧ s.answered t ⟨stOk, s.statusPayload 0 0⟩) ∧
  (∀ (s : State) (w : Who) (gid : Word), s.admits w (.getSection gid) [] →
    ∃ t r, exec (.getSection w gid) s = .next t ∧ s.answered t r ∧
      (gid.toNat / 256 ≠ s.cfg.modAddr.toNat → r = { status := stBadParam }) ∧
      (∀ i d, s.cfg.localSec gid = some i → s.cfg.sec i = some d → r = ⟨stOk,
        wordBytes (s.secRegs i) ++ [BitVec.ofNat 8 d.members.length, 0, 0, 0] ++ wordBytes (d.members.map Member.word)⟩)) ∧
  (∀ (s : State) (w : Who) (gid : Word) (f : BitVec 16) (n l : Byte), s.admits w (.getAxles gid f n l) [] →
    ∃ t r, exec (.getAxles w gid f n l) s = .next t ∧ s.answered t r ∧
      (gid.toNat / 256 ≠ s.cfg.modAddr.toNat ∨ n = 0 ∨ 13 < n.toNat ∨ 1 < l.toNat → r = { status := stBadParam }) ∧
      (∀ i x, s.cfg.localSec gid = some i → s.pubSec i = some x → n ≠ 0 → n.toNat ≤ 13 → l = 0 →
        r = ⟨stOk, toBytes 2 x.ledger.length ++
          [BitVec.ofNat 8 ((x.ledger.drop f.toNat).take n.toNat).length, if x.st = .disturbed ∧ x.discarded = false then 1 else 0] ++
          ((x.ledger.drop f.toNat).take n.toNat).flatMap AxleRec.toBytes⟩)) ∧
  (∀ (s : State) (w : Who), s.admits w .timebaseStatus [] →
    ∃ t, exec (.timebaseStatus w) s = .next t ∧ s.answered t ⟨stOk,
      wordBytes [s.tbsStateWord, s.tbs.offset, s.tbsSteerWord, s.tbsStepWord, s.tbs.lastStep] ++
      toBytes 6 (s.tickExt % 2 ^ 48) ++
      wordBytes [s.delayWord 3, s.delayWord 4, s.delayWord 5, s.delayWord 6, s.delayWord 7]⟩) ∧
  (∀ (s : State) (w : Who) (l n : Byte) (f : BitVec 48), s.admits w (.logRead l n f) [] →
    (∀ p ∈ s.mgt.evtRing ++ s.mgt.axlRing, p.ok = true) →
    ∃ t r, exec (.logRead w l n f) s = .next t ∧ s.answered t r ∧
      (1 < l.toNat ∨ n = 0 ∨ 13 < n.toNat → r = { status := stBadParam }) ∧
      (l.toNat ≤ 1 → n ≠ 0 → n.toNat ≤ 13 → r.status = stOk ∧
        ∃ es, es = ((s.heldEntries (decide (l = 1))).filter (fun p =>
            decide (f.toNat ≤ p.1) && !s.waitsBelow (decide (l = 1)) f.toNat p.1)).take n.toNat ∧
          r.bytes.drop 6 = [BitVec.ofNat 8 es.length, 0] ++ es.flatMap Prod.snd)) ∧
  (∀ (s : State) (w : Who) (input : Byte), s.admits w (.faultAck input) [] →
    (5 < input.toNat → ∃ t, exec (.faultAck w input) s = .next t ∧ s.answered t { status := stBadParam }) ∧
    (∀ i : Fin 8, i.val = input.toNat → i.val < 6 →
      ((s.vis[i]).resetFault = false → ∃ t, exec (.faultAck w input) s = .next t ∧ s.answered t { status := stOk }) ∧
      ((s.vis[i]).resetFault = true → (s.vis[i]).releasedAt s.now = false →
        ∃ t, exec (.faultAck w input) s = .next t ∧ s.answered t { status := stNotPermitted }) ∧
      ((s.vis[i]).resetFault = true → (s.vis[i]).releasedAt s.now = true →
        ∃ t, exec (.faultAck w input) s = .next t ∧ OthersSame s.vis t.vis i ∧
          ({ s with vis := t.vis } : State).answered t { status := stOk } ∧
          t.vis[i] = { s.vis[i] with resetFault := (s.vis[i]).faulty } ∧
          ∀ (e : Fin 4) (x : Sec) (d : SecDef), (s.vis[i]).faulty = false → s.cfg.sec x.idx = some d → d.served i = true →
            (t.imposed e x).keyInh = false)))

/-- R143, R235, Table 5-6: a reset command that nothing bars is a command of the frame that its engine has open, and acts on the
image as that frame has left it: RESET_DIRECT makes the section CLEAR, RESET_PREPARATORY RESET_PENDING with its sweep begun
anew, RESET_CANCEL takes a RESET_PENDING section to DISTURBED 0Bh; no other section changes, and nothing is published before
the tick. Without such a frame the command waits for the next one (log 14).
R143, Table 5-6: a reset that its engine's frame refuses logs 0709h with the frame: BAD_PARAM for a section of another module,
NOT_PERMITTED where DIRECT_OK is 0, where RSRC excludes the command, or for an UNPROVEN section, whose state then stays. -/
def Obligations.ResetCommands : Prop :=
  (∀ (c : Instr) (o : Op) (s : State) (w : Who) (gid : Word) (i : Fin 256) (d : SecDef) (e : Fin 4) (j : Journal) (x : Sec),
    asOp c = some (w, o, []) → s.admits w o [] → s.cfg.localSec gid = some i → s.cfg.sec i = some d →
    s.publisher i = some e → (s.engines[e]).executes = true → d.byCommand = true → (s.engines[e]).takesCommand = true →
    (s.engines[e]).sampled.getLast? = some j → j.dual = [] →
    ((s.engines[e]).imageAfter s.cfg s.hasImage (s.engines[e]).sampled).sec i = some x → x.unproven = false →
    ∀ k, o.asReset = some (k, gid) → (k = .direct → d.directOk = true) →
    ∃ t v y, exec c s = .next t ∧ t = { s with engines := t.engines, pool := t.pool } ∧ OthersSame s.engines t.engines e ∧
      t.engines[e] = { s.engines[e] with
        work := some v, sampled := (t.engines[e]).sampled, ring := (t.engines[e]).ring, ringAt := (t.engines[e]).ringAt
        delay := (t.engines[e]).delay, opened := true } ∧
      v.replies.getLast? = some ({ who := w, op := o, ref := .none }, { status := stOk }) ∧ v.img.sec i = some y ∧
      (∀ m, m ≠ i → (v.img.sec m).map (fun z => { z with slots := [] }) =
        (((s.engines[e]).imageAfter s.cfg s.hasImage (s.engines[e]).sampled).sec m).map (fun z => { z with slots := [] })) ∧
      (k = .direct → y.st = .clear ∧ y.unproven = false ∧ (x.st ≠ .clear → y.ledger = [] ∧ y.pend = [] ∧ y.mismatch = 0 ∧
        y.sweep = 0 ∧ y.through = false ∧ y.resets = x.resets + 1)) ∧
      (k = .preparatory → (x.st = .occupied ∨ x.st = .disturbed) → y.st = .resetPending ∧ y.ledger = [] ∧ y.pend = [] ∧
        y.sweep = 0 ∧ y.through = true ∧ y.resets = x.resets + 1) ∧
      (k = .preparatory → x.st = .resetPending → y.st = .resetPending ∧ y.sweep = x.sweep ∧ y.ledger = x.ledger) ∧
      (k = .cancel → x.st = .resetPending → y.st = .disturbed ∧ y.cause = 0x0B ∧ y.ledger = [])) ∧
  (∀ (c : Instr) (o : Op) (s : State) (w : Who) (e : Fin 4), asOp c = some (w, o, []) → o.asReset.isSome = true →
    s.admits w o [] → s.executor o = some e → (s.engines[e]).takesCommand = false →
    exec c s = .next { s with cmd := { s.cmd with
      waiting := s.cmd.waiting ++ [{ eng := e, cmd := { who := w, op := o, ref := .none }, at' := s.now }] } }) ∧
  (∀ (c : Instr) (w : Who) (o : Op) (gid : Word) (k : ResetKind) (s : State) (e : Fin 4) (j : Journal),
    asOp c = some (w, o, []) → o.asReset = some (k, gid) → s.admits w o [] → s.executor o = some e →
    (s.engines[e]).takesCommand = true → (s.engines[e]).sampled.getLast? = some j → j.dual = [] →
    (gid.toNat / 256 ≠ s.cfg.modAddr.toNat → ∃ t v, exec c s = .next t ∧
      t = { s with engines := t.engines, pool := t.pool } ∧ OthersSame s.engines t.engines e ∧ (t.engines[e]).work = some v ∧
      v.replies.getLast? = some ({ who := w, op := o, ref := .none }, { status := stBadParam }) ∧
      v.logs.getLast? = some { code := 0x0709, obj := 0xFFFF, sx := none }) ∧
    (∀ (i : Fin 256) (d : SecDef) (x : Sec), s.cfg.localSec gid = some i → s.cfg.sec i = some d →
      i ∉ (s.engines[e]).unheard →
      ((s.engines[e]).imageAfter s.cfg s.hasImage (s.engines[e]).sampled).sec i = some x →
      (d.byCommand = false ∨ x.unproven = true ∨ (k = .direct ∧ d.directOk = false)) → ∃ t v y, exec c s = .next t ∧
        t = { s with engines := t.engines, pool := t.pool } ∧ OthersSame s.engines t.engines e ∧ (t.engines[e]).work = some v ∧
        v.replies.getLast? = some ({ who := w, op := o, ref := .none }, { status := stNotPermitted }) ∧
        v.logs.getLast? = some (secLogOf i 0x0709 9) ∧ v.img.sec i = some y ∧
        y = { x with lastKind := k.code, lastSrc := 1, lastRes := 2, slots := y.slots }))

/-! ### Commands by opcode: images, firmware, banks, channels, engines, tests (Table 8-8) -/

/-- R269, R270: CFG_BEGIN discards what was loaded, under verification or staged and opens a load of its length for its session; CFG_BLOCK writes its
bytes into the load buffer at its offset and nowhere else, of a load of its own session, within the length. -/
def Obligations.ImageLoading : Prop :=
  (∀ (s : State) (id : BitVec 3) (len : Word), s.admits (.tool id) (.cfgBegin len) [] → 64 ≤ len.toNat →
    len.toNat ≤ 1048576 → (∀ v, s.img.verify = some v → v.cmd.ref = .none) →
    ∃ t, exec (.cfgBegin (.tool id) len) s = .next t ∧
      ({ s with img := t.img, causes := t.causes, engines := t.engines } : State).answered t { status := stOk } ∧
      t.img = { s.img with staged := none, loadBuf := [], loadLen := len.toNat, stage := .loading, revert := false, owner := id,
                            verify := none } ∧
      (s.hasImage = true → UCause.image ∉ s.causes → t.causes = s.causes)) ∧
  (∀ (s : State) (id : BitVec 3) (off : Word) (data : List Byte), s.admits (.tool id) (.cfgBlock off data) [] → data ≠ [] →
    data.length ≤ 236 → s.img.stage = .loading → s.img.owner = id → off.toNat + data.length ≤ s.img.loadLen →
    ∃ t, exec (.cfgBlock (.tool id) off data) s = .next t ∧
      ({ s with img := { s.img with loadBuf := t.img.loadBuf } } : State).answered t { status := stOk } ∧
      (∀ (j : Nat) (h : j < data.length), Memory.read t.img.loadBuf (off.toNat + j) = some data[j]) ∧
      (∀ a, (a < off.toNat ∨ off.toNat + data.length ≤ a) → Memory.read t.img.loadBuf a = Memory.read s.img.loadBuf a)) ∧
  (∀ (s : State) (id : BitVec 3) (off : Word) (data : List Byte), s.admits (.tool id) (.cfgBlock off data) [] → data ≠ [] →
    data.length ≤ 236 → s.img.stage = .loading → s.img.owner = id → s.img.loadLen < off.toNat + data.length →
    ∃ t, exec (.cfgBlock (.tool id) off data) s = .next t ∧ s.answered t { status := stBadParam }) ∧
  (∀ (s : State) (id : BitVec 3) (off : Word) (data : List Byte), s.admits (.tool id) (.cfgBlock off data) [] → data ≠ [] →
    data.length ≤ 236 → s.img.stage ≠ .empty → s.img.owner ≠ id →
    ∃ t, exec (.cfgBlock (.tool id) off data) s = .next t ∧ s.answered t { status := stNotPermitted })

/-- R271, R275, R277, R278: CFG_END begins the verification, whose end answers it; CFG_CONFIRM with the staged image's CRC-64 lets
it activate, and with any other value is CHECK_FAIL with MOD_CFG_FAULT[4] and counts; CFG_REVERT discards a staged image or
begins to verify the previous one. Another session is NOT_PERMITTED. -/
def Obligations.ImageConfirmation : Prop :=
  (∀ (s : State) (id : BitVec 3) (crc : Word), s.admits (.tool id) (.cfgEnd crc) [] → s.img.stage = .loading →
    s.img.owner = id → exec (.cfgEnd (.tool id) crc) s = .next { s with img := { s.img with
      stage := .verifying
      verify := some { cmd := { who := .tool id, op := .cfgEnd crc, ref := .none }, crc := crc, revert := false, begin := s.now } } }) ∧
  (∀ (s : State) (id : BitVec 3) (crc : Word), s.admits (.tool id) (.cfgEnd crc) [] →
    (s.img.stage ≠ .loading ∨ s.img.owner ≠ id) →
    ∃ t, exec (.cfgEnd (.tool id) crc) s = .next t ∧ s.answered t { status := stNotPermitted }) ∧
  (∀ (s : State) (id : BitVec 3) (v : BitVec 64) (i : CfgImage), s.admits (.tool id) (.cfgConfirm v) [] →
    s.img.stage = .staged → s.img.staged = some i → s.img.owner = id →
    (v = crc64 i.bytes → ∃ t, exec (.cfgConfirm (.tool id) v) s = .next t ∧ OthersSame s.crc t.crc 1 ∧
      ({ s with crc := t.crc, img := { s.img with stage := .activating } } : State).answered t { status := stOk }) ∧
    (v ≠ crc64 i.bytes → ∃ t, exec (.cfgConfirm (.tool id) v) s = .next t ∧ OthersSame s.crc t.crc 1 ∧
      ({ s with
        crc := t.crc, mdl := { s.mdl with irqCheck := s.mdl.irqCheck ||| 2 }
        img := { s.img with refused := s.img.refused + 1, fault := setBit s.img.fault 4 } } : State).answered t
          { status := stCheckFail } ∧ t.lastFault 0x0A21 1)) ∧
  (∀ (s : State) (id : BitVec 3), s.admits (.tool id) (.cfgRevert 0) [] → s.img.stage = .staged → s.img.owner = id →
    s.img.verify = none →
    ∃ t, exec (.cfgRevertDiscard (.tool id)) s = .next t ∧
      ({ s with img := t.img, causes := t.causes, engines := t.engines } : State).answered t { status := stOk } ∧
      t.img = { s.img with staged := none, loadBuf := [], loadLen := 0, stage := .empty, revert := false } ∧
      (s.hasImage = true → s.causes.Nodup → UCause.image ∉ t.causes)) ∧
  (∀ (s : State) (id : BitVec 3) (p : CfgImage), s.admits (.tool id) (.cfgRevert 1) [] → s.img.stage = .empty →
    s.img.previous = some p → s.img.verify = none →
    ∃ t, exec (.cfgRevertPrevious (.tool id)) s = .next t ∧
      t = { s with img := t.img, causes := t.causes, engines := t.engines } ∧
      t.img = { s.img with
        staged := none, loadBuf := [], loadLen := 0, stage := .verifying, owner := id, revert := true
        verify := some { cmd := { who := .tool id, op := .cfgRevert 1, ref := .none }, crc := 0, revert := true, begin := s.now } })

/-- R326, R280: FW_STAGE at offset 0 begins a file anew, and every block enters the staging store at its offset and unit 3; the
close begins Pewter's checks; FW_ACTIVATE takes a vital file whose signature has been reported good and whose CRC-64 is typed in,
and refuses one without that report with 0A35h. -/
def Obligations.FirmwareCommands : Prop :=
  (∀ (s : State) (w : Who) (off : Word) (data : List Byte), s.admits w (.fwStage off data) [] → data ≠ [] →
    data.length ≤ 236 → off.toNat + data.length ≤ 8388608 → s.img.fwPending = false →
    (off = 0 ∨ s.mgt.fwState = .receiving) →
    ∃ t, exec (.fwStage w off data) s = .next t ∧ OthersSame s.crc t.crc 3 ∧
      ({ s with crc := t.crc, img := { s.img with fwVerified := t.img.fwVerified, fwCheck := t.img.fwCheck }, mgt := { s.mgt with
        fwStore := t.mgt.fwStore, fwLen := t.mgt.fwStore.length, fwTotal := t.mgt.fwTotal, fwBytes := t.mgt.fwBytes,
        fwState := .receiving } } : State).answered t { status := stOk } ∧
      (∀ (j : Nat) (h : j < data.length), Memory.read t.mgt.fwStore (off.toNat + j) = some data[j]) ∧
      (off = 0 → (t.crc[(3 : Fin 4)]).algo = 2 ∧ t.img.fwVerified = false ∧
        ∀ a, data.length ≤ a → Memory.read t.mgt.fwStore a = none) ∧
      (off ≠ 0 → ∀ a, (a < off.toNat ∨ off.toNat + data.length ≤ a) →
        Memory.read t.mgt.fwStore a = Memory.read s.mgt.fwStore a)) ∧
  (∀ (s : State) (w : Who) (len : Word), s.admits w (.fwStageClose len) [] → s.mgt.fwState = .receiving →
    ∃ t, exec (.fwStageClose w len) s = .next t ∧ OthersSame s.crc t.crc 3 ∧
      ({ s with crc := t.crc, mgt := { s.mgt with fwState := .verifying, fwTotal := len.toNat, fwAt := s.now } } : State).answered t
        { status := stAccepted } ∧
      t.crc[(3 : Fin 4)] = { s.crc[(3 : Fin 4)] with
        result := crcDone (s.crc[(3 : Fin 4)]).algo (s.crc[(3 : Fin 4)]).acc }) ∧
  (∀ (s : State) (w : Who) (len : Word), s.admits w (.fwStageClose len) [] → s.mgt.fwState ≠ .receiving →
    ∃ t, exec (.fwStageClose w len) s = .next t ∧ s.answered t { status := stNotPermitted }) ∧
  (∀ (s : State) (id : BitVec 3) (v : BitVec 64), s.admits (.tool id) (.fwActivate v) [] →
    (s.img.stage = .empty ∨ s.img.owner = id) → s.mgt.fwState ≠ .none → s.mgt.fwState ≠ .failed → s.stagedKind = 1 →
    s.img.fwPending = false → s.img.fwVerified = true → v = crc64 s.mgt.fwBytes →
    ∃ t, exec (.fwActivate (.tool id) v) s = .next t ∧ OthersSame s.crc t.crc 1 ∧
      ({ s with crc := t.crc, img := { s.img with fwPending := true, fwCheck := some v } } : State).answered t { status := stOk }) ∧
  (∀ (s : State) (id : BitVec 3) (v : BitVec 64), s.admits (.tool id) (.fwActivate v) [] →
    (s.img.stage = .empty ∨ s.img.owner = id) → s.mgt.fwState ≠ .none → s.mgt.fwState ≠ .failed → s.stagedKind = 1 →
    s.img.fwPending = false → s.img.fwVerified = false →
    ∃ t, exec (.fwActivate (.tool id) v) s = .next t ∧
      ({ s with img := { s.img with fault := setBit s.img.fault 8 } } : State).answered t { status := stNotPermitted } ∧
      t.lastFault 0x0A35 0xFFFF)

/-- R84 to R86, R89, R96, R100: BANK_LOAD writes taps of a bank that is neither in use nor fading and its close judges the
CRC-32C; BANK_SWAP changes or fades over the channels of its ports; PRESET_SELECT and SYNC_RESET issue synchronising resets to
the assigned ports of their range. -/
def Obligations.BankAndChannelCommands : Prop :=
  (∀ (s : State) (w : Who) (b : Bool) (f : Byte) (l : List (BitVec 24)), s.admits w (.bankLoad b f l) [] → l ≠ [] →
    l.length ≤ 64 → f.toNat + l.length ≤ 256 → s.bankFading b = false → s.bankUsed b = false →
    ∃ t, exec (.bankLoad w b f l) s = .next t ∧ OthersSame s.banks t.banks (if b then 1 else 0) ∧
      ({ s with banks := t.banks } : State).answered t { status := stOk } ∧
      (∀ j : Fin 256, f.toNat ≤ j.val → j.val < f.toNat + l.length →
        (t.bank b).coef[j] = l.getD (j.val - f.toNat) 0) ∧
      (∀ j : Fin 256, (j.val < f.toNat ∨ f.toNat + l.length ≤ j.val) → (t.bank b).coef[j] = (s.bank b).coef[j]) ∧
      (t.bank b).valid = false ∧ (t.bank b).loading = true) ∧
  (∀ (s : State) (w : Who) (b : Bool) (f : Byte) (l : List (BitVec 24)), s.admits w (.bankLoad b f l) [] → l ≠ [] →
    l.length ≤ 64 → f.toNat + l.length ≤ 256 → s.bankFading b = true →
    ∃ t, exec (.bankLoad w b f l) s = .next t ∧ s.answered t { status := stFadeBusy }) ∧
  (∀ (s : State) (w : Who) (b : Bool) (crc : Word), s.admits w (.bankClose b crc) [] → (s.bank b).loading = true →
    s.bankFading b = false → s.bankUsed b = false →
    (crc = crc32c (coefBytes (s.bank b).coef.toList) → setOk (s.bank b).coef.toList = true →
      ∃ t, exec (.bankLoadClose w b crc) s = .next t ∧ OthersSame s.banks t.banks (if b then 1 else 0) ∧
        ({ s with banks := t.banks, crc := t.crc } : State).answered t { status := stOk } ∧ (t.bank b).valid = true ∧
        (t.bank b).loading = false ∧ (t.bank b).command = true ∧ (t.bank b).coef = (s.bank b).coef) ∧
    (crc ≠ crc32c (coefBytes (s.bank b).coef.toList) →
      ∃ t, exec (.bankLoadClose w b crc) s = .next t ∧ OthersSame s.banks t.banks (if b then 1 else 0) ∧
        ({ s with banks := t.banks, crc := t.crc, mdl := { s.mdl with irqCheck := t.mdl.irqCheck } } : State).answered t
          { status := stCheckFail } ∧ (t.bank b).valid = false ∧ t.lastFault 0x0401 0xFFFF)) ∧
  (∀ (s : State) (w : Who) (a z : BitVec 6) (b : Bool), s.admits w (.bankSwap a z b) [] → a.toNat ≤ z.toNat →
    (∀ c : Fin 128, a.toNat ≤ (portOf c).val → (portOf c).val ≤ z.toNat → (s.chans[c]).fade = none) → (s.bank b).valid = true →
    ∃ t, exec (.bankSwap w a z b) s = .next t ∧ ({ s with chans := t.chans } : State).answered t { status := stOk } ∧
      ∀ c : Fin 128,
        (a.toNat ≤ (portOf c).val ∧ (portOf c).val ≤ z.toNat → (s.chans[c]).bank ≠ b → (s.chans[c]).sel = 0 →
          t.chans[c] = { s.chans[c] with fade := some { target := b, wait := (s.chans[c]).firBefore } }) ∧
        (a.toNat ≤ (portOf c).val ∧ (portOf c).val ≤ z.toNat → (s.chans[c]).sel ≠ 0 →
          t.chans[c] = { s.chans[c] with bank := b }) ∧
        ((portOf c).val < a.toNat ∨ z.toNat < (portOf c).val ∨ (s.chans[c]).bank = b → t.chans[c] = s.chans[c])) ∧
  (∀ (s : State) (w : Who) (a z : BitVec 6) (q : BitVec 2), s.admits w (.presetSelect a z (some q) none) [] →
    a.toNat ≤ z.toNat →
    ∃ t, exec (.presetSelect w a z (some q) none) s = .next t ∧
      ({ s with chans := t.chans } : State).answered t { status := stOk } ∧
      ∀ c : Fin 128,
        (a.toNat ≤ (portOf c).val → (portOf c).val ≤ z.toNat → s.assigned (portOf c) = true → (s.chans[c]).sel ≠ q →
          (t.chans[c]).sel = q ∧ (t.chans[c]).settling = true ∧ (t.chans[c]).resetNow = true) ∧
        ((portOf c).val < a.toNat ∨ z.toNat < (portOf c).val ∨ s.assigned (portOf c) = false ∨ (s.chans[c]).sel = q →
          t.chans[c] = s.chans[c])) ∧
  (∀ (s : State) (w : Who) (a z : BitVec 6), s.admits w (.syncReset a z) [] → a.toNat ≤ z.toNat →
    ∃ t, exec (.syncReset w a z) s = .next t ∧ ({ s with chans := t.chans } : State).answered t { status := stOk } ∧
      ∀ c : Fin 128,
        (a.toNat ≤ (portOf c).val → (portOf c).val ≤ z.toNat → s.assigned (portOf c) = true →
          t.chans[c] = (s.chans[c]).syncReset (s.chanM c) (s.chanPd c) false) ∧
        ((portOf c).val < a.toNat ∨ z.toNat < (portOf c).val ∨ s.assigned (portOf c) = false → t.chans[c] = s.chans[c])) ∧
  (∀ (s : State) (w : Who) (a z : BitVec 6), s.admits w (.syncReset a z) [] → z.toNat < a.toNat →
    ∃ t, exec (.syncReset w a z) s = .next t ∧ s.answered t { status := stBadParam })

/-- R173, R174, R177, R179, R180: ENGINE_SPLIT starts the hand-over of the source's sections at T0 and is refused with 0611h where
the image forbids it or an engine is engaged, against the engine that executes it; ENGINE_JOIN puts a split engine into PROVING for four frames; DEBUG_ATTACH kills
the token, logs 0630h and takes its sections out of service in the images of the publication; DEBUG_DETACH ends the attach at the next tick. -/
def Obligations.EngineCommands : Prop :=
  (∀ (s : State) (w : Who) (a b : Fin 4), s.admits w (.engineSplit a b) [] → a ≠ b →
    (s.cfg.cenCfg[a]).getLsbD 31 = true → (s.engines[a]).mode = .run → (s.engines[b]).mode = .run →
    (s.engines[a]).ho = [] → (s.engines[b]).ho = [] → s.img.stage ≠ .staged →
    (s.engines[a]).committed.secs.length + (s.engines[b]).committed.secs.length ≤ 64 →
    s.cfg.blocksOf (s.engines[a]).committed.secs + s.cfg.blocksOf (s.engines[b]).committed.secs ≤ 1024 →
    ∃ t, exec (.engineSplit w a b) s = .next t ∧ ({ s with engines := t.engines } : State).answered t { status := stAccepted } ∧
      (t.engines[a]).mode = .hoOut ∧ (t.engines[b]).mode = .hoIn ∧
      (t.engines[a]).ho = [{
        peer := b, join := false, source := true, t0 := (s.engines[a]).frame
        secs := (s.engines[a]).committed.secs.map Sec.idx }] ∧
      (t.engines[a]).token = (s.engines[a]).token ∧ (t.engines[a]).published = (s.engines[a]).published ∧
      (∀ k : Fin 4, k ≠ a → k ≠ b → t.engines[k] = s.engines[k])) ∧
  (∀ (s : State) (w : Who) (a b : Fin 4), s.admits w (.engineSplit a b) [] → a ≠ b →
    ((s.cfg.cenCfg[a]).getLsbD 31 = false ∨ (s.engines[a]).mode ≠ .run ∨ (s.engines[b]).mode ≠ .run ∨
      (s.engines[a]).engaged = true ∨ (s.engines[b]).engaged = true ∨ s.img.stage = .staged ∨
      64 < (s.engines[a]).committed.secs.length + (s.engines[b]).committed.secs.length ∨
      1024 < s.cfg.blocksOf (s.engines[a]).committed.secs + s.cfg.blocksOf (s.engines[b]).committed.secs) →
    ∃ t, exec (.engineSplit w a b) s = .next t ∧ OthersSame s.engines t.engines (s.splitExecutor a) ∧
      ({ s with engines := t.engines } : State).answered t { status := stNotPermitted } ∧
      t.engines[s.splitExecutor a] = { s.engines[s.splitExecutor a] with
        fault := setBit (s.engines[s.splitExecutor a]).fault 11 } ∧ t.lastFault 0x0611 (s.splitExecutor a).val) ∧
  (∀ (s : State) (w : Who) (e : Fin 4), s.admits w (.engineJoin e) [] → (s.engines[e]).mode = .split →
    (s.engines[e]).joining = false → (s.engines[e]).ho = [] → (∀ j : Fin 4, (s.engines[j]).engaged = false) →
    ∃ t, exec (.engineJoin w e) s = .next t ∧ OthersSame s.engines t.engines e ∧
      ({ s with engines := t.engines } : State).answered t { status := stAccepted } ∧
      (t.engines[e]).mode = .proving ∧ (t.engines[e]).joining = true ∧ (t.engines[e]).proveLeft = 4 ∧
      (t.engines[e]).aRun = false ∧ (t.engines[e]).bRun = false ∧ (t.engines[e]).from' = (s.engines[e]).frame + 1) ∧
  (∀ (s : State) (w : Who) (e : Fin 4), s.admits w (.engineJoin e) [] → (s.engines[e]).mode ≠ .split →
    ∃ t, exec (.engineJoin w e) s = .next t ∧ s.answered t { status := stNotPermitted }) ∧
  (∀ (s : State) (w : Who) (e : Fin 4), s.admits w (.engineJoin e) [] → (s.engines[e]).mode = .split →
    (s.engines[e]).joining = false → (s.engines[e]).engaged = true →
    ∃ t, exec (.engineJoin w e) s = .next t ∧ OthersSame s.engines t.engines e ∧
      ({ s with engines := t.engines } : State).answered t { status := stNotPermitted } ∧
      t.engines[e] = { s.engines[e] with fault := setBit (s.engines[e]).fault 11 } ∧ t.lastFault 0x0611 e.val) ∧
  (∀ (s : State) (w : Who) (e : Fin 4), s.admits w (.debugAttach e) [] → (s.cfg.cenCfg[e]).getLsbD 30 = true →
    (s.engines[e]).mode ≠ .halted → (s.engines[e]).mode ≠ .debug → (s.engines[e]).ho = [] →
    ∃ t, exec (.debugAttach w e) s = .next t ∧ OthersSame s.engines t.engines e ∧
      ({ s with engines := t.engines, vos := t.vos, begun := t.begun } : State).answered t { status := stAccepted } ∧
      (t.engines[e]).mode = .debug ∧ (t.engines[e]).token = false ∧
      (t.engines[e]).fault = setBit (s.engines[e]).fault 10 ∧ (t.engines[e]).dbgCnt = satInc (s.engines[e]).dbgCnt ∧
      t.lastFault 0x0630 e.val ∧ (∀ x ∈ (t.engines[e]).committed.secs, UCause.debug ∈ x.causes ∧ x.unproven = true) ∧
      ∀ x : Sec, (t.imposed e x).unproven = true) ∧
  (∀ (s : State) (w : Who) (e : Fin 4), s.admits w (.debugDetach e) [] → (s.engines[e]).mode = .debug →
    ∃ t, exec (.debugDetach w e) s = .next t ∧ OthersSame s.engines t.engines e ∧
      ({ s with engines := t.engines } : State).answered t { status := stOk } ∧
      t.engines[e] = { s.engines[e] with detaching := true }) ∧
  (∀ (s : State) (w : Who) (e : Fin 4), s.admits w (.debugDetach e) [] → (s.engines[e]).mode ≠ .debug →
    ∃ t, exec (.debugDetach w e) s = .next t ∧ s.answered t { status := stOk })

/-- R61, R304, R69 to R71, R79, R103, R104, R216 to R218: the commands that start tests. SELFTEST_SHUTDOWN takes every section
out of service in the images of the publication and is refused with 0C05h while a rail is in warning, an engine is engaged, or an
image or firmware is on its way; SELFTEST_PORT puts its port first; a port or lane
loopback reaches the engines and is refused where one runs; LBR is refused on L0 to L2. -/
def Obligations.TestCommands : Prop :=
  (∀ (s : State) (w : Who) (x : Bool), s.admits w (.selftestShutdown x) [] → s.railsNormal = true →
    (∀ e : Fin 4, (s.engines[e]).engaged = false) → s.img.stage ≠ .verifying → s.img.stage ≠ .activating →
    s.img.fwPending = false →
    ∃ t, exec (.selftestShutdown w x) s = .next t ∧ t.mdl.phase = .shutdown ∧ t.tst.state = .shutdown ∧ t.tst.kind = 3 ∧
      t.tst.windowed = x ∧ t.tst.acc = 0xFFFFFFFF ∧ t.rt = none ∧ UCause.start ∈ t.causes ∧
      t.cmd = { s.cmd with lastReply := some { status := stAccepted } } ∧ t.img = s.img ∧ t.clk = s.clk ∧
      (∀ (e : Fin 4) (y : Sec), (t.imposed e y).unproven = true) ∧
      (∀ n : Fin 64, (t.ports[n]).lb = none ∧ (t.wdus[n]).lb3 = none) ∧
      (∀ k : Fin 8, (t.lanes[k]).echo = none ∧ (t.links[k]).loop = none)) ∧
  (∀ (s : State) (w : Who) (x : Bool), s.admits w (.selftestShutdown x) [] →
    (s.railsNormal = false ∨ (∃ e : Fin 4, (s.engines[e]).engaged = true) ∨ s.img.stage = .verifying ∨
      s.img.stage = .activating ∨ s.img.fwPending = true) →
    ∃ t, exec (.selftestShutdown w x) s = .next t ∧
      ({ s with tst := { s.tst with fault := setBit s.tst.fault 4 } } : State).answered t { status := stNotPermitted } ∧
      t.lastFault 0x0C05 0xFFFF) ∧
  (∀ (s : State) (w : Who) (n : Fin 64), s.admits w (.selftestPort n) [] →
    (s.assigned n = true → ∃ t, exec (.selftestPort w n) s = .next t ∧
      ({ s with rtFirst := n :: s.rtFirst.filter (fun m => decide (m ≠ n)) } : State).answered t { status := stAccepted }) ∧
    (s.assigned n = false → ∃ t, exec (.selftestPort w n) s = .next t ∧ s.answered t { status := stBadParam })) ∧
  (∀ (s : State) (w : Who) (n : Fin 64) (c : Instr) (kind : Byte) (lk : LbKind),
    (c, kind, lk) ∈ [(Instr.loopbackSetLb0 w n, (0 : Byte), LbKind.lb0), (.loopbackSetLb1 w n, 1, .lb1),
      (.loopbackSetLb2 w n, 2, .lb2)] →
    s.admits w (.loopback 0 (BitVec.ofNat 8 n.val) kind) [0, BitVec.ofNat 8 n.val, kind] → s.assigned n = true →
    (s.ports[n]).lb = none → (s.wdus[n]).lb3 = none → s.rt = none → (s.lanes[laneOfPort n]).echo = none →
    ∃ t, exec c s = .next t ∧ OthersSame s.ports t.ports n ∧
      ({ s with ports := t.ports, chans := t.chans, engines := t.engines, begun := t.begun } : State).answered t
        { status := stAccepted } ∧
      t.ports[n] = { s.ports[n] with lb := some { kind := lk, begin := s.now } } ∧ (lk ≠ .lb2 → t.chans = s.chans) ∧
      (∀ k : Fin 128, portOf k ≠ n → t.chans[k] = s.chans[k]) ∧ s.pointPosted t (.loop n false true)) ∧
  (∀ (s : State) (w : Who) (n : Fin 64),
    s.admits w (.loopback 0 (BitVec.ofNat 8 n.val) 3) [0, BitVec.ofNat 8 n.val, 3] → s.assigned n = true →
    (s.ports[n]).lb = none → s.rt = none →
    ((s.wdus[n]).lb3 = none → ∃ t, exec (.loopbackSetLb3 w n) s = .next t ∧ OthersSame s.wdus t.wdus n ∧
      ({ s with wdus := t.wdus } : State).answered t { status := stAccepted } ∧
      t.wdus[n] = { s.wdus[n] with lb3 := some { begin := s.now } }) ∧
    ((s.wdus[n]).lb3 ≠ none → ∃ t, exec (.loopbackSetLb3 w n) s = .next t ∧ s.answered t { status := stNotPermitted })) ∧
  (∀ (s : State) (w : Who) (k : Fin 8),
    s.admits w (.loopback 1 (BitVec.ofNat 8 k.val) 0) [1, BitVec.ofNat 8 k.val, 0] → (s.lanes[k]).echo = none →
    (∀ n : Fin 64, laneOfPort n = k → (s.ports[n]).lb = none) → s.rt = none →
    ∃ t, exec (.loopbackSetEcho w k) s = .next t ∧ OthersSame s.lanes t.lanes k ∧
      ({ s with lanes := t.lanes, engines := t.engines, begun := t.begun } : State).answered t { status := stAccepted } ∧
      t.lanes[k] = { s.lanes[k] with echo := some { begin := s.now, prbs := BitVec.ofNat 15 (k.val + 1) } } ∧
      (∀ e : Fin 4, t.engines[e] = (s.engines[e]).post s.late (fun j => { j with
        points := j.points ++ (lanePorts k).map (fun n => PointEv.loop n true true) }))) ∧
  (∀ (s : State) (w : Who) (k : Fin 8),
    s.admits w (.loopback 2 (BitVec.ofNat 8 k.val) 0) [2, BitVec.ofNat 8 k.val, 0] → s.linkUsed k = true →
    (s.links[k]).loop = none →
    ∃ t, exec (.loopbackSetLba w k) s = .next t ∧ OthersSame s.links t.links k ∧
      ({ s with links := t.links, engines := t.engines, tbs := t.tbs, begun := t.begun } : State).answered t
        { status := stAccepted } ∧
      t.links[k] = { s.links[k] with loop := some { kind := .lba, begin := s.now } } ∧ s.linkPosted t (.linkLoop k true)) ∧
  (∀ (s : State) (w : Who) (k : Fin 8),
    s.admits w (.loopback 2 (BitVec.ofNat 8 k.val) 1) [2, BitVec.ofNat 8 k.val, 1] → s.linkUsed k = true →
    (s.links[k]).loop = none →
    ∃ t, exec (.loopbackSetLbf w k) s = .next t ∧ OthersSame s.links t.links k ∧
      ({ s with links := t.links } : State).answered t { status := stAccepted } ∧
      t.links[k] = { s.links[k] with loop := some { kind := .lbf, begin := s.now } }) ∧
  (∀ (s : State) (w : Who) (k : Fin 8),
    s.admits w (.loopback 2 (BitVec.ofNat 8 k.val) 2) [2, BitVec.ofNat 8 k.val, 2] →
    (s.linkUsed k = true → 3 ≤ k.val → (s.links[k]).loop = none →
      ∃ t x, exec (.loopbackSetLbr w k) s = .next t ∧ OthersSame s.links t.links k ∧
        ({ s with links := t.links } : State).answered t { status := stAccepted } ∧ (t.links[k]).loop = some x ∧
        x.kind = .lbr ∧ x.stage = 0 ∧ x.peer = false ∧ x.begin = s.now ∧ x.no ≠ 0 ∧ (t.links[k]).testReq = 1 ∧
        (t.links[k]).testNo = x.no) ∧
    (k.val < 3 → ∃ t, exec (.loopbackSetLbr w k) s = .next t ∧ s.answered t { status := stBadParam }))

/-! ### Images, firmware and the recorder in time (R264 to R281, R318 to R321, R326) -/

/-- R271, R277, Table 10-4, for a loaded image: bytes never written, or a CRC-32C that differs, end the verification with MOD_CFG_ERR 1
or 2, CHECK_FAIL and STAGE EMPTY; an image that passes every step is STAGED with its CRC-64, and its sections leave service. The previous
image is verified from step 3 on, whatever its serial number. -/
def Obligations.ImageVerification : Prop :=
  (∀ (s : State) (dt : Nat) (rb : Bool) (v : Verify), s.inReset = false → s.img.verify = some v → v.revert = false →
    Memory.readBytes s.img.loadBuf 0 s.img.loadLen = none →
    ∃ t, exec (.cfgVerificationEnd dt rb) s = .next t ∧
      ({ s.pass dt with img := t.img, cmd := t.cmd, links := t.links } : State).SameButLog t ∧
      t.img = { s.img with
        staged := none, loadBuf := [], loadLen := 0, stage := .empty, revert := false, verify := none, errReason := 1
        errOffset := 0, fault := setBit s.img.fault 1 } ∧ t.lastFault 0x0A30 0xFFFF ∧
      (v.cmd.ref = .none → t.cmd = { s.cmd with lastReply := some { status := stCheckFail } } ∧ t.links = s.links)) ∧
  (∀ (s : State) (dt : Nat) (rb : Bool) (v : Verify) (bs : List Byte), s.inReset = false → s.img.verify = some v →
    v.revert = false → Memory.readBytes s.img.loadBuf 0 s.img.loadLen = some bs → v.crc ≠ crc32c bs →
    ∃ t, exec (.cfgVerificationEnd dt rb) s = .next t ∧ OthersSame s.crc t.crc 1 ∧
      ({ s.pass dt with img := t.img, cmd := t.cmd, links := t.links, crc := t.crc,
                        mdl := { s.mdl with irqCheck := s.mdl.irqCheck ||| 2 } } : State).SameButLog t ∧
      t.img = { s.img with
        staged := none, loadBuf := [], loadLen := 0, stage := .empty, revert := false, verify := none, errReason := 2
        errOffset := 0, fault := setBit s.img.fault 0 } ∧ t.lastFault 0x0A21 1 ∧
      (v.cmd.ref = .none → t.cmd = { s.cmd with lastReply := some { status := stCheckFail } } ∧ t.links = s.links)) ∧
  (∀ (s : State) (dt : Nat) (v : Verify) (bs : List Byte) (items : List Item), s.inReset = false →
    s.img.verify = some v → v.revert = false → Memory.readBytes s.img.loadBuf 0 s.img.loadLen = some bs →
    v.crc = crc32c bs → parseImage bs = .inl items → identityBad s.img.fwLine bs = none →
    (∀ i, s.img.active = some i → i.cfg.serial.toNat < (cfgOf bs items).serial.toNat) →
    firstBreak (cfgOf bs items) items = none →
    ∃ t, exec (.cfgVerificationEnd dt true) s = .next t ∧ OthersSame s.crc t.crc 1 ∧
      ({ s.pass dt with img := t.img, cmd := t.cmd, links := t.links, crc := t.crc, causes := t.causes,
                        begun := t.begun, engines := t.engines } : State).SameButLog t ∧
      t.img = { s.img with
        staged := some { bytes := bs, cfg := cfgOf bs items, check := crc64 bs }, stage := .staged, stagedAt := s.now + dt
        revert := false, verify := none } ∧ UCause.image ∈ t.causes ∧
      (v.cmd.ref = .none →
        t.cmd = { s.cmd with lastReply := some { status := stOk, bytes := toBytes 8 (crc64 bs).toNat } } ∧ t.links = s.links)) ∧
  (∀ (s : State) (dt : Nat) (v : Verify) (p : CfgImage) (items : List Item), s.inReset = false →
    s.img.verify = some v → v.revert = true → s.img.previous = some p → parseImage p.bytes = .inl items →
    identityBad s.img.fwLine p.bytes = none → firstBreak (cfgOf p.bytes items) items = none →
    ∃ t, exec (.cfgVerificationEnd dt true) s = .next t ∧ OthersSame s.crc t.crc 1 ∧
      ({ s.pass dt with img := t.img, cmd := t.cmd, links := t.links, crc := t.crc, causes := t.causes,
                        begun := t.begun, engines := t.engines } : State).SameButLog t ∧
      t.img = { s.img with
        staged := some { bytes := p.bytes, cfg := cfgOf p.bytes items, check := crc64 p.bytes }, stage := .staged
        stagedAt := s.now + dt, revert := true, verify := none } ∧ UCause.image ∈ t.causes)

/-- R265, R276, Table 10-5: a confirmed image becomes ACTIVE at a tick without a hand-over and the active one the previous;
every section goes to its home engine DISTURBED 0Ch (09h where that engine is halted), points whose settings change go to
phase SPENT, and an address conflict ends. Between ticks and during a hand-over it does not happen. -/
def Obligations.ImageActivated : Prop :=
  (∀ (s : State) (i : CfgImage), s.inReset = false → s.img.staged = some i → s.img.stage = .activating →
    s.now = s.clk.tickAt → (∀ e : Fin 4, (s.engines[e]).ho = []) →
    ∃ t, exec .imageActivation s = .next t ∧ t.img.active = some i ∧ t.img.slot = some i ∧ t.img.previous = s.img.slot ∧ t.img.staged = none ∧
      t.img.stage = .empty ∧ t.img.confirmed = s.img.confirmed + 1 ∧ t.conflict = false ∧ UCause.image ∉ t.causes ∧
      UCause.conflict ∉ t.causes ∧ t.clk = s.clk ∧ t.vis = s.vis ∧ t.cmd.waiting = s.cmd.waiting ∧ t.crc = s.crc ∧ t.tst = s.tst ∧
      t.lanes = s.lanes ∧ t.mgt.commissioning.getLast? = some (i.check, s.stamp, i.bytes) ∧
      (∀ e : Fin 4, (s.engines[e]).mode ≠ .split → (s.engines[e]).joining = false →
        (t.engines[e]).published.secs.map Sec.idx = (i.cfg.homeSecs e).map (fun d => d.idx)) ∧
      (∀ (e : Fin 4) (x : Sec), x ∈ (t.engines[e]).published.secs → (s.engines[e]).mode ≠ .halted →
        x.st = .disturbed ∧ x.cause = 0x0C ∧ x.ledger = []) ∧
      (∀ (e : Fin 4) (x : Sec), x ∈ (t.engines[e]).published.secs → (s.engines[e]).mode = .halted →
        x.st = .disturbed ∧ (x.causes = [] → x.cause = 9)) ∧
      (∀ n : Fin 64, s.cfg.wduHead[n] ≠ i.cfg.wduHead[n] → (t.wdus[n]).ctx.phase = .spent) ∧
      (∀ n : Fin 64, s.cfg.wduHead[n] = i.cfg.wduHead[n] → s.cfg.wduLevels[n] = i.cfg.wduLevels[n] →
        s.cfg.wduThr1[n] = i.cfg.wduThr1[n] → s.cfg.wduThr2[n] = i.cfg.wduThr2[n] → s.cfg.modAddr = i.cfg.modAddr →
        (s.assigned n = false ∨ (i.cfg.prtCfg[n]).getLsbD 31 = true) → (t.wdus[n]).ctx = (s.wdus[n]).ctx)) ∧
  (∀ (s : State) (e : Fin 4), ((s.engines[e]).ho ≠ [] ∨ s.now ≠ s.clk.tickAt) → exec .imageActivation s = .next s) ∧
  (∀ (s : State) (dt : Nat), s.inReset = false → s.img.stage = .staged → s.img.stagedAt + 3600000000000 ≤ s.now + dt →
    s.img.verify = none →
    ∃ t, exec (.stagedImageExpiry dt) s = .next t ∧
      ({ s.pass dt with img := t.img, causes := t.causes, engines := t.engines } : State).SameButLog t ∧
      t.img = { s.img with
        staged := none, loadBuf := [], loadLen := 0, stage := .empty, revert := false
        fault := setBit s.img.fault 5 } ∧ t.lastFault 0x0A33 0xFFFF)

/-- R280, R326: accepted vital firmware becomes the running one at a tick without a hand-over, by a module reset; Pewter's checks
of a staged file end in VERIFIED, or with the first check that fails in FAILED with 0B20h and an empty store. -/
def Obligations.FirmwareInTime : Prop :=
  (∀ s : State, s.inReset = false → s.now = s.clk.tickAt → s.img.fwPending = true → (∀ e : Fin 4, (s.engines[e]).ho = []) →
    ∃ t, exec .firmwareActivation s = .next t ∧ s.resetAsserted t .firmware ∧ t.img.fwRunning = s.img.fwCheck ∧
      t.img.fwPrev = s.img.fwRunning ∧ t.img.fwPending = false ∧ t.img.fwFallback = false) ∧
  (∀ (s : State) (dt : Nat) (a b c : Bool) (bs : List Byte), s.pewterOn = true → s.mgt.fwState = .verifying →
    Memory.readBytes s.mgt.fwStore 0 s.mgt.fwTotal = some bs →
    (fwHeaderOk s.mgt.fwTotal bs = true → crc32c bs = (s.crc[(3 : Fin 4)]).result.setWidth 32 → a = true → b = true →
      c = true →
      ∃ t, exec (.fwStageVerifyEnd dt a b c) s = .next t ∧ t = { s.pass dt with
        mgt := { s.mgt with fwState := .verified, fwVital := decide (byteAt bs 4 = 1), fwFail := 0, fwBytes := bs }
        img := { s.img with fwVerified := decide (byteAt bs 4 = 1) } }) ∧
    (∀ f : BitVec 4, (fwHeaderOk s.mgt.fwTotal bs = false ∧ f = 1) ∨
        (fwHeaderOk s.mgt.fwTotal bs = true ∧ crc32c bs ≠ (s.crc[(3 : Fin 4)]).result.setWidth 32 ∧ f = 2) ∨
        (fwHeaderOk s.mgt.fwTotal bs = true ∧ crc32c bs = (s.crc[(3 : Fin 4)]).result.setWidth 32 ∧
          ((a = false ∧ f = 3) ∨ (a = true ∧ b = false ∧ f = 4) ∨ (a = true ∧ b = true ∧ c = false ∧ f = 5))) →
      ∃ t, exec (.fwStageVerifyEnd dt a b c) s = .next t ∧
        ({ s.pass dt with
          mgt := { s.mgt with
            fwStore := [], fwLen := 0, fwTotal := 0, fwBytes := [], fwState := .failed, fwFail := f }
          img := { s.img with fwVerified := false, fwCheck := none } } : State).SameButLog t ∧
        t.lastFault 0x0B20 0xFFFF))

/-- R318, R319, R321: a due page takes the oldest 252 event entries into its ring, which overwrites its oldest page when full, under a header
with its epoch, first entry number and type; a block that fails takes one from the spare pool with 0B31h; a hold whose later bound has passed copies its window once. -/
def Obligations.RecorderPagesAndHolds : Prop :=
  (∀ (s : State) (dt : Nat) (fate : PageFate), s.pewterOn = true → (s.pass dt).pageDue false = true → s.mgt.evtBlocks ≠ 0 →
    fate ≠ .retired →
    ∃ t p, exec (.recorderPageWrite dt false fate) s = .next t ∧ OthersSame s.crc t.crc 2 ∧
      t = { s.pass dt with mgt := t.mgt, crc := t.crc, clk := { (s.pass dt).clk with free := s.clk.free + 1 } } ∧
      t.mgt.evtBuf = s.mgt.evtBuf.drop 252 ∧ t.mgt.axlBuf = s.mgt.axlBuf ∧ t.mgt.axlRing = s.mgt.axlRing ∧
      t.mgt.queue = s.mgt.queue ∧ t.mgt.holds = s.mgt.holds ∧
      (s.mgt.evtRing.length < 64 * s.mgt.evtBlocks →
        t.mgt.evtRing = s.mgt.evtRing ++ [p]) ∧
      (64 * s.mgt.evtBlocks ≤ s.mgt.evtRing.length → t.mgt.evtRing = s.mgt.evtRing.drop 1 ++ [p]) ∧
      p.epoch = s.mgt.evtEpoch ∧ p.axle = false ∧ p.axles = [] ∧ p.events = s.mgt.evtBuf.take 252 ∧
      (∀ q, s.mgt.evtBuf.head? = some q → p.first = q.1) ∧ p.ok = decide (fate ≠ .decays)) ∧
  (∀ (s : State) (dt : Nat), s.pewterOn = true → (s.pass dt).pageDue true = true → s.mgt.spare.toNat ≥ 33 →
    ∃ t, exec (.recorderPageWrite dt true .retired) s = .next t ∧ OthersSame s.crc t.crc 2 ∧
      t.mgt.spare = s.mgt.spare - 1 ∧ t.mgt.spareLow = s.mgt.spareLow ∧ t.lastFault 0x0B31 0xFFFF ∧
      t.mgt.axlBuf = s.mgt.axlBuf.drop 14 ∧ t.mgt.evtRing = s.mgt.evtRing) ∧
  (∀ (s : State) (dt : Nat) (axles : Bool) (fate : PageFate), (s.pass dt).pageDue axles = false →
    exec (.recorderPageWrite dt axles fate) s = .next (s.pass dt)) ∧
  (∀ (s : State) (dt : Nat) (k : Fin 16) (h : Hold), s.pewterOn = true → s.mgt.holds[k] = some h → h.copied = false →
    h.until' ≤ s.now + dt → (∀ p ∈ s.mgt.evtRing ++ s.mgt.axlRing, p.ok = true) →
    ∃ t h', exec (.holdCopy dt k) s = .next t ∧ OthersSame s.mgt.holds t.mgt.holds k ∧
      t = { s.pass dt with mgt := { s.mgt with holds := t.mgt.holds } } ∧ t.mgt.holds[k] = some h' ∧ h'.copied = true ∧
      h'.first = h.first ∧ h'.last = h.last ∧
      (h.events = [] → ∀ p ∈ h'.events, inWindow h.first h.last p.2.ts = true) ∧
      (h.axles = [] → ∀ a ∈ h'.axles, inWindow h.first h.last a.record.ts = true)) ∧
  (∀ (s : State) (dt : Nat) (k : Fin 16) (h : Hold), s.mgt.holds[k] = some h → h.copied = true →
    exec (.holdCopy dt k) s = .next (s.pass dt))

/-! ### The interpreter and votes (R205, R206, R228 to R233) -/

/-- R228, Table 8-4: the oldest waiting packet is taken and judged by the admission checks in their order: a trailer that does not
match (0A01h, no reply), the format (0A02h, BAD_PARAM), the source (0A03h, no reply), a duplicate (answered at once with what
its first reply said), a tag in use (0A05h, BAD_PARAM), the quota (0A04h, QUEUE_FULL). -/
def Obligations.PacketAdmission : Prop :=
  ∀ (s u : State) (dt : Nat) (p : Packet) (rest : List Packet), s.inReset = false → s.cmd.inbox = p :: rest →
    u = { s.pass dt with cmd := { s.cmd with inbox := rest } } →
    (trailerOk p.bytes = false → ∃ t, exec (.commandPacket dt .waiting) s = .next t ∧ t.lastFault 0x0A01 0xFFFF ∧
      ({ u with cmd := { u.cmd with
        fault := setBit s.cmd.fault 0, errTrailer := satInc s.cmd.errTrailer } } : State).SameButLog t) ∧
    (trailerOk p.bytes = true → packetFormatOk p.bytes = false →
      ∃ t, exec (.commandPacket dt .waiting) s = .next t ∧ t.lastFault 0x0A02 0xFFFF ∧
        (({ u with cmd := { u.cmd with
            rxCnt := s.cmd.rxCnt + 1, fault := setBit s.cmd.fault 1
            errRefused := satInc s.cmd.errRefused } } : State).sendPacket p.path
          (replyPacket p.bytes false { status := stBadParam }) none).SameButLog t) ∧
    (trailerOk p.bytes = true → packetFormatOk p.bytes = true → sourceOk p.path (hdrSource p.bytes) = false →
      ∃ t, exec (.commandPacket dt .waiting) s = .next t ∧ t.lastFault 0x0A03 0xFFFF ∧
        ({ u with cmd := { u.cmd with rxCnt := s.cmd.rxCnt + 1, fault := setBit s.cmd.fault 2,
                                      errRefused := satInc s.cmd.errRefused } } : State).SameButLog t) ∧
    (trailerOk p.bytes = true → packetFormatOk p.bytes = true → sourceOk p.path (hdrSource p.bytes) = true →
      (∀ (d : DupEntry) (r : Result),
        s.cmd.dup.find? (fun x => decide (x.src = hdrSource p.bytes ∧ x.seq = hdrSeq p.bytes)) = some d →
        (∀ x ∈ s.cmd.tags, hdrSource x.header ≠ d.src ∨ hdrSeq x.header ≠ d.seq) → d.reply = some r →
        exec (.commandPacket dt .waiting) s = .next (({ u with cmd := { u.cmd with
          rxCnt := s.cmd.rxCnt + 1, repeatDup := satInc s.cmd.repeatDup } } : State).sendPacket p.path
            (replyPacket p.bytes false { status := stDuplicate, bytes := r.status :: r.bytes }) none)) ∧
      (s.cmd.dup.find? (fun x => decide (x.src = hdrSource p.bytes ∧ x.seq = hdrSeq p.bytes)) = none →
        ((∃ x ∈ s.cmd.tags, hdrSource x.header = hdrSource p.bytes ∧ hdrTag x.header = hdrTag p.bytes) →
          ∃ t, exec (.commandPacket dt .waiting) s = .next t ∧ t.lastFault 0x0A05 0xFFFF ∧
            (({ u with cmd := { u.cmd with
                rxCnt := s.cmd.rxCnt + 1, fault := setBit s.cmd.fault 4
                errRefused := satInc s.cmd.errRefused } } : State).sendPacket p.path
              (replyPacket p.bytes false { status := stBadParam }) none).SameButLog t) ∧
        ((∀ x ∈ s.cmd.tags, hdrSource x.header ≠ hdrSource p.bytes ∨ hdrTag x.header ≠ hdrTag p.bytes) →
          quotaOf (hdrSource p.bytes) ≤ s.cmd.inFlight (hdrSource p.bytes) →
          ∃ t, exec (.commandPacket dt .waiting) s = .next t ∧ t.lastFault 0x0A04 0xFFFF ∧
            (({ u with cmd := { u.cmd with
                rxCnt := s.cmd.rxCnt + 1, fault := setBit s.cmd.fault 3
                repeatFull := satInc s.cmd.repeatFull } } : State).sendPacket p.path
              (replyPacket p.bytes false { status := stQueueFull }) none).SameButLog t)))

/-- R206, R229, R230, R233: a lane's packet that passes the checks takes a tag and a place in the duplicate window and opens a vote;
the packet of a second lane with the same key admits it; a packet given with its path goes the same way as one that waited. At
the end of its 20 ms a vote with one lane expires with 0A10h, and one admitted without a third lane is counted. -/
def Obligations.VotesOfTheLanes : Prop :=
  (∀ (s : State) (dt : Nat) (p : Packet) (rest : List Packet) (i : Fin 3) (o : Op), s.inReset = false →
    s.cmd.inbox = p :: rest → p.path = .lane i → trailerOk p.bytes = true → packetFormatOk p.bytes = true →
    hdrSource p.bytes = laneSource i →
    (∀ d ∈ s.cmd.dup, d.src ≠ hdrSource p.bytes ∨ d.seq ≠ hdrSeq p.bytes) →
    (∀ x ∈ s.cmd.tags, hdrSource x.header ≠ hdrSource p.bytes ∨ hdrTag x.header ≠ hdrTag p.bytes) →
    s.cmd.inFlight (hdrSource p.bytes) < 32 → decodeOp (hdrOp p.bytes) (packetParams p.bytes) = some o →
    hdrOp p.bytes ∈ definedOpcodes → classAdmits .v (hdrOp p.bytes) (packetParams p.bytes) = true →
    s.cmd.openVote (voteKey p.bytes) i p.at' = none → hdrInterim p.bytes = false →
    ∃ t, exec (.commandPacket dt .waiting) s = .next t ∧ t = { s.pass dt with cmd := t.cmd } ∧ t.cmd.inbox = rest ∧
      t.cmd.tags = s.cmd.tags ++ [{ id := s.cmd.nextId, header := p.bytes.take 16, path := p.path }] ∧
      t.cmd.votes = s.cmd.votes ++ [{ id := s.cmd.nextId + 1, key := voteKey p.bytes, t0 := p.at', lanes := [i],
                                      tags := [s.cmd.nextId], exempt := p.exempt }] ∧
      t.cmd.dup = recordSeq (hdrSource p.bytes) (hdrSeq p.bytes) s.cmd.dup ∧ t.cmd.admitCnt = s.cmd.admitCnt) ∧
  (∀ (s : State) (dt : Nat) (p : Packet) (rest : List Packet) (i : Fin 3) (o : Op) (v : Vote), s.inReset = false →
    s.cmd.inbox = p :: rest → p.path = .lane i → trailerOk p.bytes = true → packetFormatOk p.bytes = true →
    hdrSource p.bytes = laneSource i →
    (∀ d ∈ s.cmd.dup, d.src ≠ hdrSource p.bytes ∨ d.seq ≠ hdrSeq p.bytes) →
    (∀ x ∈ s.cmd.tags, hdrSource x.header ≠ hdrSource p.bytes ∨ hdrTag x.header ≠ hdrTag p.bytes) →
    s.cmd.inFlight (hdrSource p.bytes) < 32 → decodeOp (hdrOp p.bytes) (packetParams p.bytes) = some o →
    hdrOp p.bytes ∈ definedOpcodes → classAdmits .v (hdrOp p.bytes) (packetParams p.bytes) = true →
    s.cmd.openVote (voteKey p.bytes) i p.at' = some v → v.admitted = false → s.testing = false → p.exempt = false →
    v.exempt = false → ∀ e : Fin 4, o.onAdmission = false → s.executor o = some e →
    ∃ t, exec (.commandPacket dt .waiting) s = .next t ∧ t = { s.pass dt with cmd := t.cmd } ∧
      t.cmd.admitCnt = s.cmd.admitCnt + 1 ∧ t.cmd.lastOp = o.code ∧ t.cmd.lastVote = some v.id ∧
      t.cmd.waiting = s.cmd.waiting ++ [{ eng := e, cmd := { who := .lanes false, op := o, ref := .vote v.id },
                                           at' := s.now + dt }]) ∧
  (∀ (s : State) (dt : Nat) (path : Path) (bytes : List Byte), s.inReset = false → s.cmd.inbox = [] →
    (path ≠ .mailbox ∨ s.pewterOn = true) →
    exec (.commandPacket dt (.direct path bytes)) s = exec (.commandPacket dt .waiting) { s with cmd := { s.cmd with
      inbox := [{ path := path, bytes := bytes, exempt := decide (path ≠ .mailbox) && !s.clk.signed,
                  at' := s.now + dt }] } }) ∧
  (∀ (s : State) (dt : Nat), s.inReset = false →
    ∃ t, exec (.voteWindowEnd dt) s = .next t ∧
      ({ s.pass dt with cmd := t.cmd, links := t.links } : State).SameButLog t ∧
      (∀ v ∈ t.cmd.votes, v.closed = true ∨ s.now + dt < v.t0 + 20000000) ∧
      ((∀ v ∈ s.cmd.votes, v.closed = true ∨ s.now + dt < v.t0 + 20000000) → t = s.pass dt) ∧
      (∀ v, s.cmd.votes = [v] → v.closed = false → v.admitted = false → v.t0 + 20000000 ≤ s.now + dt →
        t.cmd.voteExpired = satInc s.cmd.voteExpired ∧ t.lastFault 0x0A10 0xFFFF ∧ t.cmd.votes = []) ∧
      (∀ v, s.cmd.votes = [v] → v.closed = false → v.admitted = true → v.confirmed = false →
        v.t0 + 20000000 ≤ s.now + dt →
        t.cmd.voteNoThird = satInc s.cmd.voteNoThird ∧ t.mdl = s.mdl ∧ t.links = s.links))

/-! ### Engines and sections (R132 to R180, R38) -/

/-- R163, R165 to R172, R38: a frame within its step bounds in which no check finds a difference commits with the token expected of
it: the checkpoint slot that does not hold the last checkpoint is written whole with the coded image. A wrong token halts the
engine. An upset of the open frame that a check finds fails it, as the check says; a canary's, and the third failure in a row,
halts the engine, whose token dies; an upset that no check finds leaves the frame open.
R38, R147: the scrub logs a corrected word with 0621h and marks an uncorrectable one with 0620h; a pending exit that is due at
the sampling tick makes its section DISTURBED 07h in both passes of the frame that the tick opened, or,
where no frame is open, in the image that the next one loads. -/
def Obligations.FramesScrubAndPendingExits : Prop :=
  (∀ (s : State) (e : Fin 4) (w : Work) (c : Coded), s.inReset = false → (s.engines[e]).work = some w → w.fits = true →
    s.finding e w = none → (s.engines[e]).ho = [] →
    c = encodeAll e (s.engines[e]).frame (imageCells s.cfg (s.engines[e]) w w.imgC) →
    ∃ t, exec (.frameCommit e (expectedToken (s.engines[e]).frame)) s = .next t ∧ OthersSame s.engines t.engines e ∧
      t = { s with engines := t.engines } ∧ (t.engines[e]).work = none ∧ (t.engines[e]).fails = 0 ∧
      (t.engines[e]).sampled = [] ∧ (t.engines[e]).ring = [] ∧ (t.engines[e]).committed.secs = w.img.secs ∧
      (t.engines[e]).committed.frame = (s.engines[e]).frame ∧ (t.engines[e]).tokenNext = true ∧
      (t.engines[e]).tokenReg = expectedToken (s.engines[e]).frame ∧
      ((s.engines[e]).newerB e = true → (t.engines[e]).ckA = { cut := 16384, low := c, older := [] } ∧
        (t.engines[e]).ckB = (s.engines[e]).ckB) ∧
      ((s.engines[e]).newerB e = false → (t.engines[e]).ckB = { cut := 16384, low := c, older := [] } ∧
        (t.engines[e]).ckA = (s.engines[e]).ckA) ∧
      (t.engines[e]).published = (s.engines[e]).published ∧ (t.engines[e]).mode = (s.engines[e]).mode) ∧
  (∀ (s : State) (e : Fin 4) (w : Work) (token : Word), s.inReset = false → (s.engines[e]).work = some w → w.fits = true →
    s.finding e w = none → token ≠ expectedToken (s.engines[e]).frame → (s.engines[e]).ho = [] →
    ∃ t, exec (.frameCommit e token) s = .next t ∧ s.frameHalts t e .token ∧ (t.engines[e]).tokenReg = token) ∧
  (∀ (s : State) (e : Fin 4) (w : Work) (token : Word) (r : FrameFail × Option Diff), s.inReset = false →
    (s.engines[e]).work = some w → w.fits = true → s.finding e w = some r → (s.engines[e]).ho = [] →
    ∃ t, exec (.frameCommit e token) s = .next t ∧
      (r.1 ≠ .canary → (s.engines[e]).fails < 2 → s.frameLost t e r.1) ∧
      ((r.1 = .canary ∨ 2 ≤ (s.engines[e]).fails) → s.frameHalts t e r.1) ∧
      (∀ x, r.2 = some x → (t.engines[e]).mismatch = x.word) ∧ (r.1 = .canary → (t.engines[e]).canaryFail = true)) ∧
  (∀ (s u : State) (e : Fin 4) (k : UpsetKind) (p : Nat) (v : BitVec 64) (w : Work) (r : FrameFail × Option Diff),
    s.inReset = false → (s.engines[e]).work.isSome = true → k ≠ .ecc → u = s.upset e (Upset.of k p v) →
    (u.engines[e]).ho = [] → (u.engines[e]).work = some w → u.finding e w = some r →
    ∃ t, exec (.frameFailure e k p v) s = .next t ∧
      (r.1 ≠ .canary → (u.engines[e]).fails < 2 → u.frameLost t e r.1) ∧
      ((r.1 = .canary ∨ 2 ≤ (u.engines[e]).fails) → u.frameHalts t e r.1) ∧
      (∀ d, r.2 = some d → (t.engines[e]).mismatch = d.word) ∧ (r.1 = .canary → (t.engines[e]).canaryFail = true)) ∧
  (∀ (s u : State) (e : Fin 4) (k : UpsetKind) (p : Nat) (v : BitVec 64) (w : Work), s.inReset = false →
    (s.engines[e]).work.isSome = true → k ≠ .ecc → u = s.upset e (Upset.of k p v) → (u.engines[e]).work = some w →
    u.finding e w = none → exec (.frameFailure e k p v) s = .next u) ∧
  (∀ (s : State) (e : Fin 4) (a : Fin 524288) (v : BitVec 64), s.inReset = false → (s.engines[e]).work.isSome = true →
    s.eccReads e a.val = true → (s.engines[e]).ho = [] →
    ∃ t, exec (.frameFailure e .ecc a.val v) s = .next t ∧ ((s.engines[e]).fails < 2 → s.frameLost t e .ecc) ∧
      (2 ≤ (s.engines[e]).fails → s.frameHalts t e .ecc)) ∧
  (∀ (s : State) (e : Fin 4) (a : Fin 524288) (v : BitVec 64), s.eccReads e a.val = false →
    exec (.frameFailure e .ecc a.val v) s = .next s) ∧
  (∀ (s : State) (e : Fin 4), s.inReset = false → (s.engines[e]).token = true →
    (s.engines[e]).tokenUntil ≤ (s.engines[e]).frame →
    ∃ t, exec (.tokenExpiry e) s = .next t ∧ OthersSame s.engines t.engines e ∧
      t = { s with engines := t.engines, vos := t.vos } ∧ t.engines[e] = { s.engines[e] with token := false } ∧
      (∀ j : Fin 8, s.publisher (s.voSection j) = some e → (t.vos[j]).closed = false)) ∧
  (∀ (s : State) (w : Fin 524288), s.inReset = false → exec (.eccScrub w .clean) s = .next s) ∧
  (∀ (s : State) (w : Fin 524288), s.inReset = false →
    ∃ t, exec (.eccScrub w .single) s = .next t ∧ s.SameButLog t ∧
      t.lastFault 0x0621 (match s.eccOwner w.val with | some e => e.val | none => 0xFFFF)) ∧
  (∀ (s : State) (w : Fin 524288), s.inReset = false →
    ∃ t, exec (.eccScrub w .double) s = .next t ∧
      ({ s with engines := t.engines, eccBad := t.eccBad } : State).SameButLog t ∧ w ∈ t.eccBad ∧
      (∀ x, x ∈ t.eccBad ↔ x ∈ s.eccBad ∨ x = w) ∧
      (∀ e : Fin 4, s.eccOwner w.val = some e → t.lastFault 0x0620 e.val ∧
        t.engines[e] = { s.engines[e] with fault := setBit (s.engines[e]).fault 4 } ∧ OthersSame s.engines t.engines e) ∧
      (s.eccOwner w.val = none → t.lastFault 0x0620 0xFFFF ∧ t.engines = s.engines)) ∧
  (∀ (s : State) (i : Fin 256), s.inReset = false → (∀ e : Fin 4, (s.engines[e]).work.isSome = true) →
    ∃ t, exec (.pendingExitExpiry i) s = .next t ∧ t = { s with engines := t.engines } ∧
      ∀ (e : Fin 4) (w : Work), (s.engines[e]).work = some w →
        ∃ w', t.engines[e] = { s.engines[e] with work := some w' } ∧
          w' = { w with img := w'.img, imgC := w'.imgC, logs := w'.logs } ∧
          w'.img.secs = w.img.secs.map (fun x => if x.idx = i ∧ (s.cfg.sec i).isSome = true then
            (expirePending s.clk.tickAt x).1 else x) ∧
          w'.imgC.secs = w.imgC.secs.map (fun x => if x.idx = i ∧ (s.cfg.sec i).isSome = true then
            (expirePending s.clk.tickAt x).1 else x)) ∧
  (∀ (s : State) (i : Fin 256), s.inReset = false → (∀ e : Fin 4, (s.engines[e]).work = none) →
    ∃ t, exec (.pendingExitExpiry i) s = .next t ∧
      ({ s with engines := t.engines, secFault := t.secFault } : State).SameButLog t ∧
      ∀ e : Fin 4, (t.engines[e]).committed.secs = (s.engines[e]).committed.secs.map (fun x =>
        if x.idx = i then (expirePending s.clk.tickAt x).1 else x)) ∧
  (∀ (n : Nat) (x : Sec), (∃ p ∈ x.pend, p.expiry ≤ n) → x.st ≠ .disturbed → x.discarded = false →
    expirePending n x = ({ x with st := .disturbed, cause := 0x07, pend := [], mismatch := 0, sweep := 0 },
      [secLogOf x.idx 0x0707 7]))

/-- R174, R176, R180, R255: at a tick after T0 the frames of a hand-over count up to H3; in H1 the source writes the sections into
the hand-over buffer and the target acknowledges where it has room; a target whose sum and digest are those of the buffer
confirms. At the switch the target publishes the sections from its own image and the source has them no more; a split source
enters MODE SPLIT without a token, whose two slots run from the next frame on. VI6 no longer ACCEPTED detaches the engines
under debug. -/
def Obligations.HandOverAndDebug : Prop :=
  (∀ s : State, s.inReset = false → s.now = s.clk.tickAt → (∃ e : Fin 4, (s.engines[e]).ho ≠ []) →
    ∃ t, exec .handoverFrame s = .next t ∧
      ({ s with engines := t.engines, vos := t.vos, sup := t.sup, mdl := { s.mdl with pub := t.mdl.pub }
                mgt := { s.mgt with posted := t.mgt.posted } } : State).SameButLog t ∧
      ∀ e : Fin 4, t.engines[e] = { s.engines[e] with
        pub := (t.engines[e]).pub
        ho := (s.engines[e]).ho.map (fun h => { h with step := min 3 ((s.engines[e]).frame - h.t0 + 1) }) }) ∧
  (∀ s : State, (s.now ≠ s.clk.tickAt ∨ ∀ e : Fin 4, (s.engines[e]).ho = []) → exec .handoverFrame s = .next s) ∧
  (∀ (s : State) (a : Fin 4) (h : HandOver), (s.engines[a]).frame = h.t0 → h.source = true →
    (s.commitHandover a h).hoBuf = s.hoBuf.filter (fun b => decide (b.src ≠ a ∨ b.tgt ≠ h.peer)) ++
      [bufferOf s.cfg a h.peer h.t0 ((s.engines[a]).committed.secs.filter (fun x => h.secs.contains x.idx))] ∧
    s.commitHandover a h = { s with hoBuf := (s.commitHandover a h).hoBuf }) ∧
  (∀ (s : State) (b : Fin 4) (h : HandOver) (buf : HoBuf) (d : BitVec 64), (s.engines[b]).frame = h.t0 + 2 → h.source = false →
    s.bufOf h.peer b = some buf → buf.digest = some d → h.sum.isSome = true → h.digest.isSome = true →
    h.sum = decode buf.sum sumSig (frameTerm buf.frame) → h.digest = decode d digestSig (frameTerm (h.t0 + 2)) →
    OthersSame s.engines (s.commitHandover b h).engines b ∧
    s.commitHandover b h = { s with engines := (s.commitHandover b h).engines } ∧
    ∀ x ∈ ((s.commitHandover b h).engines[b]).ho, x.peer = h.peer → x.confirmed = true) ∧
  (∀ (s : State) (a : Fin 4) (h : HandOver), s.inReset = false → s.now = s.clk.tickAt → (s.engines[a]).ho = [h] →
    h.source = true → h.peer ≠ a → 3 ≤ (s.engines[a]).frame - h.t0 →
    (∀ e : Fin 4, e ≠ a → ∀ x ∈ (s.engines[e]).ho, x.source = false) →
    ∃ t, exec .handoverSwitch s = .next t ∧
      ({ s with engines := t.engines, vos := t.vos, links := t.links, areas := t.areas, cmd := t.cmd, hoBuf := t.hoBuf
                sup := t.sup, clk := { s.clk with signed := t.clk.signed }, mdl := { s.mdl with pub := t.mdl.pub }
                mgt := { s.mgt with posted := t.mgt.posted } } : State).SameButLog t ∧
      (∀ e : Fin 4, e ≠ a → e ≠ h.peer → t.engines[e] = { s.engines[e] with
        pub := (t.engines[e]).pub, work := (t.engines[e]).work }) ∧
      (t.engines[h.peer]).published.secs = addSecs
        ((s.engines[h.peer]).published.secs.filter (fun x => !h.secs.contains x.idx))
        ((s.engines[h.peer]).committed.secs.filter (fun x => h.secs.contains x.idx)) ∧
      (t.engines[h.peer]).committed = (s.engines[h.peer]).committed ∧
      (t.engines[a]).published.secs = (s.engines[a]).published.secs.filter (fun x => !h.secs.contains x.idx) ∧
      (t.engines[a]).committed.secs = (s.engines[a]).committed.secs.filter (fun x => !h.secs.contains x.idx) ∧
      (t.engines[a]).ho = [] ∧ (∀ b ∈ t.hoBuf, b.src ≠ a ∨ b.tgt ≠ h.peer) ∧
      (h.join = false → (t.engines[a]).mode = .split ∧ (t.engines[a]).token = false ∧ (t.engines[a]).work = none ∧
        (t.engines[a]).delay = [] ∧ (t.engines[a]).from' = (s.engines[a]).frame + 1) ∧
      (h.join = true → (t.engines[a]).token = (s.engines[a]).token)) ∧
  (∀ (s : State) (e : Fin 4), s.inReset = false → (s.engines[e]).mode = .split →
    (s.engines[e]).from' ≤ (s.engines[e]).frame → ((s.engines[e]).aRun = false ∨ (s.engines[e]).bRun = false) →
    ∃ t, exec (.splitSlotsStart e) s = .next t ∧ OthersSame s.engines t.engines e ∧ t = { s with engines := t.engines } ∧
      t.engines[e] = { s.engines[e] with
        aRun := true, bRun := true, slotNew := false, slotAt := (s.engines[e]).frame
        slotA := slotProgram (s.engines[e]).progA, slotB := slotProgram (s.engines[e]).progB }) ∧
  (∀ s : State, s.inReset = false → s.accepted 6 = false →
    ∃ t, exec .debugKeyEnd s = .next t ∧ t = { s with engines := t.engines } ∧
      ∀ e : Fin 4, ((s.engines[e]).mode = .debug → t.engines[e] = { s.engines[e] with detaching := true }) ∧
        ((s.engines[e]).mode ≠ .debug → t.engines[e] = s.engines[e])) ∧
  (∀ s : State, s.accepted 6 = true → exec .debugKeyEnd s = .next s)

/-- R132, R135, R137, R139: one record at a member point of a section in service. An uncertain one makes it DISTURBED 01h; an entry
joins the ledger of a section without pending exits, which is then not CLEAR, or overflows a full one (04h); an exit of an empty
ledger without a pending list is DISTURBED 03h; the last exit that a COUNT mode section waits for makes it CLEAR. -/
def Obligations.LedgerCountsAxles : Prop :=
  ∀ (d : SecDef) (own : BitVec 11) (n : Nat) (r : AxleRec) (x : Sec), x.unproven = false → x.st ≠ .disturbed →
    (r.committed = false → (processRec d own n r x).1.st = .disturbed ∧ (processRec d own n r x).1.cause = 0x01) ∧
    (r.committed = true → isEntry d r = true → x.pend = [] → x.ledger.length < d.blocks * 16 →
      (processRec d own n r x).1.ledger = insertRec r x.ledger ∧ (processRec d own n r x).1.st ≠ .clear ∧
      (processRec d own n r x).1.st ≠ .disturbed ∧ (processRec d own n r x).2 = []) ∧
    (r.committed = true → isEntry d r = true → x.pend = [] → x.ledger.length = d.blocks * 16 →
      (processRec d own n r x).1.st = .disturbed ∧ (processRec d own n r x).1.cause = 0x04) ∧
    (r.committed = true → isEntry d r = false → x.ledger = [] → d.remote own = false → x.st ≠ .resetPending →
      (processRec d own n r x).1.st = .disturbed ∧ (processRec d own n r x).1.cause = 0x03) ∧
    (∀ a, r.committed = true → isEntry d r = false → x.ledger = [a] → x.pend = [] → x.st = .occupied → x.mismatch = 0 →
      d.sequence = false →
      (processRec d own n r x).1.st = .clear ∧ (processRec d own n r x).1.ledger = [] ∧
      (processRec d own n r x).1.pairs = x.pairs + 1 ∧ (processRec d own n r x).2 = []) ∧
    (x.idx = (processRec d own n r x).1.idx)

/-! ### The tick (R19 to R28) -/

/-- R22, R24, R181: a tick passes the clock to the next multiple of 250,000 ns at least 250,000 ns later, and opens the next frame
of every engine; R31: one that comes later than 525 µs after the last one is a clock fault. In service, with every engine in RUN or halted and no hand-over, R20, R171, R28: an engine that has committed
its frame publishes the image with the token it formed, and opens the next frame; one that has not fails its frame and keeps
its published image. -/
def Obligations.TickOpensTheNextFrame : Prop :=
  (∀ (s : State) (m : TickMeas), s.inReset = false → s.clk.tickAt + 525000 < s.now →
    ∃ t, exec (.tick m) s = .next t ∧ t.inReset = true ∧ t.mdl.resetCause = .clock ∧ (0x0133, 0xFFFF) ∈ t.mdl.resetFaults) ∧
  (∀ (s : State) (m : TickMeas), s.inReset = false → s.now ≤ s.clk.tickAt + 525000 →
    (∀ (e : Fin 4) (w : Work), (s.engines[e]).done = some w → w.ops = []) →
    ∃ t, exec (.tick m) s = .next t ∧ t.clk.tickTb = s.nextTb % 2 ^ 64 ∧
      t.clk.tickAt = s.tickDue ∧ t.clk.prevTb = s.clk.tickTb ∧ t.clk.stepFrame = false ∧
      t.clk.elapsed = max s.clk.elapsed t.clk.tickAt ∧
      (∀ e : Fin 4, (t.engines[e]).frame = (s.engines[e]).frame + 1) ∧ (∀ c : Fin 128, (t.chans[c]).outIdx = 0) ∧
      t.img = s.img ∧ (∀ k : Fin 8, (t.lanes[k]).synced = (s.lanes[k]).synced) ∧ t.crc = s.crc ∧ t.banks = s.banks ∧ t.pending = s.pending) ∧
  (∀ (s : State) (m : TickMeas) (a : Fin 4), s.mdl.phase = .service → s.now ≤ s.clk.tickAt + 525000 → s.eccBad = [] →
    ((s.engines[a]).loaded a).low.bad a = none → .start ∉ s.causes → .image ∉ s.causes →
    (∀ x ∈ (s.engines[a]).published.secs ++ (s.engines[a]).committed.secs, x.keyInh = false) →
    (∀ e : Fin 4, (s.engines[e]).ho = [] ∧ ((s.engines[e]).mode = .run ∨ (s.engines[e]).mode = .halted) ∧
      (e ≠ a → (s.engines[e]).work = none)) →
    (∀ (e : Fin 4) (w : Work), (s.engines[e]).done = some w → w.ops = []) → s.clk.prodTest = false →
    (∀ e : Fin 4, 61120 ≤ (m.cyc[e]).toNat ∧ (m.cyc[e]).toNat ≤ 61150) → (s.engines[a]).mode = .run →
    (∀ w, (s.engines[a]).done = some w → (s.engines[a]).work = none → (s.engines[a]).tokenNext = true →
      (∀ x ∈ w.img.secs, x.keyInh = false) →
      ∃ t, exec (.tick m) s = .next t ∧ (t.engines[a]).published = w.img ∧ (t.engines[a]).token = true ∧
        (t.engines[a]).tokenUntil = (s.engines[a]).frame + 3 ∧ (t.engines[a]).work.isSome = true) ∧
    (∀ w, (s.engines[a]).work = some w → (s.engines[a]).done = none → (s.engines[a]).fails < 2 → (s.engines[a]).haltDue = false →
      ∃ t, exec (.tick m) s = .next t ∧ (t.engines[a]).published = (s.engines[a]).published ∧
        (t.engines[a]).fails = (s.engines[a]).fails + 1 ∧ (t.engines[a]).fault = setBit (s.engines[a]).fault 6 ∧
        (t.engines[a]).restartKind = 5))

/-- R24: a decided step is applied at a tick and at no other instant; the next tick is the first multiple of 250,000 ns at which
250 µs, which are 30,720 periods of 122.88 MHz, have elapsed, so the frame that contains the step lasts at least 250 µs and less
than 500 µs. -/
def Obligations.StepsOnlyAtTicks : Prop :=
  (∀ s : State, s.now ≠ s.clk.tickAt → exec .timeBaseStep s = .next s ∧ exec .timeBaseExtLoad s = .next s) ∧
  (∀ (s : State) (d : Int), s.inReset = false → s.clk.stepDue = some d → s.now = s.clk.tickAt →
    ∃ t, exec .timeBaseStep s = .next t ∧ t.clk.tickTb = (((s.clk.tickTb : Int) + d) % 2 ^ 64).toNat ∧
      t.clk.tickAt = s.clk.tickAt ∧ t.now = s.now ∧ t.clk.stepFrame = true) ∧
  (∀ s : State, s.nextTb % 250000 = 0 ∧ s.clk.tickTb + 250000 ≤ s.nextTb ∧ s.nextTb < s.clk.tickTb + 500000 ∧
    ∀ x : Nat, x % 250000 = 0 → s.clk.tickTb + 250000 ≤ x → s.nextTb ≤ x) ∧
  (∀ (s : State) (m : TickMeas), s.inReset = false → s.now ≤ s.clk.tickAt + 525000 → s.clk.rate = 0 → s.clk.frac = 0 →
    (∀ (e : Fin 4) (w : Work), (s.engines[e]).done = some w → w.ops = []) →
    ∃ t, exec (.tick m) s = .next t ∧ t.clk.tickTb = s.nextTb % 2 ^ 64 ∧
      t.clk.tickAt = s.clk.tickAt + (s.nextTb - s.clk.tickTb))

/-! ### Pewter's processor and its sensors (R315 to R317, R326) -/

/-- R315: a watchdog restart ends clients and sessions and loses what Pewter's queue and page buffers hold, while rings, holds
and a staged image stay; its end logs 0B02h, or 0B22h where the boot ROM has refused the management image. R316, R317: a sample
once per second feeds the warning timers of the four sensors and derives PF and the field bus current, left free for a median
of 0 V; a reading beyond its level for 10 s logs its fault once per episode, which ends after 60 s inside it. -/
def Obligations.PewterRestartAndSensors : Prop :=
  (∀ (s : State) (dt : Nat), s.pewterOn = true →
    ∃ t, exec (.pewterWatchdog dt) s = .next t ∧
      t = { s.pass dt with mgt := t.mgt, cmd := { s.cmd with mailbox := [], inbox := t.cmd.inbox }
                           wdus := t.wdus, sup := { s.sup with snapshot := false } } ∧
      t.mgt.pw = .restarting ∧ t.mgt.restarts = satInc s.mgt.restarts ∧ t.mgt.clients = [] ∧ t.mgt.sessions = [] ∧
      t.mgt.queue = [] ∧ t.mgt.evtBuf = [] ∧ t.mgt.axlBuf = [] ∧ t.mgt.dropped = 0 ∧
      t.mgt.lostEvents = s.mgt.lostEvents ∧ t.mgt.lostAxles = s.mgt.lostAxles ∧
      t.mgt.evtRing = s.mgt.evtRing ∧ t.mgt.axlRing = s.mgt.axlRing ∧ t.mgt.holds = s.mgt.holds ∧ t.mgt.fault = s.mgt.fault) ∧
  (∀ (s : State) (dt : Nat), s.inReset = false → s.mgt.pw = .restarting →
    ∃ t, exec (.pewterRestartComplete dt) s = .next t ∧
      ({ s.pass dt with mgt := { s.mgt with pw := .running, recOk := true } } : State).SameButLog t ∧
      (s.mgt.restartWd = true → t.lastFault 0x0B02 0xFFFF) ∧
      (s.mgt.restartWd = false → s.mgt.bootBad = true → t.lastFault 0x0B22 0xFFFF) ∧
      (s.mgt.restartWd = false → s.mgt.bootBad = false → t.mgt.fault = s.mgt.fault ∧ t.mdl = s.mdl)) ∧
  (∀ (s : State) (dt : Nat) (a b c h : Byte), s.pewterOn = true →
    (∀ u, s.mgt.sensorAt = some u → u + 1000000000 ≤ s.now + dt) →
    ∃ t, exec (.sensorSample dt a b c h) s = .next t ∧
      t = { s.pass dt with clk := { (s.pass dt).clk with free := t.clk.free }, mgt := { s.mgt with
        sensorAt := some (s.now + dt), tCore := a, tMgt := b, tInlet := c, humidity := h
        wCore := s.mgt.wCore.take 110 a.toInt (s.now + dt), wMgt := s.mgt.wMgt.take 95 b.toInt (s.now + dt)
        wInlet := s.mgt.wInlet.take 75 c.toInt (s.now + dt), wHum := s.mgt.wHum.take 95 h.toNat (s.now + dt)
        power := satNat 16 ((57400000 + s.portPower) / 8200000), current := t.mgt.current } } ∧
      (s.sup.median ≠ 0 → t.clk.free = s.clk.free ∧
        t.mgt.current = BitVec.ofNat 16 (min 9999 ((57400000 + s.portPower) / (8200 * s.sup.median.toNat)))) ∧
      (s.sup.median = 0 → t.mgt.current.toNat ≤ 9999)) ∧
  (∀ (x : SensorSt) (level v : Int) (now : Nat),
    (level < v → (x.take level v now).aboveSince = some (x.aboveSince.getD now)) ∧
    (v ≤ level → (x.take level v now).aboveSince = none) ∧
    (v ≤ level - 5 → (x.take level v now).belowSince = some (x.belowSince.getD now)) ∧
    (level - 5 < v → (x.take level v now).belowSince = none) ∧ (x.take level v now).episode = x.episode) ∧
  (∀ (s : State) (dt : Nat) (q : Sensor) (b : Nat), s.pewterOn = true → (s.mgt.sensor q).episode = false →
    (s.mgt.sensor q).aboveSince = some b → b + 10000000000 ≤ s.now + dt →
    ∃ t, exec (.sensorWarning dt q) s = .next t ∧
      ({ s.pass dt with mgt := s.mgt.setSensor q { s.mgt.sensor q with episode := true } } : State).SameButLog t ∧
      t.lastFault (if q = .humidity then 0x0B11 else 0x0B10) 0xFFFF) ∧
  (∀ (s : State) (dt : Nat) (q : Sensor) (b : Nat), s.pewterOn = true → (s.mgt.sensor q).episode = true →
    (s.mgt.sensor q).belowSince = some b → b + 60000000000 ≤ s.now + dt →
    exec (.sensorWarningEnd dt q) s =
      .next { s.pass dt with mgt := s.mgt.setSensor q { s.mgt.sensor q with episode := false } })

/-! ### The management transport (R321, R322, R324 to R326) -/

/-- R324, Table 12-5: a datagram from outside the prefix and not from the gateway, or of a sixteenth client, is discarded and
counted, whatever it asks. Any other finds its sender's session or client, or numbers it from 1 upwards; a packet is left for
the interpreter with its source ID; a session takes the lowest free number and ends the sender's client; the recorder's entry,
the clock, a hold, a release, a network setting and a firmware restart have their effects, the guarded ones only for a tool
session while VI6 is ACCEPTED. Clients end after 60 s and sessions after 10 min without a datagram. -/
def Obligations.TransportRequests : Prop :=
  (∀ (s : State) (dt : Nat) (ep : Endpoint) (c : Instr) (bs : List Byte) (id : BitVec 16) (num utc : BitVec 48) (g : Stamp)
      (slot plen : Byte) (ok : Bool) (ad gw : Word), s.ethOn = true →
    (s.mgt.admits ep = false ∨ (s.pass dt).hear ep = none) →
    c ∈ [Instr.mgtCommand dt ep bs, .sessionClose dt ep id, .recorderRead dt ep num, .clockSet dt ep utc, .hold dt ep g,
      .release dt ep slot, .fwRestart dt ep ok, .netSet dt ep ad plen gw] →
    exec c s = .next { s.pass dt with mgt := { s.mgt with refused := satInc s.mgt.refused } }) ∧
  (∀ (s : State) (ep : Endpoint), (∀ x ∈ s.mgt.sessions, x.ep ≠ ep) → (∀ x ∈ s.mgt.clients, x.ep ≠ ep) →
    ((∀ i : Nat, 1 ≤ i → i ≤ 15 → ∃ x ∈ s.mgt.clients, x.id.toNat = i) → s.hear ep = none) ∧
    (∀ i : Nat, 1 ≤ i → i ≤ 15 → (∀ x ∈ s.mgt.clients, x.id.toNat ≠ i) →
      (∀ j : Nat, 1 ≤ j → j < i → ∃ x ∈ s.mgt.clients, x.id.toNat = j) →
      s.hear ep = some (.mgt (BitVec.ofNat 4 i), { s with mgt := { s.mgt with
        clients := s.mgt.clients ++ [{ id := BitVec.ofNat 4 i, ep := ep, last := s.now }] } }))) ∧
  (∀ (s u : State) (dt : Nat) (ep : Endpoint) (w : Who), s.ethOn = true → s.mgt.admits ep = true →
    (s.pass dt).hear ep = some (w, u) →
    (∀ bs : List Byte, exec (.mgtCommand dt ep bs) s = .next { u with cmd := { u.cmd with inbox := u.cmd.inbox ++
      [{ path := .mailbox, bytes := withSource w.sourceId bs, exempt := false, at' := s.now + dt }] } }) ∧
    (∀ (id : BitVec 3), exec (.sessionClose dt ep (0x3000 + id.setWidth 16)) s = .next { u with mgt := { u.mgt with
      sessions := u.mgt.sessions.filter (fun (x : Client) => decide (x.id.toNat ≠ id.toNat)) } }) ∧
    (∀ (num : BitVec 48) (a : AxleEntry),
      ((u.mgt.axlRing.filter Page.ok).flatMap Page.axles ++ u.mgt.axlBuf).find? (fun a => decide (a.num = num.toNat)) = some a →
      exec (.recorderRead dt ep num) s = .next { u with mgt := { u.mgt with datagrams := [(ep, 5, a.bytes)] } }) ∧
    (∀ (num : BitVec 48), (∀ g ∈ u.mgt.axlRing, g.ok = true) →
      (∀ a ∈ u.mgt.axlRing.flatMap Page.axles ++ u.mgt.axlBuf, a.num ≠ num.toNat) →
      exec (.recorderRead dt ep num) s = .next { u with mgt := { u.mgt with datagrams := [(ep, 5, [])] } }) ∧
    (∀ utc : BitVec 48, u.hasRoom →
      exec (.clockSet dt ep utc) s = .next { u with mgt := { u.mgt with
        calendar := u.mgt.calendar ++ [{ epoch := u.mgt.epoch.toNat, tb := u.stamp, utc := utc }]
        queue := u.mgt.queue ++ [.event { ts := u.stamp, code := 4, obj := 0xFFFF, detail := utc }] } }) ∧
    (∀ (g : Stamp) (i : Fin 16) (v : State), u.openHold g = (some i, v) →
      exec (.hold dt ep g) s = .next { v with mgt := { v.mgt with datagrams := [(ep, 7, [BitVec.ofNat 8 i.val])] } }) ∧
    (∀ (g : Stamp) (v : State), u.openHold g = (none, v) →
      exec (.hold dt ep g) s = .next { v with mgt := { v.mgt with datagrams := [(ep, 7, [0xFF])] } }) ∧
    (∀ (slot : Fin 16), u.keyed w = true → (u.mgt.holds[slot]).isSome = true → u.hasRoom →
      ∃ t, exec (.release dt ep (BitVec.ofNat 8 slot.val)) s = .next t ∧ OthersSame u.mgt.holds t.mgt.holds slot ∧
        t.mgt.holds[slot] = none ∧ t = { u with mgt := { u.mgt with
          holds := t.mgt.holds, queue := u.mgt.queue ++
            [.event { ts := u.stamp, code := 6, obj := 0xFFFF, detail := BitVec.ofNat 48 (slot.val * 2 ^ 40 + 2 ^ 32) }] } }) ∧
    (∀ (slot : Byte), (u.keyed w = false ∨ 16 ≤ slot.toNat) → exec (.release dt ep slot) s = .next u) ∧
    (∀ (ad gw : Word) (plen : Byte), u.keyed w = true → 8 ≤ plen.toNat → plen.toNat ≤ 30 →
      exec (.netSet dt ep ad plen gw) s =
        .next { u with mgt := { u.mgt with ipv4 := ad, prefixLen := plen.setWidth 6, gw := gw } }) ∧
    (∀ (ad gw : Word) (plen : Byte), (u.keyed w = false ∨ plen.toNat < 8 ∨ 30 < plen.toNat) →
      exec (.netSet dt ep ad plen gw) s = .next u) ∧
    (u.mgt.fwState = .verified → u.mgt.fwVital = false →
      ∃ t, exec (.fwRestart dt ep true) s = .next t ∧ t.mgt.pw = .restarting ∧ t.mgt.restartWd = false ∧
        t.mgt.bootBad = false ∧ t.mgt.fwLine = byteAt u.mgt.fwBytes 5 ∧ t.mdl = { u.mdl with fwMgtFallback := false } ∧
        t.engines = u.engines ∧ t.img = u.img) ∧
    (u.mgt.fwState = .verified → u.mgt.fwVital = false →
      ∃ t, exec (.fwRestart dt ep false) s = .next t ∧ t.mgt.pw = .restarting ∧ t.mgt.restartWd = false ∧
        t.mgt.bootBad = true ∧ t.mgt.fwLine = u.mgt.fwLine ∧ t.mdl = { u.mdl with fwMgtFallback := true } ∧
        t.engines = u.engines ∧ t.img = u.img) ∧
    (∀ ok : Bool, (u.mgt.fwState ≠ .verified ∨ u.mgt.fwVital = true) → exec (.fwRestart dt ep ok) s = .next u)) ∧
  (∀ (s : State) (dt : Nat) (ep : Endpoint) (i : Fin 8), s.ethOn = true → s.mgt.admits ep = true →
    (∀ x ∈ s.mgt.sessions, x.id.toNat ≠ i.val ∧ x.ep ≠ ep) → (s.img.stage ≠ .staged ∨ s.img.owner.toNat ≠ i.val) →
    (∀ j : Fin 8, j.val < i.val →
      (∃ x ∈ s.mgt.sessions, x.id.toNat = j.val) ∨ (s.img.stage = .staged ∧ s.img.owner.toNat = j.val)) →
    exec (.sessionOpen dt ep) s = .next { s.pass dt with mgt := { s.mgt with
      sessions := s.mgt.sessions ++ [{ id := BitVec.ofNat 4 i.val, ep := ep, last := s.now + dt }]
      clients := s.mgt.clients.filter (fun (x : Client) => decide (x.ep ≠ ep))
      datagrams := [(ep, 3, toBytes 2 (0x3000 + i.val))] } }) ∧
  (∀ (s : State) (dt : Nat) (ep : Endpoint), s.ethOn = true →
    (s.mgt.admits ep = false ∨ ∀ i : Fin 8, ∃ x ∈ s.mgt.sessions, x.id.toNat = i.val) →
    exec (.sessionOpen dt ep) s = .next { s.pass dt with mgt := { s.mgt with refused := satInc s.mgt.refused } }) ∧
  (∀ (s : State) (dt : Nat) (id : BitVec 4), s.pewterOn = true →
    exec (.clientTimeout dt id) s = .next { s.pass dt with mgt := { s.mgt with
      clients := s.mgt.clients.filter (fun (x : Client) => !(decide (x.id = id) && decide (x.last + 60000000000 ≤ s.now + dt))) } }) ∧
  (∀ (s : State) (dt : Nat) (id : BitVec 3), s.pewterOn = true →
    exec (.sessionTimeout dt id) s = .next { s.pass dt with mgt := { s.mgt with
      sessions := s.mgt.sessions.filter (fun (x : Client) => !(decide (x.id = id.setWidth 4) && decide (x.last + 600000000000 ≤ s.now + dt))) } })

/-- R324, R325: a loopback starts at once, and one selected from the network ends every session; it ends with all 64 frames back,
or after 100 ms with LB_RESULT fail and 0B41h, but not at the instant at which it starts, and with LOOPBACK 11b none runs. A frame with a bad FCS and a frame of any other traffic are counted; ARP and ICMP
echo are answered. A 100BASE-TX partner without auto-negotiation gives no link and logs 0B40h; the other partners give the mode
of the link. -/
def Obligations.EthernetPort : Prop :=
  (∀ (s : State) (dt : Nat) (net : Bool), s.pewterOn = true →
    exec (.ethLoopbackMac dt net) s = .next { s.pass dt with mgt := { s.mgt with
      loopback := .mac, loopNet := net, loopAt := s.now + dt, sessions := if net then [] else s.mgt.sessions } } ∧
    exec (.ethLoopbackPhy dt net) s = .next { s.pass dt with mgt := { s.mgt with
      loopback := .phy, loopNet := net, loopAt := s.now + dt, sessions := if net then [] else s.mgt.sessions } }) ∧
  (∀ (s : State) (dt back : Nat), s.inReset = false → (s.mgt.loopback = .mac ∨ s.mgt.loopback = .phy) →
    s.mgt.loopAt < s.now + dt → 64 ≤ back →
    exec (.ethLoopbackEnd dt back) s = .next { s.pass dt with mgt := { s.mgt with
      loopback := .none, loopNet := false, lbResult := 1 } }) ∧
  (∀ (s : State) (dt back : Nat), (s.mgt.loopback = .none ∨ s.mgt.loopback = .reserved ∨ s.now + dt ≤ s.mgt.loopAt) →
    exec (.ethLoopbackEnd dt back) s = .next (s.pass dt)) ∧
  (∀ (s : State) (dt back : Nat), s.inReset = false → (s.mgt.loopback = .mac ∨ s.mgt.loopback = .phy) → back < 64 →
    (s.mgt.loopAt + 100000000 ≤ s.now + dt →
      ∃ t, exec (.ethLoopbackEnd dt back) s = .next t ∧ t.lastFault 0x0B41 0xFFFF ∧
        ({ s.pass dt with mgt := { s.mgt with loopback := .none, loopNet := false, lbResult := 2 } } : State).SameButLog t) ∧
    (s.now + dt < s.mgt.loopAt + 100000000 → exec (.ethLoopbackEnd dt back) s = .next (s.pass dt))) ∧
  (∀ (s : State) (dt : Nat), s.ethOn = true →
    exec (.ethernetFrame dt .badFcs) s = .next { s.pass dt with mgt := { s.mgt with rxErr := satInc s.mgt.rxErr } } ∧
    exec (.ethernetFrame dt .other) s = .next { s.pass dt with mgt := { s.mgt with refused := satInc s.mgt.refused } } ∧
    exec (.ethernetFrame dt .arp) s = .next { s.pass dt with mgt := { s.mgt with answered := some .arp } } ∧
    exec (.ethernetFrame dt .icmpEcho) s = .next { s.pass dt with mgt := { s.mgt with answered := some .icmpEcho } }) ∧
  (∀ (s : State) (dt : Nat) (f : EthFrame), s.ethOn = false → exec (.ethernetFrame dt f) s = .next (s.pass dt)) ∧
  (∀ (s : State) (dt : Nat), s.inReset = false → s.mgt.ethEnable = true → s.mgt.loopback ≠ .phy →
    exec (.ethernetLinkChange dt .auto100) s = .next { s.pass dt with mgt := { s.mgt with link := true, ethMode := 2 } } ∧
    exec (.ethernetLinkChange dt .auto10) s = .next { s.pass dt with mgt := { s.mgt with link := true, ethMode := 1 } } ∧
    exec (.ethernetLinkChange dt .parallel10) s = .next { s.pass dt with mgt := { s.mgt with link := true, ethMode := 1 } } ∧
    exec (.ethernetLinkChange dt .down) s = .next { s.pass dt with mgt := { s.mgt with link := false, ethMode := 0 } } ∧
    ∃ t, exec (.ethernetLinkChange dt .parallel100) s = .next t ∧ t.lastFault 0x0B40 0xFFFF ∧
      ({ s.pass dt with mgt := { s.mgt with link := false, ethMode := 0 } } : State).SameButLog t)

/-! ### Accesses to registers (R13, R313, R329 to R337) -/

/-- R313, R329, R330, R332 to R334: what Pewter's write filter lets through, and the report of what it does not. -/
def Obligations.WriteFilter : Prop :=
  (∀ (s : State) (addr : BitVec 20) (v : Word) (wd : Width), s.pewterOn = true → addr.toNat % wd.bytes ≠ 0 →
    ∃ t, exec (.registerWrite addr v wd) s = .next t ∧ s.SameButLog t ∧ t.lastFault 0x0B03 0xFFFF) ∧
  (∀ (s : State) (addr : BitVec 20) (v : Word) (wd : Width), s.pewterOn = true → addr.toNat % wd.bytes = 0 → wd ≠ .w32 →
    ∃ t, exec (.registerWrite addr v wd) s = .next t ∧ s.writeBlocked t addr.toNat) ∧
  (∀ (s : State) (addr : BitVec 20) (v : Word), s.pewterOn = true → addr.toNat % 4 = 0 →
    (decodeReg addr.toNat = none ∨ ∃ a, decodeReg addr.toNat = some a ∧ w1cMask a = 0 ∧ a.blk ≠ .mgt ∧
      (a.blk = .cen → a.off ≠ 0x30) ∧ (a.blk = .crc → a.idx < 2)) →
    ∃ t, exec (.registerWrite addr v .w32) s = .next t ∧ s.writeBlocked t addr.toNat) ∧
  (∀ (s : State) (addr : BitVec 20) (v : Word) (a : RegAt), addr.toNat % 4 = 0 → decodeReg addr.toNat = some a →
    w1cMask a ≠ 0 → exec (.registerWrite addr v .w32) s = exec (.w1cWrite addr v 0) s) ∧
  (∀ (s : State) (addr : BitVec 20) (v : Word) (a : RegAt), s.pewterOn = true → addr.toNat % 4 = 0 →
    decodeReg addr.toNat = some a → a.blk = .mgt → w1cMask a = 0 →
    (a.off = 0x34 → exec (.registerWrite addr v .w32) s = .next { s with mgt := { s.mgt with ipv4 := v } }) ∧
    (a.off = 0x38 → exec (.registerWrite addr v .w32) s = .next { s with mgt := { s.mgt with gw := v } }) ∧
    (a.off ≠ 0x28 → a.off ≠ 0x34 → a.off ≠ 0x38 → exec (.registerWrite addr v .w32) s = .next s) ∧
    (a.off = 0x28 → ∃ t, exec (.registerWrite addr v .w32) s = .next t ∧
      t = { s with mgt := { s.mgt with
        ethEnable := v.getLsbD 31, prefixLen := v.extractLsb' 16 6, link := s.mgt.link && v.getLsbD 31
        ethMode := if v.getLsbD 31 then s.mgt.ethMode else 0
        loopback := t.mgt.loopback, loopNet := t.mgt.loopNet, loopAt := t.mgt.loopAt } } ∧
      (v.extractLsb' 29 2 = 0 → t.mgt.loopback = .none) ∧
      (v.extractLsb' 29 2 = 1 → t.mgt.loopback = .mac ∧ t.mgt.loopAt = s.now) ∧
      (v.extractLsb' 29 2 = 2 → t.mgt.loopback = .phy ∧ t.mgt.loopAt = s.now) ∧
      (v.extractLsb' 29 2 = 3 → t.mgt.loopback = .reserved) ∧ t.regWord .pewter a = v &&& 0xE03F0000)) ∧
  (∀ (s : State) (e : Fin 4) (addr : BitVec 20) (w : Word), s.pewterOn = true → addr.toNat = 0xD030 + 0x100 * e.val →
    exec (.registerWrite addr w .w32) s = exec (.cenSlotWrite e w) s ∧
    ∃ t, exec (.cenSlotWrite e w) s = .next t ∧ OthersSame s.engines t.engines e ∧ t = { s with engines := t.engines } ∧
      t.engines[e] = { s.engines[e] with progB := w.extractLsb' 8 8, progA := w.extractLsb' 0 8, slotNew := true }) ∧
  (∀ (s : State) (u : Fin 4) (addr : BitVec 20) (v : Word), s.pewterOn = true → 2 ≤ u.val →
    (addr.toNat = 0x12100 + 0x40 * u.val → ∃ t, exec (.registerWrite addr v .w32) s = .next t ∧
      OthersSame s.crc t.crc u ∧ t = { s with crc := t.crc } ∧ t.crc[u] = { s.crc[u] with algo := v.setWidth 2 }) ∧
    (addr.toNat = 0x12104 + 0x40 * u.val → v.getLsbD 0 = true → v.getLsbD 1 = true →
      ∃ t, exec (.registerWrite addr v .w32) s = .next t ∧ OthersSame s.crc t.crc u ∧ t = { s with crc := t.crc } ∧
        t.crc[u] = { s.crc[u] with
          acc := crcInit (s.crc[u]).algo, bytes := 0, result := crcDone (s.crc[u]).algo (crcInit (s.crc[u]).algo) })) ∧
  (∀ (s : State) (addr : BitVec 20) (wd : Width), addr.toNat % wd.bytes ≠ 0 →
    (s.pewterOn = true → ∃ t, exec (.unalignedAccess .pewter addr wd true) s = .next t ∧ s.SameButLog t ∧
      t.lastFault 0x0B03 0xFFFF) ∧
    (∀ rd : Reader, s.canRead rd = true → ∃ t, exec (.unalignedAccess rd addr wd false) s = .next t ∧
      ({ s with readers := t.readers } : State).SameButLog t ∧ t.lastFault 0x0B03 0xFFFF ∧ (t.readerOf rd).data = 0 ∧
      (t.readerOf rd).busError = decide (rd = .pewter) ∧ ∀ q : Reader, q ≠ rd → t.readerOf q = s.readerOf q))

/-- R13: a write of 1 to a W1C bit clears it unless an event sets it in the same clock cycle, and no other bit of any W1C register
changes; a 32-bit read returns a register and clears its RC fields, each of which keeps an increment of the same cycle, and no
other RC field changes. R107: the registers of the WDU of an unassigned point hold their reset values. -/
def Obligations.NoEventIsLost : Prop :=
  (∀ (s : State) (addr : BitVec 20) (v ev : Word) (a : RegAt), s.pewterOn = true → addr.toNat % 4 = 0 →
    decodeReg addr.toNat = some a → w1cMask a ≠ 0 → (a.blk = .wdu → s.assigned (Fin.ofNat 64 a.idx) = true) →
    ∃ t, exec (.w1cWrite addr v ev) s = .next t ∧
      (∀ b : Nat, (w1cMask a).getLsbD b = true →
        (ev.getLsbD b = true → (t.regWord .pewter a).getLsbD b = true) ∧
        (ev.getLsbD b = false → v.getLsbD b = true → (t.regWord .pewter a).getLsbD b = false) ∧
        (ev.getLsbD b = false → v.getLsbD b = false →
          (t.regWord .pewter a).getLsbD b = (s.regWord .pewter a).getLsbD b)) ∧
      (∀ (n : Nat) (a' : RegAt), decodeReg n = some a' → a' ≠ a → w1cMask a' ≠ 0 →
        t.regWord .pewter a' = s.regWord .pewter a') ∧
      t.clk = s.clk ∧ t.causes = s.causes ∧ t.readers = s.readers ∧ t.mgt.queue = s.mgt.queue ∧ t.lanes = s.lanes ∧
      t.img.active = s.img.active) ∧
  (∀ (s : State) (rd : Reader) (addr : BitVec 20) (inc : BitVec 4) (a : RegAt), s.canRead rd = true →
    addr.toNat % 4 = 0 → decodeReg addr.toNat = some a →
    ∃ t, exec (.rcRead rd addr inc) s = .next t ∧ (t.readerOf rd).data = s.regWord rd a ∧
      (∀ (j lo w : Nat), (rcFields a)[j]? = some (lo, w) → (a.blk = .wdu → s.assigned (Fin.ofNat 64 a.idx) = true) →
        fieldNat (t.regWord rd a) lo w = if inc.getLsbD j then 1 else 0) ∧
      (∀ (n : Nat) (a' : RegAt), decodeReg n = some a' → a' ≠ a → ∀ p ∈ rcFields a',
        fieldNat (t.regWord rd a') p.1 p.2 = fieldNat (s.regWord rd a') p.1 p.2) ∧
      (rcFields a = [] → t = { s with readers := t.readers }) ∧
      t.clk = s.clk ∧ t.causes = s.causes ∧ t.mgt.queue = s.mgt.queue ∧ t.img = s.img ∧ t.vis = s.vis) ∧
  (∀ (s : State) (rd : Reader) (a : RegAt), a.blk = .wdu → 0x10 ≤ a.off → s.assigned (Fin.ofNat 64 a.idx) = false →
    s.regWord rd a = if a.off = 0x20 then 0x04B994 else 0)

/-- R337, Table 13-2, R342: a 32-bit read of a latching register latches its partners for the reader alone; a latched register
returns, in every state with that reader's latches, the value so taken, and 0 when none was taken since module reset. -/
def Obligations.LatchingReads : Prop :=
  (∀ (s : State) (rd : Reader) (addr : BitVec 20), s.canRead rd = true → s.latched addr.toNat ≠ [] → addr.toNat % 4 = 0 →
    ∃ t, exec (.latchingRead rd addr) s = .next t ∧ t = { s with readers := t.readers } ∧
      (t.readerOf rd).data = s.peek rd addr.toNat ∧ (∀ p ∈ s.latched addr.toNat, t.peek rd p.1 = p.2) ∧
      (∀ (n : Nat) (a : RegAt), decodeReg n = some a → isLatched a = true → n % 4 = 0 →
        (∀ p ∈ s.latched addr.toNat, p.1 ≠ n) → t.peek rd n = s.peek rd n) ∧
      (∀ q : Reader, q ≠ rd → t.readerOf q = s.readerOf q)) ∧
  (∀ (s u : State) (rd : Reader) (n : Nat) (a : RegAt), decodeReg n = some a → isLatched a = true →
    (a.blk = .wdu → s.assigned (Fin.ofNat 64 a.idx) = u.assigned (Fin.ofNat 64 a.idx)) → s.readerOf rd = u.readerOf rd → s.peek rd n = u.peek rd n) ∧
  (∀ (s : State) (c : ResetCause) (rd : Reader) (n : Nat) (a : RegAt), decodeReg n = some a → isLatched a = true →
    (s.assertReset c).peek rd n = 0)

/-! ### Completions of the test evaluator's events and of a code period (R58, R302, R304, R305, R308) -/

/-- R302, R304, R305, R308: a segment inside a step counts, and its result word enters the step's signature; in windowed mode a
segment of T1, T2, T3 or T14 is followed by a pause, after whose 30 ms the test goes on; the first segment of a shutdown
self-test begins when the tokens have died and no frame is sourced; an aborted test is recorded INCOMPLETE, and module reset is
asserted. R58, R59: at the end of a code period each channel that it meets without a blind interval shows the coefficients of its
chip sums, and every other one keeps what it had. -/
def Obligations.TestAndCodeEventsComplete : Prop :=
  (∀ (s u : State) (dt n segs : Nat) (r : Word), s.tst.running = true → s.tst.stepNow = some (n, segs) → s.tst.segs + 1 < segs →
    u = { s.pass dt with tst := { s.tst with
      count := s.tst.count + 1, segs := s.tst.segs + 1, acc := (toBytes 4 r.toNat).foldl (crcByteR poly32c) s.tst.acc } } →
    (s.mdl.phase = .start → s.mdl.startStage = stageOfStep n → s.tst.state ≠ .shutdown → s.tst.held = false →
      exec (.testSegmentEnd dt r) s = .next u) ∧
    (s.tst.state = .shutdown → s.tst.abortReq = none → (s.tst.windowed = false ∨ n ∉ [1, 2, 3, 14]) →
      exec (.testSegmentEnd dt r) s = .next u) ∧
    (s.tst.state = .shutdown → s.tst.abortReq = none → s.tst.windowed = true → n ∈ [1, 2, 3, 14] →
      exec (.testSegmentEnd dt r) s = .next { u with tst := { u.tst with running := false, pauseSince := some (s.now + dt) } })) ∧
  (∀ (s : State) (dt b : Nat), s.inReset = false → s.tst.state = .shutdown → s.tst.pauseSince = some b →
    b + 30000000 ≤ s.now + dt →
    exec (.testPauseEnd dt) s = .next { s.pass dt with tst := { s.tst with running := true, pauseSince := none } }) ∧
  (∀ (s : State) (dt b : Nat), s.inReset = false → s.tst.state = .shutdown → s.tst.firstAt = some b → b ≤ s.now + dt →
    ∃ t, exec (.selftestFirstSegment dt) s = .next t ∧
      t = { s.pass dt with
        tst := { s.tst with running := true, firstAt := none }, engines := t.engines, links := t.links, vos := t.vos } ∧
      (∀ e : Fin 4, t.engines[e] = { s.engines[e] with
        token := false, tokenNext := false, work := none, done := none, sampled := [], ring := [], delay := [] }) ∧
      (∀ k : Fin 8, t.links[k] = { s.links[k] with armed := none, ready := none }) ∧
      (∀ (j : Fin 8) (e : Fin 4), s.publisher (s.voSection j) = some e → (t.vos[j]).closed = false)) ∧
  (∀ (s : State) (dt : Nat), s.inReset = false → s.tst.state = .aborting →
    ∃ t, exec (.selftestAbortComplete dt) s = .next t ∧ t.inReset = true ∧ t.mdl.resetCause = .abort ∧
      t.tst.record = some {
        kind := 3, verdict := 3, count := s.tst.count, token := none, fw := s.fwCheckNow, sigs := s.tst.sigs } ∧
      t.tst.aborts = s.tst.aborts + 1 ∧ t.tst.abortCause = s.tst.abortReq.getD 1 ∧ t.clk.elapsed = s.now + dt ∧
      t.img.slot = s.img.slot ∧ t.pending = s.pending ∧ ∀ e : Fin 4, (t.engines[e]).token = false) ∧
  (∀ (s : State) (p : Nat), s.inReset = false → p = (s.clk.tickTb + 250000) / 1280000 * 1280000 → 0 < p → p ≠ s.clk.codeEnd →
    s.periodIn (p / 1280000 - 1) = true →
    ∃ t, exec .codePeriodEnd s = .next t ∧
      t.clk = { s.clk with codeEnd := p, elapsed := max s.clk.elapsed (s.clk.tickAt + (p - s.clk.tickTb)) } ∧
      (∀ (c : Fin 128) (k : Corr), (s.chans[c]).codePeriod (p / 1280000 - 1) = some k → k.blind = false →
        (t.chans[c]).lastX = coefMags k ∧
        (t.chans[c]).prevOwn = ((coefAbove 200 k).getD (portOf c).val false && s.supplied (portOf c))) ∧
      (∀ c : Fin 128, (∀ k, (s.chans[c]).codePeriod (p / 1280000 - 1) = some k → k.blind = true) →
        (t.chans[c]).lastX = (s.chans[c]).lastX ∧ (t.chans[c]).prevX = (s.chans[c]).prevX ∧
        (t.chans[c]).prevOwn = (s.chans[c]).prevOwn) ∧
      (∀ n : Fin 64, (t.ports[n]).xcorr = xcorrWord n.val (t.chans[chanOf n .cs1]).lastX (t.chans[chanOf n .cs2]).lastX))
end

