-- ==== Sys2Proof/Laws/State.lean ====
section
/-! SUPPORT. What each update of the state leaves unchanged: one lemma per field per update, so that no later proof
unfolds a record update. -/

namespace Sys2Proof.Machine

/-! ### Arrays -/

theorem upd_get_same {α : Type} {n : Nat} (v : Vector α n) (i : Fin n) (f : α → α) :
    (upd v i f)[i] = f v[i] := by
  simp [upd]

/-- The same with the index as a number, the form that simp gives an index. -/
@[simp] theorem upd_get_val {α : Type} {n : Nat} (v : Vector α n) (i : Fin n) (f : α → α) :
    (upd v i f)[i.val] = f v[i.val] := by
  simp [upd]

theorem upd_get_ne {α : Type} {n : Nat} (v : Vector α n) (i k : Fin n) (f : α → α) (h : k ≠ i) :
    (upd v i f)[k] = v[k] := by
  have : i.val ≠ k.val := fun e => h (Fin.ext e.symm)
  simp [upd, Vector.getElem_set_ne, this]

theorem upd_othersSame {α : Type} {n : Nat} (v : Vector α n) (i : Fin n) (f : α → α) : OthersSame v (upd v i f) i :=
  fun k h => upd_get_ne v i k f h

theorem upd_get {α : Type} {n : Nat} (v : Vector α n) (i k : Fin n) (f : α → α) :
    (upd v i f)[k] = if k = i then f v[k] else v[k] := by
  by_cases h : k = i
  · subst h; rw [if_pos rfl]; exact upd_get_same v k f
  · rw [if_neg h]; exact upd_get_ne v i k f h

theorem OthersSame.refl {α : Type} {n : Nat} (v : Vector α n) (i : Fin n) : OthersSame v v i := fun _ _ => rfl

theorem OthersSame.trans {α : Type} {n : Nat} {v w x : Vector α n} {i : Fin n} (h : OthersSame v w i)
    (k : OthersSame w x i) : OthersSame v x i :=
  fun j hj => (k j hj).trans (h j hj)

theorem upd_upd {α : Type} {n : Nat} (v : Vector α n) (i : Fin n) (f g : α → α) :
    upd (upd v i f) i g = upd v i (fun x => g (f x)) := by
  simp [upd]

/-- Updates of the elements of a list without repeats, one after the other. -/
theorem foldl_upd_get {α : Type} {n : Nat} (f : Fin n → α → α) (k : Fin n) :
    ∀ (l : List (Fin n)) (v : Vector α n), l.Nodup →
      (l.foldl (fun v i => upd v i (f i)) v)[k] = if k ∈ l then f k v[k] else v[k] := by
  intro l
  induction l with
  | nil => intro v _; simp
  | cons a l ih =>
    intro v h
    obtain ⟨ha, hl⟩ := List.nodup_cons.1 h
    rw [List.foldl_cons, ih _ hl, upd_get]
    by_cases e : k = a
    · subst e; rw [if_neg ha, if_pos rfl, if_pos (by simp)]
    · by_cases m : k ∈ l
      · rw [if_pos m, if_neg e, if_pos (by simp [m])]
      · rw [if_neg m, if_neg e, if_neg (by simp [m, e])]

theorem allFin_nodup (n : Nat) : (allFin n).Nodup := List.nodup_finRange n

@[simp] theorem mem_allFin {n : Nat} (k : Fin n) : k ∈ allFin n := List.mem_finRange k

/-! ### Instants -/

/-- What depends on the clock alone is the same where the clock is. -/
theorem State.late_congr {s t : State} (h : t.clk = s.clk) : t.late = s.late := by
  unfold State.late; rw [h]

/-! ### Conditions and runs -/

theorem State.when_true {s : State} {c : Bool} {f : State → State} (h : c = true) : s.when c f = .next (f s) := by
  simp [State.when, h]

theorem State.when_false {s : State} {c : Bool} {f : State → State} (h : c = false) : s.when c f = .next s := by
  simp [State.when, h]

/-! ### Time -/

@[simp] theorem State.pass_clk (s : State) (dt : Nat) :
    (s.pass dt).clk = { s.clk with elapsed := s.clk.elapsed + dt } := rfl

@[simp] theorem State.upTo_clk (s : State) (x : Nat) :
    (s.upTo x).clk = { s.clk with elapsed := max s.clk.elapsed x } := rfl

@[simp] theorem State.pass_now (s : State) (dt : Nat) : (s.pass dt).now = s.now + dt := rfl

@[simp] theorem State.pass_inReset (s : State) (dt : Nat) : (s.pass dt).inReset = s.inReset := rfl

@[simp] theorem State.draw_clk (s : State) : s.draw.2.clk = { s.clk with free := s.clk.free + 1 } := rfl

/-! ### Fields -/

@[simp] theorem State.pass_mdl (s : State) (dt : Nat) : (s.pass dt).mdl = s.mdl := rfl
@[simp] theorem State.pass_lanes (s : State) (dt : Nat) : (s.pass dt).lanes = s.lanes := rfl
@[simp] theorem State.pass_retLanes (s : State) (dt : Nat) : (s.pass dt).retLanes = s.retLanes := rfl
@[simp] theorem State.pass_ports (s : State) (dt : Nat) : (s.pass dt).ports = s.ports := rfl
@[simp] theorem State.pass_rt (s : State) (dt : Nat) : (s.pass dt).rt = s.rt := rfl
@[simp] theorem State.pass_rtFirst (s : State) (dt : Nat) : (s.pass dt).rtFirst = s.rtFirst := rfl
@[simp] theorem State.pass_chans (s : State) (dt : Nat) : (s.pass dt).chans = s.chans := rfl
@[simp] theorem State.pass_banks (s : State) (dt : Nat) : (s.pass dt).banks = s.banks := rfl
@[simp] theorem State.pass_wdus (s : State) (dt : Nat) : (s.pass dt).wdus = s.wdus := rfl
@[simp] theorem State.pass_engines (s : State) (dt : Nat) : (s.pass dt).engines = s.engines := rfl
@[simp] theorem State.pass_secFault (s : State) (dt : Nat) : (s.pass dt).secFault = s.secFault := rfl
@[simp] theorem State.pass_links (s : State) (dt : Nat) : (s.pass dt).links = s.links := rfl
@[simp] theorem State.pass_areas (s : State) (dt : Nat) : (s.pass dt).areas = s.areas := rfl
@[simp] theorem State.pass_relays (s : State) (dt : Nat) : (s.pass dt).relays = s.relays := rfl
@[simp] theorem State.pass_rxQueue (s : State) (dt : Nat) : (s.pass dt).rxQueue = s.rxQueue := rfl
@[simp] theorem State.pass_conflict (s : State) (dt : Nat) : (s.pass dt).conflict = s.conflict := rfl
@[simp] theorem State.pass_tbs (s : State) (dt : Nat) : (s.pass dt).tbs = s.tbs := rfl
@[simp] theorem State.pass_cmd (s : State) (dt : Nat) : (s.pass dt).cmd = s.cmd := rfl
@[simp] theorem State.pass_crc (s : State) (dt : Nat) : (s.pass dt).crc = s.crc := rfl
@[simp] theorem State.pass_vis (s : State) (dt : Nat) : (s.pass dt).vis = s.vis := rfl
@[simp] theorem State.pass_vos (s : State) (dt : Nat) : (s.pass dt).vos = s.vos := rfl
@[simp] theorem State.pass_sup (s : State) (dt : Nat) : (s.pass dt).sup = s.sup := rfl
@[simp] theorem State.pass_img (s : State) (dt : Nat) : (s.pass dt).img = s.img := rfl
@[simp] theorem State.pass_tst (s : State) (dt : Nat) : (s.pass dt).tst = s.tst := rfl
@[simp] theorem State.pass_mgt (s : State) (dt : Nat) : (s.pass dt).mgt = s.mgt := rfl
@[simp] theorem State.pass_causes (s : State) (dt : Nat) : (s.pass dt).causes = s.causes := rfl
@[simp] theorem State.pass_begun (s : State) (dt : Nat) : (s.pass dt).begun = s.begun := rfl
@[simp] theorem State.pass_parked (s : State) (dt : Nat) : (s.pass dt).parked = s.parked := rfl
@[simp] theorem State.pass_readers (s : State) (dt : Nat) : (s.pass dt).readers = s.readers := rfl
@[simp] theorem State.pass_eccBad (s : State) (dt : Nat) : (s.pass dt).eccBad = s.eccBad := rfl
@[simp] theorem State.pass_pool (s : State) (dt : Nat) : (s.pass dt).pool = s.pool := rfl
@[simp] theorem State.pass_hoBuf (s : State) (dt : Nat) : (s.pass dt).hoBuf = s.hoBuf := rfl
@[simp] theorem State.pass_pending (s : State) (dt : Nat) : (s.pass dt).pending = s.pending := rfl
@[simp] theorem State.upTo_mdl (s : State) (x : Nat) : (s.upTo x).mdl = s.mdl := rfl
@[simp] theorem State.upTo_lanes (s : State) (x : Nat) : (s.upTo x).lanes = s.lanes := rfl
@[simp] theorem State.upTo_retLanes (s : State) (x : Nat) : (s.upTo x).retLanes = s.retLanes := rfl
@[simp] theorem State.upTo_ports (s : State) (x : Nat) : (s.upTo x).ports = s.ports := rfl
@[simp] theorem State.upTo_rt (s : State) (x : Nat) : (s.upTo x).rt = s.rt := rfl
@[simp] theorem State.upTo_rtFirst (s : State) (x : Nat) : (s.upTo x).rtFirst = s.rtFirst := rfl
@[simp] theorem State.upTo_chans (s : State) (x : Nat) : (s.upTo x).chans = s.chans := rfl
@[simp] theorem State.upTo_banks (s : State) (x : Nat) : (s.upTo x).banks = s.banks := rfl
@[simp] theorem State.upTo_wdus (s : State) (x : Nat) : (s.upTo x).wdus = s.wdus := rfl
@[simp] theorem State.upTo_engines (s : State) (x : Nat) : (s.upTo x).engines = s.engines := rfl
@[simp] theorem State.upTo_secFault (s : State) (x : Nat) : (s.upTo x).secFault = s.secFault := rfl
@[simp] theorem State.upTo_links (s : State) (x : Nat) : (s.upTo x).links = s.links := rfl
@[simp] theorem State.upTo_areas (s : State) (x : Nat) : (s.upTo x).areas = s.areas := rfl
@[simp] theorem State.upTo_relays (s : State) (x : Nat) : (s.upTo x).relays = s.relays := rfl
@[simp] theorem State.upTo_rxQueue (s : State) (x : Nat) : (s.upTo x).rxQueue = s.rxQueue := rfl
@[simp] theorem State.upTo_conflict (s : State) (x : Nat) : (s.upTo x).conflict = s.conflict := rfl
@[simp] theorem State.upTo_tbs (s : State) (x : Nat) : (s.upTo x).tbs = s.tbs := rfl
@[simp] theorem State.upTo_cmd (s : State) (x : Nat) : (s.upTo x).cmd = s.cmd := rfl
@[simp] theorem State.upTo_crc (s : State) (x : Nat) : (s.upTo x).crc = s.crc := rfl
@[simp] theorem State.upTo_vis (s : State) (x : Nat) : (s.upTo x).vis = s.vis := rfl
@[simp] theorem State.upTo_vos (s : State) (x : Nat) : (s.upTo x).vos = s.vos := rfl
@[simp] theorem State.upTo_sup (s : State) (x : Nat) : (s.upTo x).sup = s.sup := rfl
@[simp] theorem State.upTo_img (s : State) (x : Nat) : (s.upTo x).img = s.img := rfl
@[simp] theorem State.upTo_tst (s : State) (x : Nat) : (s.upTo x).tst = s.tst := rfl
@[simp] theorem State.upTo_mgt (s : State) (x : Nat) : (s.upTo x).mgt = s.mgt := rfl
@[simp] theorem State.upTo_causes (s : State) (x : Nat) : (s.upTo x).causes = s.causes := rfl
@[simp] theorem State.upTo_begun (s : State) (x : Nat) : (s.upTo x).begun = s.begun := rfl
@[simp] theorem State.upTo_parked (s : State) (x : Nat) : (s.upTo x).parked = s.parked := rfl
@[simp] theorem State.upTo_readers (s : State) (x : Nat) : (s.upTo x).readers = s.readers := rfl
@[simp] theorem State.upTo_eccBad (s : State) (x : Nat) : (s.upTo x).eccBad = s.eccBad := rfl
@[simp] theorem State.upTo_pool (s : State) (x : Nat) : (s.upTo x).pool = s.pool := rfl
@[simp] theorem State.upTo_hoBuf (s : State) (x : Nat) : (s.upTo x).hoBuf = s.hoBuf := rfl
@[simp] theorem State.upTo_pending (s : State) (x : Nat) : (s.upTo x).pending = s.pending := rfl
@[simp] theorem State.draw_mdl (s : State) : (s.draw.2).mdl = s.mdl := rfl
@[simp] theorem State.draw_lanes (s : State) : (s.draw.2).lanes = s.lanes := rfl
@[simp] theorem State.draw_retLanes (s : State) : (s.draw.2).retLanes = s.retLanes := rfl
@[simp] theorem State.draw_ports (s : State) : (s.draw.2).ports = s.ports := rfl
@[simp] theorem State.draw_rt (s : State) : (s.draw.2).rt = s.rt := rfl
@[simp] theorem State.draw_rtFirst (s : State) : (s.draw.2).rtFirst = s.rtFirst := rfl
@[simp] theorem State.draw_chans (s : State) : (s.draw.2).chans = s.chans := rfl
@[simp] theorem State.draw_banks (s : State) : (s.draw.2).banks = s.banks := rfl
@[simp] theorem State.draw_wdus (s : State) : (s.draw.2).wdus = s.wdus := rfl
@[simp] theorem State.draw_engines (s : State) : (s.draw.2).engines = s.engines := rfl
@[simp] theorem State.draw_secFault (s : State) : (s.draw.2).secFault = s.secFault := rfl
@[simp] theorem State.draw_links (s : State) : (s.draw.2).links = s.links := rfl
@[simp] theorem State.draw_areas (s : State) : (s.draw.2).areas = s.areas := rfl
@[simp] theorem State.draw_relays (s : State) : (s.draw.2).relays = s.relays := rfl
@[simp] theorem State.draw_rxQueue (s : State) : (s.draw.2).rxQueue = s.rxQueue := rfl
@[simp] theorem State.draw_conflict (s : State) : (s.draw.2).conflict = s.conflict := rfl
@[simp] theorem State.draw_tbs (s : State) : (s.draw.2).tbs = s.tbs := rfl
@[simp] theorem State.draw_cmd (s : State) : (s.draw.2).cmd = s.cmd := rfl
@[simp] theorem State.draw_crc (s : State) : (s.draw.2).crc = s.crc := rfl
@[simp] theorem State.draw_vis (s : State) : (s.draw.2).vis = s.vis := rfl
@[simp] theorem State.draw_vos (s : State) : (s.draw.2).vos = s.vos := rfl
@[simp] theorem State.draw_sup (s : State) : (s.draw.2).sup = s.sup := rfl
@[simp] theorem State.draw_img (s : State) : (s.draw.2).img = s.img := rfl
@[simp] theorem State.draw_tst (s : State) : (s.draw.2).tst = s.tst := rfl
@[simp] theorem State.draw_mgt (s : State) : (s.draw.2).mgt = s.mgt := rfl
@[simp] theorem State.draw_causes (s : State) : (s.draw.2).causes = s.causes := rfl
@[simp] theorem State.draw_begun (s : State) : (s.draw.2).begun = s.begun := rfl
@[simp] theorem State.draw_parked (s : State) : (s.draw.2).parked = s.parked := rfl
@[simp] theorem State.draw_readers (s : State) : (s.draw.2).readers = s.readers := rfl
@[simp] theorem State.draw_eccBad (s : State) : (s.draw.2).eccBad = s.eccBad := rfl
@[simp] theorem State.draw_pool (s : State) : (s.draw.2).pool = s.pool := rfl
@[simp] theorem State.draw_hoBuf (s : State) : (s.draw.2).hoBuf = s.hoBuf := rfl
@[simp] theorem State.draw_pending (s : State) : (s.draw.2).pending = s.pending := rfl
@[simp] theorem State.modPort_clk (s : State) (n : Fin 64) (f : Port → Port) : (s.modPort n f).clk = s.clk := rfl
@[simp] theorem State.modPort_mdl (s : State) (n : Fin 64) (f : Port → Port) : (s.modPort n f).mdl = s.mdl := rfl
@[simp] theorem State.modPort_lanes (s : State) (n : Fin 64) (f : Port → Port) : (s.modPort n f).lanes = s.lanes := rfl
@[simp] theorem State.modPort_retLanes (s : State) (n : Fin 64) (f : Port → Port) : (s.modPort n f).retLanes = s.retLanes := rfl
@[simp] theorem State.modPort_rt (s : State) (n : Fin 64) (f : Port → Port) : (s.modPort n f).rt = s.rt := rfl
@[simp] theorem State.modPort_rtFirst (s : State) (n : Fin 64) (f : Port → Port) : (s.modPort n f).rtFirst = s.rtFirst := rfl
@[simp] theorem State.modPort_chans (s : State) (n : Fin 64) (f : Port → Port) : (s.modPort n f).chans = s.chans := rfl
@[simp] theorem State.modPort_banks (s : State) (n : Fin 64) (f : Port → Port) : (s.modPort n f).banks = s.banks := rfl
@[simp] theorem State.modPort_wdus (s : State) (n : Fin 64) (f : Port → Port) : (s.modPort n f).wdus = s.wdus := rfl
@[simp] theorem State.modPort_engines (s : State) (n : Fin 64) (f : Port → Port) : (s.modPort n f).engines = s.engines := rfl
@[simp] theorem State.modPort_secFault (s : State) (n : Fin 64) (f : Port → Port) : (s.modPort n f).secFault = s.secFault := rfl
@[simp] theorem State.modPort_links (s : State) (n : Fin 64) (f : Port → Port) : (s.modPort n f).links = s.links := rfl
@[simp] theorem State.modPort_areas (s : State) (n : Fin 64) (f : Port → Port) : (s.modPort n f).areas = s.areas := rfl
@[simp] theorem State.modPort_relays (s : State) (n : Fin 64) (f : Port → Port) : (s.modPort n f).relays = s.relays := rfl
@[simp] theorem State.modPort_rxQueue (s : State) (n : Fin 64) (f : Port → Port) : (s.modPort n f).rxQueue = s.rxQueue := rfl
@[simp] theorem State.modPort_conflict (s : State) (n : Fin 64) (f : Port → Port) : (s.modPort n f).conflict = s.conflict := rfl
@[simp] theorem State.modPort_tbs (s : State) (n : Fin 64) (f : Port → Port) : (s.modPort n f).tbs = s.tbs := rfl
@[simp] theorem State.modPort_cmd (s : State) (n : Fin 64) (f : Port → Port) : (s.modPort n f).cmd = s.cmd := rfl
@[simp] theorem State.modPort_crc (s : State) (n : Fin 64) (f : Port → Port) : (s.modPort n f).crc = s.crc := rfl
@[simp] theorem State.modPort_vis (s : State) (n : Fin 64) (f : Port → Port) : (s.modPort n f).vis = s.vis := rfl
@[simp] theorem State.modPort_vos (s : State) (n : Fin 64) (f : Port → Port) : (s.modPort n f).vos = s.vos := rfl
@[simp] theorem State.modPort_sup (s : State) (n : Fin 64) (f : Port → Port) : (s.modPort n f).sup = s.sup := rfl
@[simp] theorem State.modPort_img (s : State) (n : Fin 64) (f : Port → Port) : (s.modPort n f).img = s.img := rfl
@[simp] theorem State.modPort_tst (s : State) (n : Fin 64) (f : Port → Port) : (s.modPort n f).tst = s.tst := rfl
@[simp] theorem State.modPort_mgt (s : State) (n : Fin 64) (f : Port → Port) : (s.modPort n f).mgt = s.mgt := rfl
@[simp] theorem State.modPort_causes (s : State) (n : Fin 64) (f : Port → Port) : (s.modPort n f).causes = s.causes := rfl
@[simp] theorem State.modPort_begun (s : State) (n : Fin 64) (f : Port → Port) : (s.modPort n f).begun = s.begun := rfl
@[simp] theorem State.modPort_parked (s : State) (n : Fin 64) (f : Port → Port) : (s.modPort n f).parked = s.parked := rfl
@[simp] theorem State.modPort_readers (s : State) (n : Fin 64) (f : Port → Port) : (s.modPort n f).readers = s.readers := rfl
@[simp] theorem State.modPort_eccBad (s : State) (n : Fin 64) (f : Port → Port) : (s.modPort n f).eccBad = s.eccBad := rfl
@[simp] theorem State.modPort_pool (s : State) (n : Fin 64) (f : Port → Port) : (s.modPort n f).pool = s.pool := rfl
@[simp] theorem State.modPort_hoBuf (s : State) (n : Fin 64) (f : Port → Port) : (s.modPort n f).hoBuf = s.hoBuf := rfl
@[simp] theorem State.modPort_pending (s : State) (n : Fin 64) (f : Port → Port) : (s.modPort n f).pending = s.pending := rfl
@[simp] theorem State.modPort_ports (s : State) (n : Fin 64) (f : Port → Port) : (s.modPort n f).ports = upd s.ports n f := rfl
@[simp] theorem State.modChan_clk (s : State) (c : Fin 128) (f : Chan → Chan) : (s.modChan c f).clk = s.clk := rfl
@[simp] theorem State.modChan_mdl (s : State) (c : Fin 128) (f : Chan → Chan) : (s.modChan c f).mdl = s.mdl := rfl
@[simp] theorem State.modChan_lanes (s : State) (c : Fin 128) (f : Chan → Chan) : (s.modChan c f).lanes = s.lanes := rfl
@[simp] theorem State.modChan_retLanes (s : State) (c : Fin 128) (f : Chan → Chan) : (s.modChan c f).retLanes = s.retLanes := rfl
@[simp] theorem State.modChan_ports (s : State) (c : Fin 128) (f : Chan → Chan) : (s.modChan c f).ports = s.ports := rfl
@[simp] theorem State.modChan_rt (s : State) (c : Fin 128) (f : Chan → Chan) : (s.modChan c f).rt = s.rt := rfl
@[simp] theorem State.modChan_rtFirst (s : State) (c : Fin 128) (f : Chan → Chan) : (s.modChan c f).rtFirst = s.rtFirst := rfl
@[simp] theorem State.modChan_banks (s : State) (c : Fin 128) (f : Chan → Chan) : (s.modChan c f).banks = s.banks := rfl
@[simp] theorem State.modChan_wdus (s : State) (c : Fin 128) (f : Chan → Chan) : (s.modChan c f).wdus = s.wdus := rfl
@[simp] theorem State.modChan_engines (s : State) (c : Fin 128) (f : Chan → Chan) : (s.modChan c f).engines = s.engines := rfl
@[simp] theorem State.modChan_secFault (s : State) (c : Fin 128) (f : Chan → Chan) : (s.modChan c f).secFault = s.secFault := rfl
@[simp] theorem State.modChan_links (s : State) (c : Fin 128) (f : Chan → Chan) : (s.modChan c f).links = s.links := rfl
@[simp] theorem State.modChan_areas (s : State) (c : Fin 128) (f : Chan → Chan) : (s.modChan c f).areas = s.areas := rfl
@[simp] theorem State.modChan_relays (s : State) (c : Fin 128) (f : Chan → Chan) : (s.modChan c f).relays = s.relays := rfl
@[simp] theorem State.modChan_rxQueue (s : State) (c : Fin 128) (f : Chan → Chan) : (s.modChan c f).rxQueue = s.rxQueue := rfl
@[simp] theorem State.modChan_conflict (s : State) (c : Fin 128) (f : Chan → Chan) : (s.modChan c f).conflict = s.conflict := rfl
@[simp] theorem State.modChan_tbs (s : State) (c : Fin 128) (f : Chan → Chan) : (s.modChan c f).tbs = s.tbs := rfl
@[simp] theorem State.modChan_cmd (s : State) (c : Fin 128) (f : Chan → Chan) : (s.modChan c f).cmd = s.cmd := rfl
@[simp] theorem State.modChan_crc (s : State) (c : Fin 128) (f : Chan → Chan) : (s.modChan c f).crc = s.crc := rfl
@[simp] theorem State.modChan_vis (s : State) (c : Fin 128) (f : Chan → Chan) : (s.modChan c f).vis = s.vis := rfl
@[simp] theorem State.modChan_vos (s : State) (c : Fin 128) (f : Chan → Chan) : (s.modChan c f).vos = s.vos := rfl
@[simp] theorem State.modChan_sup (s : State) (c : Fin 128) (f : Chan → Chan) : (s.modChan c f).sup = s.sup := rfl
@[simp] theorem State.modChan_img (s : State) (c : Fin 128) (f : Chan → Chan) : (s.modChan c f).img = s.img := rfl
@[simp] theorem State.modChan_tst (s : State) (c : Fin 128) (f : Chan → Chan) : (s.modChan c f).tst = s.tst := rfl
@[simp] theorem State.modChan_mgt (s : State) (c : Fin 128) (f : Chan → Chan) : (s.modChan c f).mgt = s.mgt := rfl
@[simp] theorem State.modChan_causes (s : State) (c : Fin 128) (f : Chan → Chan) : (s.modChan c f).causes = s.causes := rfl
@[simp] theorem State.modChan_begun (s : State) (c : Fin 128) (f : Chan → Chan) : (s.modChan c f).begun = s.begun := rfl
@[simp] theorem State.modChan_parked (s : State) (c : Fin 128) (f : Chan → Chan) : (s.modChan c f).parked = s.parked := rfl
@[simp] theorem State.modChan_readers (s : State) (c : Fin 128) (f : Chan → Chan) : (s.modChan c f).readers = s.readers := rfl
@[simp] theorem State.modChan_eccBad (s : State) (c : Fin 128) (f : Chan → Chan) : (s.modChan c f).eccBad = s.eccBad := rfl
@[simp] theorem State.modChan_pool (s : State) (c : Fin 128) (f : Chan → Chan) : (s.modChan c f).pool = s.pool := rfl
@[simp] theorem State.modChan_hoBuf (s : State) (c : Fin 128) (f : Chan → Chan) : (s.modChan c f).hoBuf = s.hoBuf := rfl
@[simp] theorem State.modChan_pending (s : State) (c : Fin 128) (f : Chan → Chan) : (s.modChan c f).pending = s.pending := rfl
@[simp] theorem State.modChan_chans (s : State) (c : Fin 128) (f : Chan → Chan) : (s.modChan c f).chans = upd s.chans c f := rfl
@[simp] theorem State.modWdu_clk (s : State) (n : Fin 64) (f : Wdu → Wdu) : (s.modWdu n f).clk = s.clk := rfl
@[simp] theorem State.modWdu_mdl (s : State) (n : Fin 64) (f : Wdu → Wdu) : (s.modWdu n f).mdl = s.mdl := rfl
@[simp] theorem State.modWdu_lanes (s : State) (n : Fin 64) (f : Wdu → Wdu) : (s.modWdu n f).lanes = s.lanes := rfl
@[simp] theorem State.modWdu_retLanes (s : State) (n : Fin 64) (f : Wdu → Wdu) : (s.modWdu n f).retLanes = s.retLanes := rfl
@[simp] theorem State.modWdu_ports (s : State) (n : Fin 64) (f : Wdu → Wdu) : (s.modWdu n f).ports = s.ports := rfl
@[simp] theorem State.modWdu_rt (s : State) (n : Fin 64) (f : Wdu → Wdu) : (s.modWdu n f).rt = s.rt := rfl
@[simp] theorem State.modWdu_rtFirst (s : State) (n : Fin 64) (f : Wdu → Wdu) : (s.modWdu n f).rtFirst = s.rtFirst := rfl
@[simp] theorem State.modWdu_chans (s : State) (n : Fin 64) (f : Wdu → Wdu) : (s.modWdu n f).chans = s.chans := rfl
@[simp] theorem State.modWdu_banks (s : State) (n : Fin 64) (f : Wdu → Wdu) : (s.modWdu n f).banks = s.banks := rfl
@[simp] theorem State.modWdu_engines (s : State) (n : Fin 64) (f : Wdu → Wdu) : (s.modWdu n f).engines = s.engines := rfl
@[simp] theorem State.modWdu_secFault (s : State) (n : Fin 64) (f : Wdu → Wdu) : (s.modWdu n f).secFault = s.secFault := rfl
@[simp] theorem State.modWdu_links (s : State) (n : Fin 64) (f : Wdu → Wdu) : (s.modWdu n f).links = s.links := rfl
@[simp] theorem State.modWdu_areas (s : State) (n : Fin 64) (f : Wdu → Wdu) : (s.modWdu n f).areas = s.areas := rfl
@[simp] theorem State.modWdu_relays (s : State) (n : Fin 64) (f : Wdu → Wdu) : (s.modWdu n f).relays = s.relays := rfl
@[simp] theorem State.modWdu_rxQueue (s : State) (n : Fin 64) (f : Wdu → Wdu) : (s.modWdu n f).rxQueue = s.rxQueue := rfl
@[simp] theorem State.modWdu_conflict (s : State) (n : Fin 64) (f : Wdu → Wdu) : (s.modWdu n f).conflict = s.conflict := rfl
@[simp] theorem State.modWdu_tbs (s : State) (n : Fin 64) (f : Wdu → Wdu) : (s.modWdu n f).tbs = s.tbs := rfl
@[simp] theorem State.modWdu_cmd (s : State) (n : Fin 64) (f : Wdu → Wdu) : (s.modWdu n f).cmd = s.cmd := rfl
@[simp] theorem State.modWdu_crc (s : State) (n : Fin 64) (f : Wdu → Wdu) : (s.modWdu n f).crc = s.crc := rfl
@[simp] theorem State.modWdu_vis (s : State) (n : Fin 64) (f : Wdu → Wdu) : (s.modWdu n f).vis = s.vis := rfl
@[simp] theorem State.modWdu_vos (s : State) (n : Fin 64) (f : Wdu → Wdu) : (s.modWdu n f).vos = s.vos := rfl
@[simp] theorem State.modWdu_sup (s : State) (n : Fin 64) (f : Wdu → Wdu) : (s.modWdu n f).sup = s.sup := rfl
@[simp] theorem State.modWdu_img (s : State) (n : Fin 64) (f : Wdu → Wdu) : (s.modWdu n f).img = s.img := rfl
@[simp] theorem State.modWdu_tst (s : State) (n : Fin 64) (f : Wdu → Wdu) : (s.modWdu n f).tst = s.tst := rfl
@[simp] theorem State.modWdu_mgt (s : State) (n : Fin 64) (f : Wdu → Wdu) : (s.modWdu n f).mgt = s.mgt := rfl
@[simp] theorem State.modWdu_causes (s : State) (n : Fin 64) (f : Wdu → Wdu) : (s.modWdu n f).causes = s.causes := rfl
@[simp] theorem State.modWdu_begun (s : State) (n : Fin 64) (f : Wdu → Wdu) : (s.modWdu n f).begun = s.begun := rfl
@[simp] theorem State.modWdu_parked (s : State) (n : Fin 64) (f : Wdu → Wdu) : (s.modWdu n f).parked = s.parked := rfl
@[simp] theorem State.modWdu_readers (s : State) (n : Fin 64) (f : Wdu → Wdu) : (s.modWdu n f).readers = s.readers := rfl
@[simp] theorem State.modWdu_eccBad (s : State) (n : Fin 64) (f : Wdu → Wdu) : (s.modWdu n f).eccBad = s.eccBad := rfl
@[simp] theorem State.modWdu_pool (s : State) (n : Fin 64) (f : Wdu → Wdu) : (s.modWdu n f).pool = s.pool := rfl
@[simp] theorem State.modWdu_hoBuf (s : State) (n : Fin 64) (f : Wdu → Wdu) : (s.modWdu n f).hoBuf = s.hoBuf := rfl
@[simp] theorem State.modWdu_pending (s : State) (n : Fin 64) (f : Wdu → Wdu) : (s.modWdu n f).pending = s.pending := rfl
@[simp] theorem State.modWdu_wdus (s : State) (n : Fin 64) (f : Wdu → Wdu) : (s.modWdu n f).wdus = upd s.wdus n f := rfl
@[simp] theorem State.modLane_clk (s : State) (k : Fin 8) (f : Lane → Lane) : (s.modLane k f).clk = s.clk := rfl
@[simp] theorem State.modLane_mdl (s : State) (k : Fin 8) (f : Lane → Lane) : (s.modLane k f).mdl = s.mdl := rfl
@[simp] theorem State.modLane_retLanes (s : State) (k : Fin 8) (f : Lane → Lane) : (s.modLane k f).retLanes = s.retLanes := rfl
@[simp] theorem State.modLane_ports (s : State) (k : Fin 8) (f : Lane → Lane) : (s.modLane k f).ports = s.ports := rfl
@[simp] theorem State.modLane_rt (s : State) (k : Fin 8) (f : Lane → Lane) : (s.modLane k f).rt = s.rt := rfl
@[simp] theorem State.modLane_rtFirst (s : State) (k : Fin 8) (f : Lane → Lane) : (s.modLane k f).rtFirst = s.rtFirst := rfl
@[simp] theorem State.modLane_chans (s : State) (k : Fin 8) (f : Lane → Lane) : (s.modLane k f).chans = s.chans := rfl
@[simp] theorem State.modLane_banks (s : State) (k : Fin 8) (f : Lane → Lane) : (s.modLane k f).banks = s.banks := rfl
@[simp] theorem State.modLane_wdus (s : State) (k : Fin 8) (f : Lane → Lane) : (s.modLane k f).wdus = s.wdus := rfl
@[simp] theorem State.modLane_engines (s : State) (k : Fin 8) (f : Lane → Lane) : (s.modLane k f).engines = s.engines := rfl
@[simp] theorem State.modLane_secFault (s : State) (k : Fin 8) (f : Lane → Lane) : (s.modLane k f).secFault = s.secFault := rfl
@[simp] theorem State.modLane_links (s : State) (k : Fin 8) (f : Lane → Lane) : (s.modLane k f).links = s.links := rfl
@[simp] theorem State.modLane_areas (s : State) (k : Fin 8) (f : Lane → Lane) : (s.modLane k f).areas = s.areas := rfl
@[simp] theorem State.modLane_relays (s : State) (k : Fin 8) (f : Lane → Lane) : (s.modLane k f).relays = s.relays := rfl
@[simp] theorem State.modLane_rxQueue (s : State) (k : Fin 8) (f : Lane → Lane) : (s.modLane k f).rxQueue = s.rxQueue := rfl
@[simp] theorem State.modLane_conflict (s : State) (k : Fin 8) (f : Lane → Lane) : (s.modLane k f).conflict = s.conflict := rfl
@[simp] theorem State.modLane_tbs (s : State) (k : Fin 8) (f : Lane → Lane) : (s.modLane k f).tbs = s.tbs := rfl
@[simp] theorem State.modLane_cmd (s : State) (k : Fin 8) (f : Lane → Lane) : (s.modLane k f).cmd = s.cmd := rfl
@[simp] theorem State.modLane_crc (s : State) (k : Fin 8) (f : Lane → Lane) : (s.modLane k f).crc = s.crc := rfl
@[simp] theorem State.modLane_vis (s : State) (k : Fin 8) (f : Lane → Lane) : (s.modLane k f).vis = s.vis := rfl
@[simp] theorem State.modLane_vos (s : State) (k : Fin 8) (f : Lane → Lane) : (s.modLane k f).vos = s.vos := rfl
@[simp] theorem State.modLane_sup (s : State) (k : Fin 8) (f : Lane → Lane) : (s.modLane k f).sup = s.sup := rfl
@[simp] theorem State.modLane_img (s : State) (k : Fin 8) (f : Lane → Lane) : (s.modLane k f).img = s.img := rfl
@[simp] theorem State.modLane_tst (s : State) (k : Fin 8) (f : Lane → Lane) : (s.modLane k f).tst = s.tst := rfl
@[simp] theorem State.modLane_mgt (s : State) (k : Fin 8) (f : Lane → Lane) : (s.modLane k f).mgt = s.mgt := rfl
@[simp] theorem State.modLane_causes (s : State) (k : Fin 8) (f : Lane → Lane) : (s.modLane k f).causes = s.causes := rfl
@[simp] theorem State.modLane_begun (s : State) (k : Fin 8) (f : Lane → Lane) : (s.modLane k f).begun = s.begun := rfl
@[simp] theorem State.modLane_parked (s : State) (k : Fin 8) (f : Lane → Lane) : (s.modLane k f).parked = s.parked := rfl
@[simp] theorem State.modLane_readers (s : State) (k : Fin 8) (f : Lane → Lane) : (s.modLane k f).readers = s.readers := rfl
@[simp] theorem State.modLane_eccBad (s : State) (k : Fin 8) (f : Lane → Lane) : (s.modLane k f).eccBad = s.eccBad := rfl
@[simp] theorem State.modLane_pool (s : State) (k : Fin 8) (f : Lane → Lane) : (s.modLane k f).pool = s.pool := rfl
@[simp] theorem State.modLane_hoBuf (s : State) (k : Fin 8) (f : Lane → Lane) : (s.modLane k f).hoBuf = s.hoBuf := rfl
@[simp] theorem State.modLane_pending (s : State) (k : Fin 8) (f : Lane → Lane) : (s.modLane k f).pending = s.pending := rfl
@[simp] theorem State.modLane_lanes (s : State) (k : Fin 8) (f : Lane → Lane) : (s.modLane k f).lanes = upd s.lanes k f := rfl
@[simp] theorem State.modEngine_clk (s : State) (e : Fin 4) (f : Engine → Engine) : (s.modEngine e f).clk = s.clk := rfl
@[simp] theorem State.modEngine_mdl (s : State) (e : Fin 4) (f : Engine → Engine) : (s.modEngine e f).mdl = s.mdl := rfl
@[simp] theorem State.modEngine_lanes (s : State) (e : Fin 4) (f : Engine → Engine) : (s.modEngine e f).lanes = s.lanes := rfl
@[simp] theorem State.modEngine_retLanes (s : State) (e : Fin 4) (f : Engine → Engine) : (s.modEngine e f).retLanes = s.retLanes := rfl
@[simp] theorem State.modEngine_ports (s : State) (e : Fin 4) (f : Engine → Engine) : (s.modEngine e f).ports = s.ports := rfl
@[simp] theorem State.modEngine_rt (s : State) (e : Fin 4) (f : Engine → Engine) : (s.modEngine e f).rt = s.rt := rfl
@[simp] theorem State.modEngine_rtFirst (s : State) (e : Fin 4) (f : Engine → Engine) : (s.modEngine e f).rtFirst = s.rtFirst := rfl
@[simp] theorem State.modEngine_chans (s : State) (e : Fin 4) (f : Engine → Engine) : (s.modEngine e f).chans = s.chans := rfl
@[simp] theorem State.modEngine_banks (s : State) (e : Fin 4) (f : Engine → Engine) : (s.modEngine e f).banks = s.banks := rfl
@[simp] theorem State.modEngine_wdus (s : State) (e : Fin 4) (f : Engine → Engine) : (s.modEngine e f).wdus = s.wdus := rfl
@[simp] theorem State.modEngine_secFault (s : State) (e : Fin 4) (f : Engine → Engine) : (s.modEngine e f).secFault = s.secFault := rfl
@[simp] theorem State.modEngine_links (s : State) (e : Fin 4) (f : Engine → Engine) : (s.modEngine e f).links = s.links := rfl
@[simp] theorem State.modEngine_areas (s : State) (e : Fin 4) (f : Engine → Engine) : (s.modEngine e f).areas = s.areas := rfl
@[simp] theorem State.modEngine_relays (s : State) (e : Fin 4) (f : Engine → Engine) : (s.modEngine e f).relays = s.relays := rfl
@[simp] theorem State.modEngine_rxQueue (s : State) (e : Fin 4) (f : Engine → Engine) : (s.modEngine e f).rxQueue = s.rxQueue := rfl
@[simp] theorem State.modEngine_conflict (s : State) (e : Fin 4) (f : Engine → Engine) : (s.modEngine e f).conflict = s.conflict := rfl
@[simp] theorem State.modEngine_tbs (s : State) (e : Fin 4) (f : Engine → Engine) : (s.modEngine e f).tbs = s.tbs := rfl
@[simp] theorem State.modEngine_cmd (s : State) (e : Fin 4) (f : Engine → Engine) : (s.modEngine e f).cmd = s.cmd := rfl
@[simp] theorem State.modEngine_crc (s : State) (e : Fin 4) (f : Engine → Engine) : (s.modEngine e f).crc = s.crc := rfl
@[simp] theorem State.modEngine_vis (s : State) (e : Fin 4) (f : Engine → Engine) : (s.modEngine e f).vis = s.vis := rfl
@[simp] theorem State.modEngine_vos (s : State) (e : Fin 4) (f : Engine → Engine) : (s.modEngine e f).vos = s.vos := rfl
@[simp] theorem State.modEngine_sup (s : State) (e : Fin 4) (f : Engine → Engine) : (s.modEngine e f).sup = s.sup := rfl
@[simp] theorem State.modEngine_img (s : State) (e : Fin 4) (f : Engine → Engine) : (s.modEngine e f).img = s.img := rfl
@[simp] theorem State.modEngine_tst (s : State) (e : Fin 4) (f : Engine → Engine) : (s.modEngine e f).tst = s.tst := rfl
@[simp] theorem State.modEngine_mgt (s : State) (e : Fin 4) (f : Engine → Engine) : (s.modEngine e f).mgt = s.mgt := rfl
@[simp] theorem State.modEngine_causes (s : State) (e : Fin 4) (f : Engine → Engine) : (s.modEngine e f).causes = s.causes := rfl
@[simp] theorem State.modEngine_begun (s : State) (e : Fin 4) (f : Engine → Engine) : (s.modEngine e f).begun = s.begun := rfl
@[simp] theorem State.modEngine_parked (s : State) (e : Fin 4) (f : Engine → Engine) : (s.modEngine e f).parked = s.parked := rfl
@[simp] theorem State.modEngine_readers (s : State) (e : Fin 4) (f : Engine → Engine) : (s.modEngine e f).readers = s.readers := rfl
@[simp] theorem State.modEngine_eccBad (s : State) (e : Fin 4) (f : Engine → Engine) : (s.modEngine e f).eccBad = s.eccBad := rfl
@[simp] theorem State.modEngine_pool (s : State) (e : Fin 4) (f : Engine → Engine) : (s.modEngine e f).pool = s.pool := rfl
@[simp] theorem State.modEngine_hoBuf (s : State) (e : Fin 4) (f : Engine → Engine) : (s.modEngine e f).hoBuf = s.hoBuf := rfl
@[simp] theorem State.modEngine_pending (s : State) (e : Fin 4) (f : Engine → Engine) : (s.modEngine e f).pending = s.pending := rfl
@[simp] theorem State.modEngine_engines (s : State) (e : Fin 4) (f : Engine → Engine) : (s.modEngine e f).engines = upd s.engines e f := rfl
@[simp] theorem State.modLink_clk (s : State) (k : Fin 8) (f : Link → Link) : (s.modLink k f).clk = s.clk := rfl
@[simp] theorem State.modLink_mdl (s : State) (k : Fin 8) (f : Link → Link) : (s.modLink k f).mdl = s.mdl := rfl
@[simp] theorem State.modLink_lanes (s : State) (k : Fin 8) (f : Link → Link) : (s.modLink k f).lanes = s.lanes := rfl
@[simp] theorem State.modLink_retLanes (s : State) (k : Fin 8) (f : Link → Link) : (s.modLink k f).retLanes = s.retLanes := rfl
@[simp] theorem State.modLink_ports (s : State) (k : Fin 8) (f : Link → Link) : (s.modLink k f).ports = s.ports := rfl
@[simp] theorem State.modLink_rt (s : State) (k : Fin 8) (f : Link → Link) : (s.modLink k f).rt = s.rt := rfl
@[simp] theorem State.modLink_rtFirst (s : State) (k : Fin 8) (f : Link → Link) : (s.modLink k f).rtFirst = s.rtFirst := rfl
@[simp] theorem State.modLink_chans (s : State) (k : Fin 8) (f : Link → Link) : (s.modLink k f).chans = s.chans := rfl
@[simp] theorem State.modLink_banks (s : State) (k : Fin 8) (f : Link → Link) : (s.modLink k f).banks = s.banks := rfl
@[simp] theorem State.modLink_wdus (s : State) (k : Fin 8) (f : Link → Link) : (s.modLink k f).wdus = s.wdus := rfl
@[simp] theorem State.modLink_engines (s : State) (k : Fin 8) (f : Link → Link) : (s.modLink k f).engines = s.engines := rfl
@[simp] theorem State.modLink_secFault (s : State) (k : Fin 8) (f : Link → Link) : (s.modLink k f).secFault = s.secFault := rfl
@[simp] theorem State.modLink_areas (s : State) (k : Fin 8) (f : Link → Link) : (s.modLink k f).areas = s.areas := rfl
@[simp] theorem State.modLink_relays (s : State) (k : Fin 8) (f : Link → Link) : (s.modLink k f).relays = s.relays := rfl
@[simp] theorem State.modLink_rxQueue (s : State) (k : Fin 8) (f : Link → Link) : (s.modLink k f).rxQueue = s.rxQueue := rfl
@[simp] theorem State.modLink_conflict (s : State) (k : Fin 8) (f : Link → Link) : (s.modLink k f).conflict = s.conflict := rfl
@[simp] theorem State.modLink_tbs (s : State) (k : Fin 8) (f : Link → Link) : (s.modLink k f).tbs = s.tbs := rfl
@[simp] theorem State.modLink_cmd (s : State) (k : Fin 8) (f : Link → Link) : (s.modLink k f).cmd = s.cmd := rfl
@[simp] theorem State.modLink_crc (s : State) (k : Fin 8) (f : Link → Link) : (s.modLink k f).crc = s.crc := rfl
@[simp] theorem State.modLink_vis (s : State) (k : Fin 8) (f : Link → Link) : (s.modLink k f).vis = s.vis := rfl
@[simp] theorem State.modLink_vos (s : State) (k : Fin 8) (f : Link → Link) : (s.modLink k f).vos = s.vos := rfl
@[simp] theorem State.modLink_sup (s : State) (k : Fin 8) (f : Link → Link) : (s.modLink k f).sup = s.sup := rfl
@[simp] theorem State.modLink_img (s : State) (k : Fin 8) (f : Link → Link) : (s.modLink k f).img = s.img := rfl
@[simp] theorem State.modLink_tst (s : State) (k : Fin 8) (f : Link → Link) : (s.modLink k f).tst = s.tst := rfl
@[simp] theorem State.modLink_mgt (s : State) (k : Fin 8) (f : Link → Link) : (s.modLink k f).mgt = s.mgt := rfl
@[simp] theorem State.modLink_causes (s : State) (k : Fin 8) (f : Link → Link) : (s.modLink k f).causes = s.causes := rfl
@[simp] theorem State.modLink_begun (s : State) (k : Fin 8) (f : Link → Link) : (s.modLink k f).begun = s.begun := rfl
@[simp] theorem State.modLink_parked (s : State) (k : Fin 8) (f : Link → Link) : (s.modLink k f).parked = s.parked := rfl
@[simp] theorem State.modLink_readers (s : State) (k : Fin 8) (f : Link → Link) : (s.modLink k f).readers = s.readers := rfl
@[simp] theorem State.modLink_eccBad (s : State) (k : Fin 8) (f : Link → Link) : (s.modLink k f).eccBad = s.eccBad := rfl
@[simp] theorem State.modLink_pool (s : State) (k : Fin 8) (f : Link → Link) : (s.modLink k f).pool = s.pool := rfl
@[simp] theorem State.modLink_hoBuf (s : State) (k : Fin 8) (f : Link → Link) : (s.modLink k f).hoBuf = s.hoBuf := rfl
@[simp] theorem State.modLink_pending (s : State) (k : Fin 8) (f : Link → Link) : (s.modLink k f).pending = s.pending := rfl
@[simp] theorem State.modLink_links (s : State) (k : Fin 8) (f : Link → Link) : (s.modLink k f).links = upd s.links k f := rfl
@[simp] theorem State.modVi_clk (s : State) (i : Fin 8) (f : Vi → Vi) : (s.modVi i f).clk = s.clk := rfl
@[simp] theorem State.modVi_mdl (s : State) (i : Fin 8) (f : Vi → Vi) : (s.modVi i f).mdl = s.mdl := rfl
@[simp] theorem State.modVi_lanes (s : State) (i : Fin 8) (f : Vi → Vi) : (s.modVi i f).lanes = s.lanes := rfl
@[simp] theorem State.modVi_retLanes (s : State) (i : Fin 8) (f : Vi → Vi) : (s.modVi i f).retLanes = s.retLanes := rfl
@[simp] theorem State.modVi_ports (s : State) (i : Fin 8) (f : Vi → Vi) : (s.modVi i f).ports = s.ports := rfl
@[simp] theorem State.modVi_rt (s : State) (i : Fin 8) (f : Vi → Vi) : (s.modVi i f).rt = s.rt := rfl
@[simp] theorem State.modVi_rtFirst (s : State) (i : Fin 8) (f : Vi → Vi) : (s.modVi i f).rtFirst = s.rtFirst := rfl
@[simp] theorem State.modVi_chans (s : State) (i : Fin 8) (f : Vi → Vi) : (s.modVi i f).chans = s.chans := rfl
@[simp] theorem State.modVi_banks (s : State) (i : Fin 8) (f : Vi → Vi) : (s.modVi i f).banks = s.banks := rfl
@[simp] theorem State.modVi_wdus (s : State) (i : Fin 8) (f : Vi → Vi) : (s.modVi i f).wdus = s.wdus := rfl
@[simp] theorem State.modVi_engines (s : State) (i : Fin 8) (f : Vi → Vi) : (s.modVi i f).engines = s.engines := rfl
@[simp] theorem State.modVi_secFault (s : State) (i : Fin 8) (f : Vi → Vi) : (s.modVi i f).secFault = s.secFault := rfl
@[simp] theorem State.modVi_links (s : State) (i : Fin 8) (f : Vi → Vi) : (s.modVi i f).links = s.links := rfl
@[simp] theorem State.modVi_areas (s : State) (i : Fin 8) (f : Vi → Vi) : (s.modVi i f).areas = s.areas := rfl
@[simp] theorem State.modVi_relays (s : State) (i : Fin 8) (f : Vi → Vi) : (s.modVi i f).relays = s.relays := rfl
@[simp] theorem State.modVi_rxQueue (s : State) (i : Fin 8) (f : Vi → Vi) : (s.modVi i f).rxQueue = s.rxQueue := rfl
@[simp] theorem State.modVi_conflict (s : State) (i : Fin 8) (f : Vi → Vi) : (s.modVi i f).conflict = s.conflict := rfl
@[simp] theorem State.modVi_tbs (s : State) (i : Fin 8) (f : Vi → Vi) : (s.modVi i f).tbs = s.tbs := rfl
@[simp] theorem State.modVi_cmd (s : State) (i : Fin 8) (f : Vi → Vi) : (s.modVi i f).cmd = s.cmd := rfl
@[simp] theorem State.modVi_crc (s : State) (i : Fin 8) (f : Vi → Vi) : (s.modVi i f).crc = s.crc := rfl
@[simp] theorem State.modVi_vos (s : State) (i : Fin 8) (f : Vi → Vi) : (s.modVi i f).vos = s.vos := rfl
@[simp] theorem State.modVi_sup (s : State) (i : Fin 8) (f : Vi → Vi) : (s.modVi i f).sup = s.sup := rfl
@[simp] theorem State.modVi_img (s : State) (i : Fin 8) (f : Vi → Vi) : (s.modVi i f).img = s.img := rfl
@[simp] theorem State.modVi_tst (s : State) (i : Fin 8) (f : Vi → Vi) : (s.modVi i f).tst = s.tst := rfl
@[simp] theorem State.modVi_mgt (s : State) (i : Fin 8) (f : Vi → Vi) : (s.modVi i f).mgt = s.mgt := rfl
@[simp] theorem State.modVi_causes (s : State) (i : Fin 8) (f : Vi → Vi) : (s.modVi i f).causes = s.causes := rfl
@[simp] theorem State.modVi_begun (s : State) (i : Fin 8) (f : Vi → Vi) : (s.modVi i f).begun = s.begun := rfl
@[simp] theorem State.modVi_parked (s : State) (i : Fin 8) (f : Vi → Vi) : (s.modVi i f).parked = s.parked := rfl
@[simp] theorem State.modVi_readers (s : State) (i : Fin 8) (f : Vi → Vi) : (s.modVi i f).readers = s.readers := rfl
@[simp] theorem State.modVi_eccBad (s : State) (i : Fin 8) (f : Vi → Vi) : (s.modVi i f).eccBad = s.eccBad := rfl
@[simp] theorem State.modVi_pool (s : State) (i : Fin 8) (f : Vi → Vi) : (s.modVi i f).pool = s.pool := rfl
@[simp] theorem State.modVi_hoBuf (s : State) (i : Fin 8) (f : Vi → Vi) : (s.modVi i f).hoBuf = s.hoBuf := rfl
@[simp] theorem State.modVi_pending (s : State) (i : Fin 8) (f : Vi → Vi) : (s.modVi i f).pending = s.pending := rfl
@[simp] theorem State.modVi_vis (s : State) (i : Fin 8) (f : Vi → Vi) : (s.modVi i f).vis = upd s.vis i f := rfl
@[simp] theorem State.modVo_clk (s : State) (j : Fin 8) (f : Vo → Vo) : (s.modVo j f).clk = s.clk := rfl
@[simp] theorem State.modVo_mdl (s : State) (j : Fin 8) (f : Vo → Vo) : (s.modVo j f).mdl = s.mdl := rfl
@[simp] theorem State.modVo_lanes (s : State) (j : Fin 8) (f : Vo → Vo) : (s.modVo j f).lanes = s.lanes := rfl
@[simp] theorem State.modVo_retLanes (s : State) (j : Fin 8) (f : Vo → Vo) : (s.modVo j f).retLanes = s.retLanes := rfl
@[simp] theorem State.modVo_ports (s : State) (j : Fin 8) (f : Vo → Vo) : (s.modVo j f).ports = s.ports := rfl
@[simp] theorem State.modVo_rt (s : State) (j : Fin 8) (f : Vo → Vo) : (s.modVo j f).rt = s.rt := rfl
@[simp] theorem State.modVo_rtFirst (s : State) (j : Fin 8) (f : Vo → Vo) : (s.modVo j f).rtFirst = s.rtFirst := rfl
@[simp] theorem State.modVo_chans (s : State) (j : Fin 8) (f : Vo → Vo) : (s.modVo j f).chans = s.chans := rfl
@[simp] theorem State.modVo_banks (s : State) (j : Fin 8) (f : Vo → Vo) : (s.modVo j f).banks = s.banks := rfl
@[simp] theorem State.modVo_wdus (s : State) (j : Fin 8) (f : Vo → Vo) : (s.modVo j f).wdus = s.wdus := rfl
@[simp] theorem State.modVo_engines (s : State) (j : Fin 8) (f : Vo → Vo) : (s.modVo j f).engines = s.engines := rfl
@[simp] theorem State.modVo_secFault (s : State) (j : Fin 8) (f : Vo → Vo) : (s.modVo j f).secFault = s.secFault := rfl
@[simp] theorem State.modVo_links (s : State) (j : Fin 8) (f : Vo → Vo) : (s.modVo j f).links = s.links := rfl
@[simp] theorem State.modVo_areas (s : State) (j : Fin 8) (f : Vo → Vo) : (s.modVo j f).areas = s.areas := rfl
@[simp] theorem State.modVo_relays (s : State) (j : Fin 8) (f : Vo → Vo) : (s.modVo j f).relays = s.relays := rfl
@[simp] theorem State.modVo_rxQueue (s : State) (j : Fin 8) (f : Vo → Vo) : (s.modVo j f).rxQueue = s.rxQueue := rfl
@[simp] theorem State.modVo_conflict (s : State) (j : Fin 8) (f : Vo → Vo) : (s.modVo j f).conflict = s.conflict := rfl
@[simp] theorem State.modVo_tbs (s : State) (j : Fin 8) (f : Vo → Vo) : (s.modVo j f).tbs = s.tbs := rfl
@[simp] theorem State.modVo_cmd (s : State) (j : Fin 8) (f : Vo → Vo) : (s.modVo j f).cmd = s.cmd := rfl
@[simp] theorem State.modVo_crc (s : State) (j : Fin 8) (f : Vo → Vo) : (s.modVo j f).crc = s.crc := rfl
@[simp] theorem State.modVo_vis (s : State) (j : Fin 8) (f : Vo → Vo) : (s.modVo j f).vis = s.vis := rfl
@[simp] theorem State.modVo_sup (s : State) (j : Fin 8) (f : Vo → Vo) : (s.modVo j f).sup = s.sup := rfl
@[simp] theorem State.modVo_img (s : State) (j : Fin 8) (f : Vo → Vo) : (s.modVo j f).img = s.img := rfl
@[simp] theorem State.modVo_tst (s : State) (j : Fin 8) (f : Vo → Vo) : (s.modVo j f).tst = s.tst := rfl
@[simp] theorem State.modVo_mgt (s : State) (j : Fin 8) (f : Vo → Vo) : (s.modVo j f).mgt = s.mgt := rfl
@[simp] theorem State.modVo_causes (s : State) (j : Fin 8) (f : Vo → Vo) : (s.modVo j f).causes = s.causes := rfl
@[simp] theorem State.modVo_begun (s : State) (j : Fin 8) (f : Vo → Vo) : (s.modVo j f).begun = s.begun := rfl
@[simp] theorem State.modVo_parked (s : State) (j : Fin 8) (f : Vo → Vo) : (s.modVo j f).parked = s.parked := rfl
@[simp] theorem State.modVo_readers (s : State) (j : Fin 8) (f : Vo → Vo) : (s.modVo j f).readers = s.readers := rfl
@[simp] theorem State.modVo_eccBad (s : State) (j : Fin 8) (f : Vo → Vo) : (s.modVo j f).eccBad = s.eccBad := rfl
@[simp] theorem State.modVo_pool (s : State) (j : Fin 8) (f : Vo → Vo) : (s.modVo j f).pool = s.pool := rfl
@[simp] theorem State.modVo_hoBuf (s : State) (j : Fin 8) (f : Vo → Vo) : (s.modVo j f).hoBuf = s.hoBuf := rfl
@[simp] theorem State.modVo_pending (s : State) (j : Fin 8) (f : Vo → Vo) : (s.modVo j f).pending = s.pending := rfl
@[simp] theorem State.modVo_vos (s : State) (j : Fin 8) (f : Vo → Vo) : (s.modVo j f).vos = upd s.vos j f := rfl
@[simp] theorem State.modCrc_clk (s : State) (u : Fin 4) (f : CrcUnit → CrcUnit) : (s.modCrc u f).clk = s.clk := rfl
@[simp] theorem State.modCrc_mdl (s : State) (u : Fin 4) (f : CrcUnit → CrcUnit) : (s.modCrc u f).mdl = s.mdl := rfl
@[simp] theorem State.modCrc_lanes (s : State) (u : Fin 4) (f : CrcUnit → CrcUnit) : (s.modCrc u f).lanes = s.lanes := rfl
@[simp] theorem State.modCrc_retLanes (s : State) (u : Fin 4) (f : CrcUnit → CrcUnit) : (s.modCrc u f).retLanes = s.retLanes := rfl
@[simp] theorem State.modCrc_ports (s : State) (u : Fin 4) (f : CrcUnit → CrcUnit) : (s.modCrc u f).ports = s.ports := rfl
@[simp] theorem State.modCrc_rt (s : State) (u : Fin 4) (f : CrcUnit → CrcUnit) : (s.modCrc u f).rt = s.rt := rfl
@[simp] theorem State.modCrc_rtFirst (s : State) (u : Fin 4) (f : CrcUnit → CrcUnit) : (s.modCrc u f).rtFirst = s.rtFirst := rfl
@[simp] theorem State.modCrc_chans (s : State) (u : Fin 4) (f : CrcUnit → CrcUnit) : (s.modCrc u f).chans = s.chans := rfl
@[simp] theorem State.modCrc_banks (s : State) (u : Fin 4) (f : CrcUnit → CrcUnit) : (s.modCrc u f).banks = s.banks := rfl
@[simp] theorem State.modCrc_wdus (s : State) (u : Fin 4) (f : CrcUnit → CrcUnit) : (s.modCrc u f).wdus = s.wdus := rfl
@[simp] theorem State.modCrc_engines (s : State) (u : Fin 4) (f : CrcUnit → CrcUnit) : (s.modCrc u f).engines = s.engines := rfl
@[simp] theorem State.modCrc_secFault (s : State) (u : Fin 4) (f : CrcUnit → CrcUnit) : (s.modCrc u f).secFault = s.secFault := rfl
@[simp] theorem State.modCrc_links (s : State) (u : Fin 4) (f : CrcUnit → CrcUnit) : (s.modCrc u f).links = s.links := rfl
@[simp] theorem State.modCrc_areas (s : State) (u : Fin 4) (f : CrcUnit → CrcUnit) : (s.modCrc u f).areas = s.areas := rfl
@[simp] theorem State.modCrc_relays (s : State) (u : Fin 4) (f : CrcUnit → CrcUnit) : (s.modCrc u f).relays = s.relays := rfl
@[simp] theorem State.modCrc_rxQueue (s : State) (u : Fin 4) (f : CrcUnit → CrcUnit) : (s.modCrc u f).rxQueue = s.rxQueue := rfl
@[simp] theorem State.modCrc_conflict (s : State) (u : Fin 4) (f : CrcUnit → CrcUnit) : (s.modCrc u f).conflict = s.conflict := rfl
@[simp] theorem State.modCrc_tbs (s : State) (u : Fin 4) (f : CrcUnit → CrcUnit) : (s.modCrc u f).tbs = s.tbs := rfl
@[simp] theorem State.modCrc_cmd (s : State) (u : Fin 4) (f : CrcUnit → CrcUnit) : (s.modCrc u f).cmd = s.cmd := rfl
@[simp] theorem State.modCrc_vis (s : State) (u : Fin 4) (f : CrcUnit → CrcUnit) : (s.modCrc u f).vis = s.vis := rfl
@[simp] theorem State.modCrc_vos (s : State) (u : Fin 4) (f : CrcUnit → CrcUnit) : (s.modCrc u f).vos = s.vos := rfl
@[simp] theorem State.modCrc_sup (s : State) (u : Fin 4) (f : CrcUnit → CrcUnit) : (s.modCrc u f).sup = s.sup := rfl
@[simp] theorem State.modCrc_img (s : State) (u : Fin 4) (f : CrcUnit → CrcUnit) : (s.modCrc u f).img = s.img := rfl
@[simp] theorem State.modCrc_tst (s : State) (u : Fin 4) (f : CrcUnit → CrcUnit) : (s.modCrc u f).tst = s.tst := rfl
@[simp] theorem State.modCrc_mgt (s : State) (u : Fin 4) (f : CrcUnit → CrcUnit) : (s.modCrc u f).mgt = s.mgt := rfl
@[simp] theorem State.modCrc_causes (s : State) (u : Fin 4) (f : CrcUnit → CrcUnit) : (s.modCrc u f).causes = s.causes := rfl
@[simp] theorem State.modCrc_begun (s : State) (u : Fin 4) (f : CrcUnit → CrcUnit) : (s.modCrc u f).begun = s.begun := rfl
@[simp] theorem State.modCrc_parked (s : State) (u : Fin 4) (f : CrcUnit → CrcUnit) : (s.modCrc u f).parked = s.parked := rfl
@[simp] theorem State.modCrc_readers (s : State) (u : Fin 4) (f : CrcUnit → CrcUnit) : (s.modCrc u f).readers = s.readers := rfl
@[simp] theorem State.modCrc_eccBad (s : State) (u : Fin 4) (f : CrcUnit → CrcUnit) : (s.modCrc u f).eccBad = s.eccBad := rfl
@[simp] theorem State.modCrc_pool (s : State) (u : Fin 4) (f : CrcUnit → CrcUnit) : (s.modCrc u f).pool = s.pool := rfl
@[simp] theorem State.modCrc_hoBuf (s : State) (u : Fin 4) (f : CrcUnit → CrcUnit) : (s.modCrc u f).hoBuf = s.hoBuf := rfl
@[simp] theorem State.modCrc_pending (s : State) (u : Fin 4) (f : CrcUnit → CrcUnit) : (s.modCrc u f).pending = s.pending := rfl
@[simp] theorem State.modCrc_crc (s : State) (u : Fin 4) (f : CrcUnit → CrcUnit) : (s.modCrc u f).crc = upd s.crc u f := rfl
@[simp] theorem State.postPoint_clk (s : State) (x : PointEv) : (s.postPoint x).clk = s.clk := rfl
@[simp] theorem State.postPoint_mdl (s : State) (x : PointEv) : (s.postPoint x).mdl = s.mdl := rfl
@[simp] theorem State.postPoint_lanes (s : State) (x : PointEv) : (s.postPoint x).lanes = s.lanes := rfl
@[simp] theorem State.postPoint_retLanes (s : State) (x : PointEv) : (s.postPoint x).retLanes = s.retLanes := rfl
@[simp] theorem State.postPoint_ports (s : State) (x : PointEv) : (s.postPoint x).ports = s.ports := rfl
@[simp] theorem State.postPoint_rt (s : State) (x : PointEv) : (s.postPoint x).rt = s.rt := rfl
@[simp] theorem State.postPoint_rtFirst (s : State) (x : PointEv) : (s.postPoint x).rtFirst = s.rtFirst := rfl
@[simp] theorem State.postPoint_chans (s : State) (x : PointEv) : (s.postPoint x).chans = s.chans := rfl
@[simp] theorem State.postPoint_banks (s : State) (x : PointEv) : (s.postPoint x).banks = s.banks := rfl
@[simp] theorem State.postPoint_wdus (s : State) (x : PointEv) : (s.postPoint x).wdus = s.wdus := rfl
@[simp] theorem State.postPoint_secFault (s : State) (x : PointEv) : (s.postPoint x).secFault = s.secFault := rfl
@[simp] theorem State.postPoint_links (s : State) (x : PointEv) : (s.postPoint x).links = s.links := rfl
@[simp] theorem State.postPoint_areas (s : State) (x : PointEv) : (s.postPoint x).areas = s.areas := rfl
@[simp] theorem State.postPoint_relays (s : State) (x : PointEv) : (s.postPoint x).relays = s.relays := rfl
@[simp] theorem State.postPoint_rxQueue (s : State) (x : PointEv) : (s.postPoint x).rxQueue = s.rxQueue := rfl
@[simp] theorem State.postPoint_conflict (s : State) (x : PointEv) : (s.postPoint x).conflict = s.conflict := rfl
@[simp] theorem State.postPoint_tbs (s : State) (x : PointEv) : (s.postPoint x).tbs = s.tbs := rfl
@[simp] theorem State.postPoint_cmd (s : State) (x : PointEv) : (s.postPoint x).cmd = s.cmd := rfl
@[simp] theorem State.postPoint_crc (s : State) (x : PointEv) : (s.postPoint x).crc = s.crc := rfl
@[simp] theorem State.postPoint_vis (s : State) (x : PointEv) : (s.postPoint x).vis = s.vis := rfl
@[simp] theorem State.postPoint_vos (s : State) (x : PointEv) : (s.postPoint x).vos = s.vos := rfl
@[simp] theorem State.postPoint_sup (s : State) (x : PointEv) : (s.postPoint x).sup = s.sup := rfl
@[simp] theorem State.postPoint_img (s : State) (x : PointEv) : (s.postPoint x).img = s.img := rfl
@[simp] theorem State.postPoint_tst (s : State) (x : PointEv) : (s.postPoint x).tst = s.tst := rfl
@[simp] theorem State.postPoint_mgt (s : State) (x : PointEv) : (s.postPoint x).mgt = s.mgt := rfl
@[simp] theorem State.postPoint_causes (s : State) (x : PointEv) : (s.postPoint x).causes = s.causes := rfl
@[simp] theorem State.postPoint_parked (s : State) (x : PointEv) : (s.postPoint x).parked = s.parked := rfl
@[simp] theorem State.postPoint_readers (s : State) (x : PointEv) : (s.postPoint x).readers = s.readers := rfl
@[simp] theorem State.postPoint_eccBad (s : State) (x : PointEv) : (s.postPoint x).eccBad = s.eccBad := rfl
@[simp] theorem State.postPoint_pool (s : State) (x : PointEv) : (s.postPoint x).pool = s.pool := rfl
@[simp] theorem State.postPoint_hoBuf (s : State) (x : PointEv) : (s.postPoint x).hoBuf = s.hoBuf := rfl
@[simp] theorem State.postPoint_pending (s : State) (x : PointEv) : (s.postPoint x).pending = s.pending := rfl
@[simp] theorem State.postLink_clk (s : State) (x : LinkEv) : (s.postLink x).clk = s.clk := rfl
@[simp] theorem State.postLink_mdl (s : State) (x : LinkEv) : (s.postLink x).mdl = s.mdl := rfl
@[simp] theorem State.postLink_lanes (s : State) (x : LinkEv) : (s.postLink x).lanes = s.lanes := rfl
@[simp] theorem State.postLink_retLanes (s : State) (x : LinkEv) : (s.postLink x).retLanes = s.retLanes := rfl
@[simp] theorem State.postLink_ports (s : State) (x : LinkEv) : (s.postLink x).ports = s.ports := rfl
@[simp] theorem State.postLink_rt (s : State) (x : LinkEv) : (s.postLink x).rt = s.rt := rfl
@[simp] theorem State.postLink_rtFirst (s : State) (x : LinkEv) : (s.postLink x).rtFirst = s.rtFirst := rfl
@[simp] theorem State.postLink_chans (s : State) (x : LinkEv) : (s.postLink x).chans = s.chans := rfl
@[simp] theorem State.postLink_banks (s : State) (x : LinkEv) : (s.postLink x).banks = s.banks := rfl
@[simp] theorem State.postLink_wdus (s : State) (x : LinkEv) : (s.postLink x).wdus = s.wdus := rfl
@[simp] theorem State.postLink_secFault (s : State) (x : LinkEv) : (s.postLink x).secFault = s.secFault := rfl
@[simp] theorem State.postLink_links (s : State) (x : LinkEv) : (s.postLink x).links = s.links := rfl
@[simp] theorem State.postLink_areas (s : State) (x : LinkEv) : (s.postLink x).areas = s.areas := rfl
@[simp] theorem State.postLink_relays (s : State) (x : LinkEv) : (s.postLink x).relays = s.relays := rfl
@[simp] theorem State.postLink_rxQueue (s : State) (x : LinkEv) : (s.postLink x).rxQueue = s.rxQueue := rfl
@[simp] theorem State.postLink_conflict (s : State) (x : LinkEv) : (s.postLink x).conflict = s.conflict := rfl
@[simp] theorem State.postLink_tbs (s : State) (x : LinkEv) : (s.postLink x).tbs = s.tbs := rfl
@[simp] theorem State.postLink_cmd (s : State) (x : LinkEv) : (s.postLink x).cmd = s.cmd := rfl
@[simp] theorem State.postLink_crc (s : State) (x : LinkEv) : (s.postLink x).crc = s.crc := rfl
@[simp] theorem State.postLink_vis (s : State) (x : LinkEv) : (s.postLink x).vis = s.vis := rfl
@[simp] theorem State.postLink_vos (s : State) (x : LinkEv) : (s.postLink x).vos = s.vos := rfl
@[simp] theorem State.postLink_sup (s : State) (x : LinkEv) : (s.postLink x).sup = s.sup := rfl
@[simp] theorem State.postLink_img (s : State) (x : LinkEv) : (s.postLink x).img = s.img := rfl
@[simp] theorem State.postLink_tst (s : State) (x : LinkEv) : (s.postLink x).tst = s.tst := rfl
@[simp] theorem State.postLink_mgt (s : State) (x : LinkEv) : (s.postLink x).mgt = s.mgt := rfl
@[simp] theorem State.postLink_causes (s : State) (x : LinkEv) : (s.postLink x).causes = s.causes := rfl
@[simp] theorem State.postLink_parked (s : State) (x : LinkEv) : (s.postLink x).parked = s.parked := rfl
@[simp] theorem State.postLink_readers (s : State) (x : LinkEv) : (s.postLink x).readers = s.readers := rfl
@[simp] theorem State.postLink_eccBad (s : State) (x : LinkEv) : (s.postLink x).eccBad = s.eccBad := rfl
@[simp] theorem State.postLink_pool (s : State) (x : LinkEv) : (s.postLink x).pool = s.pool := rfl
@[simp] theorem State.postLink_hoBuf (s : State) (x : LinkEv) : (s.postLink x).hoBuf = s.hoBuf := rfl
@[simp] theorem State.postLink_pending (s : State) (x : LinkEv) : (s.postLink x).pending = s.pending := rfl
@[simp] theorem State.postVi_clk (s : State) (x : ViEv) : (s.postVi x).clk = s.clk := rfl
@[simp] theorem State.postVi_mdl (s : State) (x : ViEv) : (s.postVi x).mdl = s.mdl := rfl
@[simp] theorem State.postVi_lanes (s : State) (x : ViEv) : (s.postVi x).lanes = s.lanes := rfl
@[simp] theorem State.postVi_retLanes (s : State) (x : ViEv) : (s.postVi x).retLanes = s.retLanes := rfl
@[simp] theorem State.postVi_ports (s : State) (x : ViEv) : (s.postVi x).ports = s.ports := rfl
@[simp] theorem State.postVi_rt (s : State) (x : ViEv) : (s.postVi x).rt = s.rt := rfl
@[simp] theorem State.postVi_rtFirst (s : State) (x : ViEv) : (s.postVi x).rtFirst = s.rtFirst := rfl
@[simp] theorem State.postVi_chans (s : State) (x : ViEv) : (s.postVi x).chans = s.chans := rfl
@[simp] theorem State.postVi_banks (s : State) (x : ViEv) : (s.postVi x).banks = s.banks := rfl
@[simp] theorem State.postVi_wdus (s : State) (x : ViEv) : (s.postVi x).wdus = s.wdus := rfl
@[simp] theorem State.postVi_secFault (s : State) (x : ViEv) : (s.postVi x).secFault = s.secFault := rfl
@[simp] theorem State.postVi_links (s : State) (x : ViEv) : (s.postVi x).links = s.links := rfl
@[simp] theorem State.postVi_areas (s : State) (x : ViEv) : (s.postVi x).areas = s.areas := rfl
@[simp] theorem State.postVi_relays (s : State) (x : ViEv) : (s.postVi x).relays = s.relays := rfl
@[simp] theorem State.postVi_rxQueue (s : State) (x : ViEv) : (s.postVi x).rxQueue = s.rxQueue := rfl
@[simp] theorem State.postVi_conflict (s : State) (x : ViEv) : (s.postVi x).conflict = s.conflict := rfl
@[simp] theorem State.postVi_tbs (s : State) (x : ViEv) : (s.postVi x).tbs = s.tbs := rfl
@[simp] theorem State.postVi_cmd (s : State) (x : ViEv) : (s.postVi x).cmd = s.cmd := rfl
@[simp] theorem State.postVi_crc (s : State) (x : ViEv) : (s.postVi x).crc = s.crc := rfl
@[simp] theorem State.postVi_vis (s : State) (x : ViEv) : (s.postVi x).vis = s.vis := rfl
@[simp] theorem State.postVi_vos (s : State) (x : ViEv) : (s.postVi x).vos = s.vos := rfl
@[simp] theorem State.postVi_sup (s : State) (x : ViEv) : (s.postVi x).sup = s.sup := rfl
@[simp] theorem State.postVi_img (s : State) (x : ViEv) : (s.postVi x).img = s.img := rfl
@[simp] theorem State.postVi_tst (s : State) (x : ViEv) : (s.postVi x).tst = s.tst := rfl
@[simp] theorem State.postVi_mgt (s : State) (x : ViEv) : (s.postVi x).mgt = s.mgt := rfl
@[simp] theorem State.postVi_causes (s : State) (x : ViEv) : (s.postVi x).causes = s.causes := rfl
@[simp] theorem State.postVi_begun (s : State) (x : ViEv) : (s.postVi x).begun = s.begun := rfl
@[simp] theorem State.postVi_parked (s : State) (x : ViEv) : (s.postVi x).parked = s.parked := rfl
@[simp] theorem State.postVi_readers (s : State) (x : ViEv) : (s.postVi x).readers = s.readers := rfl
@[simp] theorem State.postVi_eccBad (s : State) (x : ViEv) : (s.postVi x).eccBad = s.eccBad := rfl
@[simp] theorem State.postVi_pool (s : State) (x : ViEv) : (s.postVi x).pool = s.pool := rfl
@[simp] theorem State.postVi_hoBuf (s : State) (x : ViEv) : (s.postVi x).hoBuf = s.hoBuf := rfl
@[simp] theorem State.postVi_pending (s : State) (x : ViEv) : (s.postVi x).pending = s.pending := rfl
@[simp] theorem State.mgtFault_clk (s : State) (b : Nat) : (s.mgtFault b).clk = s.clk := rfl
@[simp] theorem State.mgtFault_mdl (s : State) (b : Nat) : (s.mgtFault b).mdl = s.mdl := rfl
@[simp] theorem State.mgtFault_lanes (s : State) (b : Nat) : (s.mgtFault b).lanes = s.lanes := rfl
@[simp] theorem State.mgtFault_retLanes (s : State) (b : Nat) : (s.mgtFault b).retLanes = s.retLanes := rfl
@[simp] theorem State.mgtFault_ports (s : State) (b : Nat) : (s.mgtFault b).ports = s.ports := rfl
@[simp] theorem State.mgtFault_rt (s : State) (b : Nat) : (s.mgtFault b).rt = s.rt := rfl
@[simp] theorem State.mgtFault_rtFirst (s : State) (b : Nat) : (s.mgtFault b).rtFirst = s.rtFirst := rfl
@[simp] theorem State.mgtFault_chans (s : State) (b : Nat) : (s.mgtFault b).chans = s.chans := rfl
@[simp] theorem State.mgtFault_banks (s : State) (b : Nat) : (s.mgtFault b).banks = s.banks := rfl
@[simp] theorem State.mgtFault_wdus (s : State) (b : Nat) : (s.mgtFault b).wdus = s.wdus := rfl
@[simp] theorem State.mgtFault_engines (s : State) (b : Nat) : (s.mgtFault b).engines = s.engines := rfl
@[simp] theorem State.mgtFault_secFault (s : State) (b : Nat) : (s.mgtFault b).secFault = s.secFault := rfl
@[simp] theorem State.mgtFault_links (s : State) (b : Nat) : (s.mgtFault b).links = s.links := rfl
@[simp] theorem State.mgtFault_areas (s : State) (b : Nat) : (s.mgtFault b).areas = s.areas := rfl
@[simp] theorem State.mgtFault_relays (s : State) (b : Nat) : (s.mgtFault b).relays = s.relays := rfl
@[simp] theorem State.mgtFault_rxQueue (s : State) (b : Nat) : (s.mgtFault b).rxQueue = s.rxQueue := rfl
@[simp] theorem State.mgtFault_conflict (s : State) (b : Nat) : (s.mgtFault b).conflict = s.conflict := rfl
@[simp] theorem State.mgtFault_tbs (s : State) (b : Nat) : (s.mgtFault b).tbs = s.tbs := rfl
@[simp] theorem State.mgtFault_cmd (s : State) (b : Nat) : (s.mgtFault b).cmd = s.cmd := rfl
@[simp] theorem State.mgtFault_crc (s : State) (b : Nat) : (s.mgtFault b).crc = s.crc := rfl
@[simp] theorem State.mgtFault_vis (s : State) (b : Nat) : (s.mgtFault b).vis = s.vis := rfl
@[simp] theorem State.mgtFault_vos (s : State) (b : Nat) : (s.mgtFault b).vos = s.vos := rfl
@[simp] theorem State.mgtFault_sup (s : State) (b : Nat) : (s.mgtFault b).sup = s.sup := rfl
@[simp] theorem State.mgtFault_img (s : State) (b : Nat) : (s.mgtFault b).img = s.img := rfl
@[simp] theorem State.mgtFault_tst (s : State) (b : Nat) : (s.mgtFault b).tst = s.tst := rfl
@[simp] theorem State.mgtFault_causes (s : State) (b : Nat) : (s.mgtFault b).causes = s.causes := rfl
@[simp] theorem State.mgtFault_begun (s : State) (b : Nat) : (s.mgtFault b).begun = s.begun := rfl
@[simp] theorem State.mgtFault_parked (s : State) (b : Nat) : (s.mgtFault b).parked = s.parked := rfl
@[simp] theorem State.mgtFault_readers (s : State) (b : Nat) : (s.mgtFault b).readers = s.readers := rfl
@[simp] theorem State.mgtFault_eccBad (s : State) (b : Nat) : (s.mgtFault b).eccBad = s.eccBad := rfl
@[simp] theorem State.mgtFault_pool (s : State) (b : Nat) : (s.mgtFault b).pool = s.pool := rfl
@[simp] theorem State.mgtFault_hoBuf (s : State) (b : Nat) : (s.mgtFault b).hoBuf = s.hoBuf := rfl
@[simp] theorem State.mgtFault_pending (s : State) (b : Nat) : (s.mgtFault b).pending = s.pending := rfl

end Sys2Proof.Machine
end

