-- ==== Sys2Proof/Laws/Ops.lean ====
section
/-! SUPPORT. What the shared operations can do, said once for each: logging a fault or an event, opening a hold, beginning
and ending a cause of UNPROVEN. -/

namespace Sys2Proof.Machine

variable {s t u : State}

/-! ### What logging leaves unchanged -/

theorem State.SameButLog.refl (s : State) : s.SameButLog s := rfl

theorem State.SameButLog.trans (h : s.SameButLog t) (k : t.SameButLog u) : s.SameButLog u := by
  unfold State.SameButLog at *
  rw [k, h]

theorem State.SameButLog.clk (h : s.SameButLog t) : t.clk = s.clk := by rw [h]
theorem State.SameButLog.lanes (h : s.SameButLog t) : t.lanes = s.lanes := by rw [h]
theorem State.SameButLog.retLanes (h : s.SameButLog t) : t.retLanes = s.retLanes := by rw [h]
theorem State.SameButLog.ports (h : s.SameButLog t) : t.ports = s.ports := by rw [h]
theorem State.SameButLog.rt (h : s.SameButLog t) : t.rt = s.rt := by rw [h]
theorem State.SameButLog.rtFirst (h : s.SameButLog t) : t.rtFirst = s.rtFirst := by rw [h]
theorem State.SameButLog.chans (h : s.SameButLog t) : t.chans = s.chans := by rw [h]
theorem State.SameButLog.banks (h : s.SameButLog t) : t.banks = s.banks := by rw [h]
theorem State.SameButLog.wdus (h : s.SameButLog t) : t.wdus = s.wdus := by rw [h]
theorem State.SameButLog.engines (h : s.SameButLog t) : t.engines = s.engines := by rw [h]
theorem State.SameButLog.secFault (h : s.SameButLog t) : t.secFault = s.secFault := by rw [h]
theorem State.SameButLog.links (h : s.SameButLog t) : t.links = s.links := by rw [h]
theorem State.SameButLog.areas (h : s.SameButLog t) : t.areas = s.areas := by rw [h]
theorem State.SameButLog.relays (h : s.SameButLog t) : t.relays = s.relays := by rw [h]
theorem State.SameButLog.rxQueue (h : s.SameButLog t) : t.rxQueue = s.rxQueue := by rw [h]
theorem State.SameButLog.conflict (h : s.SameButLog t) : t.conflict = s.conflict := by rw [h]
theorem State.SameButLog.tbs (h : s.SameButLog t) : t.tbs = s.tbs := by rw [h]
theorem State.SameButLog.cmd (h : s.SameButLog t) : t.cmd = s.cmd := by rw [h]
theorem State.SameButLog.crc (h : s.SameButLog t) : t.crc = s.crc := by rw [h]
theorem State.SameButLog.vis (h : s.SameButLog t) : t.vis = s.vis := by rw [h]
theorem State.SameButLog.vos (h : s.SameButLog t) : t.vos = s.vos := by rw [h]
theorem State.SameButLog.sup (h : s.SameButLog t) : t.sup = s.sup := by rw [h]
theorem State.SameButLog.img (h : s.SameButLog t) : t.img = s.img := by rw [h]
theorem State.SameButLog.tst (h : s.SameButLog t) : t.tst = s.tst := by rw [h]
theorem State.SameButLog.causes (h : s.SameButLog t) : t.causes = s.causes := by rw [h]
theorem State.SameButLog.begun (h : s.SameButLog t) : t.begun = s.begun := by rw [h]
theorem State.SameButLog.parked (h : s.SameButLog t) : t.parked = s.parked := by rw [h]
theorem State.SameButLog.readers (h : s.SameButLog t) : t.readers = s.readers := by rw [h]
theorem State.SameButLog.eccBad (h : s.SameButLog t) : t.eccBad = s.eccBad := by rw [h]
theorem State.SameButLog.pool (h : s.SameButLog t) : t.pool = s.pool := by rw [h]
theorem State.SameButLog.hoBuf (h : s.SameButLog t) : t.hoBuf = s.hoBuf := by rw [h]
theorem State.SameButLog.pending (h : s.SameButLog t) : t.pending = s.pending := by rw [h]
theorem State.SameButLog.mgt_pw (h : s.SameButLog t) : t.mgt.pw = s.mgt.pw := by rw [h]
theorem State.SameButLog.mgt_recOk (h : s.SameButLog t) : t.mgt.recOk = s.mgt.recOk := by rw [h]
theorem State.SameButLog.mgt_restartAt (h : s.SameButLog t) : t.mgt.restartAt = s.mgt.restartAt := by rw [h]
theorem State.SameButLog.mgt_restartWd (h : s.SameButLog t) : t.mgt.restartWd = s.mgt.restartWd := by rw [h]
theorem State.SameButLog.mgt_bootBad (h : s.SameButLog t) : t.mgt.bootBad = s.mgt.bootBad := by rw [h]
theorem State.SameButLog.mgt_fwLine (h : s.SameButLog t) : t.mgt.fwLine = s.mgt.fwLine := by rw [h]
theorem State.SameButLog.mgt_fwRelease (h : s.SameButLog t) : t.mgt.fwRelease = s.mgt.fwRelease := by rw [h]
theorem State.SameButLog.mgt_sensorAt (h : s.SameButLog t) : t.mgt.sensorAt = s.mgt.sensorAt := by rw [h]
theorem State.SameButLog.mgt_restarts (h : s.SameButLog t) : t.mgt.restarts = s.mgt.restarts := by rw [h]
theorem State.SameButLog.mgt_clients (h : s.SameButLog t) : t.mgt.clients = s.mgt.clients := by rw [h]
theorem State.SameButLog.mgt_sessions (h : s.SameButLog t) : t.mgt.sessions = s.mgt.sessions := by rw [h]
theorem State.SameButLog.mgt_tCore (h : s.SameButLog t) : t.mgt.tCore = s.mgt.tCore := by rw [h]
theorem State.SameButLog.mgt_tMgt (h : s.SameButLog t) : t.mgt.tMgt = s.mgt.tMgt := by rw [h]
theorem State.SameButLog.mgt_tInlet (h : s.SameButLog t) : t.mgt.tInlet = s.mgt.tInlet := by rw [h]
theorem State.SameButLog.mgt_humidity (h : s.SameButLog t) : t.mgt.humidity = s.mgt.humidity := by rw [h]
theorem State.SameButLog.mgt_wCore (h : s.SameButLog t) : t.mgt.wCore = s.mgt.wCore := by rw [h]
theorem State.SameButLog.mgt_wMgt (h : s.SameButLog t) : t.mgt.wMgt = s.mgt.wMgt := by rw [h]
theorem State.SameButLog.mgt_wInlet (h : s.SameButLog t) : t.mgt.wInlet = s.mgt.wInlet := by rw [h]
theorem State.SameButLog.mgt_wHum (h : s.SameButLog t) : t.mgt.wHum = s.mgt.wHum := by rw [h]
theorem State.SameButLog.mgt_power (h : s.SameButLog t) : t.mgt.power = s.mgt.power := by rw [h]
theorem State.SameButLog.mgt_current (h : s.SameButLog t) : t.mgt.current = s.mgt.current := by rw [h]
theorem State.SameButLog.mgt_wear (h : s.SameButLog t) : t.mgt.wear = s.mgt.wear := by rw [h]
theorem State.SameButLog.mgt_spare (h : s.SameButLog t) : t.mgt.spare = s.mgt.spare := by rw [h]
theorem State.SameButLog.mgt_spareLow (h : s.SameButLog t) : t.mgt.spareLow = s.mgt.spareLow := by rw [h]
theorem State.SameButLog.mgt_evtNext (h : s.SameButLog t) : t.mgt.evtNext = s.mgt.evtNext := by rw [h]
theorem State.SameButLog.mgt_axlNext (h : s.SameButLog t) : t.mgt.axlNext = s.mgt.axlNext := by rw [h]
theorem State.SameButLog.mgt_axlEmit (h : s.SameButLog t) : t.mgt.axlEmit = s.mgt.axlEmit := by rw [h]
theorem State.SameButLog.mgt_lostAxles (h : s.SameButLog t) : t.mgt.lostAxles = s.mgt.lostAxles := by rw [h]
theorem State.SameButLog.mgt_posted (h : s.SameButLog t) : t.mgt.posted = s.mgt.posted := by rw [h]
theorem State.SameButLog.mgt_evtBuf (h : s.SameButLog t) : t.mgt.evtBuf = s.mgt.evtBuf := by rw [h]
theorem State.SameButLog.mgt_evtBufAt (h : s.SameButLog t) : t.mgt.evtBufAt = s.mgt.evtBufAt := by rw [h]
theorem State.SameButLog.mgt_axlBuf (h : s.SameButLog t) : t.mgt.axlBuf = s.mgt.axlBuf := by rw [h]
theorem State.SameButLog.mgt_axlBufAt (h : s.SameButLog t) : t.mgt.axlBufAt = s.mgt.axlBufAt := by rw [h]
theorem State.SameButLog.mgt_evtEpoch (h : s.SameButLog t) : t.mgt.evtEpoch = s.mgt.evtEpoch := by rw [h]
theorem State.SameButLog.mgt_axlEpoch (h : s.SameButLog t) : t.mgt.axlEpoch = s.mgt.axlEpoch := by rw [h]
theorem State.SameButLog.mgt_evtBlocks (h : s.SameButLog t) : t.mgt.evtBlocks = s.mgt.evtBlocks := by rw [h]
theorem State.SameButLog.mgt_axlBlocks (h : s.SameButLog t) : t.mgt.axlBlocks = s.mgt.axlBlocks := by rw [h]
theorem State.SameButLog.mgt_evtPages (h : s.SameButLog t) : t.mgt.evtPages = s.mgt.evtPages := by rw [h]
theorem State.SameButLog.mgt_axlPages (h : s.SameButLog t) : t.mgt.axlPages = s.mgt.axlPages := by rw [h]
theorem State.SameButLog.mgt_erases (h : s.SameButLog t) : t.mgt.erases = s.mgt.erases := by rw [h]
theorem State.SameButLog.mgt_erased (h : s.SameButLog t) : t.mgt.erased = s.mgt.erased := by rw [h]
theorem State.SameButLog.mgt_moved (h : s.SameButLog t) : t.mgt.moved = s.mgt.moved := by rw [h]
theorem State.SameButLog.mgt_bad (h : s.SameButLog t) : t.mgt.bad = s.mgt.bad := by rw [h]
theorem State.SameButLog.mgt_evtRing (h : s.SameButLog t) : t.mgt.evtRing = s.mgt.evtRing := by rw [h]
theorem State.SameButLog.mgt_axlRing (h : s.SameButLog t) : t.mgt.axlRing = s.mgt.axlRing := by rw [h]
theorem State.SameButLog.mgt_snaps (h : s.SameButLog t) : t.mgt.snaps = s.mgt.snaps := by rw [h]
theorem State.SameButLog.mgt_snapNow (h : s.SameButLog t) : t.mgt.snapNow = s.mgt.snapNow := by rw [h]
theorem State.SameButLog.mgt_commissioning (h : s.SameButLog t) : t.mgt.commissioning = s.mgt.commissioning := by rw [h]
theorem State.SameButLog.mgt_epoch (h : s.SameButLog t) : t.mgt.epoch = s.mgt.epoch := by rw [h]
theorem State.SameButLog.mgt_calendar (h : s.SameButLog t) : t.mgt.calendar = s.mgt.calendar := by rw [h]
theorem State.SameButLog.mgt_ethEnable (h : s.SameButLog t) : t.mgt.ethEnable = s.mgt.ethEnable := by rw [h]
theorem State.SameButLog.mgt_loopback (h : s.SameButLog t) : t.mgt.loopback = s.mgt.loopback := by rw [h]
theorem State.SameButLog.mgt_loopNet (h : s.SameButLog t) : t.mgt.loopNet = s.mgt.loopNet := by rw [h]
theorem State.SameButLog.mgt_loopAt (h : s.SameButLog t) : t.mgt.loopAt = s.mgt.loopAt := by rw [h]
theorem State.SameButLog.mgt_prefixLen (h : s.SameButLog t) : t.mgt.prefixLen = s.mgt.prefixLen := by rw [h]
theorem State.SameButLog.mgt_lbResult (h : s.SameButLog t) : t.mgt.lbResult = s.mgt.lbResult := by rw [h]
theorem State.SameButLog.mgt_link (h : s.SameButLog t) : t.mgt.link = s.mgt.link := by rw [h]
theorem State.SameButLog.mgt_ethMode (h : s.SameButLog t) : t.mgt.ethMode = s.mgt.ethMode := by rw [h]
theorem State.SameButLog.mgt_rxErr (h : s.SameButLog t) : t.mgt.rxErr = s.mgt.rxErr := by rw [h]
theorem State.SameButLog.mgt_refused (h : s.SameButLog t) : t.mgt.refused = s.mgt.refused := by rw [h]
theorem State.SameButLog.mgt_ipv4 (h : s.SameButLog t) : t.mgt.ipv4 = s.mgt.ipv4 := by rw [h]
theorem State.SameButLog.mgt_gw (h : s.SameButLog t) : t.mgt.gw = s.mgt.gw := by rw [h]
theorem State.SameButLog.mgt_fwStore (h : s.SameButLog t) : t.mgt.fwStore = s.mgt.fwStore := by rw [h]
theorem State.SameButLog.mgt_fwState (h : s.SameButLog t) : t.mgt.fwState = s.mgt.fwState := by rw [h]
theorem State.SameButLog.mgt_fwVital (h : s.SameButLog t) : t.mgt.fwVital = s.mgt.fwVital := by rw [h]
theorem State.SameButLog.mgt_fwFail (h : s.SameButLog t) : t.mgt.fwFail = s.mgt.fwFail := by rw [h]
theorem State.SameButLog.mgt_fwLen (h : s.SameButLog t) : t.mgt.fwLen = s.mgt.fwLen := by rw [h]
theorem State.SameButLog.mgt_fwTotal (h : s.SameButLog t) : t.mgt.fwTotal = s.mgt.fwTotal := by rw [h]
theorem State.SameButLog.mgt_fwBytes (h : s.SameButLog t) : t.mgt.fwBytes = s.mgt.fwBytes := by rw [h]
theorem State.SameButLog.mgt_fwAt (h : s.SameButLog t) : t.mgt.fwAt = s.mgt.fwAt := by rw [h]
theorem State.SameButLog.mgt_datagrams (h : s.SameButLog t) : t.mgt.datagrams = s.mgt.datagrams := by rw [h]
theorem State.SameButLog.mgt_answered (h : s.SameButLog t) : t.mgt.answered = s.mgt.answered := by rw [h]
theorem State.SameButLog.mdl_phase (h : s.SameButLog t) : t.mdl.phase = s.mdl.phase := by rw [h]
theorem State.SameButLog.mdl_startStage (h : s.SameButLog t) : t.mdl.startStage = s.mdl.startStage := by rw [h]
theorem State.SameButLog.mdl_startAt (h : s.SameButLog t) : t.mdl.startAt = s.mdl.startAt := by rw [h]
theorem State.SameButLog.mdl_resetCause (h : s.SameButLog t) : t.mdl.resetCause = s.mdl.resetCause := by rw [h]
theorem State.SameButLog.mdl_resetFaults (h : s.SameButLog t) : t.mdl.resetFaults = s.mdl.resetFaults := by rw [h]
theorem State.SameButLog.mdl_irqCrc (h : s.SameButLog t) : t.mdl.irqCrc = s.mdl.irqCrc := by rw [h]
theorem State.SameButLog.mdl_irqCheck (h : s.SameButLog t) : t.mdl.irqCheck = s.mdl.irqCheck := by rw [h]
theorem State.SameButLog.mdl_btnStuck (h : s.SameButLog t) : t.mdl.btnStuck = s.mdl.btnStuck := by rw [h]
theorem State.SameButLog.mdl_btnResets (h : s.SameButLog t) : t.mdl.btnResets = s.mdl.btnResets := by rw [h]
theorem State.SameButLog.mdl_btnHold (h : s.SameButLog t) : t.mdl.btnHold = s.mdl.btnHold := by rw [h]
theorem State.SameButLog.mdl_btnHeld (h : s.SameButLog t) : t.mdl.btnHeld = s.mdl.btnHeld := by rw [h]
theorem State.SameButLog.mdl_fwMgtFallback (h : s.SameButLog t) : t.mdl.fwMgtFallback = s.mdl.fwMgtFallback := by rw [h]
theorem State.SameButLog.mdl_pub (h : s.SameButLog t) : t.mdl.pub = s.mdl.pub := by rw [h]

theorem State.mgtFault_same (s : State) (b : Nat) : s.SameButLog (s.mgtFault b) := rfl

theorem State.flushDropped_same (s : State) : s.SameButLog s.flushDropped := by
  unfold State.flushDropped
  split <;> rfl

theorem State.enqueue_event_same (s : State) (e : Event) : s.SameButLog (s.enqueue (.event e)) := by
  unfold State.enqueue
  split <;> rfl

theorem State.event_same (s : State) (c o : BitVec 16) (d : BitVec 48) : s.SameButLog (s.event c o d) :=
  s.flushDropped_same.trans (State.enqueue_event_same _ _)

theorem State.logD_same (s : State) (c o : BitVec 16) (d : BitVec 48) : s.SameButLog (s.logD c o d) :=
  (s.event_same c o d).trans rfl

theorem State.log_same (s : State) (c o : Nat) : s.SameButLog (s.log c o) := State.logD_same _ _ _ _

theorem State.openHold_same (s : State) (x : Stamp) : s.SameButLog (s.openHold x).2 := by
  unfold State.openHold
  dsimp only
  split
  · rfl
  · split
    · exact State.SameButLog.trans (t := { s with mgt := { s.mgt with holds := _ } }) rfl (State.event_same _ _ _ _)
    · exact (State.log_same _ _ _).trans rfl

theorem State.fault_same (s : State) (c o : Nat) : s.SameButLog (s.fault c o) := by
  unfold State.fault
  dsimp only
  split
  · exact (State.log_same _ _ _).trans (State.openHold_same _ _)
  · exact State.log_same _ _ _

@[simp] theorem State.event_clk (s : State) (c o : BitVec 16) (d : BitVec 48) : (s.event c o d).clk = s.clk := (State.event_same s c o d).clk
@[simp] theorem State.event_lanes (s : State) (c o : BitVec 16) (d : BitVec 48) : (s.event c o d).lanes = s.lanes := (State.event_same s c o d).lanes
@[simp] theorem State.event_retLanes (s : State) (c o : BitVec 16) (d : BitVec 48) : (s.event c o d).retLanes = s.retLanes := (State.event_same s c o d).retLanes
@[simp] theorem State.event_ports (s : State) (c o : BitVec 16) (d : BitVec 48) : (s.event c o d).ports = s.ports := (State.event_same s c o d).ports
@[simp] theorem State.event_rt (s : State) (c o : BitVec 16) (d : BitVec 48) : (s.event c o d).rt = s.rt := (State.event_same s c o d).rt
@[simp] theorem State.event_rtFirst (s : State) (c o : BitVec 16) (d : BitVec 48) : (s.event c o d).rtFirst = s.rtFirst := (State.event_same s c o d).rtFirst
@[simp] theorem State.event_chans (s : State) (c o : BitVec 16) (d : BitVec 48) : (s.event c o d).chans = s.chans := (State.event_same s c o d).chans
@[simp] theorem State.event_banks (s : State) (c o : BitVec 16) (d : BitVec 48) : (s.event c o d).banks = s.banks := (State.event_same s c o d).banks
@[simp] theorem State.event_wdus (s : State) (c o : BitVec 16) (d : BitVec 48) : (s.event c o d).wdus = s.wdus := (State.event_same s c o d).wdus
@[simp] theorem State.event_engines (s : State) (c o : BitVec 16) (d : BitVec 48) : (s.event c o d).engines = s.engines := (State.event_same s c o d).engines
@[simp] theorem State.event_secFault (s : State) (c o : BitVec 16) (d : BitVec 48) : (s.event c o d).secFault = s.secFault := (State.event_same s c o d).secFault
@[simp] theorem State.event_links (s : State) (c o : BitVec 16) (d : BitVec 48) : (s.event c o d).links = s.links := (State.event_same s c o d).links
@[simp] theorem State.event_areas (s : State) (c o : BitVec 16) (d : BitVec 48) : (s.event c o d).areas = s.areas := (State.event_same s c o d).areas
@[simp] theorem State.event_relays (s : State) (c o : BitVec 16) (d : BitVec 48) : (s.event c o d).relays = s.relays := (State.event_same s c o d).relays
@[simp] theorem State.event_rxQueue (s : State) (c o : BitVec 16) (d : BitVec 48) : (s.event c o d).rxQueue = s.rxQueue := (State.event_same s c o d).rxQueue
@[simp] theorem State.event_conflict (s : State) (c o : BitVec 16) (d : BitVec 48) : (s.event c o d).conflict = s.conflict := (State.event_same s c o d).conflict
@[simp] theorem State.event_tbs (s : State) (c o : BitVec 16) (d : BitVec 48) : (s.event c o d).tbs = s.tbs := (State.event_same s c o d).tbs
@[simp] theorem State.event_cmd (s : State) (c o : BitVec 16) (d : BitVec 48) : (s.event c o d).cmd = s.cmd := (State.event_same s c o d).cmd
@[simp] theorem State.event_crc (s : State) (c o : BitVec 16) (d : BitVec 48) : (s.event c o d).crc = s.crc := (State.event_same s c o d).crc
@[simp] theorem State.event_vis (s : State) (c o : BitVec 16) (d : BitVec 48) : (s.event c o d).vis = s.vis := (State.event_same s c o d).vis
@[simp] theorem State.event_vos (s : State) (c o : BitVec 16) (d : BitVec 48) : (s.event c o d).vos = s.vos := (State.event_same s c o d).vos
@[simp] theorem State.event_sup (s : State) (c o : BitVec 16) (d : BitVec 48) : (s.event c o d).sup = s.sup := (State.event_same s c o d).sup
@[simp] theorem State.event_img (s : State) (c o : BitVec 16) (d : BitVec 48) : (s.event c o d).img = s.img := (State.event_same s c o d).img
@[simp] theorem State.event_tst (s : State) (c o : BitVec 16) (d : BitVec 48) : (s.event c o d).tst = s.tst := (State.event_same s c o d).tst
@[simp] theorem State.event_causes (s : State) (c o : BitVec 16) (d : BitVec 48) : (s.event c o d).causes = s.causes := (State.event_same s c o d).causes
@[simp] theorem State.event_begun (s : State) (c o : BitVec 16) (d : BitVec 48) : (s.event c o d).begun = s.begun := (State.event_same s c o d).begun
@[simp] theorem State.event_parked (s : State) (c o : BitVec 16) (d : BitVec 48) : (s.event c o d).parked = s.parked := (State.event_same s c o d).parked
@[simp] theorem State.event_readers (s : State) (c o : BitVec 16) (d : BitVec 48) : (s.event c o d).readers = s.readers := (State.event_same s c o d).readers
@[simp] theorem State.event_eccBad (s : State) (c o : BitVec 16) (d : BitVec 48) : (s.event c o d).eccBad = s.eccBad := (State.event_same s c o d).eccBad
@[simp] theorem State.event_pool (s : State) (c o : BitVec 16) (d : BitVec 48) : (s.event c o d).pool = s.pool := (State.event_same s c o d).pool
@[simp] theorem State.event_hoBuf (s : State) (c o : BitVec 16) (d : BitVec 48) : (s.event c o d).hoBuf = s.hoBuf := (State.event_same s c o d).hoBuf
@[simp] theorem State.event_pending (s : State) (c o : BitVec 16) (d : BitVec 48) : (s.event c o d).pending = s.pending := (State.event_same s c o d).pending
@[simp] theorem State.event_mdl_phase (s : State) (c o : BitVec 16) (d : BitVec 48) : (s.event c o d).mdl.phase = s.mdl.phase := (State.event_same s c o d).mdl_phase
@[simp] theorem State.event_mdl_startStage (s : State) (c o : BitVec 16) (d : BitVec 48) : (s.event c o d).mdl.startStage = s.mdl.startStage := (State.event_same s c o d).mdl_startStage
@[simp] theorem State.event_mdl_startAt (s : State) (c o : BitVec 16) (d : BitVec 48) : (s.event c o d).mdl.startAt = s.mdl.startAt := (State.event_same s c o d).mdl_startAt
@[simp] theorem State.event_mdl_resetCause (s : State) (c o : BitVec 16) (d : BitVec 48) : (s.event c o d).mdl.resetCause = s.mdl.resetCause := (State.event_same s c o d).mdl_resetCause
@[simp] theorem State.event_mdl_resetFaults (s : State) (c o : BitVec 16) (d : BitVec 48) : (s.event c o d).mdl.resetFaults = s.mdl.resetFaults := (State.event_same s c o d).mdl_resetFaults
@[simp] theorem State.event_mdl_irqCrc (s : State) (c o : BitVec 16) (d : BitVec 48) : (s.event c o d).mdl.irqCrc = s.mdl.irqCrc := (State.event_same s c o d).mdl_irqCrc
@[simp] theorem State.event_mdl_irqCheck (s : State) (c o : BitVec 16) (d : BitVec 48) : (s.event c o d).mdl.irqCheck = s.mdl.irqCheck := (State.event_same s c o d).mdl_irqCheck
@[simp] theorem State.event_mdl_btnStuck (s : State) (c o : BitVec 16) (d : BitVec 48) : (s.event c o d).mdl.btnStuck = s.mdl.btnStuck := (State.event_same s c o d).mdl_btnStuck
@[simp] theorem State.event_mdl_btnResets (s : State) (c o : BitVec 16) (d : BitVec 48) : (s.event c o d).mdl.btnResets = s.mdl.btnResets := (State.event_same s c o d).mdl_btnResets
@[simp] theorem State.event_mdl_btnHold (s : State) (c o : BitVec 16) (d : BitVec 48) : (s.event c o d).mdl.btnHold = s.mdl.btnHold := (State.event_same s c o d).mdl_btnHold
@[simp] theorem State.event_mdl_btnHeld (s : State) (c o : BitVec 16) (d : BitVec 48) : (s.event c o d).mdl.btnHeld = s.mdl.btnHeld := (State.event_same s c o d).mdl_btnHeld
@[simp] theorem State.event_mdl_fwMgtFallback (s : State) (c o : BitVec 16) (d : BitVec 48) : (s.event c o d).mdl.fwMgtFallback = s.mdl.fwMgtFallback := (State.event_same s c o d).mdl_fwMgtFallback
@[simp] theorem State.event_mdl_pub (s : State) (c o : BitVec 16) (d : BitVec 48) : (s.event c o d).mdl.pub = s.mdl.pub := (State.event_same s c o d).mdl_pub
@[simp] theorem State.event_mgt_pw (s : State) (c o : BitVec 16) (d : BitVec 48) : (s.event c o d).mgt.pw = s.mgt.pw := (State.event_same s c o d).mgt_pw
@[simp] theorem State.event_mgt_recOk (s : State) (c o : BitVec 16) (d : BitVec 48) : (s.event c o d).mgt.recOk = s.mgt.recOk := (State.event_same s c o d).mgt_recOk
@[simp] theorem State.event_mgt_restartAt (s : State) (c o : BitVec 16) (d : BitVec 48) : (s.event c o d).mgt.restartAt = s.mgt.restartAt := (State.event_same s c o d).mgt_restartAt
@[simp] theorem State.event_mgt_restartWd (s : State) (c o : BitVec 16) (d : BitVec 48) : (s.event c o d).mgt.restartWd = s.mgt.restartWd := (State.event_same s c o d).mgt_restartWd
@[simp] theorem State.event_mgt_bootBad (s : State) (c o : BitVec 16) (d : BitVec 48) : (s.event c o d).mgt.bootBad = s.mgt.bootBad := (State.event_same s c o d).mgt_bootBad
@[simp] theorem State.event_mgt_fwLine (s : State) (c o : BitVec 16) (d : BitVec 48) : (s.event c o d).mgt.fwLine = s.mgt.fwLine := (State.event_same s c o d).mgt_fwLine
@[simp] theorem State.event_mgt_fwRelease (s : State) (c o : BitVec 16) (d : BitVec 48) : (s.event c o d).mgt.fwRelease = s.mgt.fwRelease := (State.event_same s c o d).mgt_fwRelease
@[simp] theorem State.event_mgt_sensorAt (s : State) (c o : BitVec 16) (d : BitVec 48) : (s.event c o d).mgt.sensorAt = s.mgt.sensorAt := (State.event_same s c o d).mgt_sensorAt
@[simp] theorem State.event_mgt_restarts (s : State) (c o : BitVec 16) (d : BitVec 48) : (s.event c o d).mgt.restarts = s.mgt.restarts := (State.event_same s c o d).mgt_restarts
@[simp] theorem State.event_mgt_clients (s : State) (c o : BitVec 16) (d : BitVec 48) : (s.event c o d).mgt.clients = s.mgt.clients := (State.event_same s c o d).mgt_clients
@[simp] theorem State.event_mgt_sessions (s : State) (c o : BitVec 16) (d : BitVec 48) : (s.event c o d).mgt.sessions = s.mgt.sessions := (State.event_same s c o d).mgt_sessions
@[simp] theorem State.event_mgt_tCore (s : State) (c o : BitVec 16) (d : BitVec 48) : (s.event c o d).mgt.tCore = s.mgt.tCore := (State.event_same s c o d).mgt_tCore
@[simp] theorem State.event_mgt_tMgt (s : State) (c o : BitVec 16) (d : BitVec 48) : (s.event c o d).mgt.tMgt = s.mgt.tMgt := (State.event_same s c o d).mgt_tMgt
@[simp] theorem State.event_mgt_tInlet (s : State) (c o : BitVec 16) (d : BitVec 48) : (s.event c o d).mgt.tInlet = s.mgt.tInlet := (State.event_same s c o d).mgt_tInlet
@[simp] theorem State.event_mgt_humidity (s : State) (c o : BitVec 16) (d : BitVec 48) : (s.event c o d).mgt.humidity = s.mgt.humidity := (State.event_same s c o d).mgt_humidity
@[simp] theorem State.event_mgt_wCore (s : State) (c o : BitVec 16) (d : BitVec 48) : (s.event c o d).mgt.wCore = s.mgt.wCore := (State.event_same s c o d).mgt_wCore
@[simp] theorem State.event_mgt_wMgt (s : State) (c o : BitVec 16) (d : BitVec 48) : (s.event c o d).mgt.wMgt = s.mgt.wMgt := (State.event_same s c o d).mgt_wMgt
@[simp] theorem State.event_mgt_wInlet (s : State) (c o : BitVec 16) (d : BitVec 48) : (s.event c o d).mgt.wInlet = s.mgt.wInlet := (State.event_same s c o d).mgt_wInlet
@[simp] theorem State.event_mgt_wHum (s : State) (c o : BitVec 16) (d : BitVec 48) : (s.event c o d).mgt.wHum = s.mgt.wHum := (State.event_same s c o d).mgt_wHum
@[simp] theorem State.event_mgt_power (s : State) (c o : BitVec 16) (d : BitVec 48) : (s.event c o d).mgt.power = s.mgt.power := (State.event_same s c o d).mgt_power
@[simp] theorem State.event_mgt_current (s : State) (c o : BitVec 16) (d : BitVec 48) : (s.event c o d).mgt.current = s.mgt.current := (State.event_same s c o d).mgt_current
@[simp] theorem State.event_mgt_wear (s : State) (c o : BitVec 16) (d : BitVec 48) : (s.event c o d).mgt.wear = s.mgt.wear := (State.event_same s c o d).mgt_wear
@[simp] theorem State.event_mgt_spare (s : State) (c o : BitVec 16) (d : BitVec 48) : (s.event c o d).mgt.spare = s.mgt.spare := (State.event_same s c o d).mgt_spare
@[simp] theorem State.event_mgt_spareLow (s : State) (c o : BitVec 16) (d : BitVec 48) : (s.event c o d).mgt.spareLow = s.mgt.spareLow := (State.event_same s c o d).mgt_spareLow
@[simp] theorem State.event_mgt_evtNext (s : State) (c o : BitVec 16) (d : BitVec 48) : (s.event c o d).mgt.evtNext = s.mgt.evtNext := (State.event_same s c o d).mgt_evtNext
@[simp] theorem State.event_mgt_axlNext (s : State) (c o : BitVec 16) (d : BitVec 48) : (s.event c o d).mgt.axlNext = s.mgt.axlNext := (State.event_same s c o d).mgt_axlNext
@[simp] theorem State.event_mgt_axlEmit (s : State) (c o : BitVec 16) (d : BitVec 48) : (s.event c o d).mgt.axlEmit = s.mgt.axlEmit := (State.event_same s c o d).mgt_axlEmit
@[simp] theorem State.event_mgt_lostAxles (s : State) (c o : BitVec 16) (d : BitVec 48) : (s.event c o d).mgt.lostAxles = s.mgt.lostAxles := (State.event_same s c o d).mgt_lostAxles
@[simp] theorem State.event_mgt_posted (s : State) (c o : BitVec 16) (d : BitVec 48) : (s.event c o d).mgt.posted = s.mgt.posted := (State.event_same s c o d).mgt_posted
@[simp] theorem State.event_mgt_evtBuf (s : State) (c o : BitVec 16) (d : BitVec 48) : (s.event c o d).mgt.evtBuf = s.mgt.evtBuf := (State.event_same s c o d).mgt_evtBuf
@[simp] theorem State.event_mgt_evtBufAt (s : State) (c o : BitVec 16) (d : BitVec 48) : (s.event c o d).mgt.evtBufAt = s.mgt.evtBufAt := (State.event_same s c o d).mgt_evtBufAt
@[simp] theorem State.event_mgt_axlBuf (s : State) (c o : BitVec 16) (d : BitVec 48) : (s.event c o d).mgt.axlBuf = s.mgt.axlBuf := (State.event_same s c o d).mgt_axlBuf
@[simp] theorem State.event_mgt_axlBufAt (s : State) (c o : BitVec 16) (d : BitVec 48) : (s.event c o d).mgt.axlBufAt = s.mgt.axlBufAt := (State.event_same s c o d).mgt_axlBufAt
@[simp] theorem State.event_mgt_evtEpoch (s : State) (c o : BitVec 16) (d : BitVec 48) : (s.event c o d).mgt.evtEpoch = s.mgt.evtEpoch := (State.event_same s c o d).mgt_evtEpoch
@[simp] theorem State.event_mgt_axlEpoch (s : State) (c o : BitVec 16) (d : BitVec 48) : (s.event c o d).mgt.axlEpoch = s.mgt.axlEpoch := (State.event_same s c o d).mgt_axlEpoch
@[simp] theorem State.event_mgt_evtBlocks (s : State) (c o : BitVec 16) (d : BitVec 48) : (s.event c o d).mgt.evtBlocks = s.mgt.evtBlocks := (State.event_same s c o d).mgt_evtBlocks
@[simp] theorem State.event_mgt_axlBlocks (s : State) (c o : BitVec 16) (d : BitVec 48) : (s.event c o d).mgt.axlBlocks = s.mgt.axlBlocks := (State.event_same s c o d).mgt_axlBlocks
@[simp] theorem State.event_mgt_evtPages (s : State) (c o : BitVec 16) (d : BitVec 48) : (s.event c o d).mgt.evtPages = s.mgt.evtPages := (State.event_same s c o d).mgt_evtPages
@[simp] theorem State.event_mgt_axlPages (s : State) (c o : BitVec 16) (d : BitVec 48) : (s.event c o d).mgt.axlPages = s.mgt.axlPages := (State.event_same s c o d).mgt_axlPages
@[simp] theorem State.event_mgt_erases (s : State) (c o : BitVec 16) (d : BitVec 48) : (s.event c o d).mgt.erases = s.mgt.erases := (State.event_same s c o d).mgt_erases
@[simp] theorem State.event_mgt_erased (s : State) (c o : BitVec 16) (d : BitVec 48) : (s.event c o d).mgt.erased = s.mgt.erased := (State.event_same s c o d).mgt_erased
@[simp] theorem State.event_mgt_moved (s : State) (c o : BitVec 16) (d : BitVec 48) : (s.event c o d).mgt.moved = s.mgt.moved := (State.event_same s c o d).mgt_moved
@[simp] theorem State.event_mgt_bad (s : State) (c o : BitVec 16) (d : BitVec 48) : (s.event c o d).mgt.bad = s.mgt.bad := (State.event_same s c o d).mgt_bad
@[simp] theorem State.event_mgt_evtRing (s : State) (c o : BitVec 16) (d : BitVec 48) : (s.event c o d).mgt.evtRing = s.mgt.evtRing := (State.event_same s c o d).mgt_evtRing
@[simp] theorem State.event_mgt_axlRing (s : State) (c o : BitVec 16) (d : BitVec 48) : (s.event c o d).mgt.axlRing = s.mgt.axlRing := (State.event_same s c o d).mgt_axlRing
@[simp] theorem State.event_mgt_snaps (s : State) (c o : BitVec 16) (d : BitVec 48) : (s.event c o d).mgt.snaps = s.mgt.snaps := (State.event_same s c o d).mgt_snaps
@[simp] theorem State.event_mgt_snapNow (s : State) (c o : BitVec 16) (d : BitVec 48) : (s.event c o d).mgt.snapNow = s.mgt.snapNow := (State.event_same s c o d).mgt_snapNow
@[simp] theorem State.event_mgt_commissioning (s : State) (c o : BitVec 16) (d : BitVec 48) : (s.event c o d).mgt.commissioning = s.mgt.commissioning := (State.event_same s c o d).mgt_commissioning
@[simp] theorem State.event_mgt_epoch (s : State) (c o : BitVec 16) (d : BitVec 48) : (s.event c o d).mgt.epoch = s.mgt.epoch := (State.event_same s c o d).mgt_epoch
@[simp] theorem State.event_mgt_calendar (s : State) (c o : BitVec 16) (d : BitVec 48) : (s.event c o d).mgt.calendar = s.mgt.calendar := (State.event_same s c o d).mgt_calendar
@[simp] theorem State.event_mgt_ethEnable (s : State) (c o : BitVec 16) (d : BitVec 48) : (s.event c o d).mgt.ethEnable = s.mgt.ethEnable := (State.event_same s c o d).mgt_ethEnable
@[simp] theorem State.event_mgt_loopback (s : State) (c o : BitVec 16) (d : BitVec 48) : (s.event c o d).mgt.loopback = s.mgt.loopback := (State.event_same s c o d).mgt_loopback
@[simp] theorem State.event_mgt_loopNet (s : State) (c o : BitVec 16) (d : BitVec 48) : (s.event c o d).mgt.loopNet = s.mgt.loopNet := (State.event_same s c o d).mgt_loopNet
@[simp] theorem State.event_mgt_loopAt (s : State) (c o : BitVec 16) (d : BitVec 48) : (s.event c o d).mgt.loopAt = s.mgt.loopAt := (State.event_same s c o d).mgt_loopAt
@[simp] theorem State.event_mgt_prefixLen (s : State) (c o : BitVec 16) (d : BitVec 48) : (s.event c o d).mgt.prefixLen = s.mgt.prefixLen := (State.event_same s c o d).mgt_prefixLen
@[simp] theorem State.event_mgt_lbResult (s : State) (c o : BitVec 16) (d : BitVec 48) : (s.event c o d).mgt.lbResult = s.mgt.lbResult := (State.event_same s c o d).mgt_lbResult
@[simp] theorem State.event_mgt_link (s : State) (c o : BitVec 16) (d : BitVec 48) : (s.event c o d).mgt.link = s.mgt.link := (State.event_same s c o d).mgt_link
@[simp] theorem State.event_mgt_ethMode (s : State) (c o : BitVec 16) (d : BitVec 48) : (s.event c o d).mgt.ethMode = s.mgt.ethMode := (State.event_same s c o d).mgt_ethMode
@[simp] theorem State.event_mgt_rxErr (s : State) (c o : BitVec 16) (d : BitVec 48) : (s.event c o d).mgt.rxErr = s.mgt.rxErr := (State.event_same s c o d).mgt_rxErr
@[simp] theorem State.event_mgt_refused (s : State) (c o : BitVec 16) (d : BitVec 48) : (s.event c o d).mgt.refused = s.mgt.refused := (State.event_same s c o d).mgt_refused
@[simp] theorem State.event_mgt_ipv4 (s : State) (c o : BitVec 16) (d : BitVec 48) : (s.event c o d).mgt.ipv4 = s.mgt.ipv4 := (State.event_same s c o d).mgt_ipv4
@[simp] theorem State.event_mgt_gw (s : State) (c o : BitVec 16) (d : BitVec 48) : (s.event c o d).mgt.gw = s.mgt.gw := (State.event_same s c o d).mgt_gw
@[simp] theorem State.event_mgt_fwStore (s : State) (c o : BitVec 16) (d : BitVec 48) : (s.event c o d).mgt.fwStore = s.mgt.fwStore := (State.event_same s c o d).mgt_fwStore
@[simp] theorem State.event_mgt_fwState (s : State) (c o : BitVec 16) (d : BitVec 48) : (s.event c o d).mgt.fwState = s.mgt.fwState := (State.event_same s c o d).mgt_fwState
@[simp] theorem State.event_mgt_fwVital (s : State) (c o : BitVec 16) (d : BitVec 48) : (s.event c o d).mgt.fwVital = s.mgt.fwVital := (State.event_same s c o d).mgt_fwVital
@[simp] theorem State.event_mgt_fwFail (s : State) (c o : BitVec 16) (d : BitVec 48) : (s.event c o d).mgt.fwFail = s.mgt.fwFail := (State.event_same s c o d).mgt_fwFail
@[simp] theorem State.event_mgt_fwLen (s : State) (c o : BitVec 16) (d : BitVec 48) : (s.event c o d).mgt.fwLen = s.mgt.fwLen := (State.event_same s c o d).mgt_fwLen
@[simp] theorem State.event_mgt_fwTotal (s : State) (c o : BitVec 16) (d : BitVec 48) : (s.event c o d).mgt.fwTotal = s.mgt.fwTotal := (State.event_same s c o d).mgt_fwTotal
@[simp] theorem State.event_mgt_fwBytes (s : State) (c o : BitVec 16) (d : BitVec 48) : (s.event c o d).mgt.fwBytes = s.mgt.fwBytes := (State.event_same s c o d).mgt_fwBytes
@[simp] theorem State.event_mgt_fwAt (s : State) (c o : BitVec 16) (d : BitVec 48) : (s.event c o d).mgt.fwAt = s.mgt.fwAt := (State.event_same s c o d).mgt_fwAt
@[simp] theorem State.event_mgt_datagrams (s : State) (c o : BitVec 16) (d : BitVec 48) : (s.event c o d).mgt.datagrams = s.mgt.datagrams := (State.event_same s c o d).mgt_datagrams
@[simp] theorem State.event_mgt_answered (s : State) (c o : BitVec 16) (d : BitVec 48) : (s.event c o d).mgt.answered = s.mgt.answered := (State.event_same s c o d).mgt_answered
@[simp] theorem State.fault_clk (s : State) (c o : Nat) : (s.fault c o).clk = s.clk := (State.fault_same s c o).clk
@[simp] theorem State.fault_lanes (s : State) (c o : Nat) : (s.fault c o).lanes = s.lanes := (State.fault_same s c o).lanes
@[simp] theorem State.fault_retLanes (s : State) (c o : Nat) : (s.fault c o).retLanes = s.retLanes := (State.fault_same s c o).retLanes
@[simp] theorem State.fault_ports (s : State) (c o : Nat) : (s.fault c o).ports = s.ports := (State.fault_same s c o).ports
@[simp] theorem State.fault_rt (s : State) (c o : Nat) : (s.fault c o).rt = s.rt := (State.fault_same s c o).rt
@[simp] theorem State.fault_rtFirst (s : State) (c o : Nat) : (s.fault c o).rtFirst = s.rtFirst := (State.fault_same s c o).rtFirst
@[simp] theorem State.fault_chans (s : State) (c o : Nat) : (s.fault c o).chans = s.chans := (State.fault_same s c o).chans
@[simp] theorem State.fault_banks (s : State) (c o : Nat) : (s.fault c o).banks = s.banks := (State.fault_same s c o).banks
@[simp] theorem State.fault_wdus (s : State) (c o : Nat) : (s.fault c o).wdus = s.wdus := (State.fault_same s c o).wdus
@[simp] theorem State.fault_engines (s : State) (c o : Nat) : (s.fault c o).engines = s.engines := (State.fault_same s c o).engines
@[simp] theorem State.fault_secFault (s : State) (c o : Nat) : (s.fault c o).secFault = s.secFault := (State.fault_same s c o).secFault
@[simp] theorem State.fault_links (s : State) (c o : Nat) : (s.fault c o).links = s.links := (State.fault_same s c o).links
@[simp] theorem State.fault_areas (s : State) (c o : Nat) : (s.fault c o).areas = s.areas := (State.fault_same s c o).areas
@[simp] theorem State.fault_relays (s : State) (c o : Nat) : (s.fault c o).relays = s.relays := (State.fault_same s c o).relays
@[simp] theorem State.fault_rxQueue (s : State) (c o : Nat) : (s.fault c o).rxQueue = s.rxQueue := (State.fault_same s c o).rxQueue
@[simp] theorem State.fault_conflict (s : State) (c o : Nat) : (s.fault c o).conflict = s.conflict := (State.fault_same s c o).conflict
@[simp] theorem State.fault_tbs (s : State) (c o : Nat) : (s.fault c o).tbs = s.tbs := (State.fault_same s c o).tbs
@[simp] theorem State.fault_cmd (s : State) (c o : Nat) : (s.fault c o).cmd = s.cmd := (State.fault_same s c o).cmd
@[simp] theorem State.fault_crc (s : State) (c o : Nat) : (s.fault c o).crc = s.crc := (State.fault_same s c o).crc
@[simp] theorem State.fault_vis (s : State) (c o : Nat) : (s.fault c o).vis = s.vis := (State.fault_same s c o).vis
@[simp] theorem State.fault_vos (s : State) (c o : Nat) : (s.fault c o).vos = s.vos := (State.fault_same s c o).vos
@[simp] theorem State.fault_sup (s : State) (c o : Nat) : (s.fault c o).sup = s.sup := (State.fault_same s c o).sup
@[simp] theorem State.fault_img (s : State) (c o : Nat) : (s.fault c o).img = s.img := (State.fault_same s c o).img
@[simp] theorem State.fault_tst (s : State) (c o : Nat) : (s.fault c o).tst = s.tst := (State.fault_same s c o).tst
@[simp] theorem State.fault_causes (s : State) (c o : Nat) : (s.fault c o).causes = s.causes := (State.fault_same s c o).causes
@[simp] theorem State.fault_begun (s : State) (c o : Nat) : (s.fault c o).begun = s.begun := (State.fault_same s c o).begun
@[simp] theorem State.fault_parked (s : State) (c o : Nat) : (s.fault c o).parked = s.parked := (State.fault_same s c o).parked
@[simp] theorem State.fault_readers (s : State) (c o : Nat) : (s.fault c o).readers = s.readers := (State.fault_same s c o).readers
@[simp] theorem State.fault_eccBad (s : State) (c o : Nat) : (s.fault c o).eccBad = s.eccBad := (State.fault_same s c o).eccBad
@[simp] theorem State.fault_pool (s : State) (c o : Nat) : (s.fault c o).pool = s.pool := (State.fault_same s c o).pool
@[simp] theorem State.fault_hoBuf (s : State) (c o : Nat) : (s.fault c o).hoBuf = s.hoBuf := (State.fault_same s c o).hoBuf
@[simp] theorem State.fault_pending (s : State) (c o : Nat) : (s.fault c o).pending = s.pending := (State.fault_same s c o).pending
@[simp] theorem State.fault_mdl_phase (s : State) (c o : Nat) : (s.fault c o).mdl.phase = s.mdl.phase := (State.fault_same s c o).mdl_phase
@[simp] theorem State.fault_mdl_startStage (s : State) (c o : Nat) : (s.fault c o).mdl.startStage = s.mdl.startStage := (State.fault_same s c o).mdl_startStage
@[simp] theorem State.fault_mdl_startAt (s : State) (c o : Nat) : (s.fault c o).mdl.startAt = s.mdl.startAt := (State.fault_same s c o).mdl_startAt
@[simp] theorem State.fault_mdl_resetCause (s : State) (c o : Nat) : (s.fault c o).mdl.resetCause = s.mdl.resetCause := (State.fault_same s c o).mdl_resetCause
@[simp] theorem State.fault_mdl_resetFaults (s : State) (c o : Nat) : (s.fault c o).mdl.resetFaults = s.mdl.resetFaults := (State.fault_same s c o).mdl_resetFaults
@[simp] theorem State.fault_mdl_irqCrc (s : State) (c o : Nat) : (s.fault c o).mdl.irqCrc = s.mdl.irqCrc := (State.fault_same s c o).mdl_irqCrc
@[simp] theorem State.fault_mdl_irqCheck (s : State) (c o : Nat) : (s.fault c o).mdl.irqCheck = s.mdl.irqCheck := (State.fault_same s c o).mdl_irqCheck
@[simp] theorem State.fault_mdl_btnStuck (s : State) (c o : Nat) : (s.fault c o).mdl.btnStuck = s.mdl.btnStuck := (State.fault_same s c o).mdl_btnStuck
@[simp] theorem State.fault_mdl_btnResets (s : State) (c o : Nat) : (s.fault c o).mdl.btnResets = s.mdl.btnResets := (State.fault_same s c o).mdl_btnResets
@[simp] theorem State.fault_mdl_btnHold (s : State) (c o : Nat) : (s.fault c o).mdl.btnHold = s.mdl.btnHold := (State.fault_same s c o).mdl_btnHold
@[simp] theorem State.fault_mdl_btnHeld (s : State) (c o : Nat) : (s.fault c o).mdl.btnHeld = s.mdl.btnHeld := (State.fault_same s c o).mdl_btnHeld
@[simp] theorem State.fault_mdl_fwMgtFallback (s : State) (c o : Nat) : (s.fault c o).mdl.fwMgtFallback = s.mdl.fwMgtFallback := (State.fault_same s c o).mdl_fwMgtFallback
@[simp] theorem State.fault_mdl_pub (s : State) (c o : Nat) : (s.fault c o).mdl.pub = s.mdl.pub := (State.fault_same s c o).mdl_pub
@[simp] theorem State.fault_mgt_pw (s : State) (c o : Nat) : (s.fault c o).mgt.pw = s.mgt.pw := (State.fault_same s c o).mgt_pw
@[simp] theorem State.fault_mgt_recOk (s : State) (c o : Nat) : (s.fault c o).mgt.recOk = s.mgt.recOk := (State.fault_same s c o).mgt_recOk
@[simp] theorem State.fault_mgt_restartAt (s : State) (c o : Nat) : (s.fault c o).mgt.restartAt = s.mgt.restartAt := (State.fault_same s c o).mgt_restartAt
@[simp] theorem State.fault_mgt_restartWd (s : State) (c o : Nat) : (s.fault c o).mgt.restartWd = s.mgt.restartWd := (State.fault_same s c o).mgt_restartWd
@[simp] theorem State.fault_mgt_bootBad (s : State) (c o : Nat) : (s.fault c o).mgt.bootBad = s.mgt.bootBad := (State.fault_same s c o).mgt_bootBad
@[simp] theorem State.fault_mgt_fwLine (s : State) (c o : Nat) : (s.fault c o).mgt.fwLine = s.mgt.fwLine := (State.fault_same s c o).mgt_fwLine
@[simp] theorem State.fault_mgt_fwRelease (s : State) (c o : Nat) : (s.fault c o).mgt.fwRelease = s.mgt.fwRelease := (State.fault_same s c o).mgt_fwRelease
@[simp] theorem State.fault_mgt_sensorAt (s : State) (c o : Nat) : (s.fault c o).mgt.sensorAt = s.mgt.sensorAt := (State.fault_same s c o).mgt_sensorAt
@[simp] theorem State.fault_mgt_restarts (s : State) (c o : Nat) : (s.fault c o).mgt.restarts = s.mgt.restarts := (State.fault_same s c o).mgt_restarts
@[simp] theorem State.fault_mgt_clients (s : State) (c o : Nat) : (s.fault c o).mgt.clients = s.mgt.clients := (State.fault_same s c o).mgt_clients
@[simp] theorem State.fault_mgt_sessions (s : State) (c o : Nat) : (s.fault c o).mgt.sessions = s.mgt.sessions := (State.fault_same s c o).mgt_sessions
@[simp] theorem State.fault_mgt_tCore (s : State) (c o : Nat) : (s.fault c o).mgt.tCore = s.mgt.tCore := (State.fault_same s c o).mgt_tCore
@[simp] theorem State.fault_mgt_tMgt (s : State) (c o : Nat) : (s.fault c o).mgt.tMgt = s.mgt.tMgt := (State.fault_same s c o).mgt_tMgt
@[simp] theorem State.fault_mgt_tInlet (s : State) (c o : Nat) : (s.fault c o).mgt.tInlet = s.mgt.tInlet := (State.fault_same s c o).mgt_tInlet
@[simp] theorem State.fault_mgt_humidity (s : State) (c o : Nat) : (s.fault c o).mgt.humidity = s.mgt.humidity := (State.fault_same s c o).mgt_humidity
@[simp] theorem State.fault_mgt_wCore (s : State) (c o : Nat) : (s.fault c o).mgt.wCore = s.mgt.wCore := (State.fault_same s c o).mgt_wCore
@[simp] theorem State.fault_mgt_wMgt (s : State) (c o : Nat) : (s.fault c o).mgt.wMgt = s.mgt.wMgt := (State.fault_same s c o).mgt_wMgt
@[simp] theorem State.fault_mgt_wInlet (s : State) (c o : Nat) : (s.fault c o).mgt.wInlet = s.mgt.wInlet := (State.fault_same s c o).mgt_wInlet
@[simp] theorem State.fault_mgt_wHum (s : State) (c o : Nat) : (s.fault c o).mgt.wHum = s.mgt.wHum := (State.fault_same s c o).mgt_wHum
@[simp] theorem State.fault_mgt_power (s : State) (c o : Nat) : (s.fault c o).mgt.power = s.mgt.power := (State.fault_same s c o).mgt_power
@[simp] theorem State.fault_mgt_current (s : State) (c o : Nat) : (s.fault c o).mgt.current = s.mgt.current := (State.fault_same s c o).mgt_current
@[simp] theorem State.fault_mgt_wear (s : State) (c o : Nat) : (s.fault c o).mgt.wear = s.mgt.wear := (State.fault_same s c o).mgt_wear
@[simp] theorem State.fault_mgt_spare (s : State) (c o : Nat) : (s.fault c o).mgt.spare = s.mgt.spare := (State.fault_same s c o).mgt_spare
@[simp] theorem State.fault_mgt_spareLow (s : State) (c o : Nat) : (s.fault c o).mgt.spareLow = s.mgt.spareLow := (State.fault_same s c o).mgt_spareLow
@[simp] theorem State.fault_mgt_evtNext (s : State) (c o : Nat) : (s.fault c o).mgt.evtNext = s.mgt.evtNext := (State.fault_same s c o).mgt_evtNext
@[simp] theorem State.fault_mgt_axlNext (s : State) (c o : Nat) : (s.fault c o).mgt.axlNext = s.mgt.axlNext := (State.fault_same s c o).mgt_axlNext
@[simp] theorem State.fault_mgt_axlEmit (s : State) (c o : Nat) : (s.fault c o).mgt.axlEmit = s.mgt.axlEmit := (State.fault_same s c o).mgt_axlEmit
@[simp] theorem State.fault_mgt_lostAxles (s : State) (c o : Nat) : (s.fault c o).mgt.lostAxles = s.mgt.lostAxles := (State.fault_same s c o).mgt_lostAxles
@[simp] theorem State.fault_mgt_posted (s : State) (c o : Nat) : (s.fault c o).mgt.posted = s.mgt.posted := (State.fault_same s c o).mgt_posted
@[simp] theorem State.fault_mgt_evtBuf (s : State) (c o : Nat) : (s.fault c o).mgt.evtBuf = s.mgt.evtBuf := (State.fault_same s c o).mgt_evtBuf
@[simp] theorem State.fault_mgt_evtBufAt (s : State) (c o : Nat) : (s.fault c o).mgt.evtBufAt = s.mgt.evtBufAt := (State.fault_same s c o).mgt_evtBufAt
@[simp] theorem State.fault_mgt_axlBuf (s : State) (c o : Nat) : (s.fault c o).mgt.axlBuf = s.mgt.axlBuf := (State.fault_same s c o).mgt_axlBuf
@[simp] theorem State.fault_mgt_axlBufAt (s : State) (c o : Nat) : (s.fault c o).mgt.axlBufAt = s.mgt.axlBufAt := (State.fault_same s c o).mgt_axlBufAt
@[simp] theorem State.fault_mgt_evtEpoch (s : State) (c o : Nat) : (s.fault c o).mgt.evtEpoch = s.mgt.evtEpoch := (State.fault_same s c o).mgt_evtEpoch
@[simp] theorem State.fault_mgt_axlEpoch (s : State) (c o : Nat) : (s.fault c o).mgt.axlEpoch = s.mgt.axlEpoch := (State.fault_same s c o).mgt_axlEpoch
@[simp] theorem State.fault_mgt_evtBlocks (s : State) (c o : Nat) : (s.fault c o).mgt.evtBlocks = s.mgt.evtBlocks := (State.fault_same s c o).mgt_evtBlocks
@[simp] theorem State.fault_mgt_axlBlocks (s : State) (c o : Nat) : (s.fault c o).mgt.axlBlocks = s.mgt.axlBlocks := (State.fault_same s c o).mgt_axlBlocks
@[simp] theorem State.fault_mgt_evtPages (s : State) (c o : Nat) : (s.fault c o).mgt.evtPages = s.mgt.evtPages := (State.fault_same s c o).mgt_evtPages
@[simp] theorem State.fault_mgt_axlPages (s : State) (c o : Nat) : (s.fault c o).mgt.axlPages = s.mgt.axlPages := (State.fault_same s c o).mgt_axlPages
@[simp] theorem State.fault_mgt_erases (s : State) (c o : Nat) : (s.fault c o).mgt.erases = s.mgt.erases := (State.fault_same s c o).mgt_erases
@[simp] theorem State.fault_mgt_erased (s : State) (c o : Nat) : (s.fault c o).mgt.erased = s.mgt.erased := (State.fault_same s c o).mgt_erased
@[simp] theorem State.fault_mgt_moved (s : State) (c o : Nat) : (s.fault c o).mgt.moved = s.mgt.moved := (State.fault_same s c o).mgt_moved
@[simp] theorem State.fault_mgt_bad (s : State) (c o : Nat) : (s.fault c o).mgt.bad = s.mgt.bad := (State.fault_same s c o).mgt_bad
@[simp] theorem State.fault_mgt_evtRing (s : State) (c o : Nat) : (s.fault c o).mgt.evtRing = s.mgt.evtRing := (State.fault_same s c o).mgt_evtRing
@[simp] theorem State.fault_mgt_axlRing (s : State) (c o : Nat) : (s.fault c o).mgt.axlRing = s.mgt.axlRing := (State.fault_same s c o).mgt_axlRing
@[simp] theorem State.fault_mgt_snaps (s : State) (c o : Nat) : (s.fault c o).mgt.snaps = s.mgt.snaps := (State.fault_same s c o).mgt_snaps
@[simp] theorem State.fault_mgt_snapNow (s : State) (c o : Nat) : (s.fault c o).mgt.snapNow = s.mgt.snapNow := (State.fault_same s c o).mgt_snapNow
@[simp] theorem State.fault_mgt_commissioning (s : State) (c o : Nat) : (s.fault c o).mgt.commissioning = s.mgt.commissioning := (State.fault_same s c o).mgt_commissioning
@[simp] theorem State.fault_mgt_epoch (s : State) (c o : Nat) : (s.fault c o).mgt.epoch = s.mgt.epoch := (State.fault_same s c o).mgt_epoch
@[simp] theorem State.fault_mgt_calendar (s : State) (c o : Nat) : (s.fault c o).mgt.calendar = s.mgt.calendar := (State.fault_same s c o).mgt_calendar
@[simp] theorem State.fault_mgt_ethEnable (s : State) (c o : Nat) : (s.fault c o).mgt.ethEnable = s.mgt.ethEnable := (State.fault_same s c o).mgt_ethEnable
@[simp] theorem State.fault_mgt_loopback (s : State) (c o : Nat) : (s.fault c o).mgt.loopback = s.mgt.loopback := (State.fault_same s c o).mgt_loopback
@[simp] theorem State.fault_mgt_loopNet (s : State) (c o : Nat) : (s.fault c o).mgt.loopNet = s.mgt.loopNet := (State.fault_same s c o).mgt_loopNet
@[simp] theorem State.fault_mgt_loopAt (s : State) (c o : Nat) : (s.fault c o).mgt.loopAt = s.mgt.loopAt := (State.fault_same s c o).mgt_loopAt
@[simp] theorem State.fault_mgt_prefixLen (s : State) (c o : Nat) : (s.fault c o).mgt.prefixLen = s.mgt.prefixLen := (State.fault_same s c o).mgt_prefixLen
@[simp] theorem State.fault_mgt_lbResult (s : State) (c o : Nat) : (s.fault c o).mgt.lbResult = s.mgt.lbResult := (State.fault_same s c o).mgt_lbResult
@[simp] theorem State.fault_mgt_link (s : State) (c o : Nat) : (s.fault c o).mgt.link = s.mgt.link := (State.fault_same s c o).mgt_link
@[simp] theorem State.fault_mgt_ethMode (s : State) (c o : Nat) : (s.fault c o).mgt.ethMode = s.mgt.ethMode := (State.fault_same s c o).mgt_ethMode
@[simp] theorem State.fault_mgt_rxErr (s : State) (c o : Nat) : (s.fault c o).mgt.rxErr = s.mgt.rxErr := (State.fault_same s c o).mgt_rxErr
@[simp] theorem State.fault_mgt_refused (s : State) (c o : Nat) : (s.fault c o).mgt.refused = s.mgt.refused := (State.fault_same s c o).mgt_refused
@[simp] theorem State.fault_mgt_ipv4 (s : State) (c o : Nat) : (s.fault c o).mgt.ipv4 = s.mgt.ipv4 := (State.fault_same s c o).mgt_ipv4
@[simp] theorem State.fault_mgt_gw (s : State) (c o : Nat) : (s.fault c o).mgt.gw = s.mgt.gw := (State.fault_same s c o).mgt_gw
@[simp] theorem State.fault_mgt_fwStore (s : State) (c o : Nat) : (s.fault c o).mgt.fwStore = s.mgt.fwStore := (State.fault_same s c o).mgt_fwStore
@[simp] theorem State.fault_mgt_fwState (s : State) (c o : Nat) : (s.fault c o).mgt.fwState = s.mgt.fwState := (State.fault_same s c o).mgt_fwState
@[simp] theorem State.fault_mgt_fwVital (s : State) (c o : Nat) : (s.fault c o).mgt.fwVital = s.mgt.fwVital := (State.fault_same s c o).mgt_fwVital
@[simp] theorem State.fault_mgt_fwFail (s : State) (c o : Nat) : (s.fault c o).mgt.fwFail = s.mgt.fwFail := (State.fault_same s c o).mgt_fwFail
@[simp] theorem State.fault_mgt_fwLen (s : State) (c o : Nat) : (s.fault c o).mgt.fwLen = s.mgt.fwLen := (State.fault_same s c o).mgt_fwLen
@[simp] theorem State.fault_mgt_fwTotal (s : State) (c o : Nat) : (s.fault c o).mgt.fwTotal = s.mgt.fwTotal := (State.fault_same s c o).mgt_fwTotal
@[simp] theorem State.fault_mgt_fwBytes (s : State) (c o : Nat) : (s.fault c o).mgt.fwBytes = s.mgt.fwBytes := (State.fault_same s c o).mgt_fwBytes
@[simp] theorem State.fault_mgt_fwAt (s : State) (c o : Nat) : (s.fault c o).mgt.fwAt = s.mgt.fwAt := (State.fault_same s c o).mgt_fwAt
@[simp] theorem State.fault_mgt_datagrams (s : State) (c o : Nat) : (s.fault c o).mgt.datagrams = s.mgt.datagrams := (State.fault_same s c o).mgt_datagrams
@[simp] theorem State.fault_mgt_answered (s : State) (c o : Nat) : (s.fault c o).mgt.answered = s.mgt.answered := (State.fault_same s c o).mgt_answered
@[simp] theorem State.openHold_clk (s : State) (x : Stamp) : (s.openHold x).2.clk = s.clk := (State.openHold_same s x).clk
@[simp] theorem State.openHold_lanes (s : State) (x : Stamp) : (s.openHold x).2.lanes = s.lanes := (State.openHold_same s x).lanes
@[simp] theorem State.openHold_retLanes (s : State) (x : Stamp) : (s.openHold x).2.retLanes = s.retLanes := (State.openHold_same s x).retLanes
@[simp] theorem State.openHold_ports (s : State) (x : Stamp) : (s.openHold x).2.ports = s.ports := (State.openHold_same s x).ports
@[simp] theorem State.openHold_rt (s : State) (x : Stamp) : (s.openHold x).2.rt = s.rt := (State.openHold_same s x).rt
@[simp] theorem State.openHold_rtFirst (s : State) (x : Stamp) : (s.openHold x).2.rtFirst = s.rtFirst := (State.openHold_same s x).rtFirst
@[simp] theorem State.openHold_chans (s : State) (x : Stamp) : (s.openHold x).2.chans = s.chans := (State.openHold_same s x).chans
@[simp] theorem State.openHold_banks (s : State) (x : Stamp) : (s.openHold x).2.banks = s.banks := (State.openHold_same s x).banks
@[simp] theorem State.openHold_wdus (s : State) (x : Stamp) : (s.openHold x).2.wdus = s.wdus := (State.openHold_same s x).wdus
@[simp] theorem State.openHold_engines (s : State) (x : Stamp) : (s.openHold x).2.engines = s.engines := (State.openHold_same s x).engines
@[simp] theorem State.openHold_secFault (s : State) (x : Stamp) : (s.openHold x).2.secFault = s.secFault := (State.openHold_same s x).secFault
@[simp] theorem State.openHold_links (s : State) (x : Stamp) : (s.openHold x).2.links = s.links := (State.openHold_same s x).links
@[simp] theorem State.openHold_areas (s : State) (x : Stamp) : (s.openHold x).2.areas = s.areas := (State.openHold_same s x).areas
@[simp] theorem State.openHold_relays (s : State) (x : Stamp) : (s.openHold x).2.relays = s.relays := (State.openHold_same s x).relays
@[simp] theorem State.openHold_rxQueue (s : State) (x : Stamp) : (s.openHold x).2.rxQueue = s.rxQueue := (State.openHold_same s x).rxQueue
@[simp] theorem State.openHold_conflict (s : State) (x : Stamp) : (s.openHold x).2.conflict = s.conflict := (State.openHold_same s x).conflict
@[simp] theorem State.openHold_tbs (s : State) (x : Stamp) : (s.openHold x).2.tbs = s.tbs := (State.openHold_same s x).tbs
@[simp] theorem State.openHold_cmd (s : State) (x : Stamp) : (s.openHold x).2.cmd = s.cmd := (State.openHold_same s x).cmd
@[simp] theorem State.openHold_crc (s : State) (x : Stamp) : (s.openHold x).2.crc = s.crc := (State.openHold_same s x).crc
@[simp] theorem State.openHold_vis (s : State) (x : Stamp) : (s.openHold x).2.vis = s.vis := (State.openHold_same s x).vis
@[simp] theorem State.openHold_vos (s : State) (x : Stamp) : (s.openHold x).2.vos = s.vos := (State.openHold_same s x).vos
@[simp] theorem State.openHold_sup (s : State) (x : Stamp) : (s.openHold x).2.sup = s.sup := (State.openHold_same s x).sup
@[simp] theorem State.openHold_img (s : State) (x : Stamp) : (s.openHold x).2.img = s.img := (State.openHold_same s x).img
@[simp] theorem State.openHold_tst (s : State) (x : Stamp) : (s.openHold x).2.tst = s.tst := (State.openHold_same s x).tst
@[simp] theorem State.openHold_causes (s : State) (x : Stamp) : (s.openHold x).2.causes = s.causes := (State.openHold_same s x).causes
@[simp] theorem State.openHold_begun (s : State) (x : Stamp) : (s.openHold x).2.begun = s.begun := (State.openHold_same s x).begun
@[simp] theorem State.openHold_parked (s : State) (x : Stamp) : (s.openHold x).2.parked = s.parked := (State.openHold_same s x).parked
@[simp] theorem State.openHold_readers (s : State) (x : Stamp) : (s.openHold x).2.readers = s.readers := (State.openHold_same s x).readers
@[simp] theorem State.openHold_eccBad (s : State) (x : Stamp) : (s.openHold x).2.eccBad = s.eccBad := (State.openHold_same s x).eccBad
@[simp] theorem State.openHold_pool (s : State) (x : Stamp) : (s.openHold x).2.pool = s.pool := (State.openHold_same s x).pool
@[simp] theorem State.openHold_hoBuf (s : State) (x : Stamp) : (s.openHold x).2.hoBuf = s.hoBuf := (State.openHold_same s x).hoBuf
@[simp] theorem State.openHold_pending (s : State) (x : Stamp) : (s.openHold x).2.pending = s.pending := (State.openHold_same s x).pending

/-! ### What logging writes -/

/-- MOD_FAULT_LAST holds the code and the object just logged (R340). -/
theorem State.fault_lastFault (s : State) (c o : Nat) (h5 : c ≠ 0x0605) (h3 : c ≠ 0x0703) (hc : c < 65536)
    (ho : o < 65536) : (s.fault c o).lastFault c o := by
  have hw : (BitVec.ofNat 16 c).setWidth 32 <<< 16 ||| (BitVec.ofNat 16 o).setWidth 32 = BitVec.ofNat 32 (c * 65536 + o) := by
    apply BitVec.eq_of_toNat_eq
    have e1 : c % 65536 = c := Nat.mod_eq_of_lt hc
    have e2 : o % 65536 = o := Nat.mod_eq_of_lt ho
    have e8 : c * 65536 % 4294967296 = c * 65536 := Nat.mod_eq_of_lt (by omega)
    have e4 : (c * 65536 + o) % 4294967296 = c * 65536 + o := Nat.mod_eq_of_lt (by omega)
    have e5 : c <<< 16 ||| o = c <<< 16 + o := by
      rw [← Nat.shiftLeft_add_eq_or_of_lt (i := 16) (by omega) c]
    rw [Nat.shiftLeft_eq] at e5
    have e6 : c % 4294967296 = c := Nat.mod_eq_of_lt (by omega)
    have e7 : o % 4294967296 = o := Nat.mod_eq_of_lt (by omega)
    simp [e1, e2, e4, e5, e6, e7, e8, Nat.shiftLeft_eq]
  simp [State.fault, State.lastFault, State.log, State.logD, h5, h3, hw]

/-- With a free place the entry stands at the tail of the queue (R314). -/
theorem State.event_queue (s : State) (c o : BitVec 16) (d : BitVec 48) (h : s.hasRoom) :
    (s.event c o d).mgt.queue = s.mgt.queue ++ [.event { ts := s.stamp, code := c, obj := o, detail := d }] := by
  simp [State.event, State.flushDropped, State.enqueue, h.1, h.2]

theorem State.fault_queue (s : State) (c o : Nat) (h5 : c ≠ 0x0605) (h3 : c ≠ 0x0703) (h : s.hasRoom) :
    s.queuedLast (s.fault c o) c o := by
  have := State.event_queue s (BitVec.ofNat 16 c) (BitVec.ofNat 16 o) 0 h
  simpa [State.fault, State.queuedLast, State.log, State.logD, h5, h3] using this

/-! ### Events for the engines -/

theorem State.postVi_viPosted (s : State) (ev : ViEv) : s.viPosted (s.postVi ev) ev := by
  intro e; simp [State.postVi, State.postAll]

theorem State.postPoint_pointPosted (s : State) (ev : PointEv) : s.pointPosted (s.postPoint ev) ev := by
  intro e; simp [State.postPoint, State.postAll]

theorem State.postLink_linkPosted (s : State) (ev : LinkEv) : s.linkPosted (s.postLink ev) ev := by
  intro e; simp [State.postLink, State.postAll]

/-! ### Causes of UNPROVEN (R149) -/

/-- A cause that begins holds from then on. -/
theorem State.beginCause_mem (s : State) (x : UCause) : x ∈ (s.beginCause x).causes := by
  unfold State.beginCause
  split
  · rename_i h; simpa using h
  · simp

/-- Beginning a cause changes the causes, their order and the engines' journals alone. -/
theorem State.beginCause_frame (s : State) (x : UCause) :
    s.beginCause x = { s with causes := (s.beginCause x).causes, begun := (s.beginCause x).begun, engines := (s.beginCause x).engines } := by
  unfold State.beginCause
  split <;> rfl

/-- Ending a cause changes the causes and the engines' journals alone. -/
theorem State.endCause_frame (s : State) (x : UCause) :
    s.endCause x = { s with causes := (s.endCause x).causes, engines := (s.endCause x).engines } := by
  unfold State.endCause
  split <;> rfl

end Sys2Proof.Machine
end

