-- ==== Sys2Proof/Laws/Commands.lean ====
section
/-! SUPPORT. The commands of Table 8-8 that their own rows give: what a row runs, and what a command that nothing bars
leaves. -/

namespace Sys2Proof.Machine
open Sys2Proof

/-- A row of an opcode gives its operation. -/
theorem exec_opRow (c : Instr) (w : Who) (o : Op) (ps : List Byte) (s : State) (h : asOp c = some (w, o, ps)) :
    exec c s = opRow w o ps s := by
  cases c <;> simp only [asOp, Option.some.injEq, Prod.mk.injEq, reduceCtorEq] at h <;> (obtain ⟨rfl, rfl, rfl⟩ := h; rfl)

/-- A command whose checks hold acts as one of the test access port. -/
theorem State.runOp_tap {s : State} {c : Cmd} (h : s.precheck c s.snap = none) : s.runOp c s.snap = s.tapRun c := by
  unfold State.runOp State.tapRun
  rw [h]

/-- A command that nothing bars reaches its operation, but for a reset, which a frame of its engine takes. -/
theorem State.giveOp_admits {s : State} {w : Who} {o : Op} {ps : List Byte} (h : s.admits w o ps) (hr : o.asReset = none) :
    s.giveOp w o ps = s.runOp { who := w, op := o, ref := .none } s.snap := by
  obtain ⟨_, h2, h3, h4, h5, h6, h7⟩ := h
  unfold State.giveOp
  dsimp only
  split
  · exact (State.runOp_tap h7).symm
  rw [if_neg (by simp [h2]), if_neg (by rcases h3 with h | h <;> simp [h]), if_neg]
  · cases ho : o.onAdmission
    · simp only [Bool.false_eq_true, if_false]
      split
      · rename_i _ hx
        simp only [hx, Option.isSome_none, Bool.false_eq_true, imp_false] at h6
        exact absurd ho (by simp [h6])
      · rw [if_neg (by simp [hr])]
    · simp only [if_true]
      rw [if_pos (h5 ho)]
  · rcases h4 with h | h
    · cases w <;> simp_all
    · simp [h]

/-- An operation that answers. -/
theorem State.runOp_some {s u : State} {c : Cmd} {k : Snap} {r : Result} (h : s.precheck c k = none)
    (hp : s.perform c k = (u, some r)) : s.runOp c k = u.finish c r := by
  unfold State.runOp
  rw [h]
  simp only [hp]

/-- An operation whose reply comes later. -/
theorem State.runOp_none {s u : State} {c : Cmd} {k : Snap} (h : s.precheck c k = none)
    (hp : s.perform c k = (u, none)) : s.runOp c k = u := by
  unfold State.runOp
  rw [h]
  simp only [hp]

/-- Finishing a command of its own row writes the reply and the log. -/
theorem State.finish_answered (u : State) (w : Who) (o : Op) (r : Result) :
    u.answered (u.finish { who := w, op := o, ref := .none } r) r := by
  unfold State.answered State.finish State.answer
  dsimp only
  split
  · exact State.SameButLog.refl _
  · generalize BitVec.ofNat 48 _ = d
    have h := State.event_same u 0x0002 0xFFFF d
    unfold State.SameButLog at h ⊢
    rw [h]

/-- A command that nothing bars completes and is answered as its operation answers. -/
theorem exec_answered {c : Instr} {w : Who} {o : Op} {ps : List Byte} {s u : State} {r : Result}
    (hc : asOp c = some (w, o, ps)) (h : s.admits w o ps) (hr : o.asReset = none)
    (hp : s.perform { who := w, op := o, ref := .none } s.snap = (u, some r)) :
    ∃ t, exec c s = .next t ∧ u.answered t r := by
  rw [exec_opRow c w o ps s hc]
  refine ⟨_, State.when_true (by simp [h.1]), ?_⟩
  rw [State.giveOp_admits h hr, State.runOp_some h.2.2.2.2.2.2 hp]
  exact State.finish_answered u w o r

/-- A command that nothing bars and whose reply comes later completes with its operation's state. -/
theorem exec_unanswered {c : Instr} {w : Who} {o : Op} {ps : List Byte} {s u : State}
    (hc : asOp c = some (w, o, ps)) (h : s.admits w o ps) (hr : o.asReset = none)
    (hp : s.perform { who := w, op := o, ref := .none } s.snap = (u, none)) : exec c s = .next u := by
  rw [exec_opRow c w o ps s hc]
  unfold opRow
  rw [State.when_true (by simp [h.1]), State.giveOp_admits h hr, State.runOp_none h.2.2.2.2.2.2 hp]

/-- A reset that nothing bars goes to the open frame of the engine that executes it, or waits for its next one. -/
theorem exec_reset {c : Instr} {w : Who} {o : Op} {ps : List Byte} {s : State} {e : Fin 4}
    (hc : asOp c = some (w, o, ps)) (h : s.admits w o ps) (hr : o.asReset.isSome = true) (he : s.executor o = some e) :
    exec c s = .next (s.giveReset { who := w, op := o, ref := .none } e) := by
  have ho : o.onAdmission = false := by cases o <;> simp_all [Op.asReset, Op.onAdmission, Op.code]
  rw [exec_opRow c w o ps s hc]
  obtain ⟨h1, h2, h3, h4, _, _, h7⟩ := h
  unfold opRow
  rw [State.when_true (by simp [h1])]
  unfold State.giveOp
  dsimp only
  rw [if_neg (by cases o <;> simp_all [Op.asReset, Op.isLoopback]), if_neg (by simp [h2]),
    if_neg (by rcases h3 with h | h <;> simp [h]), if_neg]
  · simp only [ho, Bool.false_eq_true, if_false, he]
    rw [if_pos ⟨hr, by simp [h7]⟩]
  · rcases h4 with h | h
    · cases w <;> simp_all
    · simp [h]

end Sys2Proof.Machine
end

