-- ==== Sys2Proof/Laws/Folds.lean ====
section
/-! SUPPORT. What a change of several ports or channels one after the other, and several events in a row, do at once. -/

namespace Sys2Proof.Machine

theorem foldl_modPort (f : Fin 64 → Port → Port) (l : List (Fin 64)) : ∀ s : State,
    l.foldl (fun s n => s.modPort n (f n)) s = { s with ports := l.foldl (fun v n => upd v n (f n)) s.ports } := by
  induction l with
  | nil => intro s; rfl
  | cons a l ih => intro s; simp only [List.foldl_cons]; rw [ih]; rfl

theorem foldl_modChan (f : Fin 128 → Chan → Chan) (l : List (Fin 128)) : ∀ s : State,
    l.foldl (fun s c => s.modChan c (f c)) s = { s with chans := l.foldl (fun v c => upd v c (f c)) s.chans } := by
  induction l with
  | nil => intro s; rfl
  | cons a l ih => intro s; simp only [List.foldl_cons]; rw [ih]; rfl

/-- Inputs that reach a journal one after the other. -/
theorem Engine.post_post (late : Bool) (f g : Journal → Journal) (x : Engine) :
    (x.post late f).post late g = x.post late (fun j => g (f j)) := by
  cases late <;> rfl

theorem State.postPoint_engines (s : State) (ev : PointEv) : (s.postPoint ev).engines =
    s.engines.map (Engine.post s.late (fun j => { j with points := j.points ++ [ev] })) := rfl

/-- Several point events in a row reach the engines' journals one behind the other. -/
theorem foldl_postPoint_engines (ev : Fin 64 → PointEv) (l : List (Fin 64)) : ∀ s : State,
    (l.foldl (fun s n => s.postPoint (ev n)) s).engines =
      s.engines.map (Engine.post s.late (fun j => { j with points := j.points ++ l.map ev })) := by
  induction l with
  | nil =>
    intro s
    have h : Engine.post s.late (fun j : Journal => { j with points := j.points ++ [] }) = id := by
      funext g; cases s.late <;> simp only [Engine.post, List.append_nil, if_true, Bool.false_eq_true, if_false] <;> rfl
    rw [List.foldl_nil, List.map_nil, h, Vector.map_id]
  | cons a l ih =>
    intro s
    rw [List.foldl_cons, ih, State.late_congr (s := s) (State.postPoint_clk s (ev a)), State.postPoint_engines, Vector.map_map]
    refine congrArg (fun f => Vector.map f s.engines) (funext fun g => ?_)
    rw [Function.comp_apply, Engine.post_post]
    simp only [List.append_assoc, List.singleton_append, List.map_cons]

/-- They change the engines and the order of the causes alone. -/
theorem foldl_postPoint_frame (ev : Fin 64 → PointEv) (l : List (Fin 64)) : ∀ s : State,
    ∃ b, l.foldl (fun s n => s.postPoint (ev n)) s =
      { s with engines := (l.foldl (fun s n => s.postPoint (ev n)) s).engines, begun := b } := by
  induction l with
  | nil => intro s; exact ⟨s.begun, rfl⟩
  | cons a l ih =>
    intro s
    obtain ⟨b, h⟩ := ih (s.postPoint (ev a))
    exact ⟨b, by simp only [List.foldl_cons]; rw [h]; rfl⟩

theorem foldl_modPort_get (f : Fin 64 → Port → Port) (l : List (Fin 64)) (h : l.Nodup) (s : State) (n : Fin 64) :
    (l.foldl (fun s n => s.modPort n (f n)) s).ports[n] = if n ∈ l then f n s.ports[n] else s.ports[n] := by
  rw [foldl_modPort]; exact foldl_upd_get f n l s.ports h

theorem foldl_modChan_get (f : Fin 128 → Chan → Chan) (l : List (Fin 128)) (h : l.Nodup) (s : State) (c : Fin 128) :
    (l.foldl (fun s c => s.modChan c (f c)) s).chans[c] = if c ∈ l then f c s.chans[c] else s.chans[c] := by
  rw [foldl_modChan]; exact foldl_upd_get f c l s.chans h

theorem laneChans_nodup (k : Fin 8) : (laneChans k).Nodup := by
  unfold laneChans
  refine List.Nodup.map ?_ (allFin_nodup 16)
  intro a b h
  simp only [Fin.mk.injEq] at h
  exact Fin.ext (by omega)

@[simp] theorem mem_laneChans (k : Fin 8) (c : Fin 128) : c ∈ laneChans k ↔ c.val / 16 = k.val := by
  unfold laneChans
  simp only [List.mem_map]
  constructor
  · rintro ⟨i, _, rfl⟩; simp only; omega
  · intro h
    exact ⟨⟨c.val % 16, by omega⟩, mem_allFin _, Fin.ext (by simp only; omega)⟩

theorem lanePorts_nodup (k : Fin 8) : (lanePorts k).Nodup := by
  unfold lanePorts
  refine List.Nodup.map ?_ (allFin_nodup 8)
  intro a b h
  simp only [portOfLane, Fin.mk.injEq] at h
  exact Fin.ext (by omega)

@[simp] theorem mem_lanePorts (k : Fin 8) (n : Fin 64) : n ∈ lanePorts k ↔ laneOfPort n = k := by
  unfold lanePorts laneOfPort
  simp only [List.mem_map, Fin.ext_iff]
  constructor
  · rintro ⟨j, _, h⟩; simp only [portOfLane] at h; omega
  · intro h
    exact ⟨⟨n.val % 8, by omega⟩, mem_allFin _, by simp only [portOfLane]; omega⟩

theorem retPorts_nodup (r : Fin 2) : (retPorts r).Nodup := (allFin_nodup 64).filter _

@[simp] theorem mem_retPorts (r : Fin 2) (n : Fin 64) : n ∈ retPorts r ↔ n.val / 32 = r.val := by
  simp [retPorts, retOfPort, Fin.ext_iff]

end Sys2Proof.Machine
end

