-- ==== Sys2Proof/Laws/Memory.lean ====
section
/-! SUPPORT. The laws of the addressed buffers: every operation keeps the canonical form, a byte reads as written, and a
write leaves every other address alone. -/

namespace Sys2Proof.Machine

/-- Every address of a memory lies above `x`. -/
def Memory.above (x : Nat) (m : Memory) : Prop := ∀ c ∈ m, x < c.1

theorem Memory.wf_cons {a : Nat} {b : Byte} {m : Memory} :
    Memory.wf ((a, b) :: m) = true ↔ Memory.above a m ∧ Memory.wf m = true := by
  induction m generalizing a b with
  | nil => simp [Memory.wf, Memory.above]
  | cons c rest ih =>
    obtain ⟨x, y⟩ := c
    have ih' := @ih x y
    simp only [Memory.wf, Bool.and_eq_true, decide_eq_true_eq, Memory.above, List.mem_cons, forall_eq_or_imp] at *
    constructor
    · rintro ⟨h, k⟩
      exact ⟨⟨h, fun c hc => Nat.lt_trans h ((ih'.1 k).1 c hc)⟩, k⟩
    · rintro ⟨⟨h, _⟩, k⟩
      exact ⟨h, k⟩

theorem Memory.above_write {x y : Nat} {v : Byte} {m : Memory} (h : Memory.above x m) (hy : x < y) :
    Memory.above x (Memory.write m y v) := by
  induction m with
  | nil => simpa [Memory.write, Memory.above] using hy
  | cons c rest ih =>
    obtain ⟨a, b⟩ := c
    have ha : x < a := h (a, b) (by simp)
    have hr : Memory.above x rest := fun c hc => h c (by simp [hc])
    unfold Memory.write
    split
    · intro c hc
      rcases List.mem_cons.1 hc with rfl | hc
      · exact hy
      · exact h c hc
    · split
      · intro c hc
        rcases List.mem_cons.1 hc with rfl | hc
        · exact hy
        · exact hr c hc
      · intro c hc
        rcases List.mem_cons.1 hc with rfl | hc
        · exact ha
        · exact ih hr c hc

/-- A write keeps the canonical form. -/
theorem Memory.wf_write {m : Memory} (x : Nat) (v : Byte) (h : Memory.wf m = true) :
    Memory.wf (Memory.write m x v) = true := by
  induction m with
  | nil => rfl
  | cons c rest ih =>
    obtain ⟨a, b⟩ := c
    obtain ⟨h1, h2⟩ := Memory.wf_cons.1 h
    unfold Memory.write
    split
    · rename_i hx
      refine Memory.wf_cons.2 ⟨?_, h⟩
      intro c hc
      rcases List.mem_cons.1 hc with rfl | hc
      · exact hx
      · exact Nat.lt_trans hx (h1 c hc)
    · split
      · rename_i hx
        exact Memory.wf_cons.2 ⟨hx ▸ h1, h2⟩
      · exact Memory.wf_cons.2 ⟨Memory.above_write h1 (by omega), ih h2⟩

theorem Memory.wf_writeBytes (m : Memory) (x : Nat) (vs : List Byte) (h : Memory.wf m = true) :
    Memory.wf (Memory.writeBytes m x vs) = true := by
  induction vs generalizing m x with
  | nil => exact h
  | cons v vs ih => exact ih _ _ (Memory.wf_write x v h)

/-- The byte just written reads as written. -/
@[simp] theorem Memory.read_write_same (m : Memory) (x : Nat) (v : Byte) :
    Memory.read (Memory.write m x v) x = some v := by
  induction m with
  | nil => simp [Memory.write, Memory.read]
  | cons c rest ih =>
    obtain ⟨a, b⟩ := c
    unfold Memory.write
    split
    · simp [Memory.read]
    · split
      · simp [Memory.read]
      · have : a ≠ x := by omega
        simpa [Memory.read, this] using ih

/-- A write leaves every other address alone. -/
theorem Memory.read_write_ne (m : Memory) (x y : Nat) (v : Byte) (h : y ≠ x) :
    Memory.read (Memory.write m x v) y = Memory.read m y := by
  induction m with
  | nil => simp [Memory.write, Memory.read, Ne.symm h]
  | cons c rest ih =>
    obtain ⟨a, b⟩ := c
    unfold Memory.write
    split
    · simp [Memory.read, Ne.symm h]
    · split
      · rename_i hx
        simp [Memory.read, ← hx, Ne.symm h]
      · simp [Memory.read, ih]

/-- A write of consecutive bytes leaves the addresses outside them alone. -/
theorem Memory.read_writeBytes_out (m : Memory) (x y : Nat) (vs : List Byte) (h : y < x ∨ x + vs.length ≤ y) :
    Memory.read (Memory.writeBytes m x vs) y = Memory.read m y := by
  induction vs generalizing m x with
  | nil => rfl
  | cons v vs ih =>
    simp only [List.length_cons] at h
    rw [Memory.writeBytes, ih _ _ (by omega), Memory.read_write_ne _ _ _ _ (by omega)]

/-- Consecutive bytes read as written. -/
theorem Memory.read_writeBytes_in (m : Memory) (x i : Nat) (vs : List Byte) (h : i < vs.length) :
    Memory.read (Memory.writeBytes m x vs) (x + i) = some vs[i] := by
  induction vs generalizing m x i with
  | nil => simp at h
  | cons v vs ih =>
    cases i with
    | zero =>
      rw [Memory.writeBytes, Memory.read_writeBytes_out _ _ _ _ (by omega)]
      simp
    | succ i =>
      have := ih (Memory.write m x v) (x + 1) i (by simpa using h)
      rw [Memory.writeBytes, show x + (i + 1) = x + 1 + i by omega, this]
      rfl

end Sys2Proof.Machine
end

