-- ==== Sys2Proof/WellFormed.lean ====
section
/-! DEFINITION. The operands that an event of this hardware can have. -/

namespace Sys2Proof
open Sys2Proof.Machine

/-- A packet has at most 16 + 240 + 4 bytes (Table 8-1); less is a packet that the trailer check refuses (R228). -/
def Machine.PacketSrc.wellFormed : PacketSrc → Bool
  | .waiting => true
  | .direct _ bytes => decide (bytes.length ≤ 260)

/-- The lists that a command carries have the length that the hardware gives them: 1,536 words of a superframe (R77), at most
3,072 modulator bits between two output instants (two frames), 256 bytes of a frame (R187), at most 260 of a packet. Every
other operand is an event at every value of its type. -/
def Instr.wellFormed (i : Instr) : Bool :=
  match i with
  | .moduleResetRelease _ _ _ => true
  | .startFieldStep _ => true
  | .startSequenceEnd _ => true
  | .tick _ => true
  | .pendingExitExpiry _ => true
  | .frameCommit _ _ => true
  | .frameFailure _ k p _ => decide (p < k.places)
  | .tokenExpiry _ => true
  | .handoverFrame => true
  | .handoverSwitch => true
  | .splitSlotsStart _ => true
  | .debugKeyEnd => true
  | .eccScrub _ _ => true
  | .referenceAbsent _ => true
  | .rootPllOutOfLock _ => true
  | .tickPeriodFault _ => true
  | .timeBaseStep => true
  | .timeBaseExtLoad => true
  | .laneSuperframe _ ws => decide (ws.length = 1536)
  | .laneResyncTimeout _ _ => true
  | .laneReturnSyncReset _ => true
  | .returnLaneFailure _ _ => true
  | .returnLaneTimeout _ _ => true
  | .returnLaneRestored _ _ => true
  | .supplyRampEnd _ _ => true
  | .sarConversion _ => true
  | .loopConditionDetected _ _ _ => true
  | .pointFailureEnd _ _ => true
  | .codePeriodEnd => true
  | .portTestEligible _ _ => true
  | .runtimeTestStart _ => true
  | .runtimeTestWindowOpen _ => true
  | .runtimeTestSinkStep _ => true
  | .runtimeTestSinkOff _ => true
  | .runtimeTestSettle _ => true
  | .runtimeTestComplete _ => true
  | .runtimeTestCs2Start _ => true
  | .runtimeTestOverdue _ _ => true
  | .surgeDetected _ _ _ => true
  | .surgeEnd _ _ => true
  | .surgeLong _ _ => true
  | .lb0Step _ _ => true
  | .lb1Step _ _ => true
  | .portLoopbackEnd _ _ => true
  | .modulatorOverload _ _ => true
  | .outputSample _ words => decide (words.length ≤ 3072)
  | .saturationEnd _ _ => true
  | .fadeComplete _ => true
  | .scmFillEnd _ _ => true
  | .scmChangeover _ _ => true
  | .syncResetSettled _ => true
  | .lb2PhaseChange _ _ => true
  | .lb2End _ _ => true
  | .lb3Run _ _ => true
  | .lb3End _ _ => true
  | .laneEchoEnd _ _ => true
  | .pairedSample _ => true
  | .negativeDampingTimeout _ _ _ => true
  | .activeHoldEnd _ _ => true
  | .axleRecordDelivered _ => true
  | .linkSyncAcquired _ _ _ => true
  | .linkSyncLoss _ _ _ => true
  | .linkSlotStart _ => true
  | .frameReceived _ _ _ _ bytes => decide (bytes.length = 256)
  | .streamPeriodEnd _ _ => true
  | .holdoverExpiry _ => true
  | .voteWindowEnd _ => true
  | .lbaEnd _ _ _ _ _ => true
  | .lbfRun _ _ _ _ => true
  | .lbfNoSlot _ _ => true
  | .lbrRequestTimeout _ _ => true
  | .lbrLoopStart _ _ => true
  | .lbrEnd _ _ _ _ => true
  | .commandPacket _ p => p.wellFormed
  | .getStatus _ => true
  | .getSection _ _ => true
  | .getAxles _ _ _ _ _ => true
  | .resetDirect _ _ => true
  | .resetPreparatory _ _ => true
  | .resetCancel _ _ => true
  | .faultAck _ _ => true
  | .cfgBegin _ _ => true
  | .cfgBlock _ _ _ => true
  | .cfgEnd _ _ => true
  | .cfgVerificationEnd _ _ => true
  | .cfgConfirm _ _ => true
  | .imageActivation => true
  | .cfgRevertDiscard _ => true
  | .cfgRevertPrevious _ => true
  | .stagedImageExpiry _ => true
  | .bankLoad _ _ _ _ => true
  | .bankLoadClose _ _ _ => true
  | .bankSwap _ _ _ _ => true
  | .presetSelect _ _ _ _ _ => true
  | .syncReset _ _ _ => true
  | .engineSplit _ _ _ => true
  | .engineJoin _ _ => true
  | .debugAttach _ _ => true
  | .debugDetach _ _ => true
  | .selftestShutdown _ _ => true
  | .selftestPort _ _ => true
  | .loopbackSetLb0 _ _ => true
  | .loopbackSetLb1 _ _ => true
  | .loopbackSetLb2 _ _ => true
  | .loopbackSetLb3 _ _ => true
  | .loopbackSetEcho _ _ => true
  | .loopbackSetLba _ _ => true
  | .loopbackSetLbf _ _ => true
  | .loopbackSetLbr _ _ => true
  | .timebaseStatus _ => true
  | .logRead _ _ _ _ => true
  | .fwStage _ _ _ => true
  | .fwStageClose _ _ => true
  | .fwStageVerifyEnd _ _ _ _ => true
  | .fwActivate _ _ => true
  | .firmwareActivation => true
  | .crcStart _ => true
  | .crcData _ _ => true
  | .crcDataB _ _ => true
  | .crcFinish _ => true
  | .inputRead _ _ => true
  | .feedGap => true
  | .discrepancyTimeout _ _ => true
  | .discrepantEnd _ _ => true
  | .stuckDeclaration _ _ => true
  | .evaluatorFault _ => true
  | .evaluatorFaultEnd _ _ => true
  | .feedFaultEnd _ => true
  | .pressReportEnd _ _ => true
  | .outputReadbackFault _ _ => true
  | .overcurrentTrip _ _ => true
  | .overcurrentTripEnd _ _ => true
  | .offPulseTestStart _ => true
  | .offPulseWindowClose _ _ => true
  | .offPulseCheck _ _ => true
  | .restartButtonPress _ => true
  | .restartButtonRelease _ => true
  | .railWarning _ _ _ _ => true
  | .railRecovering _ _ _ => true
  | .railNormal _ _ => true
  | .logicRailReset _ _ _ => true
  | .fieldBusCutoff _ _ => true
  | .cutoffRelease _ _ => true
  | .portStage _ => true
  | .fieldReadingDeviation _ _ => true
  | .inputLow => true
  | .testSegmentEnd _ _ => true
  | .selftestFirstSegment _ => true
  | .testPauseEnd _ => true
  | .pewterWatchdog _ => true
  | .pewterRestartComplete _ => true
  | .sensorSample _ _ _ _ _ => true
  | .sensorWarning _ _ => true
  | .sensorWarningEnd _ _ => true
  | .recorderPageWrite _ _ _ => true
  | .axleEntryWritten _ => true
  | .holdCopy _ _ => true
  | .mgtCommand _ _ bytes => decide (bytes.length ≤ 260)
  | .sessionOpen _ _ => true
  | .sessionClose _ _ _ => true
  | .recorderRead _ _ _ => true
  | .clockSet _ _ _ => true
  | .hold _ _ _ => true
  | .release _ _ _ => true
  | .fwRestart _ _ _ => true
  | .netSet _ _ _ _ _ => true
  | .clientTimeout _ _ => true
  | .sessionTimeout _ _ => true
  | .ethLoopbackMac _ _ => true
  | .ethLoopbackPhy _ _ => true
  | .ethLoopbackEnd _ _ => true
  | .cenSlotWrite _ _ => true
  | .rcRead _ _ _ => true
  | .latchingRead _ _ => true
  | .w1cWrite _ _ _ => true
  | .registerWrite _ _ _ => true
  | .unalignedAccess _ _ _ _ => true
  | .tapInstruction _ _ => true
  | .laneWordFault _ _ _ => true
  | .outputReadbackSample _ _ _ _ => true
  | .powerOn _ => true
  | .ethernetFrame _ _ => true
  | .ethernetLinkChange _ _ => true
  | .selftestAbortComplete _ => true

end Sys2Proof
end

