-- ==== Sys2Proof/Tests/Slice0.lean ====
section
/-! SUPPORT. Tests: the operands that the well-formedness check refuses, small runs of single commands whose results follow
from the manual's words, and for every obligation with hypotheses a witness: states and operands that meet all the
hypotheses of each of its clauses. -/

namespace Sys2Proof.Tests
open Sys2Proof Sys2Proof.Machine

-- One proof at a time: the witnesses' kernel computations take memory.
set_option Elab.async false

/-! ### States -/

/-- A module in service at the instant 10^14 ns, which is a tick with number 0 mod 4,000; no image is active. -/
def svc : State := { State.reset with
  clk := { elapsed := 100000000000000, tickTb := 100000000000000, tickAt := 100000000000000 }
  mdl := { phase := .service }
  tst := { state := .service }
  mgt := { pw := .running, recOk := true, link := true, ethMode := 2 }
  causes := [] }

/-- A section of two points of module 5, of which point 0 enters on direction 10b. -/
def sec0 : SecDef := { idx := 0, cfg := 0x05000001, tol := 0, plaus := 0, members := [⟨5, 0, true⟩, ⟨5, 1, false⟩] }

/-- Module address 5; ports, inputs, engines and links in service; a received AREA stream on link 3 from module 6. -/
def cfg0 : Cfg := { Cfg.reset with
  modAddr := 5
  prtCfg := Vector.replicate 64 0x8000008C
  cenCfg := Vector.replicate 4 0xC0000000
  lnkCfg := Vector.replicate 8 0x80301400
  viCfg := Vector.replicate 8 0x40000064
  secs := [sec0]
  streams := [⟨true, 3, 6, false, 1, 0⟩] }

/-- The same in service with an active image, keys accepted, and engines that run with live tokens. -/
def srv : State := { svc with
  img := { active := some ⟨[], cfg0, 7⟩ }
  engines := Vector.replicate 4 { mode := .run, frame := 100, token := true, tokenUntil := 1000,
                                  published := { frame := 99, secs := [{ idx := 0 }] } }
  areas := [{}]
  vis := Vector.replicate 8 { state := .active } }

/-- `srv` whose section 0 is published as `x`. -/
def srvSec (x : Sec) : State := srv.modEngine 0 (fun g => { g with published := { frame := 99, secs := [x] } })

def ep0 : Endpoint := ⟨0xC0A80A01, 5000⟩

/-- `srvSec x` whose engine 0 runs a frame that processes one journal. -/
def srvRun (x : Sec) : State := (srvSec x).modEngine 0 (fun g => { g with
  committed := { frame := 99, secs := [x] }, work := some { img := { frame := 99, secs := [x] } }, sampled := [{}] })

/-- `srv` with a session of `ep0`. -/
def srvEp : State := { srv with mgt := { srv.mgt with sessions := [⟨0, ep0, 0⟩] } }

/-- A frame of 256 bytes: its head, SC, HOPS and CRC. -/
def frame (head : List Byte) (sc : Nat) (hops : Byte) (crc : Nat) : List Byte :=
  padTo 244 head ++ toBytes 4 sc ++ [hops, 0, 0, 0] ++ toBytes 4 crc

/-- The head of a frame: version, type, SRC, DST, SEQ; TX_TS is 77. -/
def head (ver ty : Byte) (src dst seq : Nat) : List Byte :=
  [0, ver, ty, 0] ++ toBytes 2 src ++ toBytes 2 dst ++ toBytes 4 seq ++ toBytes 6 77

/-- A null COMMAND frame of lane 0 to module 5. -/
def frA : List Byte := frame (head 1 5 0xA005 5 9) 1270255043 0 64835031
def frHops : List Byte := frame (head 1 5 0xA005 5 9) 1270255043 32 3573045596
def frSc : List Byte := frame (head 1 5 0xA005 5 9) 0 0 2434863705
def frVer : List Byte := frame (head 0 5 0xA005 5 9) 1247851247 0 3731242042
def frOwn : List Byte := frame (head 1 5 5 5 9) 3807032758 0 4047308537
def frFar : List Byte := frame (head 1 5 7 5 9) 1144574431 0 4255602413
def frBack : List Byte := frame (head 1 5 5 6 9) 0 0 3001005179
def frDst6 : List Byte := frame (head 1 5 0xA005 6 9) 3988095061 0 3453014415

/-- `srv` with link 0 in sync. -/
def srvLk : State := srv.modLink 0 (fun l => { l with sync := true })

/-- A packet: OPCODE, FLAGS, SOURCE, SEQ, parameters and trailer. -/
def packet (op fl : Byte) (src seq : Nat) (ps : List Byte) (crc : Nat) : List Byte :=
  [1, op, 3, fl] ++ toBytes 2 src ++ toBytes 2 seq ++ toBytes 4 0 ++ toBytes 2 ps.length ++ [0, 0] ++ ps ++ toBytes 4 crc

/-- GET_STATUS of lane 0, the same with a reserved flag, and SYNC_RESET of lane 0. -/
def pkA : List Byte := packet 0x01 0 0x1000 7 [] 4122117078
def pkFlag : List Byte := packet 0x01 1 0x1000 7 [] 3311451059
def pkSync : List Byte := packet 0x33 0 0x1000 7 [0, 0, 0, 0] 2813071807
def waiting (path : Path) (bs : List Byte) : State :=
  { srv with cmd := { inbox := [{ path := path, bytes := bs, exempt := false, at' := 0 }] } }
def tag0 : TagEntry := { id := 0, header := pkA.take 16, path := .lane 0 }

/-- A superframe of empty overhead that a tick 0 opened: SYNC E4B8h and 0; CRC-16 of 24 zero bytes is EF8Ah. -/
def superframe : List (BitVec 20) :=
  (List.range 1536).map (fun i =>
    let y := decide (i < 16) && natBit 0xE4B8 (15 - i)
    let t := decide (64 ≤ i ∧ i < 80) && natBit 0xEF8A (79 - i)
    BitVec.ofNat 20 (b2n y * 0x80000 + b2n t * 0x20000 + b2n (y ^^ t) * 0x10000))

def wdu0 : WduCfg :=
  { m := 12, spacing := 140, posMin := 150, on1 := 450, off1 := 300, on2 := 450, off2 := 300, dpt := 0, point := 0, modAddr := 5 }

/-- A trajectory from CS1 to CS2 whose next sample commits it. -/
def ctx0 : Ctx :=
  { phase := .track, q := 2, region := .far, lastRegion := .mid, nearSeen := true, x0 := some 5000000, inst := 554400000000
    c1 := { s := true, d := 310, valid := true, on := 1000000, peak := 800 }
    c2 := { s := true, d := 800, valid := true, on := 7000000, peak := 800 } }

/-- A run-time test of port 0 in a stage. -/
def rt0 (g : RtStage) : RunTest := { port := 0, stage := g, origin := 0, mark := 0 }
def srvRt (r : RunTest) : State := { srv with rt := some r }

/-- One item of an image: type, index and content. -/
def encItem (p : Nat × Nat × List Byte) : List Byte :=
  toBytes 2 p.1 ++ toBytes 2 p.2.1 ++ toBytes 4 p.2.2.length ++ p.2.2

def run (ty n : Nat) (ws : List Nat) : List (Nat × Nat × List Byte) :=
  (List.range n).map (fun i => (ty, i, ws.flatMap (toBytes 4)))

/-- The mandatory items of Table 10-3 with every object out of service; the module is the root. -/
def itemsOf0 : List (Nat × Nat × List Byte) :=
  run 0x10 64 [0, 0] ++ run 0x20 128 [0x2C030064, 0] ++ run 0x28 2 (List.replicate 193 0) ++
    run 0x30 64 [0x008C1B58, 0x00961B58, 0x01C2012C, 0x01C2012C] ++ run 0x40 4 [0] ++ run 0x60 8 [0x1400, 0] ++
    run 0x61 1 [0] ++ run 0x68 1 [0x80000000] ++ run 0x70 8 [0x64] ++ run 0x71 8 [0]

/-- The smallest canonical image: module 5, serial number 1. -/
def image0 : List Byte :=
  (toBytes 2 0x5443 ++ [1, 0] ++ toBytes 4 6624 ++ toBytes 2 5 ++ toBytes 2 0x0040 ++ [0, 4] ++ toBytes 2 288 ++
    toBytes 8 1 ++ List.replicate 40 0) ++ itemsOf0.flatMap encItem

/-- Items with their places. -/
def place : Nat → List (Nat × Nat × List Byte) → List Item
  | _, [] => []
  | off, p :: t => ⟨off, p.1, p.2.1, p.2.2⟩ :: place (off + 8 + p.2.2.length) t

def items0 : List Item := place 64 itemsOf0

theorem readItems_enc : ∀ (l : List (Nat × Nat × List Byte)) (off : Nat),
    (∀ p ∈ l, p.1 < 65536 ∧ p.2.1 < 65536 ∧ p.2.2.length < 2 ^ 32) →
    readItems l.length off (l.flatMap encItem) = (place off l, [], none) := by
  have byte : ∀ v : Nat, v % 2 ^ 8 = v % 256 := fun v => rfl
  intro l
  induction l with
  | nil => intro off _; rfl
  | cons p t ih =>
    intro off h
    obtain ⟨h1, h2, h3⟩ := h p (by simp)
    have e : (p :: t).flatMap encItem = toBytes 2 p.1 ++ (toBytes 2 p.2.1 ++ (toBytes 4 p.2.2.length ++ (p.2.2 ++ t.flatMap encItem))) := by
      simp [encItem]
    have b0 : bytesAt ((p :: t).flatMap encItem) 0 2 = p.1 := by
      rw [e]; simp [bytesAt, toBytes, ofBytes]; omega
    have b2 : bytesAt ((p :: t).flatMap encItem) 2 2 = p.2.1 := by
      rw [e]; simp [bytesAt, toBytes, ofBytes]; omega
    have b4 : bytesAt ((p :: t).flatMap encItem) 4 4 = p.2.2.length := by
      rw [e]; simp [bytesAt, toBytes, ofBytes]; omega
    have d8 : ((p :: t).flatMap encItem).drop 8 = p.2.2 ++ t.flatMap encItem := by
      rw [e]; simp [toBytes]
    have n : ((p :: t).flatMap encItem).length = 8 + p.2.2.length + (t.flatMap encItem).length := by
      rw [e]; simp [toBytes]; omega
    show readItems (t.length + 1) off _ = _
    unfold readItems
    rw [b0, b2, b4]
    rw [if_neg (by omega)]
    have d : ((p :: t).flatMap encItem).drop (8 + p.2.2.length) = t.flatMap encItem := by
      rw [← List.drop_drop, d8]; simp
    rw [d, d8, ih (off + 8 + p.2.2.length) (fun q hq => h q (by simp [hq]))]
    simp [place]

theorem image0_length : image0.length = 6624 := by
  have h : ∀ l : List (Nat × Nat × List Byte), (l.flatMap encItem).length = (l.map (fun p => 8 + p.2.2.length)).sum := by
    intro l
    induction l with
    | nil => rfl
    | cons p t ih => rw [List.flatMap_cons, List.length_append, ih]; simp [encItem, toBytes]; omega
  unfold image0
  rw [List.length_append, h]
  decide +kernel

theorem image0_items : parseImage image0 = .inl items0 := by
  have h : headerBad image0.length image0 = none := by rw [image0_length]; decide +kernel
  have d : image0.drop 64 = itemsOf0.flatMap encItem := List.drop_left' rfl
  have n : bytesAt image0 14 2 = itemsOf0.length := by decide +kernel
  have r := readItems_enc itemsOf0 64 (by decide +kernel)
  unfold parseImage
  rw [h, n, d]
  simp only [r]
  have o : firstDisorder (place 64 itemsOf0) = none := by decide +kernel
  have f : (place 64 itemsOf0).find? (fun i => !(i.formOk && i.idleOk (place 64 itemsOf0))) = none := by decide +kernel
  have c : countsOk (place 64 itemsOf0) = true := by decide +kernel
  rw [o, f, c]
  rfl

theorem image0_identity : identityBad 4 image0 = none := by
  have a : bytesAt image0 10 2 = Config.orderCode.toNat := by decide +kernel
  have b : bytesAt image0 12 1 = 0 := by decide +kernel
  have c : byteAt image0 13 = 4 := by decide +kernel
  simp [identityBad, a, b, c]

theorem image0_limits : firstBreak (cfgOf image0 items0) items0 = none := by decide +kernel

theorem readBytes_writeBytes (bs : List Byte) (n : Nat) (h : n = bs.length) :
    Memory.readBytes (Memory.writeBytes [] 0 bs) 0 n = some bs := by
  subst h
  have h : ∀ i ∈ List.range bs.length, Memory.read (Memory.writeBytes [] 0 bs) (0 + i) = some (bs.getD i 0) := by
    intro i hi
    rw [List.mem_range] at hi
    rw [Memory.read_writeBytes_in [] 0 i bs hi]
    simp [hi]
  have g : ∀ l : List Nat, (∀ i ∈ l, Memory.read (Memory.writeBytes [] 0 bs) (0 + i) = some (bs.getD i 0)) →
      l.mapM (fun i => Memory.read (Memory.writeBytes [] 0 bs) (0 + i)) = some (l.map (fun i => bs.getD i 0)) := by
    intro l
    induction l with
    | nil => intro _; rfl
    | cons a t ih =>
      intro hl
      rw [List.mapM_cons, hl a (by simp), ih (fun i hi => hl i (by simp [hi]))]
      rfl
  show (List.range bs.length).mapM _ = _
  rw [g _ h]
  congr 1
  apply List.ext_getElem
  · simp
  · intro i h1 h2
    simp [h2]

/-- A continuation on a number that has been evaluated. -/
def onValue {α : Type} (n : Nat) (f : Nat → α) : α :=
  match n with
  | 0 => f 0
  | m + 1 => f (m + 1)

/-- CRC-32C byte by byte, each byte's value evaluated before the next. -/
def crcGo : List Byte → Nat → Nat
  | [], a => a
  | b :: bs, a => onValue (crcByteR poly32c (BitVec.ofNat 32 a) b).toNat (crcGo bs)

theorem crc32c_go (bs : List Byte) : crc32c bs = BitVec.ofNat 32 (crcGo bs 0xFFFFFFFF) ^^^ 0xFFFFFFFF := by
  have h : ∀ (bs : List Byte) (a : Word), bs.foldl (crcByteR poly32c) a = BitVec.ofNat 32 (crcGo bs a.toNat) := by
    intro bs
    induction bs with
    | nil => intro a; simp [crcGo]
    | cons b t ih =>
      intro a
      have v : ∀ (n : Nat) (f : Nat → Nat), onValue n f = f n := by intro n f; cases n <;> rfl
      rw [List.foldl_cons, ih, crcGo, v]
      simp
  unfold crc32c
  rw [h]
  rfl

theorem verify_ok (bs : List Byte) (items : List Item) (hp : parseImage bs = .inl items) (hi : identityBad 4 bs = none)
    (hb : firstBreak (cfgOf bs items) items = none) :
    ∃ (s : State) (v : Verify) (bs : List Byte) (items : List Item), s.inReset = false ∧ s.img.verify = some v ∧
      v.revert = false ∧ Memory.readBytes s.img.loadBuf 0 s.img.loadLen = some bs ∧ v.crc = crc32c bs ∧
      parseImage bs = .inl items ∧ identityBad s.img.fwLine bs = none ∧
      (∀ i, s.img.active = some i → i.cfg.serial.toNat < (cfgOf bs items).serial.toNat) ∧
      firstBreak (cfgOf bs items) items = none :=
  ⟨{ svc with img := { verify := some ⟨⟨.tool 0, .cfgEnd 0, .none⟩, crc32c bs, false, 0⟩
                       loadBuf := Memory.writeBytes [] 0 bs, loadLen := bs.length, fwLine := 4 } },
    ⟨⟨.tool 0, .cfgEnd 0, .none⟩, crc32c bs, false, 0⟩, bs, items, rfl, rfl, rfl, readBytes_writeBytes bs _ rfl, rfl, hp, hi,
    (by intro i h; cases h), hb⟩

theorem srv_noOps : ∀ (e : Fin 4) (w : Work), (srv.engines[e]).done = some w → w.ops = [] := by
  intro e w h
  have k : ∀ e : Fin 4, (srv.engines[e]).done = none := by decide +kernel
  rw [k e] at h
  cases h

/-- A firmware file of a bare header. -/
def fwFile : List Byte := padTo 112 [0x54, 0x46, 0x36, 0x34, 1]

/-- `srv` whose staging store holds it, with a result in check-value unit 3. -/
def fwSt (crc : Word) : State := { srv with
  mgt := { srv.mgt with fwState := .verifying, fwStore := Memory.writeBytes [] 0 fwFile, fwTotal := 112 }
  crc := upd srv.crc 3 (fun u => { u with result := crc.setWidth 64 }) }

theorem witness_CheckUnitWritesByPewter :
    (∃ (s : State) (u : Fin 4), s.pewterOn = true ∧ 2 ≤ u.val) ∧
    (∃ (s : State) (u : Fin 4), s.pewterOn = true ∧ 2 ≤ u.val) ∧
    (∃ (s : State) (u : Fin 4), s.pewterOn = true ∧ 2 ≤ u.val) ∧
    (∃ (s : State) (u : Fin 4), s.pewterOn = true ∧ u.val < 2) :=
  ⟨⟨svc, 2, by decide +kernel⟩,
   ⟨svc, 3, by decide +kernel⟩,
   ⟨svc, 2, by decide +kernel⟩,
   ⟨svc, 1, by decide +kernel⟩⟩

theorem witness_CheckUnitGivesCrc32cOfBytes :
    (∃ (s : State) (u : Fin 4) (bs : List Byte) (rest : List Instr), s.pewterOn = true ∧ 2 ≤ u.val ∧ s.crc[u].algo = 2 ∧
      s.pending = .crcStart u :: (bs.map (Instr.crcDataB u) ++ .crcFinish u :: rest)) :=
  ⟨({ svc with pending := [.crcStart 2, .crcDataB 2 1, .crcFinish 2] } : State), 2, [1], [], by decide +kernel⟩

theorem witness_InputReadDebouncesContacts :
    (∃ (s : State), s.inReset = false ∧ s.clk.inputRead ≠ some s.clk.tickAt) ∧
    (∃ (s : State), s.clk.inputRead = some s.clk.tickAt) ∧
    (∃ (s : State), s.inReset = false) :=
  ⟨⟨svc, by decide +kernel⟩,
   ⟨({ svc with clk := { svc.clk with inputRead := some 100000000000000 } } : State), by decide +kernel⟩,
   ⟨svc, by decide +kernel⟩⟩

theorem witness_InputFaultsBeginAndEnd :
    (∃ (s : State) (i : Fin 8), s.inReset = false ∧ (s.vis[i]).state = .transition ∧ s.readSince ((s.vis[i]).since + s.viDisc i) = true) ∧
    (∃ (s : State) (i : Fin 8), s.inReset = false ∧ (s.vis[i]).state = .active ∧ (s.vis[i]).stuck = false ∧ s.viUse i = .press ∧
      s.readSince ((s.vis[i]).since + 10000000000) = true) ∧
    (∃ (s : State) (dt : Nat) (i : Fin 8) (r : Nat), s.inReset = false ∧ (s.vis[i]).state = .discrepant ∧ (s.vis[i]).restSince = some r ∧
      r + 1000000000 ≤ s.now + dt) ∧
    (∃ (s : State) (i : Fin 8), s.inReset = false ∧ 3 ≤ (s.vis[i]).evalBad ∧ (s.vis[i]).evalFault = false ∧ s.viUse i ≠ .unused) ∧
    (∃ (s : State) (dt : Nat) (i : Fin 8) (r : Nat), s.inReset = false ∧ (s.vis[i]).evalFault = true ∧ (s.vis[i]).evalOkSince = some r ∧
      r + 1000000000 ≤ s.now + dt) ∧
    (∃ (s : State) (i : Fin 8), s.inReset = false ∧ (s.vis[i]).feedFault = true ∧ 10 ≤ (s.vis[i]).a.gapsOk ∧ 10 ≤ (s.vis[i]).b.gapsOk) ∧
    (∃ (s : State) (dt : Nat) (i : Fin 8) (r : Nat), s.inReset = false ∧ (s.vis[i]).report = true ∧ (s.vis[i]).reportUntil = some r ∧
      r ≤ s.now + dt) :=
  ⟨⟨(({ srv with clk := { srv.clk with inputRead := some 100000000000000 } } : State).modVi 0 (fun v => { v with state := .transition })), 0,
    by decide +kernel⟩,
   ⟨({ srv with clk := { srv.clk with inputRead := some 100000000000000 } } : State), 0, by decide +kernel⟩,
   ⟨(srv.modVi 0 (fun v => { v with state := .discrepant, restSince := some 0 })), 0, 0, 0, by decide +kernel⟩,
   ⟨(srv.modVi 0 (fun v => { v with evalBad := 3 })), 0, by decide +kernel⟩,
   ⟨(srv.modVi 0 (fun v => { v with evalFault := true, evalOkSince := some 0 })), 0, 0, 0, by decide +kernel⟩,
   ⟨(srv.modVi 0 (fun v => { v with feedFault := true, a := { gapsOk := 10 }, b := { gapsOk := 10 } })), 0, by decide +kernel⟩,
   ⟨(srv.modVi 0 (fun v => { v with report := true, reportUntil := some 100000000000000 })), 0, 0, 100000000000000, by decide +kernel⟩⟩

theorem witness_OutputReadbackTripAndOffPulse :
    (∃ (s : State), s.inReset = false) ∧
    (∃ (s : State) (dt : Nat) (j : Fin 8) (b : Nat), s.inReset = false ∧ (s.vos[j]).badSince = some b ∧ b + 100000 ≤ s.now + dt ∧
      (s.vos[j]).episode = false) ∧
    (∃ (s : State) (dt : Nat) (j : Fin 8) (b : Nat), s.inReset = false ∧ (s.vos[j]).overSince = some b ∧ b + 1000000 ≤ s.now + dt ∧
      (s.vos[j]).trip = none) ∧
    (∃ (s : State) (dt : Nat) (j : Fin 8) (b : Nat), s.inReset = false ∧ (s.vos[j]).trip = some b ∧ b ≤ s.now + dt) ∧
    (∃ (s : State) (j : Fin 8), s.inReset = false ∧ s.tickNo % 4000 = 500 * j.val ∧ s.now ≤ s.clk.tickAt + 125000 ∧ (s.vos[j]).hs = true ∧
      (s.vos[j]).ls = true ∧ (s.vos[j]).test = none ∧ (s.vos[j]).window = none ∧ s.warning = false) ∧
    (∃ (s : State) (j : Fin 8), ((s.vos[j]).hs = false ∨ (s.vos[j]).ls = false)) ∧
    (∃ (s : State) (dt : Nat) (j : Fin 8) (w : Nat), s.inReset = false ∧ (s.vos[j]).window = some w ∧ w ≤ s.now + dt) ∧
    (∃ (s : State) (dt : Nat) (j : Fin 8) (x : PulseTest), s.inReset = false ∧ (s.vos[j]).test = some x ∧ x.fell = true ∧ x.bad = false ∧
      x.begin + 350000 ≤ s.now + dt ∧ s.sup.vin.toNat * 10 - 300 ≤ (s.vos[j]).volt.toNat) ∧
    (∃ (s : State) (dt : Nat) (j : Fin 8) (x : PulseTest), s.inReset = false ∧ (s.vos[j]).test = some x ∧ (x.bad = true ∨ (x.fell = false ∧
      x.begin + 150000 ≤ s.now + dt) ∨ (x.begin + 350000 ≤ s.now + dt ∧ (s.vos[j]).volt.toNat < s.sup.vin.toNat * 10 - 300))) :=
  ⟨⟨svc, by decide +kernel⟩,
   ⟨(svc.modVo 0 (fun v => { v with badSince := some 99999999900000 })), 0, 0, 99999999900000, by decide +kernel⟩,
   ⟨(svc.modVo 0 (fun v => { v with overSince := some 99999999000000 })), 0, 0, 99999999000000, by decide +kernel⟩,
   ⟨(svc.modVo 0 (fun v => { v with trip := some 100000000000000 })), 0, 0, 100000000000000, by decide +kernel⟩,
   ⟨(svc.modVo 0 (fun v => { v with hs := true, ls := true })), 0, by decide +kernel⟩,
   ⟨svc, 0, by decide +kernel⟩,
   ⟨(svc.modVo 0 (fun v => { v with window := some 100000000000000 })), 0, 0, 100000000000000, by decide +kernel⟩,
   ⟨(svc.modVo 0 (fun v => { v with test := some { begin := 99999999650000, low := false, fell := true } })), 0, 0,
     { begin := 99999999650000, low := false, fell := true }, by decide +kernel⟩,
   ⟨(svc.modVo 0 (fun v => { v with test := some { begin := 99999999850000, low := true } })), 0, 0, { begin := 99999999850000, low := true },
     by decide +kernel⟩⟩

theorem witness_SupplyRailEpisodes :
    (∃ (s : State) (r : Rail) (reading low : BitVec 16), s.mdl.phase = .service ∧ s.rt = none ∧ s.tst.state = .service ∧
      (s.sup.rail r).st = .normal ∧ ((r ≠ .field ∧ r.low reading.toNat = true ∧ low = reading) ∨ (r = .field ∧ s.sup.secondBelow 1550 = true ∧
      low = s.sup.secondLow))) ∧
    (∃ (s : State) (r : Rail) (reading : BitVec 16), (s.sup.rail r).st = .recovering ∧ ((r ≠ .field ∧ (r.above reading.toNat = false ∨
      ((s.sup.rail r).upper = true ∧ r.belowUpper reading.toNat = false))) ∨ (r = .field ∧ s.sup.secondCode.isSome = true ∧
      s.sup.secondAbove 1555 = false))) ∧
    (∃ (s : State) (reading : Nat) (r : Rail), (s.sup.rail r).st = .warning ∧ ((r ≠ .field ∧ r.above reading = true) ∨ (r = .field ∧
      s.sup.secondAbove 1555 = true)) ∧ ((s.sup.rail r).upper = false ∨ r.belowUpper reading = true)) ∧
    (∃ (s : State) (dt : Nat) (r : Rail), s.mdl.phase = .service ∧ (s.sup.rail r).st = .recovering ∧
      (s.sup.rail r).recSince + 20000000 ≤ s.now + dt ∧ (s.sup.rail r).hard = false ∧ s.sup.snapshot = false ∧ s.tst.held = false) ∧
    (∃ (s : State), s.inReset = false ∧ s.tst.state ≠ .shutdown ∧ s.tst.state ≠ .aborting) ∧
    (∃ (s : State), s.inReset = true) ∧
    (∃ (s : State), s.mdl.phase = .service ∧ s.rt = none ∧ s.tst.state = .service ∧ s.sup.field.st ≠ .cutoff) ∧
    (∃ (s : State) (reading : Nat), s.sup.field.st = .cutoff ∧ 1405 ≤ reading ∧ reading ≤ 15995) ∧
    (∃ (reading : Nat), (reading < 1405 ∨ 15995 < reading)) ∧
    (∃ (s : State), s.mdl.phase = .service ∧ s.sup.field.st = .normal ∧ s.sup.cutDeclared = true ∧ s.sup.portStage = false) ∧
    (∃ (s : State) (dt : Nat) (n : Fin 64) (b : Nat), s.inReset = false ∧ (s.ports[n]).diffSince = some b ∧ b + 10000000 ≤ s.now + dt ∧
      (s.ports[n]).excluded = false) ∧
    (∃ (s : State), s.inReset = false ∧ 8 ≤ s.sup.lowCnt ∧ s.sup.lowEpisode = false) :=
  ⟨⟨svc, .v33, 3099, 3099, by decide +kernel⟩,
   ⟨({ svc with sup := { svc.sup with v33 := { st := .recovering } } } : State), .v33, 3150, by decide +kernel⟩,
   ⟨({ svc with sup := { svc.sup with core := { st := .warning } } } : State), 866, .core, by decide +kernel⟩,
   ⟨({ svc with sup := { svc.sup with field := { st := .recovering, recSince := 99999980000000 } } } : State), 0, .field, by decide +kernel⟩,
   ⟨svc, by decide +kernel⟩,
   ⟨State.reset, by decide +kernel⟩,
   ⟨svc, by decide +kernel⟩,
   ⟨({ svc with sup := { svc.sup with field := { st := .cutoff } } } : State), 1405, by decide +kernel⟩,
   ⟨1404, by decide +kernel⟩,
   ⟨({ svc with sup := { svc.sup with cutDeclared := true } } : State), by decide +kernel⟩,
   ⟨(srv.modPort 0 (fun p => { p with diffSince := some 99999990000000 })), 0, 0, 99999990000000, by decide +kernel⟩,
   ⟨({ svc with sup := { svc.sup with lowCnt := 8 } } : State), by decide +kernel⟩⟩

theorem witness_PointFailuresAndSurges :
    (∃ (s : State) (dt : Nat) (n : Fin 64) (e : Nat), s.inReset = false ∧ (s.ports[n]).rampEnd = some e ∧ e ≤ s.now + dt) ∧
    (∃ (s : State) (dt : Nat) (n : Fin 64) (q : LoopCond) (b : Nat), s.inReset = false ∧ ((s.ports[n]).loopCond q).1 = some b ∧
      ((s.ports[n]).loopCond q).2.1 = false ∧ b + ((s.ports[n]).loopCond q).2.2 ≤ s.now + dt ∧ (s.pass dt).condJudged n q = true) ∧
    (∃ (s : State) (dt : Nat) (n : Fin 64) (e : Nat), s.inReset = false ∧ (s.ports[n]).failed = true ∧ (s.ports[n]).condition = false ∧
      (s.ports[n]).failEnd = some e ∧ e ≤ s.now + dt) ∧
    (∃ (s : State) (uA : Nat) (n : Fin 64), s.inReset = false ∧ 10000 < uA ∧ (∀ r, s.rt = some r → r.port = n → r.stage ≠ .gap)) ∧
    (∃ (s : State) (uA : Nat) (n : Fin 64) (r : RunTest), s.inReset = false ∧ 10000 < uA ∧ s.rt = some r ∧ r.port = n ∧ r.stage = .gap) ∧
    (∃ (uA : Nat), uA ≤ 10000) ∧
    (∃ (s : State) (dt uA : Nat) (n : Fin 64), s.inReset = false ∧ (s.ports[n]).surge = true ∧ (s.ports[n]).surgeLong = false ∧ 10000 < uA ∧
      (s.ports[n]).surgeSince + 10000000 < s.now + dt) ∧
    (∃ (s : State) (dt : Nat) (n : Fin 64), s.inReset = false ∧ (s.ports[n]).surge = true ∧ (s.ports[n]).surgeSince + 1000000 ≤ s.now + dt) :=
  ⟨⟨(srv.modPort 0 (fun p => { p with rampEnd := some 100000000000000 })), 0, 0, 100000000000000, by decide +kernel⟩,
   ⟨(srv.modPort 0 (fun p => { p with supplyOn := true, open1Since := some 99999998000000 })), 0, 0, .openC .cs1, 99999998000000, by decide +kernel⟩,
   ⟨(srv.modPort 0 (fun p => { p with failed := true, failEnd := some 100000000000000 })), 0, 0, 100000000000000, by decide +kernel⟩,
   ⟨svc, 10001, 0, by decide +kernel, by decide +kernel, fun _ h => nomatch (h : (none : Option RunTest) = some _)⟩,
   ⟨srvRt (rt0 .gap), 10001, 0, rt0 .gap, by decide +kernel⟩,
   ⟨10000, by decide +kernel⟩,
   ⟨(srv.modPort 0 (fun p => { p with surge := true, surgeSince := 99999990000000 })), 1, 10001, 0, by decide +kernel⟩,
   ⟨(srv.modPort 0 (fun p => { p with surge := true })), 0, 0, by decide +kernel⟩⟩

theorem witness_CausesOfModuleReset :
    (∃ (s : State), s.inReset = false ∧ s.tst.state ≠ .shutdown ∧ s.tst.state ≠ .aborting) ∧
    (∃ (s : State) (dt : Nat), s.inReset = false ∧ s.tst.state ≠ .shutdown ∧ s.tst.state ≠ .aborting ∧ (s.now + dt - s.clk.tickAt < 237500 ∨
      525000 ≤ s.now + dt - s.clk.tickAt)) ∧
    (∃ (s : State) (dt : Nat), 237500 ≤ s.now + dt - s.clk.tickAt ∧ s.now + dt - s.clk.tickAt < 525000) ∧
    (∃ (s : State), s.inReset = false ∧ s.tst.state ≠ .shutdown ∧ s.tst.state ≠ .aborting ∧ s.clk.tickAt + 525000 < s.now) ∧
    (∃ (s : State), s.inReset = false ∧ s.tst.state = .shutdown) ∧
    (∃ (s : State), s.inReset = false ∧ s.tst.state ≠ .shutdown ∧ s.tst.state ≠ .aborting ∧ s.mdl.btnHeld = none) ∧
    (∃ (s : State) (b : Nat), s.mdl.btnHeld = some b) ∧
    (∃ (s : State), s.tst.state ≠ .shutdown ∧ s.tst.state ≠ .aborting) ∧
    (∃ (s : State) (op : TapOp), s.clk.prodTest = false ∧ s.tst.state ≠ .shutdown ∧ s.tst.state ≠ .aborting ∧ op ≠ .bypass ∧ op ≠ .idcode) ∧
    (∃ (s : State), s.clk.prodTest = true ∧ s.inReset = false) ∧
    (∃ (s : State), s.clk.prodTest = true ∧ s.inReset = false) :=
  ⟨⟨svc, by decide +kernel⟩,
   ⟨svc, 0, by decide +kernel⟩,
   ⟨svc, 237500, by decide +kernel⟩,
   ⟨({ svc with clk := { svc.clk with elapsed := 100000000525001 } } : State), by decide +kernel⟩,
   ⟨({ svc with tst := { svc.tst with state := .shutdown } } : State), by decide +kernel⟩,
   ⟨svc, by decide +kernel⟩,
   ⟨({ svc with mdl := { svc.mdl with btnHeld := some 0 } } : State), 0, by decide +kernel⟩,
   ⟨svc, by decide +kernel⟩,
   ⟨svc, .closeAlone 0 true, by decide +kernel⟩,
   ⟨({ svc with clk := { svc.clk with prodTest := true } } : State), by decide +kernel⟩,
   ⟨({ svc with clk := { svc.clk with prodTest := true } } : State), by decide +kernel⟩⟩

theorem witness_StartSequence :
    (∃ (s : State), s.inReset = true ∧ s.releasable = true) ∧
    (∃ (s : State), s.mdl.phase = .start ∧ s.mdl.startStage = .field ∧ s.sup.field.st = .normal ∧ (∀ k : Fin 8, (s.lanes[k]).synced = true)) ∧
    (∃ (s : State) (dt : Nat), s.mdl.phase = .start ∧ s.mdl.startStage = .proving ∧ s.clk.prodTest = false ∧ s.now + dt = s.clk.tickAt ∧
      (∃ e : Fin 4, (s.engines[e]).mode = .proving ∧ (s.engines[e]).from' + 4 ≤ (s.engines[e]).frame)) :=
  ⟨⟨State.reset, by decide +kernel⟩,
   ⟨({ svc with mdl := { phase := .start, startStage := .field }, lanes := Vector.replicate 8 { synced := true } } : State), by decide +kernel⟩,
   ⟨({ svc with mdl := { phase := .start, startStage := .proving }, engines := Vector.replicate 4 { mode := .proving, from' := 96, frame := 100 } } : State), 0, by decide +kernel⟩⟩

theorem witness_TestSegmentsAndSelfTest :
    (∃ (s : State) (n segs : Nat), s.tst.stepNow = some (n, segs) ∧ s.tst.running = true ∧ s.mdl.phase = .start ∧
      s.mdl.startStage = stageOfStep n ∧ s.tst.state ≠ .shutdown ∧ s.tst.held = false ∧ s.tst.segs + 1 < segs) ∧
    (∃ (s : State) (n segs m x : Nat) (result sig : Word), s.tst.stepNow = some (n, segs) ∧ s.tst.running = true ∧ s.mdl.phase = .start ∧
      s.mdl.startStage = .logic ∧ stageOfStep n = .logic ∧ s.tst.state ≠ .shutdown ∧ s.tst.segs + 1 = segs ∧ s.tst.failStep = 0 ∧
      (stepsOf s.tst.kind.toNat)[s.tst.step + 1]? = some (m, x) ∧ stageOfStep m = .fieldTest ∧
      sig = (toBytes 4 result.toNat).foldl (crcByteR poly32c) s.tst.acc ^^^ 0xFFFFFFFF) ∧
    (∃ (s : State) (result sig : Word), s.tst.state = .shutdown ∧ s.tst.kind = 3 ∧ s.tst.running = true ∧ s.mdl.phase = .shutdown ∧
      s.tst.step = 14 ∧ s.tst.segs = 63 ∧ s.tst.abortReq = none ∧ sig = (toBytes 4 result.toNat).foldl (crcByteR poly32c) s.tst.acc ^^^ 0xFFFFFFFF) ∧
    (∃ (s : State) (dt b : Nat), s.inReset = false ∧ s.tst.state = .shutdown ∧ s.tst.firstAt = some b ∧ b ≤ s.now + dt) ∧
    (∃ (s : State) (dt b : Nat), s.inReset = false ∧ s.tst.state = .shutdown ∧ s.tst.pauseSince = some b ∧ b + 30000000 ≤ s.now + dt) ∧
    (∃ (s : State), s.inReset = false ∧ s.tst.state = .aborting) :=
  ⟨⟨({ svc with mdl := { phase := .start, startStage := .logic }, tst := { state := .startTest, kind := 1, running := true, segs := 48 } } : State), 4, 50, by decide +kernel⟩,
   ⟨({ svc with mdl := { phase := .start, startStage := .logic }, tst := { state := .startTest, kind := 1, running := true, step := 5, segs := 29 } } : State), 15, 30, 10, 2, 1, (toBytes 4 1).foldl (crcByteR poly32c) 0xFFFFFFFF ^^^ 0xFFFFFFFF, by decide +kernel⟩,
   ⟨({ svc with mdl := { phase := .shutdown }, tst := { state := .shutdown, kind := 3, running := true, step := 14, segs := 63 } } : State), 1,
     (toBytes 4 1).foldl (crcByteR poly32c) 0xFFFFFFFF ^^^ 0xFFFFFFFF, by decide +kernel⟩,
   ⟨({ svc with tst := { svc.tst with state := .shutdown, firstAt := some 100000000000000 } } : State), 0, 100000000000000, by decide +kernel⟩,
   ⟨({ svc with tst := { svc.tst with state := .shutdown, pauseSince := some 99999970000000 } } : State), 0, 99999970000000, by decide +kernel⟩,
   ⟨({ svc with tst := { svc.tst with state := .aborting } } : State), by decide +kernel⟩⟩

theorem witness_TimeBaseStepsAndHoldover :
    (∃ (s : State) (d : Int), s.inReset = false ∧ s.clk.stepDue = some d ∧ s.now = s.clk.tickAt) ∧
    (∃ (s : State) (x : BitVec 16), s.inReset = false ∧ s.clk.extDue = some x ∧ s.now = s.clk.tickAt) ∧
    (∃ (s : State) (dt : Nat), s.inReset = false ∧ s.tbs.state = .holdover ∧ s.tbs.holdSince + 2000000000 ≤ s.now + dt) :=
  ⟨⟨({ svc with clk := { svc.clk with stepDue := some (-5000) } } : State), -5000, by decide +kernel⟩,
   ⟨({ svc with clk := { svc.clk with extDue := some 1 } } : State), 1, by decide +kernel⟩,
   ⟨({ svc with tbs := { state := .holdover, holdSince := 99998000000000 } } : State), 0, by decide +kernel⟩⟩

theorem witness_RunTimePortTests :
    (∃ (s : State) (dt : Nat) (n : Fin 64) (b : Nat), s.inReset = false ∧ s.assigned n = true ∧ (s.ports[n]).quietSince = some b ∧
      b + 30000000000 ≤ s.now + dt) ∧
    (∃ (s : State) (n : Fin 64), s.pickPort = some n ∧ (∃ m ∈ s.rtFirst, (s.ports[m]).eligible = true)) ∧
    (∃ (s : State) (n : Fin 64), s.pickPort = some n) ∧
    (∃ (s : State) (n : Fin 64), s.pickPort = some n ∧ s.rt = none ∧ s.railsNormal = true ∧ s.retUp n = true ∧ s.mdl.phase = .service) ∧
    (∃ (s : State) (dt : Nat) (r : RunTest), s.rt = some r ∧ r.stage = .sinkA ∧ r.origin + 2000000 ≤ s.now + dt) ∧
    (∃ (s : State) (dt : Nat) (r : RunTest), s.rt = some r ∧ r.stage = .sinkB ∧ r.origin + 8000000 ≤ s.now + dt) ∧
    (∃ (s : State) (dt : Nat) (r : RunTest), s.rt = some r ∧ r.stage = .winA ∧ r.origin + 6000000 ≤ s.now + dt) ∧
    (∃ (s : State) (dt : Nat) (r : RunTest), s.rt = some r ∧ r.stage = .winB ∧ r.origin + 12000000 ≤ s.now + dt ∧
      stepPasses r.sumA r.cntA r.preSum r.preCnt 350 = true ∧ stepPasses r.sumB r.cntB r.preSum r.preCnt 700 = true) ∧
    (∃ (s : State) (dt : Nat) (r : RunTest), s.rt = some r ∧ r.stage = .winB ∧ r.origin + 12000000 ≤ s.now + dt ∧
      (stepPasses r.sumA r.cntA r.preSum r.preCnt 350 = false ∨ stepPasses r.sumB r.cntB r.preSum r.preCnt 700 = false)) ∧
    (∃ (s : State) (dt : Nat) (r : RunTest), s.rt = some r ∧ r.stage = .decay ∧ r.mark + 500000 ≤ s.now + dt) ∧
    (∃ (s : State) (r : RunTest), s.rt = some r ∧ r.stage = .settle ∧ s.testBack r = true ∧ r.sys = .cs1 ∧ r.result = 1) ∧
    (∃ (s : State) (r : RunTest), s.rt = some r ∧ r.stage = .settle ∧ s.testBack r = true ∧ r.sys = .cs2 ∧ r.result ≠ 4) ∧
    (∃ (s : State) (dt : Nat) (r : RunTest), s.rt = some r ∧ r.stage = .gap ∧ r.mark + 100000000 ≤ s.now + dt) ∧
    (∃ (s : State) (dt : Nat) (n : Fin 64), s.inReset = false ∧ s.assigned n = true ∧ (s.ports[n]).overdue = false ∧
      (s.ports[n]).lastTest.getD (s.ports[n]).assignedAt + 86400000000000 ≤ s.now + dt) :=
  ⟨⟨(srv.modPort 0 (fun p => { p with quietSince := some 99970000000000 })), 0, 0, 99970000000000, by decide +kernel⟩,
   ⟨({ (srv.modPort 0 (fun p => { p with eligible := true })) with rtFirst := [0] } : State), 0, by decide +kernel⟩,
   ⟨(srv.modPort 0 (fun p => { p with eligible := true })), 0, by decide +kernel⟩,
   ⟨(srv.modPort 0 (fun p => { p with eligible := true })), 0, by decide +kernel⟩,
   ⟨srvRt { rt0 .sinkA with origin := 99999998000000 }, 0, { rt0 .sinkA with origin := 99999998000000 }, by decide +kernel⟩,
   ⟨srvRt { rt0 .sinkB with origin := 99999992000000 }, 0, { rt0 .sinkB with origin := 99999992000000 }, by decide +kernel⟩,
   ⟨srvRt (rt0 .winA), 0, rt0 .winA, by decide +kernel⟩,
   ⟨srvRt { rt0 .winB with preCnt := 1, cntA := 1, cntB := 1, sumA := 57344000000, sumB := 114688000000 }, 0,
     { rt0 .winB with preCnt := 1, cntA := 1, cntB := 1, sumA := 57344000000, sumB := 114688000000 }, by decide +kernel⟩,
   ⟨srvRt (rt0 .winB), 0, rt0 .winB, by decide +kernel⟩,
   ⟨srvRt (rt0 .decay), 0, rt0 .decay, by decide +kernel⟩,
   ⟨((srvRt (rt0 .settle)).modChan 0 (fun c => { c with out := { valid := true } })), rt0 .settle, by decide +kernel⟩,
   ⟨((srvRt { rt0 .settle with sys := .cs2, stepFail := true }).modChan 1 (fun c => { c with out := { valid := true } })),
     { rt0 .settle with sys := .cs2, stepFail := true }, by decide +kernel⟩,
   ⟨srvRt (rt0 .gap), 0, rt0 .gap, by decide +kernel⟩,
   ⟨srv, 0, 0, by decide +kernel⟩⟩

theorem witness_LoopbacksLb0ToLb3 :
    (∃ (s : State) (dt : Nat) (n : Fin 64) (l : PortLb), s.inReset = false ∧ (s.ports[n]).lb = some l ∧ l.kind = .lb0 ∧ l.phase < 3 ∧
      l.begin + 20000000 * (l.phase + 1) ≤ s.now + dt) ∧
    (∃ (s : State) (dt : Nat) (n : Fin 64) (l : PortLb), s.inReset = false ∧ (s.ports[n]).lb = some l ∧ l.kind = .lb1 ∧ l.phase < 2 ∧
      l.begin + 20000000 * (l.phase + 1) ≤ s.now + dt) ∧
    (∃ (s : State) (dt : Nat) (n : Fin 64) (l : PortLb), s.inReset = false ∧ (s.ports[n]).lb = some l ∧ l.kind = .lb0 ∧ l.phase = 3 ∧ l.ok = true ∧
      (s.pass dt).overlapsSuspect n l.begin = false ∧ (s.ports[n]).failed = false) ∧
    (∃ (s : State) (dt : Nat) (n : Fin 64) (l : PortLb), s.inReset = false ∧ (s.ports[n]).lb = some l ∧ l.kind = .lb1 ∧ l.phase = 2 ∧
      l.ok = false ∧ (s.pass dt).overlapsSuspect n l.begin = false ∧ s.sup.cutDeclared = true) ∧
    (∃ (s : State) (dt : Nat) (n : Fin 64) (l : PortLb), s.inReset = false ∧ (s.ports[n]).lb = some l ∧ l.kind = .lb0 ∧ l.phase = 3 ∧
      (s.pass dt).overlapsSuspect n l.begin = true) ∧
    (∃ (s : State) (dt : Nat) (n : Fin 64) (l : PortLb), s.inReset = false ∧ (s.ports[n]).lb = some l ∧ l.kind = .lb2 ∧ l.phase = 0 ∧
      l.begin + 10000000 ≤ s.now + dt) ∧
    (∃ (s : State) (dt : Nat) (n : Fin 64) (l : PortLb), s.inReset = false ∧ (s.ports[n]).lb = some l ∧ l.kind = .lb2 ∧ l.phase = 1 ∧
      l.begin + 20000000 ≤ s.now + dt ∧ (s.pass dt).overlapsSuspect n l.begin = false ∧ (s.chans[chanOf n .cs1]).lb2Bad = false ∧
      (s.chans[chanOf n .cs2]).lb2Bad = false) ∧
    (∃ (s : State) (dt : Nat) (n : Fin 64) (l : PortLb), s.inReset = false ∧ (s.ports[n]).lb = some l ∧ l.kind = .lb2 ∧ l.phase = 1 ∧
      l.begin + 20000000 ≤ s.now + dt ∧ (s.pass dt).overlapsSuspect n l.begin = false ∧ (s.chans[chanOf n .cs1]).lb2Bad = true ∧
      (s.chans[chanOf n .cs2]).lb2Bad = false) ∧
    (∃ (s : State) (dt : Nat) (n : Fin 64) (l : Lb3), s.inReset = false ∧ (s.wdus[n]).lb3 = some l ∧ l.run < 3 ∧
      l.begin + lb3RunNs (s.spacingOf n) l.run + 100000000 ≤ s.now + dt) ∧
    (∃ (s : State) (dt : Nat) (n : Fin 64) (l : Lb3), s.inReset = false ∧ (s.wdus[n]).lb3 = some l ∧ l.run = 3 ∧ l.begin + 150000000 ≤ s.now + dt ∧
      l.verdict = 1) ∧
    (∃ (s : State) (dt : Nat) (n : Fin 64) (l : Lb3), s.inReset = false ∧ (s.wdus[n]).lb3 = some l ∧ l.run = 3 ∧ l.begin + 150000000 ≤ s.now + dt ∧
      l.verdict ≠ 1) ∧
    (∃ (l : Lb3) (a b : AxleRec), l.res1 = [a] ∧ l.res2 = [b] ∧ l.res3 = []) :=
  ⟨⟨(srv.modPort 0 (fun p => { p with lb := some { kind := .lb0, begin := 99999940000000, phase := 2, ok := true } })), 0, 0,
    { kind := .lb0, begin := 99999940000000, phase := 2, ok := true }, by decide +kernel⟩,
   ⟨(srv.modPort 0 (fun p => { p with lb := some { kind := .lb1, begin := 99999960000000, phase := 1, ok := true } })), 0, 0,
     { kind := .lb1, begin := 99999960000000, phase := 1, ok := true }, by decide +kernel⟩,
   ⟨(srv.modPort 0 (fun p => { p with lb := some { kind := .lb0, begin := 99999900000000, phase := 3, ok := true } })), 0, 0,
     { kind := .lb0, begin := 99999900000000, phase := 3, ok := true }, by decide +kernel⟩,
   ⟨(({ srv with sup := { srv.sup with cutDeclared := true } } : State).modPort 0 (fun p => { p with lb := some { kind := .lb1, begin := 99999900000000, phase := 2, ok := false } })), 0, 0, { kind := .lb1, begin := 99999900000000, phase := 2, ok := false }, by decide +kernel⟩,
   ⟨(({ srv with sup := { srv.sup with warnEnd := some 100000000000000 } } : State).modPort 0 (fun p => { p with lb := some { kind := .lb0, begin := 99999900000000, phase := 3, ok := true } })), 0, 0, { kind := .lb0, begin := 99999900000000, phase := 3, ok := true }, by decide +kernel⟩,
   ⟨(srv.modPort 0 (fun p => { p with lb := some { kind := .lb2, begin := 99999990000000, phase := 0, ok := true } })), 0, 0,
     { kind := .lb2, begin := 99999990000000, phase := 0, ok := true }, by decide +kernel⟩,
   ⟨(srv.modPort 0 (fun p => { p with lb := some { kind := .lb2, begin := 99999980000000, phase := 1, ok := true } })), 0, 0,
     { kind := .lb2, begin := 99999980000000, phase := 1, ok := true }, by decide +kernel⟩,
   ⟨((srv.modPort 0 (fun p => { p with lb := some { kind := .lb2, begin := 99999980000000, phase := 1, ok := true } })).modChan 0 (fun c => { c with lb2Bad := true })), 0, 0, { kind := .lb2, begin := 99999980000000, phase := 1, ok := true }, by decide +kernel⟩,
   ⟨(srv.modWdu 0 (fun w => { w with lb3 := some { run := 2, begin := 0 } })), 0, 0, { run := 2, begin := 0 }, by decide +kernel⟩,
   ⟨(srv.modWdu 0 (fun w => { w with lb3 := some { run := 3, begin := 99999850000000, res1 := [{ dir := 1, speed := 400 }], res2 := [{ dir := 2, speed := 400 }] } })), 0, 0, { run := 3, begin := 99999850000000, res1 := [{ dir := 1, speed := 400 }], res2 := [{ dir := 2, speed := 400 }] }, by decide +kernel⟩,
   ⟨(srv.modWdu 0 (fun w => { w with lb3 := some { run := 3, begin := 99999850000000 } })), 0, 0, { run := 3, begin := 99999850000000 },
     by decide +kernel⟩,
   ⟨{ res1 := [{}], res2 := [{}] }, {}, {}, by decide +kernel⟩⟩

theorem witness_OutputSampleEmitted :
    (∃ (s u : State) (c : Fin 128) (words : List (BitVec 20)), s.inReset = false ∧ (s.chans[c]).outIdx < s.chanM c ∧ words.length ≤ 3072 ∧
      u = s.upTo (s.clk.tickAt + (s.chans[c]).outIdx * 250000 / s.chanM c)) ∧
    (∃ (words : List (BitVec 20)), 3072 < words.length) :=
  ⟨⟨svc, svc.upTo (svc.clk.tickAt + (svc.chans[(0 : Fin 128)]).outIdx * 250000 / svc.chanM 0), 0, [], by decide +kernel, by decide +kernel,
    by decide +kernel, rfl⟩,
   ⟨List.replicate 3073 0, by decide +kernel⟩⟩

theorem witness_ChannelIntervalsEnd :
    (∃ (s : State) (bits : BitVec 64), s.inReset = false ∧ (bits = 0 ∨ bits = BitVec.allOnes 64)) ∧
    (∃ (bits : BitVec 64), bits ≠ 0 ∧ bits ≠ BitVec.allOnes 64) ∧
    (∃ (s : State) (c : Fin 128), s.inReset = false ∧ (s.chans[c]).sat = true ∧ (s.chans[c]).satLeft = 0) ∧
    (∃ (s : State) (c : Fin 128) (f : Fade), s.inReset = false ∧ (s.chans[c]).fade = some f ∧ 256 ≤ f.done) ∧
    (∃ (s : State) (c : Fin 128) (f : Fade), (s.chans[c]).fade = some f ∧ f.done < 256) ∧
    (∃ (s : State) (c : Fin 128) (q : Scm), s.inReset = false ∧ (s.chans[c]).scm = some q ∧ (s.chans[c]).filled = false ∧ s.chanM c ≤ q.count) ∧
    (∃ (s : State) (c : Fin 128) (q : Scm), s.inReset = false ∧ (s.chans[c]).scm = some q ∧
      settleLen (s.chans[c]).sel (s.chanM c) (s.chanPd c) ≤ q.count ∧ (s.chans[c]).active = false) ∧
    (∃ (s : State) (c : Fin 128), (s.chans[c]).active = true) ∧
    (∃ (s : State) (c : Fin 128), s.inReset = false ∧ (s.chans[c]).settling = true ∧ (s.chans[c]).settleLeft = 0) :=
  ⟨⟨svc, 0, by decide +kernel⟩,
   ⟨1, by decide +kernel⟩,
   ⟨(svc.modChan 0 (fun c => { c with sat := true })), 0, by decide +kernel⟩,
   ⟨(svc.modChan 0 (fun c => { c with fade := some { target := true, done := 256 } })), 0, { target := true, done := 256 }, by decide +kernel⟩,
   ⟨(svc.modChan 0 (fun c => { c with fade := some { target := true, done := 255 } })), 0, { target := true, done := 255 }, by decide +kernel⟩,
   ⟨(svc.modChan 0 (fun c => { c with scm := some { count := 12 } })), 0, { count := 12 }, by decide +kernel⟩,
   ⟨(svc.modChan 0 (fun c => { c with scm := some { count := 48 } })), 0, { count := 48 }, by decide +kernel⟩,
   ⟨(svc.modChan 0 (fun c => { c with active := true })), 0, by decide +kernel⟩,
   ⟨(svc.modChan 0 (fun c => { c with settling := true })), 0, by decide +kernel⟩⟩

theorem witness_CodePeriodConditions :
    (∃ (s : State) (x : Nat), s.inReset = false ∧ x = (s.clk.tickTb + 250000) / 1280000 * 1280000 ∧ 0 < x ∧ x ≠ s.clk.codeEnd ∧
      s.periodIn (x / 1280000 - 1) = true) :=
  ⟨svc, 100000000000000, by decide +kernel⟩

theorem witness_LanesFailAndReturn :
    (∃ (s : State) (k : Fin 8), s.inReset = false ∧ (s.lanes[k]).synced = true) ∧
    (∃ (s : State) (dt : Nat) (k : Fin 8) (f : Nat), s.inReset = false ∧ (s.lanes[k]).synced = false ∧ (s.lanes[k]).faultAt = some f ∧
      (s.lanes[k]).timedOut = false ∧ f + 10000000 ≤ s.now + dt) ∧
    (∃ (s : State) (k : Fin 8) (n : Nat), s.inReset = false ∧ (s.lanes[k]).resetDue = some n ∧ n ≤ s.tickNo) ∧
    (∃ (s : State) (dt : Nat) (k : Fin 8) (e : Echo), s.inReset = false ∧ (s.lanes[k]).echo = some e ∧ e.begin + 10000000 ≤ s.now + dt ∧
      e.mismatch = true ∧ (∀ n : Fin 64, laneOfPort n = k → (s.pass dt).overlapsSuspect n e.begin = false)) ∧
    (∃ (s : State) (dt : Nat) (k : Fin 8) (e : Echo), s.inReset = false ∧ (s.lanes[k]).echo = some e ∧ e.begin + 10000000 ≤ s.now + dt ∧
      e.mismatch = false) ∧
    (∃ (s : State) (r : Fin 2), s.inReset = false ∧ (s.retLanes[r]).failed = false) ∧
    (∃ (s : State) (dt : Nat) (r : Fin 2), s.inReset = false ∧ (s.retLanes[r]).failed = true ∧ (s.retLanes[r]).off = false ∧
      (s.retLanes[r]).failedAt + 100000000 ≤ s.now + dt) ∧
    (∃ (s : State) (r : Fin 2), s.inReset = false ∧ (s.retLanes[r]).failed = true) :=
  ⟨⟨({ svc with lanes := upd svc.lanes 0 (fun l => { l with synced := true }) } : State), 0, by decide +kernel⟩,
   ⟨({ svc with lanes := upd svc.lanes 0 (fun l => { l with faultAt := some 99999990000000 }) } : State), 0, 0, 99999990000000, by decide +kernel⟩,
   ⟨({ svc with lanes := upd svc.lanes 0 (fun l => { l with resetDue := some 400000000 }) } : State), 0, 400000000, by decide +kernel⟩,
   ⟨({ svc with lanes := upd svc.lanes 0 (fun l => { l with echo := some { begin := 99999990000000, prbs := 1, mismatch := true } }) } : State), 0,
     0, { begin := 99999990000000, prbs := 1, mismatch := true }, by decide +kernel⟩,
   ⟨({ svc with lanes := upd svc.lanes 0 (fun l => { l with echo := some { begin := 99999990000000, prbs := 1 } }) } : State), 0, 0,
     { begin := 99999990000000, prbs := 1 }, by decide +kernel⟩,
   ⟨svc, 0, by decide +kernel⟩,
   ⟨({ svc with retLanes := upd svc.retLanes 0 (fun l => { l with failed := true, failedAt := 99999900000000 }) } : State), 0, 0, by decide +kernel⟩,
   ⟨({ svc with retLanes := upd svc.retLanes 0 (fun l => { l with failed := true }) } : State), 0, by decide +kernel⟩⟩

theorem witness_LaneSuperframeRule :
    (∃ (ws : List (BitVec 20)), ws.length ≠ 1536) ∧
    (∃ (s : State) (k : Fin 8) (ws : List (BitVec 20)), ws.length = 1536 ∧ s.inReset = false ∧ (s.lanes[k]).lastSf ≠ some s.tickNo ∧
      (s.lanes[k]).begins ws = true ∧ (s.lanes[k]).synced = true ∧ superframeOk (s.clk.prevTb / 250000) ws = false) ∧
    (∃ (s : State) (k : Fin 8) (ws : List (BitVec 20)), ws.length = 1536 ∧ s.inReset = false ∧ (s.lanes[k]).lastSf ≠ some s.tickNo ∧
      (s.lanes[k]).begins ws = true ∧ s.carries k ws = true ∧ (s.lanes[k]).dirty = false ∧ superframeOk (s.clk.prevTb / 250000) ws = true) :=
  ⟨⟨[], by decide +kernel⟩,
   ⟨({ svc with lanes := upd svc.lanes 0 (fun l => { l with synced := true }) } : State), 0, List.replicate 1536 0, by decide +kernel⟩,
   ⟨svc, 0, superframe, by decide +kernel⟩⟩

theorem witness_SarConversionSlots :
    (∃ (s : State), s.inReset = false ∧ s.clk.sarRead ≠ some s.clk.tickAt) ∧
    (∃ (s : State), s.clk.sarRead = some s.clk.tickAt) :=
  ⟨⟨svc, by decide +kernel⟩,
   ⟨({ svc with clk := { svc.clk with sarRead := some 100000000000000 } } : State), by decide +kernel⟩⟩

theorem witness_TrajectoryRule :
    (∃ (g : WduCfg) (h1 h2 : Half) (inst : Nat) (susp : Bool) (x y : Ctx) (ev : WduEv), x.evaluate g h1 h2 inst susp = (y, ev) ∧ x.phase = .spent) ∧
    (∃ (g : WduCfg) (h1 h2 : Half) (inst : Nat) (susp : Bool) (x y : Ctx) (ev : WduEv), x.evaluate g h1 h2 inst susp = (y, ev) ∧ x.phase = .spent ∧
      y.phase ≠ .spent) ∧
    (∃ (g : WduCfg) (h1 h2 : Half) (inst : Nat) (susp : Bool) (x y : Ctx) (ev : WduEv) (c : _), x.evaluate g h1 h2 inst susp = (y, ev) ∧
      ev = .unc c) ∧
    (∃ (g : WduCfg) (h1 h2 : Half) (inst : Nat) (susp : Bool) (x y : Ctx) (ev : WduEv) (r : _) (k : _), x.evaluate g h1 h2 inst susp = (y, ev) ∧
      ev = .commit r k) ∧
    (∃ (g : WduCfg) (h1 h2 : Half) (inst : Nat) (susp : Bool) (x y : Ctx) (ev : WduEv), x.evaluate g h1 h2 inst susp = (y, ev) ∧
      (x.phase = .approach ∨ x.phase = .track) ∧ (h1.valid = false ∨ h2.valid = false)) :=
  ⟨⟨wdu0, ⟨0, true, false⟩, ⟨0, true, false⟩, 554427720000, false, { phase := .spent, entry := true }, _, _, Prod.mk.eta.symm, by decide +kernel⟩,
   ⟨wdu0, ⟨0, true, false⟩, ⟨0, true, false⟩, 554427720000, false, { phase := .spent }, _, _, Prod.mk.eta.symm, by decide +kernel, by decide +kernel⟩,
   ⟨wdu0, ⟨0, false, false⟩, ⟨0, true, false⟩, 554427720000, false, { phase := .approach }, _, _, 1, rfl, rfl⟩,
   ⟨wdu0, ⟨0, true, false⟩, ⟨800, true, false⟩, 554977500000, false, ctx0, _, _,
     { ts := 5000000, dir := 1, speed := 336, depth := 160, length := 222, asym := 255, modAddr := 5 }, 1, Prod.mk.eta.symm, by decide +kernel⟩,
   ⟨wdu0, ⟨0, false, false⟩, ⟨0, true, false⟩, 554427720000, false, ctx0, _, _, Prod.mk.eta.symm, by decide +kernel, by decide +kernel⟩⟩

theorem witness_PairedSampleRunsTheRule :
    (∃ (s : State) (n : Fin 64) (x1 x2 : Sample) (inst : Nat) (y : Ctx) (ev : WduEv), s.inReset = false ∧ s.assigned n = true ∧
      ((((s.wdus[n]).in1.isSome = true ∨ (s.wdus[n]).in2.isSome = true) ∧ inst = (s.wdus[n]).inInst) ∨ ((s.wdus[n]).in1 = none ∧
      (s.wdus[n]).in2 = none ∧ (s.wdus[n]).ctx.inst < inst ∧ inst = s.pastInst n)) ∧ (s.wdus[n]).lb3 = none ∧
      x1 = (if (s.wdus[n]).alignCh then (s.wdus[n]).in1.getD {} else (((s.wdus[n]).line ++ [(s.wdus[n]).in1.getD {}]).head?).getD {}) ∧
      x2 = (if (s.wdus[n]).alignCh then (((s.wdus[n]).line ++ [(s.wdus[n]).in2.getD {}]).head?).getD {} else (s.wdus[n]).in2.getD {}) ∧
      (s.wdus[n]).ctx.evaluate (s.wduCfg n false) (halfOf (s.spanOf n) x1) (halfOf (s.spanOf n) x2) inst (s.suspect n) = (y, ev)) ∧
    (∃ (s : State) (n : Fin 64), s.assigned n = false) :=
  ⟨⟨(srv.modWdu 0 (fun w => { w with in1 := some { valid := true }, alignCh := true })), 0, _, _, 0, _, _, by decide +kernel, by decide +kernel,
    by decide +kernel, by decide +kernel, rfl, rfl, Prod.mk.eta.symm⟩,
   ⟨svc, 0, by decide +kernel⟩⟩

theorem witness_DampingTimeouts :
    (∃ (s : State) (dt : Nat) (n : Fin 64) (b : Nat), s.inReset = false ∧ s.assigned n = true ∧ (s.wdus[n]).neg1 = some b ∧
      b + 50000000 ≤ s.now + dt ∧ (s.wdus[n]).ctx.phase = .spent) ∧
    (∃ (s : State) (dt : Nat) (n : Fin 64) (b : Nat), s.inReset = false ∧ s.assigned n = true ∧ (s.wdus[n]).neg2 = some b ∧
      b + 50000000 ≤ s.now + dt ∧ (s.wdus[n]).ctx.phase ≠ .spent) ∧
    (∃ (s : State) (dt : Nat) (c : Fin 128), s.inReset = false ∧ (s.chans[c]).active = true ∧ (s.wdus[portOf c]).last1 < s.freezeOf c ∧
      (s.wdus[portOf c]).last2 < s.freezeOf c ∧ (s.chans[c]).aboveAt + 50000000 ≤ s.now + dt) :=
  ⟨⟨(srv.modWdu 0 (fun w => { w with neg1 := some 99999950000000, ctx := { phase := .spent } })), 0, 0, 99999950000000, by decide +kernel⟩,
   ⟨(srv.modWdu 0 (fun w => { w with neg2 := some 99999950000000 })), 0, 0, 99999950000000, by decide +kernel⟩,
   ⟨(svc.modChan 0 (fun c => { c with active := true, aboveAt := 99999950000000 })), 0, 0, by decide +kernel⟩⟩

theorem witness_AxleRecordsDelivered :
    (∃ (s : State) (n : Fin 64) (o : OutRec) (rest : List OutRec), s.inReset = false ∧ (s.wdus[n]).outQ = o :: rest ∧ o.record.test = true ∧
      s.hasRoom) ∧
    (∃ (s : State) (n : Fin 64) (o : OutRec) (rest : List OutRec), s.inReset = false ∧ (s.wdus[n]).outQ = o :: rest ∧ o.record.test = false ∧
      s.hasRoom ∧ s.cfg.streams = []) ∧
    (∃ (s : State) (n : Fin 64) (x : Snip) (rest : List Snip), s.pewterOn = true ∧ (s.wdus[n]).snips = x :: rest ∧ x.left = 0 ∧ x.taken = true) :=
  ⟨⟨(srv.modWdu 0 (fun w => { w with outQ := [{ record := { test := true }, num := 1 }] })), 0, { record := { test := true }, num := 1 }, [],
    by unfold State.hasRoom; decide +kernel⟩,
   ⟨(svc.modWdu 0 (fun w => { w with outQ := [{ record := {}, num := 1 }] })), 0, { record := {}, num := 1 }, [],
     by unfold State.hasRoom; decide +kernel⟩,
   ⟨(srv.modWdu 0 (fun w => { w with snips := [{ record := {}, num := 1, stride := 1, left := 0, taken := true }] })), 0,
     { record := {}, num := 1, stride := 1, left := 0, taken := true }, [], by decide +kernel⟩⟩

theorem witness_FrameChecksOneToSix :
    (∃ (b : List Byte), b.length ≠ 256) ∧
    (∃ (s : State) (k : Fin 8) (b : List Byte), b.length = 256 ∧ s.inReset = false ∧ s.linkUsed k = true ∧ (s.links[k]).sync = true ∧
      (s.links[k]).looped = false ∧ bytesAt b 252 4 ≠ (crc32c (b.take 252)).toNat) ∧
    (∃ (s : State) (k : Fin 8) (b : List Byte), b.length = 256 ∧ s.inReset = false ∧ s.linkUsed k = true ∧ (s.links[k]).sync = true ∧
      (s.links[k]).looped = false ∧ bytesAt b 252 4 = (crc32c (b.take 252)).toNat ∧ 31 < (byteAt b 248).toNat) ∧
    (∃ (s : State) (k : Fin 8) (b : List Byte), b.length = 256 ∧ s.inReset = false ∧ s.linkUsed k = true ∧ (s.links[k]).sync = true ∧
      (s.links[k]).looped = false ∧ bytesAt b 252 4 = (crc32c (b.take 252)).toNat ∧ (byteAt b 248).toNat ≤ 31 ∧ (frDst b = moduleWord s.addr ∨
      k.val < 3 ∨ s.fromSelf b = false) ∧ (laneOk k b = false ∨ (frDst b ≠ moduleWord s.addr ∧ (k.val < 3 ∨ s.relayFor k b = none)))) ∧
    (∃ (s : State) (k : Fin 8) (b : List Byte), b.length = 256 ∧ s.inReset = false ∧ s.linkUsed k = true ∧ (s.links[k]).sync = true ∧
      (s.links[k]).looped = false ∧ bytesAt b 252 4 = (crc32c (b.take 252)).toNat ∧ (byteAt b 248).toNat ≤ 31 ∧ laneOk k b = true ∧
      frDst b = moduleWord s.addr ∧ (scPrime ≤ bytesAt b 244 4 ∨ bytesAt b 244 4 ≠ (safetyCode s.cfg.seed b).toNat)) ∧
    (∃ (s : State) (k : Fin 8) (b : List Byte), b.length = 256 ∧ s.inReset = false ∧ s.linkUsed k = true ∧ (s.links[k]).sync = true ∧
      (s.links[k]).looped = false ∧ bytesAt b 252 4 = (crc32c (b.take 252)).toNat ∧ (byteAt b 248).toNat ≤ 31 ∧ laneOk k b = true ∧
      frDst b = moduleWord s.addr ∧ bytesAt b 244 4 < scPrime ∧ bytesAt b 244 4 = (safetyCode s.cfg.seed b).toNat ∧
      formatOk (decide (k.val < 3)) b = false) ∧
    (∃ (s : State) (k : Fin 8) (b : List Byte), b.length = 256 ∧ s.inReset = false ∧ s.linkUsed k = true ∧ (s.links[k]).sync = true ∧
      (s.links[k]).looped = false) :=
  ⟨⟨[], by decide +kernel⟩,
   (by refine ⟨srvLk, 0, List.replicate 256 0, ?_, ?_, ?_, ?_, ?_, (by rw [crc32c_go]; decide +kernel)⟩ <;> decide +kernel),
   (by refine ⟨srvLk, 0, frHops, ?_, ?_, ?_, ?_, ?_, (by rw [crc32c_go]; decide +kernel), ?_⟩ <;> decide +kernel),
   (by refine ⟨srvLk, 0, frDst6, ?_, ?_, ?_, ?_, ?_, (by rw [crc32c_go]; decide +kernel), ?_, ?_, ?_⟩ <;> decide +kernel),
   (by refine ⟨srvLk, 0, frSc, ?_, ?_, ?_, ?_, ?_, (by rw [crc32c_go]; decide +kernel), ?_, ?_, ?_, ?_⟩ <;> decide +kernel),
   (by refine ⟨srvLk, 0, frVer, ?_, ?_, ?_, ?_, ?_, (by rw [crc32c_go]; decide +kernel), ?_, ?_, ?_, ?_, ?_, ?_⟩ <;> decide +kernel),
   (by refine ⟨srvLk, 0, frA, ?_, ?_, ?_, ?_, ?_⟩ <;> decide +kernel)⟩

theorem witness_FrameChecksSevenToNine :
    (∃ (s : State) (k : Fin 8) (b : List Byte), b.length = 256 ∧ s.inReset = false ∧ s.linkUsed k = true ∧ (s.links[k]).sync = true ∧
      (s.links[k]).looped = false ∧ 3 ≤ k.val ∧ bytesAt b 252 4 = (crc32c (b.take 252)).toNat ∧ (byteAt b 248).toNat ≤ 31 ∧
      frDst b ≠ moduleWord s.addr ∧ frSrc b = moduleWord s.addr ∧ byteAt b 2 ≠ 6) ∧
    (∃ (s : State) (k : Fin 8) (b : List Byte), b.length = 256 ∧ s.inReset = false ∧ s.linkUsed k = true ∧ (s.links[k]).sync = true ∧
      (s.links[k]).looped = false ∧ bytesAt b 252 4 = (crc32c (b.take 252)).toNat ∧ (byteAt b 248).toNat ≤ 31 ∧ laneOk k b = true ∧
      frDst b = moduleWord s.addr ∧ bytesAt b 244 4 < scPrime ∧ bytesAt b 244 4 = (safetyCode s.cfg.seed b).toNat ∧
      formatOk (decide (k.val < 3)) b = true ∧ frSrc b = moduleWord s.addr ∧ byteAt b 2 ≠ 6) ∧
    (∃ (s : State) (k : Fin 8) (b : List Byte), b.length = 256 ∧ s.inReset = false ∧ s.linkUsed k = true ∧ (s.links[k]).sync = true ∧
      (s.links[k]).looped = false ∧ bytesAt b 252 4 = (crc32c (b.take 252)).toNat ∧ (byteAt b 248).toNat ≤ 31 ∧ laneOk k b = true ∧
      frDst b = moduleWord s.addr ∧ bytesAt b 244 4 < scPrime ∧ bytesAt b 244 4 = (safetyCode s.cfg.seed b).toNat ∧
      formatOk (decide (k.val < 3)) b = true ∧ frSrc b ≠ moduleWord s.addr ∧ s.streamOf k b = none) ∧
    (∃ (s : State) (k : Fin 8) (b : List Byte) (st : StreamRef), b.length = 256 ∧ s.inReset = false ∧ s.linkUsed k = true ∧
      (s.links[k]).sync = true ∧ (s.links[k]).looped = false ∧ bytesAt b 252 4 = (crc32c (b.take 252)).toNat ∧ (byteAt b 248).toNat ≤ 31 ∧
      laneOk k b = true ∧ frDst b = moduleWord s.addr ∧ bytesAt b 244 4 < scPrime ∧ bytesAt b 244 4 = (safetyCode s.cfg.seed b).toNat ∧
      formatOk (decide (k.val < 3)) b = true ∧ frSrc b ≠ moduleWord s.addr ∧ s.streamOf k b = some st ∧ (s.rxOf st).isSome = true) ∧
    (∃ (s : State) (dt : Nat) (k : Fin 8) (b : List Byte) (st : StreamRef) (rx : Rx) (j : Fin 8) (q : Word), b.length = 256 ∧ s.inReset = false ∧
      s.linkUsed k = true ∧ (s.links[k]).sync = true ∧ (s.links[k]).looped = false ∧ bytesAt b 252 4 = (crc32c (b.take 252)).toNat ∧
      (byteAt b 248).toNat ≤ 31 ∧ laneOk k b = true ∧ frDst b = moduleWord s.addr ∧ bytesAt b 244 4 < scPrime ∧
      bytesAt b 244 4 = (safetyCode s.cfg.seed b).toNat ∧ formatOk (decide (k.val < 3)) b = true ∧ frSrc b ≠ moduleWord s.addr ∧
      s.streamOf k b = some st ∧ s.rxOf st = some (rx, j) ∧ (s.pass dt).tb < rx.periodEnd + s.periodOf st ∧ rx.last = some q ∧
      rx.timedOut = false ∧ ((frSeq b - q).toNat = 0 ∨ 65536 < (frSeq b - q).toNat)) ∧
    (∃ (s : State) (dt : Nat) (k : Fin 8) (b : List Byte) (st : StreamRef) (rx : Rx) (j : Fin 8), b.length = 256 ∧ s.inReset = false ∧
      s.linkUsed k = true ∧ (s.links[k]).sync = true ∧ (s.links[k]).looped = false ∧ bytesAt b 252 4 = (crc32c (b.take 252)).toNat ∧
      (byteAt b 248).toNat ≤ 31 ∧ laneOk k b = true ∧ frDst b = moduleWord s.addr ∧ bytesAt b 244 4 < scPrime ∧
      bytesAt b 244 4 = (safetyCode s.cfg.seed b).toNat ∧ formatOk (decide (k.val < 3)) b = true ∧ frSrc b ≠ moduleWord s.addr ∧
      s.streamOf k b = some st ∧ s.rxOf st = some (rx, j) ∧ (s.pass dt).tb < rx.periodEnd + s.periodOf st ∧ (rx.last = none ∨ rx.timedOut = true) ∧
      ((s.pass dt).ageOk k b).1 = false) ∧
    (∃ (s : State) (dt : Nat) (k : Fin 8) (b : List Byte) (st : StreamRef) (rx : Rx) (j : Fin 8), b.length = 256 ∧ s.inReset = false ∧
      s.linkUsed k = true ∧ (s.links[k]).sync = true ∧ (s.links[k]).looped = false ∧ bytesAt b 252 4 = (crc32c (b.take 252)).toNat ∧
      (byteAt b 248).toNat ≤ 31 ∧ laneOk k b = true ∧ frDst b = moduleWord s.addr ∧ bytesAt b 244 4 < scPrime ∧
      bytesAt b 244 4 = (safetyCode s.cfg.seed b).toNat ∧ formatOk (decide (k.val < 3)) b = true ∧ frSrc b ≠ moduleWord s.addr ∧
      s.streamOf k b = some st ∧ s.rxOf st = some (rx, j) ∧ (s.pass dt).tb < rx.periodEnd + s.periodOf st ∧ ((s.pass dt).ageOk k b).1 = true ∧
      (∀ q, rx.last = some q → rx.timedOut = false → 1 ≤ (frSeq b - q).toNat ∧ (frSeq b - q).toNat ≤ 65536)) :=
  ⟨(by refine ⟨(srv.modLink 3 (fun l => { l with sync := true })), 3, frBack, ?_, ?_, ?_, ?_, ?_, ?_, (by rw [crc32c_go]; decide +kernel), ?_, ?_,
    ?_, ?_⟩ <;> decide +kernel),
   (by refine ⟨srvLk, 0, frOwn, ?_, ?_, ?_, ?_, ?_, (by rw [crc32c_go]; decide +kernel), ?_, ?_, ?_, ?_, ?_, ?_, ?_, ?_⟩ <;> decide +kernel),
   (by refine ⟨srvLk, 0, frFar, ?_, ?_, ?_, ?_, ?_, (by rw [crc32c_go]; decide +kernel), ?_, ?_, ?_, ?_, ?_, ?_, ?_, ?_⟩ <;> decide +kernel),
   (by refine ⟨srvLk, 0, frA, .command 0, ?_, ?_, ?_, ?_, ?_, (by rw [crc32c_go]; decide +kernel), ?_, ?_, ?_, ?_, ?_, ?_, ?_, ?_,
     ?_⟩ <;> decide +kernel),
   (by refine ⟨(srvLk.modLink 0 (fun l => { l with rx := { last := some 9, periodEnd := 100000000000000 } })), 0, 0, frA, .command 0,
     { last := some 9, periodEnd := 100000000000000 }, 0, 9, ?_, ?_, ?_, ?_, ?_, (by rw [crc32c_go]; decide +kernel), ?_, ?_, ?_, ?_, ?_, ?_, ?_,
     ?_, ?_, ?_, ?_, ?_, ?_⟩ <;> decide +kernel),
   (by refine ⟨(({ srvLk with clk := { srvLk.clk with signed := true } } : State).modLink 0 (fun l => { l with rx := { periodEnd := 100000000000000 } })), 0, 0, frA, .command 0, { periodEnd := 100000000000000 }, 0, ?_, ?_, ?_, ?_, ?_, (by rw [crc32c_go]; decide +kernel), ?_, ?_, ?_, ?_, ?_, ?_, ?_, ?_, ?_, ?_, ?_, ?_⟩ <;> decide +kernel),
   (by refine ⟨(srvLk.modLink 0 (fun l => { l with rx := { periodEnd := 100000000000000 }, sent := [(77, 100000000000000)] })), 0, 0, frA,
     .command 0, { periodEnd := 100000000000000 }, 0, ?_, ?_, ?_, ?_, ?_, (by rw [crc32c_go]; decide +kernel), ?_, ?_, ?_, ?_, ?_, ?_, ?_, ?_, ?_,
     ?_, ?_, (by intro q h; cases h)⟩ <;> decide +kernel)⟩

theorem witness_LinkSyncSlotsAndTimeouts :
    (∃ (s : State) (k : Fin 8) (p : Nat), s.inReset = false ∧ s.linkUsed k = true ∧ (s.links[k]).sync = false ∧ 3 ≤ p) ∧
    (∃ (s : State) (k : Fin 8) (bad : BitVec 16), s.inReset = false ∧ s.linkUsed k = true ∧ (s.links[k]).sync = true ∧
      4 ≤ (List.range 16).countP (fun i => bad.getLsbD i)) ∧
    (∃ (p : Nat), p < 3) ∧
    (∃ (s : State) (k : Fin 8) (i : Nat), s.inReset = false ∧ s.linkUsed k = true ∧ s.slotAt k s.clk.tickTb = some i ∧
      (s.links[k]).txTick ≠ some s.tickNo) ∧
    (∃ (s : State) (dt : Nat) (st : StreamRef) (rx : Rx) (k : Fin 8), s.inReset = false ∧ s.rxOf st = some (rx, k) ∧ s.linkUsed k = true ∧
      rx.periodEnd + s.periodOf st ≤ (s.pass dt).tb ∧ rx.got = true) ∧
    (∃ (s : State) (dt : Nat) (i : Fin 3) (rx : Rx) (k : Fin 8), s.inReset = false ∧ s.rxOf (.command i) = some (rx, k) ∧ s.linkUsed k = true ∧
      rx.periodEnd + s.periodOf (.command i) ≤ (s.pass dt).tb ∧ rx.got = false ∧ rx.missed = 2 ∧ rx.timedOut = false) ∧
    (∃ (s : State) (dt i : Nat) (d : StreamDef) (rx : Rx) (k : Fin 8), s.inReset = false ∧ s.rxOf (.area i) = some (rx, k) ∧
      s.cfg.streams[i]? = some d ∧ s.linkUsed k = true ∧ rx.periodEnd + s.periodOf (.area i) ≤ (s.pass dt).tb ∧ rx.got = false ∧ rx.missed = 2 ∧
      rx.timedOut = false) ∧
    (∃ (s : State) (dt : Nat) (j : Fin 8) (rx : Rx) (k : Fin 8), s.inReset = false ∧ s.rxOf (.status j) = some (rx, k) ∧ s.linkUsed k = true ∧
      rx.periodEnd + s.periodOf (.status j) ≤ (s.pass dt).tb ∧ rx.got = false ∧ rx.missed = 2 ∧ rx.timedOut = false) :=
  ⟨⟨svc, 0, 3, by decide +kernel⟩,
   ⟨srvLk, 0, 15, by decide +kernel⟩,
   ⟨2, by decide +kernel⟩,
   ⟨svc, 0, 0, by decide +kernel⟩,
   ⟨(srv.modLink 3 (fun l => { l with rx := { got := true } })), 0, .status 3, { got := true }, 3, by decide +kernel⟩,
   ⟨(srv.modLink 0 (fun l => { l with rx := { missed := 2 } })), 0, 0, { missed := 2 }, 0, by decide +kernel⟩,
   ⟨({ srv with areas := [{ rx := { missed := 2 } }] } : State), 0, 0, ⟨true, 3, 6, false, 1, 0⟩, { missed := 2 }, 3, by decide +kernel⟩,
   ⟨(srv.modLink 3 (fun l => { l with rx := { missed := 2 } })), 0, 3, { missed := 2 }, 3, by decide +kernel⟩⟩

theorem witness_LoopbacksOfALink :
    (∃ (s : State) (dt : Nat) (k : Fin 8) (x : LinkLoop), s.inReset = false ∧ (s.links[k]).loop = some x ∧ x.kind = .lba ∧
      x.begin + 20000000 ≤ s.now + dt) ∧
    (∃ (s : State) (dt : Nat) (k : Fin 8) (x : LinkLoop), s.inReset = false ∧ (s.links[k]).loop = some x ∧ x.kind = .lbf ∧ x.begin ≤ s.now + dt ∧
      (s.slotAt k s.clk.tickTb).isSome = true ∧ (s.links[k]).txTick = some s.tickNo ∧ (s.links[k]).tx = none) ∧
    (∃ (s : State) (dt : Nat) (k : Fin 8) (x : LinkLoop), s.inReset = false ∧ (s.links[k]).loop = some x ∧ x.kind = .lbf ∧
      x.begin + 100000000 ≤ s.now + dt) ∧
    (∃ (s : State) (dt : Nat) (k : Fin 8) (x : LinkLoop), s.inReset = false ∧ (s.links[k]).loop = some x ∧ x.kind = .lbr ∧ x.peer = false ∧
      x.stage = 0 ∧ x.begin + 8 * s.linkCycle k ≤ s.now + dt) ∧
    (∃ (s : State) (dt : Nat) (k : Fin 8) (x : LinkLoop), s.inReset = false ∧ (s.links[k]).loop = some x ∧ x.kind = .lbr ∧ x.stage = 1 ∧
      s.clk.tickTb % s.linkCycle k = 0 ∧ s.now + dt = s.clk.tickAt ∧ (s.links[k]).txTick ≠ some s.tickNo) ∧
    (∃ (s : State) (dt : Nat) (k : Fin 8) (x : LinkLoop), s.inReset = false ∧ (s.links[k]).loop = some x ∧ x.kind = .lbr ∧ x.stage = 2 ∧
      x.begin + 50000000 ≤ s.now + dt ∧ x.peer = true ∧ s.now + dt = s.clk.tickAt ∧ s.clk.tickTb % s.linkCycle k = 0) ∧
    (∃ (s : State) (dt : Nat) (k : Fin 8) (x : LinkLoop), s.inReset = false ∧ (s.links[k]).loop = some x ∧ x.kind = .lbr ∧ x.stage = 2 ∧
      x.begin + 50000000 ≤ s.now + dt ∧ x.peer = false) :=
  ⟨⟨(srv.modLink 0 (fun l => { l with loop := some { kind := .lba, begin := 99999980000000 } })), 0, 0, { kind := .lba, begin := 99999980000000 },
    by decide +kernel⟩,
   ⟨(srv.modLink 0 (fun l => { l with loop := some { kind := .lbf, begin := 100000000000000 }, txTick := some 400000000 })), 0, 0,
     { kind := .lbf, begin := 100000000000000 }, by decide +kernel⟩,
   ⟨(srv.modLink 0 (fun l => { l with loop := some { kind := .lbf, begin := 99999900000000 } })), 0, 0, { kind := .lbf, begin := 99999900000000 },
     by decide +kernel⟩,
   ⟨(srv.modLink 0 (fun l => { l with loop := some { kind := .lbr, begin := 99999992000000 } })), 0, 0, { kind := .lbr, begin := 99999992000000 },
     by decide +kernel⟩,
   ⟨(srv.modLink 0 (fun l => { l with loop := some { kind := .lbr, begin := 0, stage := 1 } })), 0, 0, { kind := .lbr, begin := 0, stage := 1 },
     by decide +kernel⟩,
   ⟨(srv.modLink 0 (fun l => { l with loop := some { kind := .lbr, begin := 99999950000000, stage := 2, peer := true } })), 0, 0,
     { kind := .lbr, begin := 99999950000000, stage := 2, peer := true }, by decide +kernel⟩,
   ⟨(srv.modLink 0 (fun l => { l with loop := some { kind := .lbr, begin := 99999950000000, stage := 2 } })), 0, 0,
     { kind := .lbr, begin := 99999950000000, stage := 2 }, by decide +kernel⟩⟩

theorem witness_CommandsBarred :
    (∃ (c : Instr) (w : Who) (o : Op) (ps : List Byte) (s : State), asOp c = some (w, o, ps) ∧ s.inReset = false ∧ (s.clk.prodTest = false ∨
      o.isLoopback = false) ∧ classAdmits w.class o.code ps = false) ∧
    (∃ (c : Instr) (w : Who) (o : Op) (ps : List Byte) (s : State), asOp c = some (w, o, ps) ∧ s.inReset = false ∧ (s.clk.prodTest = false ∨
      o.isLoopback = false) ∧ classAdmits w.class o.code ps = true ∧ isRead o.code = false ∧ s.testing = true ∧ w.class ≠ .v) ∧
    (∃ (c : Instr) (w : Who) (o : Op) (ps : List Byte) (s : State), asOp c = some (w, o, ps) ∧ s.inReset = false ∧ (s.clk.prodTest = false ∨
      o.isLoopback = false) ∧ classAdmits w.class o.code ps = true ∧ isRead o.code = false ∧ s.testing = false ∧ w = .lanes true ∧
      o.asReset = none ∧ s.precheck { who := w, op := o, ref := .none } s.snap = none) ∧
    (∃ (c : Instr) (w : Who) (o : Op) (ps : List Byte) (s : State), asOp c = some (w, o, ps) ∧ s.inReset = false ∧ (s.clk.prodTest = false ∨
      o.isLoopback = false) ∧ classAdmits w.class o.code ps = true ∧ (s.testing = false ∨ isRead o.code = true) ∧ (w ≠ .lanes true ∨
      isRead o.code = true) ∧ o.onAdmission = false ∧ s.executor o = none ∧ s.precheck { who := w, op := o, ref := .none } s.snap = none ∧
      o.asReset = none) ∧
    (∃ (c : Instr) (w : Who) (o : Op) (ps : List Byte) (s : State), asOp c = some (w, o, ps) ∧ s.inReset = false ∧ (s.clk.prodTest = false ∨
      o.isLoopback = false) ∧ classAdmits w.class o.code ps = true ∧ s.testing = false ∧ (w = .lanes true ∨ s.executor o = none) ∧
      s.precheck { who := w, op := o, ref := .none } s.snap = none ∧ o.asReset.isSome = true) ∧
    (∃ (c : Instr) (w : Who) (o : Op) (ps : List Byte) (s : State), asOp c = some (w, o, ps) ∧ s.inReset = false ∧ (s.clk.prodTest = false ∨
      o.isLoopback = false) ∧ classAdmits w.class o.code ps = true ∧ (s.testing = false ∨ isRead o.code = true) ∧ (w ≠ .lanes true ∨
      isRead o.code = true) ∧ (o.onAdmission = true → s.pewterOn = true ∨ o.code.toNat ∈ [0x01, 0x02, 0x03, 0x60]) ∧ o.asReset = none ∧
      s.hasImage = false ∧ needsImage o.code = true) ∧
    (∃ (c : Instr) (w : Who) (o : Op) (ps : List Byte) (s : State) (id : BitVec 3) (k : Nat), asOp c = some (w, o, ps) ∧ s.inReset = false ∧
      (s.clk.prodTest = false ∨ o.isLoopback = false) ∧ w = .tool id ∧ keyOf o.code = some k ∧ s.testing = false ∧
      (if k = 6 then s.accepted 6 else s.accepted 7) = false ∧ classAdmits .t o.code ps = true ∧ (s.hasImage = true ∨ needsImage o.code = false)) :=
  ⟨⟨.resetDirect (.mgt 1) 1280, .mgt 1, .resetDirect 1280, [], srv, by decide +kernel⟩,
   ⟨.cfgBegin (.tool 0) 64, .tool 0, .cfgBegin 64, [], ({ srv with tst := { srv.tst with state := .done } } : State), by decide +kernel⟩,
   ⟨.syncReset (.lanes true) 0 1, .lanes true, .syncReset 0 1, [], srv, by decide +kernel⟩,
   ⟨.syncReset (.lanes false) 0 1, .lanes false, .syncReset 0 1, [], ({ srv with engines := State.reset.engines } : State), by decide +kernel⟩,
   ⟨.resetDirect (.lanes true) 1280, .lanes true, .resetDirect 1280, [], srv, by decide +kernel⟩,
   ⟨.faultAck (.lanes false) 0, .lanes false, .faultAck 0, [], svc, by decide +kernel⟩,
   ⟨.engineJoin (.tool 2) 0, .tool 2, .engineJoin 0, [], (srv.modVi 6 (fun v => { v with state := .inactive })), 2, 6, by decide +kernel⟩⟩

theorem witness_CommandsRun :
    (∃ (c : Instr) (w : Who) (o : Op) (ps : List Byte) (s u : State) (r : _), asOp c = some (w, o, ps) ∧ s.admits w o ps ∧ o.asReset = none ∧
      s.perform { who := w, op := o, ref := .none } s.snap = (u, some r)) ∧
    (∃ (c : Instr) (w : Who) (o : Op) (ps : List Byte) (s u : State), asOp c = some (w, o, ps) ∧ s.admits w o ps ∧ o.asReset = none ∧
      s.perform { who := w, op := o, ref := .none } s.snap = (u, none)) :=
  ⟨⟨.getStatus (.mgt 1), .mgt 1, .getStatus, [], srv, _, _, by decide +kernel, by unfold State.admits; decide +kernel, by decide +kernel, rfl⟩,
   ⟨.cfgEnd (.tool 0) 0, .tool 0, .cfgEnd 0, [], ({ srv with img := { srv.img with stage := .loading, loadLen := 64 } } : State), _,
     by decide +kernel, by unfold State.admits; decide +kernel, by decide +kernel, Prod.ext rfl (by decide +kernel)⟩⟩

theorem witness_ReadsAndFaultAcknowledge :
    (∃ (s : State) (w : Who), s.admits w .getStatus []) ∧
    (∃ (s : State) (w : Who) (gid : Word), s.admits w (.getSection gid) []) ∧
    (∃ (s : State) (w : Who) (gid : Word) (f : BitVec 16) (n l : Byte), s.admits w (.getAxles gid f n l) []) ∧
    (∃ (s : State) (w : Who), s.admits w .timebaseStatus []) ∧
    (∃ (s : State) (w : Who) (l n : Byte) (f : BitVec 48), s.admits w (.logRead l n f) [] ∧ (∀ p ∈ s.mgt.evtRing ++ s.mgt.axlRing, p.ok = true)) ∧
    (∃ (s : State) (w : Who) (input : Byte), s.admits w (.faultAck input) [] ∧ 5 < input.toNat) ∧
    (∃ (s : State) (w : Who) (input : Byte) (i : Fin 8), s.admits w (.faultAck input) [] ∧ i.val = input.toNat ∧ i.val < 6 ∧
      (s.vis[i]).resetFault = false) ∧
    (∃ (s : State) (w : Who) (input : Byte) (i : Fin 8), s.admits w (.faultAck input) [] ∧ i.val = input.toNat ∧ i.val < 6 ∧
      (s.vis[i]).resetFault = true ∧ (s.vis[i]).releasedAt s.now = false) ∧
    (∃ (s : State) (w : Who) (input : Byte) (i : Fin 8), s.admits w (.faultAck input) [] ∧ i.val = input.toNat ∧ i.val < 6 ∧
      (s.vis[i]).resetFault = true ∧ (s.vis[i]).releasedAt s.now = true) :=
  ⟨⟨srv, .mgt 1, by unfold State.admits; decide +kernel⟩,
   ⟨srv, .mgt 1, 1280, by unfold State.admits; decide +kernel⟩,
   ⟨srv, .mgt 1, 1280, 0, 1, 0, by unfold State.admits; decide +kernel⟩,
   ⟨srv, .mgt 1, by unfold State.admits; decide +kernel⟩,
   ⟨srv, .mgt 1, 0, 1, 0, by unfold State.admits; decide +kernel⟩,
   ⟨srv, .lanes false, 6, by unfold State.admits; decide +kernel⟩,
   ⟨srv, .lanes false, 5, 5, by unfold State.admits; decide +kernel⟩,
   ⟨(srv.modVi 0 (fun v => { v with resetFault := true })), .lanes false, 0, 0, by unfold State.admits; decide +kernel⟩,
   ⟨(srv.modVi 0 (fun v => { v with resetFault := true, relSince := some 99999000000000 })), .lanes false, 0, 0,
     by unfold State.admits; decide +kernel⟩⟩

theorem witness_ResetCommands :
    (∃ (c : Instr) (o : Op) (s : State) (w : Who) (gid : Word) (i : Fin 256) (d : SecDef) (e : Fin 4) (j : Journal) (x : Sec) (k : _),
      asOp c = some (w, o, []) ∧ s.admits w o [] ∧ s.cfg.localSec gid = some i ∧ s.cfg.sec i = some d ∧ s.publisher i = some e ∧
      (s.engines[e]).executes = true ∧ d.byCommand = true ∧ (s.engines[e]).takesCommand = true ∧ (s.engines[e]).sampled.getLast? = some j ∧
      j.dual = [] ∧ ((s.engines[e]).imageAfter s.cfg s.hasImage (s.engines[e]).sampled).sec i = some x ∧ x.unproven = false ∧ o.asReset = some (k,
      gid) ∧ (k = .direct → d.directOk = true)) ∧
    (∃ (c : Instr) (o : Op) (s : State) (w : Who) (e : Fin 4), asOp c = some (w, o, []) ∧ o.asReset.isSome = true ∧ s.admits w o [] ∧
      s.executor o = some e ∧ (s.engines[e]).takesCommand = false) ∧
    (∃ (c : Instr) (w : Who) (o : Op) (gid : Word) (k : ResetKind) (s : State) (e : Fin 4) (j : Journal), asOp c = some (w, o, []) ∧
      o.asReset = some (k, gid) ∧ s.admits w o [] ∧ s.executor o = some e ∧ (s.engines[e]).takesCommand = true ∧
      (s.engines[e]).sampled.getLast? = some j ∧ j.dual = [] ∧ gid.toNat / 256 ≠ s.cfg.modAddr.toNat) ∧
    (∃ (c : Instr) (w : Who) (o : Op) (gid : Word) (k : ResetKind) (s : State) (e : Fin 4) (j : Journal) (i : Fin 256) (d : SecDef) (x : Sec),
      asOp c = some (w, o, []) ∧ o.asReset = some (k, gid) ∧ s.admits w o [] ∧ s.executor o = some e ∧ (s.engines[e]).takesCommand = true ∧
      (s.engines[e]).sampled.getLast? = some j ∧ j.dual = [] ∧ s.cfg.localSec gid = some i ∧ s.cfg.sec i = some d ∧ i ∉ (s.engines[e]).unheard ∧
      ((s.engines[e]).imageAfter s.cfg s.hasImage (s.engines[e]).sampled).sec i = some x ∧ (d.byCommand = false ∨ x.unproven = true ∨
      (k = .direct ∧ d.directOk = false))) :=
  ⟨⟨.resetDirect (.lanes false) 1280, .resetDirect 1280, (srvRun { idx := 0 }), .lanes false, 1280, 0, sec0, 0, {}, { idx := 0 }, .direct,
    by unfold State.admits; decide +kernel⟩,
   ⟨.resetDirect (.lanes false) 1280, .resetDirect 1280, srv, .lanes false, 0, by unfold State.admits; decide +kernel⟩,
   ⟨.resetDirect (.lanes false) 1024, .lanes false, .resetDirect 1024, 1024, .direct, (srvRun { idx := 0 }), 0, {},
     by unfold State.admits; decide +kernel⟩,
   ⟨.resetDirect (.lanes false) 1280, .lanes false, .resetDirect 1280, 1280, .direct, (srvRun { idx := 0, causes := [.noEngine] }), 0, {}, 0, sec0,
     { idx := 0, causes := [.noEngine] }, by unfold State.admits; decide +kernel⟩⟩

theorem witness_ImageLoading :
    (∃ (s : State) (id : BitVec 3) (len : Word), s.admits (.tool id) (.cfgBegin len) [] ∧ 64 ≤ len.toNat ∧ len.toNat ≤ 1048576 ∧ (∀ v,
      s.img.verify = some v → v.cmd.ref = .none)) ∧
    (∃ (s : State) (id : BitVec 3) (off : Word) (data : List Byte), s.admits (.tool id) (.cfgBlock off data) [] ∧ data ≠ [] ∧ data.length ≤ 236 ∧
      s.img.stage = .loading ∧ s.img.owner = id ∧ off.toNat + data.length ≤ s.img.loadLen) ∧
    (∃ (s : State) (id : BitVec 3) (off : Word) (data : List Byte), s.admits (.tool id) (.cfgBlock off data) [] ∧ data ≠ [] ∧ data.length ≤ 236 ∧
      s.img.stage = .loading ∧ s.img.owner = id ∧ s.img.loadLen < off.toNat + data.length) ∧
    (∃ (s : State) (id : BitVec 3) (off : Word) (data : List Byte), s.admits (.tool id) (.cfgBlock off data) [] ∧ data ≠ [] ∧ data.length ≤ 236 ∧
      s.img.stage ≠ .empty ∧ s.img.owner ≠ id) :=
  ⟨⟨srv, 0, 64, by unfold State.admits; decide +kernel⟩,
   ⟨({ srv with img := { srv.img with stage := .loading, loadLen := 64 } } : State), 0, 60, [1, 2, 3, 4], by unfold State.admits; decide +kernel⟩,
   ⟨({ srv with img := { srv.img with stage := .loading, loadLen := 64 } } : State), 0, 61, [1, 2, 3, 4], by unfold State.admits; decide +kernel⟩,
   ⟨({ srv with img := { srv.img with stage := .loading, loadLen := 64 } } : State), 1, 0, [1], by unfold State.admits; decide +kernel⟩⟩

theorem witness_ImageConfirmation :
    (∃ (s : State) (id : BitVec 3) (crc : Word), s.admits (.tool id) (.cfgEnd crc) [] ∧ s.img.stage = .loading ∧ s.img.owner = id) ∧
    (∃ (s : State) (id : BitVec 3) (crc : Word), s.admits (.tool id) (.cfgEnd crc) [] ∧ (s.img.stage ≠ .loading ∨ s.img.owner ≠ id)) ∧
    (∃ (s : State) (id : BitVec 3) (v : BitVec 64) (i : CfgImage), s.admits (.tool id) (.cfgConfirm v) [] ∧ s.img.stage = .staged ∧
      s.img.staged = some i ∧ s.img.owner = id ∧ v = crc64 i.bytes) ∧
    (∃ (s : State) (id : BitVec 3) (v : BitVec 64) (i : CfgImage), s.admits (.tool id) (.cfgConfirm v) [] ∧ s.img.stage = .staged ∧
      s.img.staged = some i ∧ s.img.owner = id ∧ v ≠ crc64 i.bytes) ∧
    (∃ (s : State) (id : BitVec 3), s.admits (.tool id) (.cfgRevert 0) [] ∧ s.img.stage = .staged ∧ s.img.owner = id ∧ s.img.verify = none) ∧
    (∃ (s : State) (id : BitVec 3) (p : CfgImage), s.admits (.tool id) (.cfgRevert 1) [] ∧ s.img.stage = .empty ∧ s.img.previous = some p ∧
      s.img.verify = none) :=
  ⟨⟨({ srv with img := { srv.img with stage := .loading, loadLen := 64 } } : State), 0, 0, by unfold State.admits; decide +kernel⟩,
   ⟨srv, 0, 0, by unfold State.admits; decide +kernel⟩,
   ⟨({ srv with img := { srv.img with stage := .staged, staged := some ⟨[], cfg0, 0⟩ } } : State), 0, crc64 [], ⟨[], cfg0, 0⟩,
     by unfold State.admits; decide +kernel⟩,
   ⟨({ srv with img := { srv.img with stage := .staged, staged := some ⟨[], cfg0, 0⟩ } } : State), 0, 1, ⟨[], cfg0, 0⟩,
     by unfold State.admits; decide +kernel⟩,
   ⟨({ srv with img := { srv.img with stage := .staged, staged := some ⟨[], cfg0, 0⟩ } } : State), 0, by unfold State.admits; decide +kernel⟩,
   ⟨({ srv with img := { srv.img with previous := some ⟨[], cfg0, 0⟩ } } : State), 0, ⟨[], cfg0, 0⟩, by unfold State.admits; decide +kernel⟩⟩

theorem witness_FirmwareCommands :
    (∃ (s : State) (w : Who) (off : Word) (data : List Byte), s.admits w (.fwStage off data) [] ∧ data ≠ [] ∧ data.length ≤ 236 ∧
      off.toNat + data.length ≤ 8388608 ∧ s.img.fwPending = false ∧ (off = 0 ∨ s.mgt.fwState = .receiving)) ∧
    (∃ (s : State) (w : Who) (len : Word), s.admits w (.fwStageClose len) [] ∧ s.mgt.fwState = .receiving) ∧
    (∃ (s : State) (w : Who) (len : Word), s.admits w (.fwStageClose len) [] ∧ s.mgt.fwState ≠ .receiving) ∧
    (∃ (s : State) (id : BitVec 3) (v : BitVec 64), s.admits (.tool id) (.fwActivate v) [] ∧ (s.img.stage = .empty ∨ s.img.owner = id) ∧
      s.mgt.fwState ≠ .none ∧ s.mgt.fwState ≠ .failed ∧ s.stagedKind = 1 ∧ s.img.fwPending = false ∧ s.img.fwVerified = true ∧
      v = crc64 s.mgt.fwBytes) ∧
    (∃ (s : State) (id : BitVec 3) (v : BitVec 64), s.admits (.tool id) (.fwActivate v) [] ∧ (s.img.stage = .empty ∨ s.img.owner = id) ∧
      s.mgt.fwState ≠ .none ∧ s.mgt.fwState ≠ .failed ∧ s.stagedKind = 1 ∧ s.img.fwPending = false ∧ s.img.fwVerified = false) :=
  ⟨⟨srv, .mgt 1, 0, [1], by unfold State.admits; decide +kernel⟩,
   ⟨({ srv with mgt := { srv.mgt with fwState := .receiving } } : State), .mgt 1, 0, by unfold State.admits; decide +kernel⟩,
   ⟨srv, .mgt 1, 0, by unfold State.admits; decide +kernel⟩,
   ⟨({ ({ srv with mgt := { srv.mgt with fwState := .verified, fwVital := true, fwBytes := [1] } } : State) with img := { ({ srv with mgt := { srv.mgt with fwState := .verified, fwVital := true, fwBytes := [1] } } : State).img with fwVerified := true } } : State), 0, crc64 [1], by unfold State.admits; decide +kernel⟩,
   ⟨({ ({ srv with mgt := { srv.mgt with fwState := .verified, fwVital := true, fwBytes := [1] } } : State) with img := { ({ srv with mgt := { srv.mgt with fwState := .verified, fwVital := true, fwBytes := [1] } } : State).img with fwVerified := false } } : State), 0, 0, by unfold State.admits; decide +kernel⟩⟩

theorem witness_BankAndChannelCommands :
    (∃ (s : State) (w : Who) (b : Bool) (f : Byte) (l : List (BitVec 24)), s.admits w (.bankLoad b f l) [] ∧ l ≠ [] ∧ l.length ≤ 64 ∧
      f.toNat + l.length ≤ 256 ∧ s.bankFading b = false ∧ s.bankUsed b = false) ∧
    (∃ (s : State) (w : Who) (b : Bool) (f : Byte) (l : List (BitVec 24)), s.admits w (.bankLoad b f l) [] ∧ l ≠ [] ∧ l.length ≤ 64 ∧
      f.toNat + l.length ≤ 256 ∧ s.bankFading b = true) ∧
    (∃ (s : State) (w : Who) (b : Bool) (crc : Word), s.admits w (.bankClose b crc) [] ∧ (s.bank b).loading = true ∧ s.bankFading b = false ∧
      s.bankUsed b = false ∧ crc = crc32c (coefBytes (s.bank b).coef.toList) ∧ setOk (s.bank b).coef.toList = true) ∧
    (∃ (s : State) (w : Who) (b : Bool) (crc : Word), s.admits w (.bankClose b crc) [] ∧ (s.bank b).loading = true ∧ s.bankFading b = false ∧
      s.bankUsed b = false ∧ crc ≠ crc32c (coefBytes (s.bank b).coef.toList)) ∧
    (∃ (s : State) (w : Who) (a z : BitVec 6) (b : Bool), s.admits w (.bankSwap a z b) [] ∧ a.toNat ≤ z.toNat ∧ (∀ c : Fin 128,
      a.toNat ≤ (portOf c).val → (portOf c).val ≤ z.toNat → (s.chans[c]).fade = none) ∧ (s.bank b).valid = true) ∧
    (∃ (s : State) (w : Who) (a z : BitVec 6) (q : BitVec 2), s.admits w (.presetSelect a z (some q) none) [] ∧ a.toNat ≤ z.toNat) ∧
    (∃ (s : State) (w : Who) (a z : BitVec 6), s.admits w (.syncReset a z) [] ∧ a.toNat ≤ z.toNat) ∧
    (∃ (s : State) (w : Who) (a z : BitVec 6), s.admits w (.syncReset a z) [] ∧ z.toNat < a.toNat) :=
  ⟨⟨srv, .lanes false, true, 255, [1], by unfold State.admits; decide +kernel⟩,
   ⟨(srv.modChan 0 (fun c => { c with fade := some { target := true } })), .lanes false, true, 255, [1], by unfold State.admits; decide +kernel⟩,
   ⟨({ srv with banks := Vector.replicate 2 { coef := Vector.replicate 256 32768, loading := true, valid := true } } : State), .lanes false, true,
     crc32c (coefBytes (List.replicate 256 32768)), by unfold State.admits; decide +kernel, by decide +kernel, by decide +kernel,
     by decide +kernel, congrArg (fun l => crc32c (coefBytes l)) (by decide +kernel), by decide +kernel⟩,
   ⟨({ srv with banks := Vector.replicate 2 { coef := Vector.replicate 256 32768, loading := true, valid := true } } : State), .lanes false, true,
     0, by unfold State.admits; decide +kernel, by decide +kernel, by decide +kernel, by decide +kernel, (by rw [crc32c_go]; decide +kernel)⟩,
   ⟨({ srv with banks := Vector.replicate 2 { coef := Vector.replicate 256 32768, loading := true, valid := true } } : State), .lanes false, 0, 63,
     true, by unfold State.admits; decide +kernel⟩,
   ⟨srv, .lanes false, 5, 5, 1, by unfold State.admits; decide +kernel⟩,
   ⟨srv, .lanes false, 0, 63, by unfold State.admits; decide +kernel⟩,
   ⟨srv, .lanes false, 1, 0, by unfold State.admits; decide +kernel⟩⟩

theorem witness_EngineCommands :
    (∃ (s : State) (w : Who) (a b : Fin 4), s.admits w (.engineSplit a b) [] ∧ a ≠ b ∧ (s.cfg.cenCfg[a]).getLsbD 31 = true ∧
      (s.engines[a]).mode = .run ∧ (s.engines[b]).mode = .run ∧ (s.engines[a]).ho = [] ∧ (s.engines[b]).ho = [] ∧ s.img.stage ≠ .staged ∧
      (s.engines[a]).committed.secs.length + (s.engines[b]).committed.secs.length ≤ 64 ∧
      s.cfg.blocksOf (s.engines[a]).committed.secs + s.cfg.blocksOf (s.engines[b]).committed.secs ≤ 1024) ∧
    (∃ (s : State) (w : Who) (a b : Fin 4), s.admits w (.engineSplit a b) [] ∧ a ≠ b ∧ ((s.cfg.cenCfg[a]).getLsbD 31 = false ∨
      (s.engines[a]).mode ≠ .run ∨ (s.engines[b]).mode ≠ .run ∨ (s.engines[a]).engaged = true ∨ (s.engines[b]).engaged = true ∨
      s.img.stage = .staged ∨ 64 < (s.engines[a]).committed.secs.length + (s.engines[b]).committed.secs.length ∨
      1024 < s.cfg.blocksOf (s.engines[a]).committed.secs + s.cfg.blocksOf (s.engines[b]).committed.secs)) ∧
    (∃ (s : State) (w : Who) (e : Fin 4), s.admits w (.engineJoin e) [] ∧ (s.engines[e]).mode = .split ∧ (s.engines[e]).joining = false ∧
      (s.engines[e]).ho = [] ∧ (∀ j : Fin 4, (s.engines[j]).engaged = false)) ∧
    (∃ (s : State) (w : Who) (e : Fin 4), s.admits w (.engineJoin e) [] ∧ (s.engines[e]).mode ≠ .split) ∧
    (∃ (s : State) (w : Who) (e : Fin 4), s.admits w (.engineJoin e) [] ∧ (s.engines[e]).mode = .split ∧ (s.engines[e]).joining = false ∧
      (s.engines[e]).engaged = true) ∧
    (∃ (s : State) (w : Who) (e : Fin 4), s.admits w (.debugAttach e) [] ∧ (s.cfg.cenCfg[e]).getLsbD 30 = true ∧ (s.engines[e]).mode ≠ .halted ∧
      (s.engines[e]).mode ≠ .debug ∧ (s.engines[e]).ho = []) ∧
    (∃ (s : State) (w : Who) (e : Fin 4), s.admits w (.debugDetach e) [] ∧ (s.engines[e]).mode = .debug) ∧
    (∃ (s : State) (w : Who) (e : Fin 4), s.admits w (.debugDetach e) [] ∧ (s.engines[e]).mode ≠ .debug) :=
  ⟨⟨srv, .tool 0, 0, 1, by unfold State.admits; decide +kernel⟩,
   ⟨(srv.modEngine 1 (fun g => { g with mode := .halted })), .tool 0, 0, 1, by unfold State.admits; decide +kernel⟩,
   ⟨(srv.modEngine 1 (fun g => { g with mode := .split })), .tool 0, 1, by unfold State.admits; decide +kernel⟩,
   ⟨srv, .tool 0, 1, by unfold State.admits; decide +kernel⟩,
   ⟨(srv.modEngine 1 (fun g => { g with mode := .split, ho := [{ peer := 2, join := false, source := true, t0 := 97 }] })), .tool 0, 1,
     by unfold State.admits; decide +kernel⟩,
   ⟨srv, .tool 0, 1, by unfold State.admits; decide +kernel⟩,
   ⟨(srv.modEngine 1 (fun g => { g with mode := .debug })), .tool 0, 1, by unfold State.admits; decide +kernel⟩,
   ⟨srv, .tool 0, 1, by unfold State.admits; decide +kernel⟩⟩

theorem witness_TestCommands :
    (∃ (s : State) (w : Who) (x : Bool), s.admits w (.selftestShutdown x) [] ∧ s.railsNormal = true ∧ (∀ e : Fin 4,
      (s.engines[e]).engaged = false) ∧ s.img.stage ≠ .verifying ∧ s.img.stage ≠ .activating ∧ s.img.fwPending = false) ∧
    (∃ (s : State) (w : Who) (x : Bool), s.admits w (.selftestShutdown x) [] ∧ (s.railsNormal = false ∨ (∃ e : Fin 4,
      (s.engines[e]).engaged = true) ∨ s.img.stage = .verifying ∨ s.img.stage = .activating ∨ s.img.fwPending = true)) ∧
    (∃ (s : State) (w : Who) (n : Fin 64), s.admits w (.selftestPort n) [] ∧ s.assigned n = true) ∧
    (∃ (s : State) (w : Who) (n : Fin 64), s.admits w (.selftestPort n) [] ∧ s.assigned n = false) ∧
    (∃ (s : State) (w : Who) (n : Fin 64) (c : Instr) (kind : Byte) (lk : LbKind), (c, kind, lk) ∈ [(Instr.loopbackSetLb0 w n, (0 : Byte),
      LbKind.lb0), (.loopbackSetLb1 w n, 1, .lb1), (.loopbackSetLb2 w n, 2, .lb2)] ∧ s.admits w (.loopback 0 (BitVec.ofNat 8 n.val) kind) [0,
      BitVec.ofNat 8 n.val, kind] ∧ s.assigned n = true ∧ (s.ports[n]).lb = none ∧ (s.wdus[n]).lb3 = none ∧ s.rt = none ∧
      (s.lanes[laneOfPort n]).echo = none) ∧
    (∃ (s : State) (w : Who) (n : Fin 64), s.admits w (.loopback 0 (BitVec.ofNat 8 n.val) 3) [0, BitVec.ofNat 8 n.val, 3] ∧ s.assigned n = true ∧
      (s.ports[n]).lb = none ∧ s.rt = none ∧ (s.wdus[n]).lb3 = none) ∧
    (∃ (s : State) (w : Who) (n : Fin 64), s.admits w (.loopback 0 (BitVec.ofNat 8 n.val) 3) [0, BitVec.ofNat 8 n.val, 3] ∧ s.assigned n = true ∧
      (s.ports[n]).lb = none ∧ s.rt = none ∧ (s.wdus[n]).lb3 ≠ none) ∧
    (∃ (s : State) (w : Who) (k : Fin 8), s.admits w (.loopback 1 (BitVec.ofNat 8 k.val) 0) [1, BitVec.ofNat 8 k.val, 0] ∧
      (s.lanes[k]).echo = none ∧ (∀ n : Fin 64, laneOfPort n = k → (s.ports[n]).lb = none) ∧ s.rt = none) ∧
    (∃ (s : State) (w : Who) (k : Fin 8), s.admits w (.loopback 2 (BitVec.ofNat 8 k.val) 0) [2, BitVec.ofNat 8 k.val, 0] ∧ s.linkUsed k = true ∧
      (s.links[k]).loop = none) ∧
    (∃ (s : State) (w : Who) (k : Fin 8), s.admits w (.loopback 2 (BitVec.ofNat 8 k.val) 1) [2, BitVec.ofNat 8 k.val, 1] ∧ s.linkUsed k = true ∧
      (s.links[k]).loop = none) ∧
    (∃ (s : State) (w : Who) (k : Fin 8), s.admits w (.loopback 2 (BitVec.ofNat 8 k.val) 2) [2, BitVec.ofNat 8 k.val, 2] ∧ s.linkUsed k = true ∧
      3 ≤ k.val ∧ (s.links[k]).loop = none) ∧
    (∃ (s : State) (w : Who) (k : Fin 8), s.admits w (.loopback 2 (BitVec.ofNat 8 k.val) 2) [2, BitVec.ofNat 8 k.val, 2] ∧ k.val < 3) :=
  ⟨⟨srv, .tool 0, true, by unfold State.admits; decide +kernel⟩,
   ⟨({ srv with sup := { srv.sup with core := { st := .warning } } } : State), .tool 0, true, by unfold State.admits; decide +kernel⟩,
   ⟨srv, .tool 0, 0, by unfold State.admits; decide +kernel⟩,
   ⟨({ srv with img := { srv.img with active := some ⟨[], { cfg0 with prtCfg := Vector.replicate 64 0 }, 7⟩ } } : State), .tool 0, 0,
     by unfold State.admits; decide +kernel⟩,
   (by refine ⟨srv, .tool 0, 0, .loopbackSetLb0 (.tool 0) 0, 0, .lb0, (by simp), by unfold State.admits; decide +kernel, ?_, ?_, ?_, ?_,
     ?_⟩ <;> decide +kernel),
   ⟨srv, .tool 0, 0, by unfold State.admits; decide +kernel⟩,
   ⟨(srv.modWdu 0 (fun w => { w with lb3 := some {} })), .tool 0, 0, by unfold State.admits; decide +kernel⟩,
   ⟨srv, .tool 0, 7, by unfold State.admits; decide +kernel⟩,
   ⟨srv, .tool 0, 7, by unfold State.admits; decide +kernel⟩,
   ⟨srv, .tool 0, 7, by unfold State.admits; decide +kernel⟩,
   ⟨srv, .tool 0, 3, by unfold State.admits; decide +kernel⟩,
   ⟨srv, .tool 0, 2, by unfold State.admits; decide +kernel⟩⟩

theorem witness_ImageVerification :
    (∃ (s : State) (v : Verify), s.inReset = false ∧ s.img.verify = some v ∧ v.revert = false ∧
      Memory.readBytes s.img.loadBuf 0 s.img.loadLen = none) ∧
    (∃ (s : State) (v : Verify) (bs : List Byte), s.inReset = false ∧ s.img.verify = some v ∧ v.revert = false ∧
      Memory.readBytes s.img.loadBuf 0 s.img.loadLen = some bs ∧ v.crc ≠ crc32c bs) ∧
    (∃ (s : State) (v : Verify) (bs : List Byte) (items : List Item), s.inReset = false ∧ s.img.verify = some v ∧ v.revert = false ∧
      Memory.readBytes s.img.loadBuf 0 s.img.loadLen = some bs ∧ v.crc = crc32c bs ∧ parseImage bs = .inl items ∧
      identityBad s.img.fwLine bs = none ∧ (∀ i, s.img.active = some i → i.cfg.serial.toNat < (cfgOf bs items).serial.toNat) ∧
      firstBreak (cfgOf bs items) items = none) ∧
    (∃ (s : State) (v : Verify) (p : CfgImage) (items : List Item), s.inReset = false ∧ s.img.verify = some v ∧ v.revert = true ∧
      s.img.previous = some p ∧ parseImage p.bytes = .inl items ∧ identityBad s.img.fwLine p.bytes = none ∧
      firstBreak (cfgOf p.bytes items) items = none) :=
  ⟨⟨({ srv with img := { srv.img with verify := some { cmd := ⟨.tool 0, .cfgEnd 0, .none⟩, crc := 0, revert := false, begin := 0 }, loadLen := 64 } } : State), { cmd := ⟨.tool 0, .cfgEnd 0, .none⟩, crc := 0, revert := false, begin := 0 }, by decide +kernel⟩,
   ⟨({ srv with img := { srv.img with verify := some { cmd := ⟨.tool 0, .cfgEnd 0, .none⟩, crc := 1, revert := false, begin := 0 } } } : State),
     { cmd := ⟨.tool 0, .cfgEnd 0, .none⟩, crc := 1, revert := false, begin := 0 }, [], by decide +kernel⟩,
   verify_ok image0 items0 image0_items image0_identity image0_limits,
   ⟨{ svc with img := { verify := some ⟨⟨.tool 0, .cfgRevert 0, .none⟩, 0, true, 0⟩, previous := some ⟨image0, cfg0, 0⟩, fwLine := 4 } },
     ⟨⟨.tool 0, .cfgRevert 0, .none⟩, 0, true, 0⟩, ⟨image0, cfg0, 0⟩, items0, rfl, rfl, rfl, rfl, image0_items, image0_identity, image0_limits⟩⟩

theorem witness_ImageActivated :
    (∃ (s : State) (i : CfgImage), s.inReset = false ∧ s.img.staged = some i ∧ s.img.stage = .activating ∧ s.now = s.clk.tickAt ∧ (∀ e : Fin 4,
      (s.engines[e]).ho = [])) ∧
    (∃ (s : State) (e : Fin 4), ((s.engines[e]).ho ≠ [] ∨ s.now ≠ s.clk.tickAt)) ∧
    (∃ (s : State) (dt : Nat), s.inReset = false ∧ s.img.stage = .staged ∧ s.img.stagedAt + 3600000000000 ≤ s.now + dt ∧ s.img.verify = none) :=
  ⟨⟨({ srv with img := { srv.img with staged := some ⟨[], cfg0, 0⟩, stage := .activating } } : State), ⟨[], cfg0, 0⟩, by decide +kernel⟩,
   ⟨(srv.modEngine 0 (fun g => { g with ho := [{ peer := 1, join := false, source := true, t0 := 97 }] })), 0, by decide +kernel⟩,
   ⟨({ srv with img := { srv.img with stage := .staged, stagedAt := 96400000000000 } } : State), 0, by decide +kernel⟩⟩

theorem witness_FirmwareInTime :
    (∃ (s : State), s.inReset = false ∧ s.now = s.clk.tickAt ∧ s.img.fwPending = true ∧ (∀ e : Fin 4, (s.engines[e]).ho = [])) ∧
    (∃ (s : State) (a b c : Bool) (bs : List Byte), s.pewterOn = true ∧ s.mgt.fwState = .verifying ∧
      Memory.readBytes s.mgt.fwStore 0 s.mgt.fwTotal = some bs ∧ fwHeaderOk s.mgt.fwTotal bs = true ∧
      crc32c bs = (s.crc[(3 : Fin 4)]).result.setWidth 32 ∧ a = true ∧ b = true ∧ c = true) ∧
    (∃ (s : State) (a b c : Bool) (bs : List Byte) (f : BitVec 4), s.pewterOn = true ∧ s.mgt.fwState = .verifying ∧
      Memory.readBytes s.mgt.fwStore 0 s.mgt.fwTotal = some bs ∧ ((fwHeaderOk s.mgt.fwTotal bs = false ∧ f = 1) ∨
      (fwHeaderOk s.mgt.fwTotal bs = true ∧ crc32c bs ≠ (s.crc[(3 : Fin 4)]).result.setWidth 32 ∧ f = 2) ∨ (fwHeaderOk s.mgt.fwTotal bs = true ∧
      crc32c bs = (s.crc[(3 : Fin 4)]).result.setWidth 32 ∧ ((a = false ∧ f = 3) ∨ (a = true ∧ b = false ∧ f = 4) ∨ (a = true ∧ b = true ∧
      c = false ∧ f = 5))))) :=
  ⟨⟨({ srv with img := { srv.img with fwPending := true } } : State), by decide +kernel⟩,
   (by refine ⟨fwSt (crc32c fwFile), true, true, true, fwFile, ?_, ?_, readBytes_writeBytes fwFile 112 (by decide +kernel), ?_,
     (by show crc32c fwFile = ((crc32c fwFile).setWidth 64).setWidth 32; simp), ?_, ?_, ?_⟩ <;> decide +kernel),
   ⟨fwSt 0, true, true, true, fwFile, 2, by decide +kernel, by decide +kernel, readBytes_writeBytes fwFile 112 (by decide +kernel),
     Or.inr (Or.inl ⟨by decide +kernel, (by rw [crc32c_go]; decide +kernel), rfl⟩)⟩⟩

theorem witness_RecorderPagesAndHolds :
    (∃ (s : State) (dt : Nat) (fate : PageFate), s.pewterOn = true ∧ (s.pass dt).pageDue false = true ∧ s.mgt.evtBlocks ≠ 0 ∧ fate ≠ .retired) ∧
    (∃ (s : State) (dt : Nat), s.pewterOn = true ∧ (s.pass dt).pageDue true = true ∧ s.mgt.spare.toNat ≥ 33) ∧
    (∃ (s : State) (dt : Nat) (axles : Bool), (s.pass dt).pageDue axles = false) ∧
    (∃ (s : State) (dt : Nat) (k : Fin 16) (h : Hold), s.pewterOn = true ∧ s.mgt.holds[k] = some h ∧ h.copied = false ∧ h.until' ≤ s.now + dt ∧
      (∀ p ∈ s.mgt.evtRing ++ s.mgt.axlRing, p.ok = true)) ∧
    (∃ (s : State) (k : Fin 16) (h : Hold), s.mgt.holds[k] = some h ∧ h.copied = true) :=
  ⟨⟨({ svc with mgt := { svc.mgt with evtBuf := [(0, { ts := 0, code := 0, obj := 0 })], evtBufAt := 99999750000000 } } : State), 0, .decays,
    by decide +kernel⟩,
   ⟨({ svc with mgt := { svc.mgt with axlBuf := [{ num := 0, record := {} }], axlBufAt := 99999750000000 } } : State), 0, by decide +kernel⟩,
   ⟨svc, 0, false, by decide +kernel⟩,
   ⟨({ svc with mgt := { svc.mgt with holds := upd svc.mgt.holds 0 (fun _ => some { first := 0, last := 1, epoch := 0, until' := 100000000000000 }) } } : State), 0, 0, { first := 0, last := 1, epoch := 0, until' := 100000000000000 }, by decide +kernel⟩,
   ⟨({ svc with mgt := { svc.mgt with holds := upd svc.mgt.holds 0 (fun _ => some { first := 0, last := 1, epoch := 0, until' := 0, copied := true }) } } : State), 0, { first := 0, last := 1, epoch := 0, until' := 0, copied := true }, by decide +kernel⟩⟩

theorem witness_PacketAdmission :
    (∃ (s u : State) (dt : Nat) (p : Packet) (rest : List Packet), s.inReset = false ∧ s.cmd.inbox = p :: rest ∧
      u = { s.pass dt with cmd := { s.cmd with inbox := rest } } ∧ trailerOk p.bytes = false) ∧
    (∃ (s u : State) (dt : Nat) (p : Packet) (rest : List Packet), s.inReset = false ∧ s.cmd.inbox = p :: rest ∧
      u = { s.pass dt with cmd := { s.cmd with inbox := rest } } ∧ trailerOk p.bytes = true ∧ packetFormatOk p.bytes = false) ∧
    (∃ (s u : State) (dt : Nat) (p : Packet) (rest : List Packet), s.inReset = false ∧ s.cmd.inbox = p :: rest ∧
      u = { s.pass dt with cmd := { s.cmd with inbox := rest } } ∧ trailerOk p.bytes = true ∧ packetFormatOk p.bytes = true ∧
      sourceOk p.path (hdrSource p.bytes) = false) ∧
    (∃ (s u : State) (dt : Nat) (p : Packet) (rest : List Packet) (d : DupEntry) (r : Result), s.inReset = false ∧ s.cmd.inbox = p :: rest ∧
      u = { s.pass dt with cmd := { s.cmd with inbox := rest } } ∧ trailerOk p.bytes = true ∧ packetFormatOk p.bytes = true ∧
      sourceOk p.path (hdrSource p.bytes) = true ∧ s.cmd.dup.find? (fun x => decide (x.src = hdrSource p.bytes ∧
      x.seq = hdrSeq p.bytes)) = some d ∧ (∀ x ∈ s.cmd.tags, hdrSource x.header ≠ d.src ∨ hdrSeq x.header ≠ d.seq) ∧ d.reply = some r) ∧
    (∃ (s u : State) (dt : Nat) (p : Packet) (rest : List Packet), s.inReset = false ∧ s.cmd.inbox = p :: rest ∧
      u = { s.pass dt with cmd := { s.cmd with inbox := rest } } ∧ trailerOk p.bytes = true ∧ packetFormatOk p.bytes = true ∧
      sourceOk p.path (hdrSource p.bytes) = true ∧ s.cmd.dup.find? (fun x => decide (x.src = hdrSource p.bytes ∧ x.seq = hdrSeq p.bytes)) = none ∧
      (∃ x ∈ s.cmd.tags, hdrSource x.header = hdrSource p.bytes ∧ hdrTag x.header = hdrTag p.bytes)) ∧
    (∃ (s u : State) (dt : Nat) (p : Packet) (rest : List Packet), s.inReset = false ∧ s.cmd.inbox = p :: rest ∧
      u = { s.pass dt with cmd := { s.cmd with inbox := rest } } ∧ trailerOk p.bytes = true ∧ packetFormatOk p.bytes = true ∧
      sourceOk p.path (hdrSource p.bytes) = true ∧ s.cmd.dup.find? (fun x => decide (x.src = hdrSource p.bytes ∧ x.seq = hdrSeq p.bytes)) = none ∧
      (∀ x ∈ s.cmd.tags, hdrSource x.header ≠ hdrSource p.bytes ∨ hdrTag x.header ≠ hdrTag p.bytes) ∧
      quotaOf (hdrSource p.bytes) ≤ s.cmd.inFlight (hdrSource p.bytes)) :=
  ⟨⟨(waiting (.lane 0) []), _, 0, { path := .lane 0, bytes := [], exempt := false, at' := 0 }, [], by decide +kernel, by decide +kernel, rfl,
    by decide +kernel⟩,
   ⟨(waiting (.lane 0) pkFlag), _, 0, { path := .lane 0, bytes := pkFlag, exempt := false, at' := 0 }, [], by decide +kernel, by decide +kernel,
     rfl, by decide +kernel, by decide +kernel⟩,
   (by refine ⟨(waiting (.lane 1) pkA), _, 0, { path := .lane 1, bytes := pkA, exempt := false, at' := 0 }, [], ?_, ?_, rfl, ?_, ?_,
     ?_⟩ <;> decide +kernel),
   (by refine ⟨({ (waiting (.lane 0) pkA) with cmd := { (waiting (.lane 0) pkA).cmd with dup := [{ src := 0x1000, seq := 7, reply := some { status := 0 } }] } } : State), _, 0, { path := .lane 0, bytes := pkA, exempt := false, at' := 0 }, [], { src := 0x1000, seq := 7, reply := some { status := 0 } }, { status := 0 }, ?_, ?_, rfl, ?_, ?_, ?_, ?_, ?_, ?_⟩ <;> decide +kernel),
   (by refine ⟨({ (waiting (.lane 0) pkA) with cmd := { (waiting (.lane 0) pkA).cmd with tags := [tag0] } } : State), _, 0,
     { path := .lane 0, bytes := pkA, exempt := false, at' := 0 }, [], ?_, ?_, rfl, ?_, ?_, ?_, ?_, ?_⟩ <;> decide +kernel),
   (by refine ⟨({ (waiting (.lane 0) pkA) with cmd := { (waiting (.lane 0) pkA).cmd with tags := List.replicate 32 { id := 0, header := packet 0x01 0 0x1000 7 [] 0 |>.set 2 9, path := .lane 0 } } } : State), _, 0, { path := .lane 0, bytes := pkA, exempt := false, at' := 0 }, [], ?_, ?_, rfl, ?_, ?_, ?_, ?_, ?_, ?_⟩ <;> decide +kernel)⟩

theorem witness_VotesOfTheLanes :
    (∃ (s : State) (p : Packet) (rest : List Packet) (i : Fin 3) (o : Op), s.inReset = false ∧ s.cmd.inbox = p :: rest ∧ p.path = .lane i ∧
      trailerOk p.bytes = true ∧ packetFormatOk p.bytes = true ∧ hdrSource p.bytes = laneSource i ∧ (∀ d ∈ s.cmd.dup, d.src ≠ hdrSource p.bytes ∨
      d.seq ≠ hdrSeq p.bytes) ∧ (∀ x ∈ s.cmd.tags, hdrSource x.header ≠ hdrSource p.bytes ∨ hdrTag x.header ≠ hdrTag p.bytes) ∧
      s.cmd.inFlight (hdrSource p.bytes) < 32 ∧ decodeOp (hdrOp p.bytes) (packetParams p.bytes) = some o ∧ hdrOp p.bytes ∈ definedOpcodes ∧
      classAdmits .v (hdrOp p.bytes) (packetParams p.bytes) = true ∧ s.cmd.openVote (voteKey p.bytes) i p.at' = none ∧ hdrInterim p.bytes = false) ∧
    (∃ (s : State) (p : Packet) (rest : List Packet) (i : Fin 3) (o : Op) (v : Vote) (e : Fin 4), s.inReset = false ∧ s.cmd.inbox = p :: rest ∧
      p.path = .lane i ∧ trailerOk p.bytes = true ∧ packetFormatOk p.bytes = true ∧ hdrSource p.bytes = laneSource i ∧ (∀ d ∈ s.cmd.dup,
      d.src ≠ hdrSource p.bytes ∨ d.seq ≠ hdrSeq p.bytes) ∧ (∀ x ∈ s.cmd.tags, hdrSource x.header ≠ hdrSource p.bytes ∨
      hdrTag x.header ≠ hdrTag p.bytes) ∧ s.cmd.inFlight (hdrSource p.bytes) < 32 ∧ decodeOp (hdrOp p.bytes) (packetParams p.bytes) = some o ∧
      hdrOp p.bytes ∈ definedOpcodes ∧ classAdmits .v (hdrOp p.bytes) (packetParams p.bytes) = true ∧
      s.cmd.openVote (voteKey p.bytes) i p.at' = some v ∧ v.admitted = false ∧ s.testing = false ∧ p.exempt = false ∧ v.exempt = false ∧
      o.onAdmission = false ∧ s.executor o = some e) ∧
    (∃ (s : State) (path : Path), s.inReset = false ∧ s.cmd.inbox = [] ∧ (path ≠ .mailbox ∨ s.pewterOn = true)) ∧
    (∃ (s : State), s.inReset = false) :=
  ⟨⟨(waiting (.lane 0) pkA), { path := .lane 0, bytes := pkA, exempt := false, at' := 0 }, [], 0, .getStatus, by decide +kernel⟩,
   ⟨({ (waiting (.lane 0) pkSync) with cmd := { (waiting (.lane 0) pkSync).cmd with votes := [{ id := 0, key := voteKey pkSync, t0 := 0, lanes := [1], tags := [], exempt := false }] } } : State), { path := .lane 0, bytes := pkSync, exempt := false, at' := 0 }, [], 0, .syncReset 0 0, { id := 0, key := voteKey pkSync, t0 := 0, lanes := [1], tags := [], exempt := false }, 0, by decide +kernel⟩,
   ⟨svc, .mailbox, by decide +kernel⟩,
   ⟨svc, by decide +kernel⟩⟩

theorem witness_FramesScrubAndPendingExits :
    (∃ (s : State) (e : Fin 4) (w : Work) (c : Coded), s.inReset = false ∧ (s.engines[e]).work = some w ∧ w.fits = true ∧ s.finding e w = none ∧
      (s.engines[e]).ho = [] ∧ c = encodeAll e (s.engines[e]).frame (imageCells s.cfg (s.engines[e]) w w.imgC)) ∧
    (∃ (s : State) (e : Fin 4) (w : Work) (token : Word), s.inReset = false ∧ (s.engines[e]).work = some w ∧ w.fits = true ∧ s.finding e w = none ∧
      token ≠ expectedToken (s.engines[e]).frame ∧ (s.engines[e]).ho = []) ∧
    (∃ (s : State) (e : Fin 4) (w : Work) (r : FrameFail × Option Diff), s.inReset = false ∧ (s.engines[e]).work = some w ∧ w.fits = true ∧
      s.finding e w = some r ∧ (s.engines[e]).ho = []) ∧
    (∃ (s u : State) (e : Fin 4) (k : UpsetKind) (p : Nat) (v : BitVec 64) (w : Work) (r : FrameFail × Option Diff), s.inReset = false ∧
      (s.engines[e]).work.isSome = true ∧ k ≠ .ecc ∧ u = s.upset e (Upset.of k p v) ∧ (u.engines[e]).ho = [] ∧ (u.engines[e]).work = some w ∧
      u.finding e w = some r) ∧
    (∃ (s u : State) (e : Fin 4) (k : UpsetKind) (p : Nat) (v : BitVec 64) (w : Work), s.inReset = false ∧ (s.engines[e]).work.isSome = true ∧
      k ≠ .ecc ∧ u = s.upset e (Upset.of k p v) ∧ (u.engines[e]).work = some w ∧ u.finding e w = none) ∧
    (∃ (s : State) (e : Fin 4) (a : Fin 524288), s.inReset = false ∧ (s.engines[e]).work.isSome = true ∧ s.eccReads e a.val = true ∧
      (s.engines[e]).ho = []) ∧
    (∃ (s : State) (e : Fin 4) (a : Fin 524288), s.eccReads e a.val = false) ∧
    (∃ (s : State) (e : Fin 4), s.inReset = false ∧ (s.engines[e]).token = true ∧ (s.engines[e]).tokenUntil ≤ (s.engines[e]).frame) ∧
    (∃ (s : State), s.inReset = false) ∧
    (∃ (s : State), s.inReset = false) ∧
    (∃ (s : State), s.inReset = false) ∧
    (∃ (s : State), s.inReset = false ∧ (∀ e : Fin 4, (s.engines[e]).work.isSome = true)) ∧
    (∃ (s : State), s.inReset = false ∧ (∀ e : Fin 4, (s.engines[e]).work = none)) ∧
    (∃ (n : Nat) (x : Sec), (∃ p ∈ x.pend, p.expiry ≤ n) ∧ x.st ≠ .disturbed ∧ x.discarded = false) :=
  ⟨(by refine ⟨(srv.modEngine 0 (fun g => { g with work := some { img := {} } })), 0, { img := {} }, _, ?_, ?_, ?_, ?_, ?_, rfl⟩ <;> decide +kernel),
   ⟨(srv.modEngine 0 (fun g => { g with work := some { img := {} } })), 0, { img := {} }, 0, by decide +kernel⟩,
   ⟨(srv.modEngine 0 (fun g => { g with work := some { img := {}, canaryExtra := true } })), 0, { img := {}, canaryExtra := true }, (.canary,
     none), by decide +kernel⟩,
   (by refine ⟨(srv.modEngine 0 (fun g => { g with work := some { img := {} } })), _, 0, .plain, 200, 5, { img := {}, plainUps := [(200, 5)] },
     (.mismatch, some { area := 0, noncode := false, loc := 200 }), ?_, ?_, ?_, rfl, ?_, ?_, ?_⟩ <;> decide +kernel),
   (by refine ⟨(srv.modEngine 0 (fun g => { g with work := some { img := {} } })), _, 0, .buffer, 0, 0, { img := {} }, ?_, ?_, ?_, rfl, ?_,
     ?_⟩ <;> decide +kernel),
   ⟨(srv.modEngine 0 (fun g => { g with work := some { img := {} } })), 0, 262144, by decide +kernel⟩,
   ⟨svc, 0, 0, by decide +kernel⟩,
   ⟨(srv.modEngine 0 (fun g => { g with token := true, tokenUntil := 100 })), 0, by decide +kernel⟩,
   ⟨svc, by decide +kernel⟩,
   ⟨svc, by decide +kernel⟩,
   ⟨svc, by decide +kernel⟩,
   ⟨({ srv with engines := Vector.replicate 4 { work := some { img := {} } } } : State), by decide +kernel⟩,
   ⟨srv, by decide +kernel⟩,
   ⟨5, { idx := 0, st := .occupied, pend := [⟨{}, 5⟩] }, by decide +kernel⟩⟩

theorem witness_HandOverAndDebug :
    (∃ (s : State), s.inReset = false ∧ s.now = s.clk.tickAt ∧ (∃ e : Fin 4, (s.engines[e]).ho ≠ [])) ∧
    (∃ (s : State), (s.now ≠ s.clk.tickAt ∨ ∀ e : Fin 4, (s.engines[e]).ho = [])) ∧
    (∃ (s : State) (a : Fin 4) (h : HandOver), (s.engines[a]).frame = h.t0 ∧ h.source = true) ∧
    (∃ (s : State) (b : Fin 4) (h : HandOver) (buf : HoBuf) (d : BitVec 64), (s.engines[b]).frame = h.t0 + 2 ∧ h.source = false ∧
      s.bufOf h.peer b = some buf ∧ buf.digest = some d ∧ h.sum.isSome = true ∧ h.digest.isSome = true ∧
      h.sum = decode buf.sum sumSig (frameTerm buf.frame) ∧ h.digest = decode d digestSig (frameTerm (h.t0 + 2))) ∧
    (∃ (s : State) (a : Fin 4) (h : HandOver), s.inReset = false ∧ s.now = s.clk.tickAt ∧ (s.engines[a]).ho = [h] ∧ h.source = true ∧ h.peer ≠ a ∧
      3 ≤ (s.engines[a]).frame - h.t0 ∧ (∀ e : Fin 4, e ≠ a → ∀ x ∈ (s.engines[e]).ho, x.source = false)) ∧
    (∃ (s : State) (e : Fin 4), s.inReset = false ∧ (s.engines[e]).mode = .split ∧ (s.engines[e]).from' ≤ (s.engines[e]).frame ∧
      ((s.engines[e]).aRun = false ∨ (s.engines[e]).bRun = false)) ∧
    (∃ (s : State), s.inReset = false ∧ s.accepted 6 = false) ∧
    (∃ (s : State), s.accepted 6 = true) :=
  ⟨⟨(srv.modEngine 0 (fun g => { g with ho := [{ peer := 1, join := false, source := true, t0 := 97 }] })), by decide +kernel⟩,
   ⟨svc, by decide +kernel⟩,
   ⟨srv, 0, { peer := 1, join := false, source := true, t0 := 100 }, by decide +kernel⟩,
   ⟨({ srv with hoBuf := [{ bufferOf cfg0 0 1 98 [] with digest := some (encode 0 2 (frameTerm 100)) }] } : State), 1,
     { peer := 0, join := false, source := false, t0 := 98, sum := some 0, digest := some 0 },
     { bufferOf cfg0 0 1 98 [] with digest := some (encode 0 2 (frameTerm 100)) }, encode 0 2 (frameTerm 100), by decide +kernel⟩,
   ⟨(srv.modEngine 0 (fun g => { g with ho := [{ peer := 1, join := false, source := true, t0 := 97 }] })), 0,
     { peer := 1, join := false, source := true, t0 := 97 }, by decide +kernel⟩,
   ⟨(srv.modEngine 0 (fun g => { g with mode := .split, from' := 100, aRun := true })), 0, by decide +kernel⟩,
   ⟨svc, by decide +kernel⟩,
   ⟨srv, by decide +kernel⟩⟩

theorem witness_LedgerCountsAxles :
    (∃ (r : AxleRec) (x : Sec), x.unproven = false ∧ x.st ≠ .disturbed ∧ r.committed = false) ∧
    (∃ (d : SecDef) (r : AxleRec) (x : Sec), x.unproven = false ∧ x.st ≠ .disturbed ∧ r.committed = true ∧ isEntry d r = true ∧ x.pend = [] ∧
      x.ledger.length < d.blocks * 16) ∧
    (∃ (d : SecDef) (r : AxleRec) (x : Sec), x.unproven = false ∧ x.st ≠ .disturbed ∧ r.committed = true ∧ isEntry d r = true ∧ x.pend = [] ∧
      x.ledger.length = d.blocks * 16) ∧
    (∃ (d : SecDef) (own : BitVec 11) (r : AxleRec) (x : Sec), x.unproven = false ∧ x.st ≠ .disturbed ∧ r.committed = true ∧ isEntry d r = false ∧
      x.ledger = [] ∧ d.remote own = false ∧ x.st ≠ .resetPending) ∧
    (∃ (d : SecDef) (r : AxleRec) (x : Sec) (a : _), x.unproven = false ∧ x.st ≠ .disturbed ∧ r.committed = true ∧ isEntry d r = false ∧
      x.ledger = [a] ∧ x.pend = [] ∧ x.st = .occupied ∧ x.mismatch = 0 ∧ d.sequence = false) ∧
    (∃ (x : Sec), x.unproven = false ∧ x.st ≠ .disturbed) :=
  ⟨⟨{ uncertain := true }, { idx := 0, st := .clear }, by decide +kernel⟩,
   ⟨sec0, { point := 0, dir := 2, modAddr := 5 }, { idx := 0, st := .clear }, by decide +kernel⟩,
   ⟨sec0, { point := 0, dir := 2, modAddr := 5 }, { idx := 0, st := .occupied, ledger := List.replicate 16 {} }, by decide +kernel⟩,
   ⟨sec0, 5, { point := 0, dir := 1, modAddr := 5 }, { idx := 0, st := .clear }, by decide +kernel⟩,
   ⟨sec0, { point := 0, dir := 1, modAddr := 5 }, { idx := 0, st := .occupied, ledger := [{ point := 0, dir := 2, modAddr := 5 }] },
     { point := 0, dir := 2, modAddr := 5 }, by decide +kernel⟩,
   ⟨{ idx := 0, st := .clear }, by decide +kernel⟩⟩

theorem witness_StepRunsFrontCommand :
    (∃ (s : State) (c : Instr) (rest : List Instr), s.pending = c :: rest) ∧
    (∃ (s : State), s.pending = []) :=
  ⟨⟨({ svc with pending := [.feedGap] } : State), .feedGap, [], by decide +kernel⟩,
   ⟨svc, by decide +kernel⟩⟩

theorem witness_StepKeepsInvariant :
    (∃ (s t : State), s.Inv ∧ step s = .next t) :=
  ⟨State.reset, State.reset, by unfold State.Inv; decide +kernel, rfl⟩

theorem witness_ConfigurationChangesAtActivation :
    (∃ (c : Instr) (s t : State), c ≠ .imageActivation ∧ (∀ (dt : Nat) (a b : Bool), c ≠ .moduleResetRelease dt a b) ∧ (∀ (dt : Nat) (r : Word),
      c = .testSegmentEnd dt r → s.img.slotBad = false) ∧ exec c s = .next t) :=
  ⟨.feedGap, State.reset, State.reset, by decide +kernel, (by intro _ _ _ h; cases h), (by intro _ _ h; cases h), rfl⟩

theorem witness_TickOpensTheNextFrame :
    (∃ (s : State), s.inReset = false ∧ s.clk.tickAt + 525000 < s.now) ∧
    (∃ (s : State), s.inReset = false ∧ s.now ≤ s.clk.tickAt + 525000 ∧ (∀ (e : Fin 4) (w : Work), (s.engines[e]).done = some w → w.ops = [])) ∧
    (∃ (s : State) (m : TickMeas) (a : Fin 4) (w : _), s.mdl.phase = .service ∧ s.now ≤ s.clk.tickAt + 525000 ∧ s.eccBad = [] ∧
      ((s.engines[a]).loaded a).low.bad a = none ∧ .start ∉ s.causes ∧ .image ∉ s.causes ∧
      (∀ x ∈ (s.engines[a]).published.secs ++ (s.engines[a]).committed.secs, x.keyInh = false) ∧ (∀ e : Fin 4, (s.engines[e]).ho = [] ∧
      ((s.engines[e]).mode = .run ∨ (s.engines[e]).mode = .halted) ∧ (e ≠ a → (s.engines[e]).work = none)) ∧ (∀ (e : Fin 4) (w : Work),
      (s.engines[e]).done = some w → w.ops = []) ∧ s.clk.prodTest = false ∧ (∀ e : Fin 4, 61120 ≤ (m.cyc[e]).toNat ∧ (m.cyc[e]).toNat ≤ 61150) ∧
      (s.engines[a]).mode = .run ∧ (s.engines[a]).done = some w ∧ (s.engines[a]).work = none ∧ (s.engines[a]).tokenNext = true ∧ (∀ x ∈ w.img.secs,
      x.keyInh = false)) ∧
    (∃ (s : State) (m : TickMeas) (a : Fin 4) (w : _), s.mdl.phase = .service ∧ s.now ≤ s.clk.tickAt + 525000 ∧ s.eccBad = [] ∧
      ((s.engines[a]).loaded a).low.bad a = none ∧ .start ∉ s.causes ∧ .image ∉ s.causes ∧
      (∀ x ∈ (s.engines[a]).published.secs ++ (s.engines[a]).committed.secs, x.keyInh = false) ∧ (∀ e : Fin 4, (s.engines[e]).ho = [] ∧
      ((s.engines[e]).mode = .run ∨ (s.engines[e]).mode = .halted) ∧ (e ≠ a → (s.engines[e]).work = none)) ∧ (∀ (e : Fin 4) (w : Work),
      (s.engines[e]).done = some w → w.ops = []) ∧ s.clk.prodTest = false ∧ (∀ e : Fin 4, 61120 ≤ (m.cyc[e]).toNat ∧ (m.cyc[e]).toNat ≤ 61150) ∧
      (s.engines[a]).mode = .run ∧ (s.engines[a]).work = some w ∧ (s.engines[a]).done = none ∧ (s.engines[a]).fails < 2 ∧
      (s.engines[a]).haltDue = false) :=
  ⟨⟨({ svc with clk := { svc.clk with elapsed := 100000000525001 } } : State), by decide +kernel⟩,
   ⟨srv, by decide +kernel, by decide +kernel, srv_noOps⟩,
   (by refine ⟨(srv.modEngine 0 (fun g => { g with done := some { img := {} }, tokenNext := true })), {}, 0, { img := {} }, ?_, ?_, ?_, ?_, ?_, ?_,
     ?_, ?_, (by intro e w h; have k : ∀ e : Fin 4,
     (((srv.modEngine 0 (fun g => { g with done := some { img := {} }, tokenNext := true })).engines[e]).done.map Work.ops).getD [] = [] := (by decide +kernel); have := k e; rw [h] at this; exact this), ?_, ?_, ?_, ?_, ?_, ?_, ?_⟩ <;> decide +kernel),
   (by refine ⟨(srv.modEngine 0 (fun g => { g with work := some { img := {} } })), {}, 0, { img := {} }, ?_, ?_, ?_, ?_, ?_, ?_, ?_, ?_,
     (by intro e w h; have k : ∀ e : Fin 4,
     (((srv.modEngine 0 (fun g => { g with work := some { img := {} } })).engines[e]).done.map Work.ops).getD [] = [] := (by decide +kernel); have := k e; rw [h] at this; exact this), ?_, ?_, ?_, ?_, ?_, ?_, ?_⟩ <;> decide +kernel)⟩

theorem witness_StepsOnlyAtTicks :
    (∃ (s : State), s.now ≠ s.clk.tickAt) ∧
    (∃ (s : State) (d : Int), s.inReset = false ∧ s.clk.stepDue = some d ∧ s.now = s.clk.tickAt) ∧
    (∃ (s : State) (x : Nat), x % 250000 = 0 ∧ s.clk.tickTb + 250000 ≤ x) ∧
    (∃ (s : State), s.inReset = false ∧ s.now ≤ s.clk.tickAt + 525000 ∧ s.clk.rate = 0 ∧ s.clk.frac = 0 ∧ (∀ (e : Fin 4) (w : Work),
      (s.engines[e]).done = some w → w.ops = [])) :=
  ⟨⟨({ svc with clk := { svc.clk with elapsed := 100000000000001 } } : State), by decide +kernel⟩,
   ⟨({ svc with clk := { svc.clk with stepDue := some 5000 } } : State), 5000, by decide +kernel⟩,
   ⟨svc, 100000000250000, by decide +kernel⟩,
   ⟨srv, by decide +kernel, by decide +kernel, by decide +kernel, by decide +kernel, srv_noOps⟩⟩

theorem witness_PewterRestartAndSensors :
    (∃ (s : State), s.pewterOn = true) ∧
    (∃ (s : State), s.inReset = false ∧ s.mgt.pw = .restarting) ∧
    (∃ (s : State) (dt : Nat), s.pewterOn = true ∧ (∀ u, s.mgt.sensorAt = some u → u + 1000000000 ≤ s.now + dt)) ∧
    (∃ (level v : Int), level < v) ∧
    (∃ (level v : Int), v ≤ level) ∧
    (∃ (level v : Int), v ≤ level - 5) ∧
    (∃ (level v : Int), level - 5 < v) ∧
    (∃ (s : State) (dt : Nat) (q : Sensor) (b : Nat), s.pewterOn = true ∧ (s.mgt.sensor q).episode = false ∧ (s.mgt.sensor q).aboveSince = some b ∧
      b + 10000000000 ≤ s.now + dt) ∧
    (∃ (s : State) (dt : Nat) (q : Sensor) (b : Nat), s.pewterOn = true ∧ (s.mgt.sensor q).episode = true ∧ (s.mgt.sensor q).belowSince = some b ∧
      b + 60000000000 ≤ s.now + dt) :=
  ⟨⟨svc, by decide +kernel⟩,
   ⟨({ svc with mgt := { svc.mgt with pw := .restarting } } : State), by decide +kernel⟩,
   ⟨svc, 0, by decide +kernel, (by intro u h; cases h)⟩,
   ⟨75, 76, by decide +kernel⟩,
   ⟨75, 75, by decide +kernel⟩,
   ⟨75, 70, by decide +kernel⟩,
   ⟨75, 71, by decide +kernel⟩,
   ⟨({ svc with mgt := { svc.mgt with wCore := { aboveSince := some 99990000000000 } } } : State), 0, .tCore, 99990000000000, by decide +kernel⟩,
   ⟨({ svc with mgt := { svc.mgt with wHum := { episode := true, belowSince := some 99940000000000 } } } : State), 0, .humidity, 99940000000000,
     by decide +kernel⟩⟩

theorem witness_TransportRequests :
    (∃ (s : State) (dt : Nat) (ep : Endpoint) (c : Instr) (bs : List Byte) (id : BitVec 16) (num utc : BitVec 48) (g : Stamp) (slot plen : Byte) (ok : Bool) (ad gw : Word), s.ethOn = true ∧ (s.mgt.admits ep = false ∨ (s.pass dt).hear ep = none) ∧ c ∈ [Instr.mgtCommand dt ep bs, .sessionClose dt ep id, .recorderRead dt ep num, .clockSet dt ep utc, .hold dt ep g, .release dt ep slot, .fwRestart dt ep ok, .netSet dt ep ad plen gw]) ∧
    (∃ (s : State) (ep : Endpoint), (∀ x ∈ s.mgt.sessions, x.ep ≠ ep) ∧ (∀ x ∈ s.mgt.clients, x.ep ≠ ep) ∧ (∀ i : Nat, 1 ≤ i → i ≤ 15 →
      ∃ x ∈ s.mgt.clients, x.id.toNat = i)) ∧
    (∃ (s : State) (ep : Endpoint) (i : Nat), (∀ x ∈ s.mgt.sessions, x.ep ≠ ep) ∧ (∀ x ∈ s.mgt.clients, x.ep ≠ ep) ∧ 1 ≤ i ∧ i ≤ 15 ∧
      (∀ x ∈ s.mgt.clients, x.id.toNat ≠ i) ∧ (∀ j : Nat, 1 ≤ j → j < i → ∃ x ∈ s.mgt.clients, x.id.toNat = j)) ∧
    (∃ (s u : State) (dt : Nat) (ep : Endpoint) (w : Who), s.ethOn = true ∧ s.mgt.admits ep = true ∧ (s.pass dt).hear ep = some (w, u)) ∧
    (∃ (s u : State) (dt : Nat) (ep : Endpoint) (w : Who), s.ethOn = true ∧ s.mgt.admits ep = true ∧ (s.pass dt).hear ep = some (w, u)) ∧
    (∃ (s u : State) (dt : Nat) (ep : Endpoint) (w : Who) (num : BitVec 48) (a : AxleEntry), s.ethOn = true ∧ s.mgt.admits ep = true ∧
      (s.pass dt).hear ep = some (w, u) ∧
      ((u.mgt.axlRing.filter Page.ok).flatMap Page.axles ++ u.mgt.axlBuf).find? (fun a => decide (a.num = num.toNat)) = some a) ∧
    (∃ (s u : State) (dt : Nat) (ep : Endpoint) (w : Who) (num : BitVec 48), s.ethOn = true ∧ s.mgt.admits ep = true ∧
      (s.pass dt).hear ep = some (w, u) ∧ (∀ g ∈ u.mgt.axlRing, g.ok = true) ∧ (∀ a ∈ u.mgt.axlRing.flatMap Page.axles ++ u.mgt.axlBuf,
      a.num ≠ num.toNat)) ∧
    (∃ (s u : State) (dt : Nat) (ep : Endpoint) (w : Who), s.ethOn = true ∧ s.mgt.admits ep = true ∧ (s.pass dt).hear ep = some (w, u) ∧ u.hasRoom) ∧
    (∃ (s u : State) (dt : Nat) (ep : Endpoint) (w : Who) (g : Stamp) (i : Fin 16) (v : State), s.ethOn = true ∧ s.mgt.admits ep = true ∧
      (s.pass dt).hear ep = some (w, u) ∧ u.openHold g = (some i, v)) ∧
    (∃ (s u : State) (dt : Nat) (ep : Endpoint) (w : Who) (g : Stamp) (v : State), s.ethOn = true ∧ s.mgt.admits ep = true ∧
      (s.pass dt).hear ep = some (w, u) ∧ u.openHold g = (none, v)) ∧
    (∃ (s u : State) (dt : Nat) (ep : Endpoint) (w : Who) (slot : Fin 16), s.ethOn = true ∧ s.mgt.admits ep = true ∧ (s.pass dt).hear ep = some (w,
      u) ∧ u.keyed w = true ∧ (u.mgt.holds[slot]).isSome = true ∧ u.hasRoom) ∧
    (∃ (s u : State) (dt : Nat) (ep : Endpoint) (w : Who) (slot : Byte), s.ethOn = true ∧ s.mgt.admits ep = true ∧ (s.pass dt).hear ep = some (w,
      u) ∧ (u.keyed w = false ∨ 16 ≤ slot.toNat)) ∧
    (∃ (s u : State) (dt : Nat) (ep : Endpoint) (w : Who) (plen : Byte), s.ethOn = true ∧ s.mgt.admits ep = true ∧ (s.pass dt).hear ep = some (w,
      u) ∧ u.keyed w = true ∧ 8 ≤ plen.toNat ∧ plen.toNat ≤ 30) ∧
    (∃ (s u : State) (dt : Nat) (ep : Endpoint) (w : Who) (plen : Byte), s.ethOn = true ∧ s.mgt.admits ep = true ∧ (s.pass dt).hear ep = some (w,
      u) ∧ (u.keyed w = false ∨ plen.toNat < 8 ∨ 30 < plen.toNat)) ∧
    (∃ (s u : State) (dt : Nat) (ep : Endpoint) (w : Who), s.ethOn = true ∧ s.mgt.admits ep = true ∧ (s.pass dt).hear ep = some (w, u) ∧
      u.mgt.fwState = .verified ∧ u.mgt.fwVital = false) ∧
    (∃ (s u : State) (dt : Nat) (ep : Endpoint) (w : Who), s.ethOn = true ∧ s.mgt.admits ep = true ∧ (s.pass dt).hear ep = some (w, u) ∧
      u.mgt.fwState = .verified ∧ u.mgt.fwVital = false) ∧
    (∃ (s u : State) (dt : Nat) (ep : Endpoint) (w : Who), s.ethOn = true ∧ s.mgt.admits ep = true ∧ (s.pass dt).hear ep = some (w, u) ∧
      (u.mgt.fwState ≠ .verified ∨ u.mgt.fwVital = true)) ∧
    (∃ (s : State) (ep : Endpoint) (i : Fin 8), s.ethOn = true ∧ s.mgt.admits ep = true ∧ (∀ x ∈ s.mgt.sessions, x.id.toNat ≠ i.val ∧ x.ep ≠ ep) ∧
      (s.img.stage ≠ .staged ∨ s.img.owner.toNat ≠ i.val) ∧ (∀ j : Fin 8, j.val < i.val → (∃ x ∈ s.mgt.sessions, x.id.toNat = j.val) ∨
      (s.img.stage = .staged ∧ s.img.owner.toNat = j.val))) ∧
    (∃ (s : State) (ep : Endpoint), s.ethOn = true ∧ (s.mgt.admits ep = false ∨ ∀ i : Fin 8, ∃ x ∈ s.mgt.sessions, x.id.toNat = i.val)) ∧
    (∃ (s : State), s.pewterOn = true) ∧
    (∃ (s : State), s.pewterOn = true) :=
  ⟨⟨svc, 0, ⟨1, 1⟩, .recorderRead 0 ⟨1, 1⟩ 0, [], 0, 0, 0, 0, 0, 0, true, 0, 0, by decide +kernel, by decide +kernel, (by simp)⟩,
   ⟨({ svc with mgt := { svc.mgt with clients := (List.range 15).map (fun i => ⟨BitVec.ofNat 4 (i + 1), ⟨1, 1⟩, 0⟩) } } : State), ep0,
     by decide +kernel, by decide +kernel, (by intro i h1 h2; interval_cases i <;> decide +kernel)⟩,
   ⟨({ svc with mgt := { svc.mgt with clients := [⟨1, ⟨1, 1⟩, 0⟩] } } : State), ep0, 2, by decide +kernel, by decide +kernel, by decide +kernel,
     by decide +kernel, (by decide +kernel), (by intro j h1 h2; obtain rfl : j = 1 := (by omega); decide +kernel)⟩,
   ⟨srvEp, _, 0, ep0, _, by decide +kernel, by decide +kernel, rfl⟩,
   ⟨srvEp, _, 0, ep0, _, by decide +kernel, by decide +kernel, rfl⟩,
   ⟨({ srvEp with mgt := { srvEp.mgt with axlBuf := [{ num := 3, record := {} }] } } : State), _, 0, ep0, _, 3, { num := 3, record := {} },
     by decide +kernel, by decide +kernel, rfl, by decide +kernel⟩,
   ⟨srvEp, _, 0, ep0, _, 0, by decide +kernel, by decide +kernel, rfl, by decide +kernel, by decide +kernel⟩,
   ⟨srvEp, _, 0, ep0, _, by decide +kernel, by decide +kernel, rfl, by unfold State.hasRoom; decide +kernel⟩,
   ⟨srvEp, _, 0, ep0, _, 0, 0, _, by decide +kernel, by decide +kernel, rfl, rfl⟩,
   ⟨({ srvEp with mgt := { srvEp.mgt with holds := Vector.replicate 16 (some { first := 0, last := 0, epoch := 1, until' := 0 }) } } : State), _,
     0, ep0, _, 0, _, by decide +kernel, by decide +kernel, rfl, rfl⟩,
   ⟨({ srvEp with mgt := { srvEp.mgt with holds := Vector.replicate 16 (some { first := 0, last := 0, epoch := 1, until' := 0 }) } } : State), _,
     0, ep0, _, 15, by decide +kernel, by decide +kernel, rfl, by decide +kernel, by decide +kernel, by unfold State.hasRoom; decide +kernel⟩,
   ⟨srvEp, _, 0, ep0, _, 16, by decide +kernel, by decide +kernel, rfl, by decide +kernel⟩,
   (by refine ⟨srvEp, _, 0, ep0, _, 8, ?_, ?_, rfl, ?_, ?_, ?_⟩ <;> decide +kernel),
   ⟨srvEp, _, 0, ep0, _, 31, by decide +kernel, by decide +kernel, rfl, by decide +kernel⟩,
   ⟨({ srvEp with mgt := { srvEp.mgt with fwState := .verified, fwVital := false } } : State), _, 0, ep0, _, by decide +kernel, by decide +kernel,
     rfl, by decide +kernel, by decide +kernel⟩,
   ⟨({ srvEp with mgt := { srvEp.mgt with fwState := .verified, fwVital := false } } : State), _, 0, ep0, _, by decide +kernel, by decide +kernel,
     rfl, by decide +kernel, by decide +kernel⟩,
   ⟨srvEp, _, 0, ep0, _, by decide +kernel, by decide +kernel, rfl, by decide +kernel⟩,
   ⟨srvEp, ⟨0xC0A80A02, 1⟩, 1, by decide +kernel⟩,
   ⟨svc, ⟨1, 1⟩, by decide +kernel⟩,
   ⟨svc, by decide +kernel⟩,
   ⟨svc, by decide +kernel⟩⟩

theorem witness_EthernetPort :
    (∃ (s : State), s.pewterOn = true) ∧
    (∃ (s : State) (dt back : Nat), s.inReset = false ∧ (s.mgt.loopback = .mac ∨ s.mgt.loopback = .phy) ∧ s.mgt.loopAt < s.now + dt ∧ 64 ≤ back) ∧
    (∃ (s : State) (dt : Nat), (s.mgt.loopback = .none ∨ s.mgt.loopback = .reserved ∨ s.now + dt ≤ s.mgt.loopAt)) ∧
    (∃ (s : State) (dt back : Nat), s.inReset = false ∧ (s.mgt.loopback = .mac ∨ s.mgt.loopback = .phy) ∧ back < 64 ∧
      s.mgt.loopAt + 100000000 ≤ s.now + dt) ∧
    (∃ (s : State) (dt back : Nat), s.inReset = false ∧ (s.mgt.loopback = .mac ∨ s.mgt.loopback = .phy) ∧ back < 64 ∧
      s.now + dt < s.mgt.loopAt + 100000000) ∧
    (∃ (s : State), s.ethOn = true) ∧
    (∃ (s : State), s.ethOn = false) ∧
    (∃ (s : State), s.inReset = false ∧ s.mgt.ethEnable = true ∧ s.mgt.loopback ≠ .phy) :=
  ⟨⟨svc, by decide +kernel⟩,
   ⟨({ svc with mgt := { svc.mgt with loopback := .mac } } : State), 0, 64, by decide +kernel⟩,
   ⟨svc, 0, by decide +kernel⟩,
   ⟨({ svc with mgt := { svc.mgt with loopback := .mac, loopAt := 99999900000000 } } : State), 0, 63, by decide +kernel⟩,
   ⟨({ svc with mgt := { svc.mgt with loopback := .phy, loopAt := 99999900000001 } } : State), 0, 63, by decide +kernel⟩,
   ⟨svc, by decide +kernel⟩,
   ⟨State.reset, by decide +kernel⟩,
   ⟨svc, by decide +kernel⟩⟩

theorem witness_WriteFilter :
    (∃ (s : State) (addr : BitVec 20) (wd : Width), s.pewterOn = true ∧ addr.toNat % wd.bytes ≠ 0) ∧
    (∃ (s : State) (addr : BitVec 20) (wd : Width), s.pewterOn = true ∧ addr.toNat % wd.bytes = 0 ∧ wd ≠ .w32) ∧
    (∃ (s : State) (addr : BitVec 20), s.pewterOn = true ∧ addr.toNat % 4 = 0 ∧ (decodeReg addr.toNat = none ∨ ∃ a, decodeReg addr.toNat = some a ∧
      w1cMask a = 0 ∧ a.blk ≠ .mgt ∧ (a.blk = .cen → a.off ≠ 0x30) ∧ (a.blk = .crc → a.idx < 2))) ∧
    (∃ (addr : BitVec 20) (a : RegAt), addr.toNat % 4 = 0 ∧ decodeReg addr.toNat = some a ∧ w1cMask a ≠ 0) ∧
    (∃ (s : State) (addr : BitVec 20) (a : RegAt), s.pewterOn = true ∧ addr.toNat % 4 = 0 ∧ decodeReg addr.toNat = some a ∧ a.blk = .mgt ∧
      w1cMask a = 0 ∧ a.off = 0x34) ∧
    (∃ (s : State) (addr : BitVec 20) (a : RegAt), s.pewterOn = true ∧ addr.toNat % 4 = 0 ∧ decodeReg addr.toNat = some a ∧ a.blk = .mgt ∧
      w1cMask a = 0 ∧ a.off = 0x38) ∧
    (∃ (s : State) (addr : BitVec 20) (a : RegAt), s.pewterOn = true ∧ addr.toNat % 4 = 0 ∧ decodeReg addr.toNat = some a ∧ a.blk = .mgt ∧
      w1cMask a = 0 ∧ a.off ≠ 0x28 ∧ a.off ≠ 0x34 ∧ a.off ≠ 0x38) ∧
    (∃ (s : State) (addr : BitVec 20) (a : RegAt), s.pewterOn = true ∧ addr.toNat % 4 = 0 ∧ decodeReg addr.toNat = some a ∧ a.blk = .mgt ∧
      w1cMask a = 0 ∧ a.off = 0x28) ∧
    (∃ (s : State) (e : Fin 4) (addr : BitVec 20), s.pewterOn = true ∧ addr.toNat = 0xD030 + 0x100 * e.val) ∧
    (∃ (s : State) (u : Fin 4) (addr : BitVec 20), s.pewterOn = true ∧ 2 ≤ u.val ∧ addr.toNat = 0x12100 + 0x40 * u.val) ∧
    (∃ (s : State) (u : Fin 4) (addr : BitVec 20) (v : Word), s.pewterOn = true ∧ 2 ≤ u.val ∧ addr.toNat = 0x12104 + 0x40 * u.val ∧
      v.getLsbD 0 = true ∧ v.getLsbD 1 = true) ∧
    (∃ (s : State) (addr : BitVec 20) (wd : Width), addr.toNat % wd.bytes ≠ 0 ∧ s.pewterOn = true) ∧
    (∃ (s : State) (addr : BitVec 20) (wd : Width) (rd : Reader), addr.toNat % wd.bytes ≠ 0 ∧ s.canRead rd = true) :=
  ⟨⟨svc, 2, .w32, by decide +kernel⟩,
   ⟨svc, 2, .w16, by decide +kernel⟩,
   ⟨svc, 0xFFFFC, by decide +kernel⟩,
   ⟨0x01004, ⟨.sup, 0, 4⟩, by decide +kernel⟩,
   ⟨svc, 0x13034, ⟨.mgt, 0, 0x34⟩, by decide +kernel⟩,
   ⟨svc, 0x13038, ⟨.mgt, 0, 0x38⟩, by decide +kernel⟩,
   ⟨svc, 0x13000, ⟨.mgt, 0, 0⟩, by decide +kernel⟩,
   ⟨svc, 0x13028, ⟨.mgt, 0, 0x28⟩, by decide +kernel⟩,
   ⟨svc, 3, 0xD330, by decide +kernel⟩,
   ⟨svc, 2, 0x12180, by decide +kernel⟩,
   ⟨svc, 3, 0x121C4, 3, by decide +kernel⟩,
   ⟨svc, 1, .w16, by decide +kernel⟩,
   ⟨svc, 1, .w16, .interpreter, by decide +kernel⟩⟩

theorem witness_NoEventIsLost :
    (∃ (s : State) (addr : BitVec 20) (a : RegAt), s.pewterOn = true ∧ addr.toNat % 4 = 0 ∧ decodeReg addr.toNat = some a ∧ w1cMask a ≠ 0 ∧
      (a.blk = .wdu → s.assigned (Fin.ofNat 64 a.idx) = true)) ∧
    (∃ (s : State) (rd : Reader) (addr : BitVec 20) (a : RegAt), s.canRead rd = true ∧ addr.toNat % 4 = 0 ∧ decodeReg addr.toNat = some a) ∧
    (∃ (s : State) (a : RegAt), a.blk = .wdu ∧ 0x10 ≤ a.off ∧ s.assigned (Fin.ofNat 64 a.idx) = false) :=
  ⟨⟨svc, 0x01004, ⟨.sup, 0, 4⟩, by decide +kernel⟩,
   ⟨svc, .pewter, 0x0101C, ⟨.sup, 0, 0x1C⟩, by decide +kernel⟩,
   ⟨svc, ⟨.wdu, 0, 0x14⟩, by decide +kernel⟩⟩

theorem witness_LatchingReads :
    (∃ (s : State) (rd : Reader) (addr : BitVec 20), s.canRead rd = true ∧ s.latched addr.toNat ≠ [] ∧ addr.toNat % 4 = 0) ∧
    (∃ (s u : State) (rd : Reader) (n : Nat) (a : RegAt), decodeReg n = some a ∧ isLatched a = true ∧ (a.blk = .wdu →
      s.assigned (Fin.ofNat 64 a.idx) = u.assigned (Fin.ofNat 64 a.idx)) ∧ s.readerOf rd = u.readerOf rd) ∧
    (∃ (n : Nat) (a : RegAt), decodeReg n = some a ∧ isLatched a = true) :=
  ⟨⟨svc, .pewter, 0x1080C, by decide +kernel⟩,
   ⟨svc, svc, .interpreter, 0x10810, ⟨.tbs, 0, 0x10⟩, by decide +kernel, by decide +kernel, fun _ => rfl, rfl⟩,
   ⟨0x10810, ⟨.tbs, 0, 0x10⟩, by decide +kernel⟩⟩

theorem witness_TestAndCodeEventsComplete :
    (∃ (s u : State) (dt n segs : Nat) (r : Word), s.tst.running = true ∧ s.tst.stepNow = some (n, segs) ∧ s.tst.segs + 1 < segs ∧
      u = { s.pass dt with tst := { s.tst with count := s.tst.count + 1, segs := s.tst.segs + 1, acc := (toBytes 4 r.toNat).foldl (crcByteR poly32c) s.tst.acc } } ∧ s.mdl.phase = .start ∧ s.mdl.startStage = stageOfStep n ∧ s.tst.state ≠ .shutdown ∧ s.tst.held = false) ∧
    (∃ (s u : State) (dt n segs : Nat) (r : Word), s.tst.running = true ∧ s.tst.stepNow = some (n, segs) ∧ s.tst.segs + 1 < segs ∧
      u = { s.pass dt with tst := { s.tst with count := s.tst.count + 1, segs := s.tst.segs + 1, acc := (toBytes 4 r.toNat).foldl (crcByteR poly32c) s.tst.acc } } ∧ s.tst.state = .shutdown ∧ s.tst.abortReq = none ∧ (s.tst.windowed = false ∨ n ∉ [1, 2, 3, 14])) ∧
    (∃ (s u : State) (dt n segs : Nat) (r : Word), s.tst.running = true ∧ s.tst.stepNow = some (n, segs) ∧ s.tst.segs + 1 < segs ∧
      u = { s.pass dt with tst := { s.tst with count := s.tst.count + 1, segs := s.tst.segs + 1, acc := (toBytes 4 r.toNat).foldl (crcByteR poly32c) s.tst.acc } } ∧ s.tst.state = .shutdown ∧ s.tst.abortReq = none ∧ s.tst.windowed = true ∧ n ∈ [1, 2, 3, 14]) ∧
    (∃ (s : State) (dt b : Nat), s.inReset = false ∧ s.tst.state = .shutdown ∧ s.tst.pauseSince = some b ∧ b + 30000000 ≤ s.now + dt) ∧
    (∃ (s : State) (dt b : Nat), s.inReset = false ∧ s.tst.state = .shutdown ∧ s.tst.firstAt = some b ∧ b ≤ s.now + dt) ∧
    (∃ (s : State), s.inReset = false ∧ s.tst.state = .aborting) ∧
    (∃ (s : State) (p : Nat), s.inReset = false ∧ p = (s.clk.tickTb + 250000) / 1280000 * 1280000 ∧ 0 < p ∧ p ≠ s.clk.codeEnd ∧
      s.periodIn (p / 1280000 - 1) = true) :=
  ⟨(by refine ⟨({ svc with mdl := { phase := .start, startStage := .logic }, tst := { state := .startTest, kind := 1, running := true, segs := 48 } } : State), _, 0, 4, 50, 0, ?_, ?_, ?_, rfl, ?_, ?_, ?_, ?_⟩ <;> decide +kernel),
   (by refine ⟨({ svc with tst := { state := .shutdown, kind := 3, running := true } } : State), _, 0, 1, 600, 0, ?_, ?_, ?_, rfl, ?_, ?_,
     ?_⟩ <;> decide +kernel),
   (by refine ⟨({ svc with tst := { state := .shutdown, kind := 3, running := true, windowed := true } } : State), _, 0, 1, 600, 0, ?_, ?_, ?_,
     rfl, ?_, ?_, ?_, ?_⟩ <;> decide +kernel),
   ⟨({ svc with tst := { svc.tst with state := .shutdown, pauseSince := some 99999970000000 } } : State), 0, 99999970000000, by decide +kernel⟩,
   ⟨({ svc with tst := { svc.tst with state := .shutdown, firstAt := some 100000000000000 } } : State), 0, 100000000000000, by decide +kernel⟩,
   ⟨({ svc with tst := { svc.tst with state := .aborting } } : State), by decide +kernel⟩,
   ⟨svc, 100000000000000, by decide +kernel⟩⟩


/-! ### Operands that are no event -/

theorem test_superframe_length : (Instr.laneSuperframe 0 [0]).wellFormed = false ∧ exec (.laneSuperframe 0 [0]) svc = .fault .notAnEvent :=
  ⟨by decide +kernel, rfl⟩

theorem test_bits_length : (Instr.outputSample 0 (List.replicate 3073 0)).wellFormed = false := by decide +kernel

theorem test_frame_length : (Instr.frameReceived 0 0 true 0 []).wellFormed = false := by decide +kernel

theorem test_packet_length : (Instr.commandPacket 0 (.direct .mailbox (List.replicate 261 0))).wellFormed = false := by decide +kernel

theorem test_upset_place : (Instr.frameFailure 0 .linkCode 16 0).wellFormed = false := by decide +kernel

theorem test_datagram_length : (Instr.mgtCommand 0 ep0 (List.replicate 261 0)).wellFormed = false := by decide +kernel

/-! ### The manual's own numbers -/

/-- The nine bytes 31h to 39h. -/
def digits : List Byte := [0x31, 0x32, 0x33, 0x34, 0x35, 0x36, 0x37, 0x38, 0x39]

/-- Table 8-10, column Check. -/
theorem test_check_values : crc16 digits = 0x29B1 ∧ crc32 digits = 0xCBF43926 ∧ crc32c digits = 0xE3069283 ∧
    crc64 digits = 0x995DC9BBDF1939FA := by decide +kernel

/-- 04, the first records of P17 and P18, byte 0 first. -/
theorem test_record_bytes :
    ({ ts := 100000000000, dir := 1, point := 17, speed := 0x500, depth := 0xBC, length := 0x55, asym := 0x8F, ratio := 0x7E,
       modAddr := 5 } : AxleRec).toBytes =
      [0x00, 0x17, 0x48, 0x76, 0xE8, 0x00, 0x51, 0xA0, 0x00, 0xBC, 0x55, 0x8F, 0x7E, 0x00, 0xA0, 0x00] ∧
    AxleRec.ofBytes [0x00, 0x1A, 0x6D, 0x20, 0x8F, 0x00, 0x52, 0xA0, 0x00, 0xBB, 0x56, 0x8E, 0x7F, 0x00, 0xA0, 0x00] =
      { ts := 113500000000, dir := 1, point := 18, speed := 0x500, depth := 0xBB, length := 0x56, asym := 0x8E, ratio := 0x7F,
        modAddr := 5 } := by decide +kernel

/-- 04, axle 1 at P17: T = 1,575.0 µs, width 1,912.5 µs, peak 843.75 µs after the crossing of ON. -/
theorem test_axle_of_table_4_5 :
    ({ phase := .track, x0 := some 100000309652
       c1 := { on := 99998678352, off := 100000590852, peak := 940, peakAt := 99999522102 * 27720, count := 9 }
       c2 := { on := 100000253352 } } : Ctx).commit { wdu0 with dpt := 309652, point := 17 } =
      .commit { ts := 100000000000, dir := 1, point := 17, speed := 0x500, depth := 0xBC, length := 0x55, asym := 0x8F,
                ratio := 0x80, modAddr := 5 } 9 := by decide +kernel

/-- 00, the blocks of point 17 and section 200. -/
theorem test_addresses : decodeReg 0x03100 = some ⟨.prt, 17, 0⟩ ∧ decodeReg 0x07100 = some ⟨.flt, 34, 0⟩ ∧
    decodeReg 0x07180 = some ⟨.flt, 35, 0⟩ ∧ decodeReg 0x0B880 = some ⟨.wdu, 17, 0⟩ ∧ decodeReg 0x0F900 = some ⟨.sec, 200, 0⟩ := by
  decide +kernel

/-- 06: the frame terms of frames 999 and 1,000. -/
theorem test_frame_terms : frameTerm 1000 = 14879 ∧ frameTerm 999 = 48945 := by decide +kernel

/-! ### Single commands -/

/-- The command completes and leaves a state in which `p` holds. -/
def after (c : Instr) (s : State) (p : State → Bool) : Bool :=
  match exec c s with
  | .next t => p t
  | _ => false

theorem test_empty_queue_idles : step State.reset = .next State.reset := rfl

theorem test_step_takes_the_front : step { svc with pending := [.cenSlotWrite 0 0x0102, .feedGap] } =
    exec (.cenSlotWrite 0 0x0102) { svc with pending := [.feedGap] } := rfl

theorem test_cen_slot : after (.cenSlotWrite 0 0x0102) svc
    (fun t => decide ((t.engines[(0 : Fin 4)]).progB = 1 ∧ (t.engines[(0 : Fin 4)]).progA = 2)) = true := by decide +kernel

theorem test_register_write : after (.registerWrite 0x13034 0x0A000001 .w32) svc (fun t => decide (t.mgt.ipv4 = 0x0A000001)) = true := by
  decide +kernel

theorem test_narrow_write_is_blocked : after (.registerWrite 0x13034 1 .w16) svc
    (fun t => decide (t.mgt.ipv4 = 0xC0A80A0A ∧ t.mdl.faultLast = 0x0B01FFFF)) = true := by decide +kernel

theorem test_w1c_keeps_an_event : after (.w1cWrite 0x01004 3 1) { svc with sup := { fault := 7 } }
    (fun t => decide (t.sup.fault = 5)) = true := by decide +kernel

theorem test_rc_keeps_an_increment : after (.rcRead .pewter 0x0101C 2) { svc with sup := { cntLogic := 3, cntField := 4 } }
    (fun t => decide (t.sup.cntLogic = 1 ∧ t.sup.cntField = 0 ∧ (t.readers[(0 : Fin 2)]).data = 0x00030004)) = true := by
  decide +kernel

theorem test_time_base_latch : after (.latchingRead .pewter 0x1080C) svc
    (fun t => decide ((t.readers[(0 : Fin 2)]).timeLo = 276447232)) = true := by decide +kernel

theorem test_time_base_step : after .timeBaseStep { svc with clk := { svc.clk with stepDue := some (-5000) } }
    (fun t => decide (t.clk.tickTb = 99999999995000 ∧ t.clk.stepDue = none)) = true := by decide +kernel

theorem test_surge_level : after (.surgeDetected 0 3 10000) srv (fun t => !(t.ports[(3 : Fin 64)]).surge) = true ∧
    after (.surgeDetected 0 3 10001) srv (fun t => (t.ports[(3 : Fin 64)]).surge) = true := by decide +kernel

theorem test_check_unit : after (.crcFinish 2) { svc with crc := upd svc.crc 2 (fun u => (u.start).feed digits) }
    (fun t => decide ((t.crc[(2 : Fin 4)]).result = 0xE3069283)) = true := by decide +kernel

theorem test_stuck_press : after (.stuckDeclaration 0 0) { srv with clk := { srv.clk with inputRead := some 100000000000000 } }
    (fun t => (t.vis[(0 : Fin 8)]).stuck && decide (t.mdl.faultLast.toNat % 65536 = 0)) = true := by decide +kernel

theorem test_power_on_resets : after (.powerOn 0) srv (fun t => decide (t.mdl.phase = .held)) = true := by decide +kernel

end Sys2Proof.Tests
end

section
/-! PROOFS. The state after reset (R14, R22, R171, R256, R338, R367). -/

namespace Sys2Proof.Machine

@[simp] theorem State.reset_engines (e : Fin 4) : State.reset.engines[e] = {} := by simp [State.reset]
@[simp] theorem State.reset_vis (i : Fin 8) : State.reset.vis[i] = {} := by simp [State.reset]
@[simp] theorem State.reset_vos (j : Fin 8) : State.reset.vos[j] = {} := by simp [State.reset]

/-- No subsystem records a fault at reset, so MOD_FAULT_SUM is 0 (R340). -/
theorem State.reset_faultSum : State.reset.faultSum = 0 := by
  simp [State.faultSum, State.reset, Vector.any_replicate, bitAt]

end Sys2Proof.Machine

open Sys2Proof Sys2Proof.Machine

/-- Settles O2: the fields of the state after reset are written out in `State.reset`, and the arrays repeat one default element. -/
theorem resetValues : Obligations.ResetValues := by
  unfold Obligations.ResetValues
  refine ⟨rfl, rfl, rfl, rfl, rfl, rfl, rfl, rfl, rfl, rfl, rfl, rfl, rfl, fun e => ?_, fun j => ?_, fun i => ?_,
    State.reset_faultSum, rfl, rfl, rfl⟩
  · rw [State.reset_engines]; exact ⟨rfl, rfl, rfl, rfl⟩
  · rw [State.reset_vos]; exact ⟨rfl, rfl, rfl⟩
  · rw [State.reset_vis]

end

section
/-! PROOFS. Accesses that clear bits and counters (R13, R331, R332): a write to a W1C register and a read of an RC register change
the element of their block in which the register lies, and no other register of either kind shows it. -/

namespace Sys2Proof.Machine

/-! ### Elements of the blocks (Table 13-1) -/

/-- Elements of a block: its size in Table 13-1 over its stride. -/
def Blk.count : Blk → Nat
  | .prt | .wdu => 64
  | .flt => 128
  | .brass | .bronze | .sec => 256
  | .lnk | .vi | .vo => 8
  | .cen | .crc => 4
  | .mod | .sup | .tbs | .cmd | .mgt | .tst => 1

/-- A block of Table 13-1 has no room beyond its elements. -/
theorem addressMap_limit : ∀ r ∈ addressMap, r.limit ≤ r.base + r.stride * r.blk.count := by decide

/-- A decoded register lies in an element that its block has. -/
theorem decodeReg_idx_lt {n : Nat} {a : RegAt} (h : decodeReg n = some a) : a.idx < a.blk.count := by
  unfold decodeReg at h
  split at h
  · cases h
  · rename_i r hr
    have hin : r.base ≤ n ∧ n < r.limit := by simpa using List.find?_some hr
    have hlim := addressMap_limit r (List.mem_of_find?_eq_some hr)
    dsimp only at h
    split at h
    · cases h
      exact Nat.div_lt_of_lt_mul (by dsimp only; omega)
    · cases h

/-- Indexes that a block has stay different as indexes of its array. -/
theorem finOfNat_ne_of_ne {N i j : Nat} [NeZero N] (hi : i < N) (hj : j < N) (h : i ≠ j) : Fin.ofNat N i ≠ Fin.ofNat N j := by
  simpa [Fin.ext_iff, Nat.mod_eq_of_lt hi, Nat.mod_eq_of_lt hj] using h

/-- The element of its block in which a register lies is the same in two states. -/
def State.SameElement (s t : State) (a : RegAt) : Prop :=
  match a.blk with
  | .mod => t.mdl = s.mdl ∧ t.img = s.img
  | .sup => t.sup = s.sup
  | .prt => t.ports[Fin.ofNat 64 a.idx] = s.ports[Fin.ofNat 64 a.idx]
  | .flt => t.chans[Fin.ofNat 128 a.idx] = s.chans[Fin.ofNat 128 a.idx]
  | .brass | .bronze => t.banks = s.banks
  | .wdu => t.wdus[Fin.ofNat 64 a.idx] = s.wdus[Fin.ofNat 64 a.idx]
  | .cen => t.engines[Fin.ofNat 4 a.idx] = s.engines[Fin.ofNat 4 a.idx]
  | .sec => t.secFault[Fin.ofNat 256 a.idx] = s.secFault[Fin.ofNat 256 a.idx]
  | .lnk => t.links[Fin.ofNat 8 a.idx] = s.links[Fin.ofNat 8 a.idx]
  | .tbs => t.tbs = s.tbs
  | .vi => t.vis[Fin.ofNat 8 a.idx] = s.vis[Fin.ofNat 8 a.idx]
  | .vo => t.vos[Fin.ofNat 8 a.idx] = s.vos[Fin.ofNat 8 a.idx]
  | .cmd => t.cmd = s.cmd
  | .crc => t.crc[Fin.ofNat 4 a.idx] = s.crc[Fin.ofNat 4 a.idx]
  | .mgt => t.mgt = s.mgt
  | .tst => t.tst = s.tst

/-- A state differs from another only in the element in which a register lies. -/
def State.ChangesElement (s t : State) (a : RegAt) : Prop :=
  match a.blk with
  | .mod => ∃ x : Mdl × Images, t = { s with mdl := x.1, img := x.2 }
  | .sup => ∃ x, t = { s with sup := x }
  | .prt => ∃ f, t = s.modPort (Fin.ofNat 64 a.idx) f
  | .flt => ∃ f, t = s.modChan (Fin.ofNat 128 a.idx) f
  | .brass | .bronze => t = s
  | .wdu => ∃ f, t = s.modWdu (Fin.ofNat 64 a.idx) f
  | .cen => ∃ f, t = s.modEngine (Fin.ofNat 4 a.idx) f
  | .sec => ∃ f, t = { s with secFault := upd s.secFault (Fin.ofNat 256 a.idx) f }
  | .lnk => ∃ f, t = s.modLink (Fin.ofNat 8 a.idx) f
  | .tbs => ∃ x, t = { s with tbs := x }
  | .vi => ∃ f, t = s.modVi (Fin.ofNat 8 a.idx) f
  | .vo => ∃ f, t = s.modVo (Fin.ofNat 8 a.idx) f
  | .cmd => ∃ x, t = { s with cmd := x }
  | .crc => ∃ f, t = s.modCrc (Fin.ofNat 4 a.idx) f
  | .mgt => ∃ x, t = { s with mgt := x }
  | .tst => ∃ x, t = { s with tst := x }

theorem State.SameElement.refl (s : State) (a : RegAt) : s.SameElement s a := by
  obtain ⟨k, i, o⟩ := a
  cases k <;> simp [State.SameElement]

/-- What changes an element of one block leaves those of every other block alone. -/
theorem State.ChangesElement.otherBlock {s t : State} {a a' : RegAt} (h : s.ChangesElement t a) (hb : a'.blk ≠ a.blk) :
    s.SameElement t a' := by
  obtain ⟨k, i, o⟩ := a
  obtain ⟨k', i', o'⟩ := a'
  cases k
  case brass | bronze => obtain rfl : t = s := h; exact .refl t _
  all_goals obtain ⟨x, rfl⟩ := h; cases k' <;> simp [State.SameElement] at hb ⊢

/-- What changes an element leaves the other elements of its block alone. -/
theorem State.ChangesElement.otherIdx {s t : State} {a a' : RegAt} (h : s.ChangesElement t a) (hb : a'.blk = a.blk)
    (hi : a.idx < a.blk.count) (hi' : a'.idx < a.blk.count) (hne : a'.idx ≠ a.idx) : s.SameElement t a' := by
  obtain ⟨k, i, o⟩ := a
  obtain ⟨k', i', o'⟩ := a'
  cases hb
  dsimp only at hi hi' hne
  cases k
  case mod | sup | tbs | cmd | mgt | tst => simp only [Blk.count] at hi hi'; omega
  case brass | bronze => obtain rfl : t = s := h; exact .refl t _
  all_goals obtain ⟨x, rfl⟩ := h; exact upd_get_ne _ _ _ _ (finOfNat_ne_of_ne hi' hi hne)

/-- What changes the element of a register leaves that of every decoded register of another element alone. -/
theorem State.ChangesElement.other {s t : State} {a a' : RegAt} {n n' : Nat} (h : s.ChangesElement t a)
    (ha : decodeReg n = some a) (ha' : decodeReg n' = some a') (hne : ¬ (a'.blk = a.blk ∧ a'.idx = a.idx)) :
    s.SameElement t a' := by
  by_cases hb : a'.blk = a.blk
  · exact h.otherIdx hb (decodeReg_idx_lt ha) (hb ▸ decodeReg_idx_lt ha') (fun e => hne ⟨hb, e⟩)
  · exact h.otherBlock hb

/-! ### What the W1C and RC registers show -/

section Words
variable (s : State) (rd : Reader) (i : Nat)

@[simp] theorem regWord_irq : s.regWord rd ⟨.mod, i, 0x028⟩ = s.irqWord := rfl
@[simp] theorem regWord_cfgFault : s.regWord rd ⟨.mod, i, 0x104⟩ = s.img.fault := rfl
@[simp] theorem regWord_supFault : s.regWord rd ⟨.sup, i, 0x04⟩ = s.sup.fault := rfl
@[simp] theorem regWord_prtFault : s.regWord rd ⟨.prt, i, 0x0C⟩ = (s.ports[Fin.ofNat 64 i]).fault := rfl
@[simp] theorem regWord_fltFault : s.regWord rd ⟨.flt, i, 0x0C⟩ = (s.chans[Fin.ofNat 128 i]).fault := rfl
@[simp] theorem regWord_cenFault : s.regWord rd ⟨.cen, i, 0x08⟩ = (s.engines[Fin.ofNat 4 i]).fault := rfl
@[simp] theorem regWord_lnkFault : s.regWord rd ⟨.lnk, i, 0x0C⟩ = (s.links[Fin.ofNat 8 i]).fault := rfl
@[simp] theorem regWord_tbsFault : s.regWord rd ⟨.tbs, i, 0x08⟩ = s.tbs.fault := rfl
@[simp] theorem regWord_viFault : s.regWord rd ⟨.vi, i, 0x08⟩ = (s.vis[Fin.ofNat 8 i]).fault := rfl
@[simp] theorem regWord_voFault : s.regWord rd ⟨.vo, i, 0x08⟩ = (s.vos[Fin.ofNat 8 i]).fault := rfl
@[simp] theorem regWord_cmdFault : s.regWord rd ⟨.cmd, i, 0x0C⟩ = s.cmd.fault := rfl
@[simp] theorem regWord_crcFault : s.regWord rd ⟨.crc, i, 0x24⟩ = bitAt (s.crc[Fin.ofNat 4 i]).fault 0 := rfl
@[simp] theorem regWord_mgtFault : s.regWord rd ⟨.mgt, i, 0x04⟩ = s.mgt.fault := rfl
@[simp] theorem regWord_tstFault : s.regWord rd ⟨.tst, i, 0x04⟩ = s.tst.fault := rfl

/-- R107 for the fault register: that of an unassigned point reads as 0. -/
@[simp] theorem regWord_wduFault : s.regWord rd ⟨.wdu, i, 0x14⟩ =
    if s.assigned (Fin.ofNat 64 i) then (s.wdus[Fin.ofNat 64 i]).fault else 0 := rfl

/-- SEC_FAULT stands at the same place whether an image holds the section or none. -/
@[simp] theorem regWord_secFault : s.regWord rd ⟨.sec, i, 0x18⟩ = s.secFault[Fin.ofNat 256 i] := by
  simp only [State.regWord, State.secReg, State.secRegs, State.orphanRegs, undefinedSec]
  cases s.cfg.sec (Fin.ofNat 256 i) <;> cases s.pubSec (Fin.ofNat 256 i) <;> rfl

@[simp] theorem regWord_supCounts : s.regWord rd ⟨.sup, i, 0x1C⟩ = at32 s.sup.cntLogic.toNat 16 ||| at32 s.sup.cntField.toNat 0 := rfl
@[simp] theorem regWord_surges : s.regWord rd ⟨.prt, i, 0x24⟩ = at32 (s.ports[Fin.ofNat 64 i]).surgeCnt.toNat 0 := rfl
@[simp] theorem regWord_saturations : s.regWord rd ⟨.flt, i, 0x30⟩ = at32 (s.chans[Fin.ofNat 128 i]).satCnt.toNat 0 := rfl
@[simp] theorem regWord_blinds : s.regWord rd ⟨.flt, i, 0x34⟩ = at32 (s.chans[Fin.ofNat 128 i]).blindCnt.toNat 0 := rfl
@[simp] theorem regWord_uncertain : s.regWord rd ⟨.wdu, i, 0x30⟩ =
    if s.assigned (Fin.ofNat 64 i) then
      at32 (s.wdus[Fin.ofNat 64 i]).lastCause.toNat 16 ||| at32 (s.wdus[Fin.ofNat 64 i]).uncCnt.toNat 0
    else 0 := rfl
@[simp] theorem regWord_lnkErr1 : s.regWord rd ⟨.lnk, i, 0x18⟩ =
    at32 (s.links[Fin.ofNat 8 i]).errCrc.toNat 16 ||| at32 (s.links[Fin.ofNat 8 i]).errSc.toNat 0 := rfl
@[simp] theorem regWord_lnkErr2 : s.regWord rd ⟨.lnk, i, 0x1C⟩ =
    at32 (s.links[Fin.ofNat 8 i]).errOld.toNat 16 ||| at32 (s.links[Fin.ofNat 8 i]).errMissing.toNat 0 := rfl
@[simp] theorem regWord_lnkErr3 : s.regWord rd ⟨.lnk, i, 0x20⟩ =
    at32 (s.links[Fin.ofNat 8 i]).errFormat.toNat 24 ||| at32 (s.links[Fin.ofNat 8 i]).errAge.toNat 16 |||
      at32 (s.links[Fin.ofNat 8 i]).errSync.toNat 8 ||| at32 (s.links[Fin.ofNat 8 i]).errAddr.toNat 0 := rfl
@[simp] theorem regWord_lnkRelay : s.regWord rd ⟨.lnk, i, 0x24⟩ =
    at32 (s.links[Fin.ofNat 8 i]).relaySent.toNat 16 ||| at32 (s.links[Fin.ofNat 8 i]).relayDropped.toNat 0 := rfl
@[simp] theorem regWord_lnkTimeouts : s.regWord rd ⟨.lnk, i, 0x28⟩ = at32 (s.links[Fin.ofNat 8 i]).timeouts.toNat 0 := rfl
@[simp] theorem regWord_discarded : s.regWord rd ⟨.vo, i, 0x14⟩ = at32 (s.vos[Fin.ofNat 8 i]).discarded.toNat 0 := rfl
@[simp] theorem regWord_cmdErr : s.regWord rd ⟨.cmd, i, 0x14⟩ = at32 s.cmd.errTrailer.toNat 16 ||| at32 s.cmd.errRefused.toNat 0 := rfl
@[simp] theorem regWord_cmdRepeat : s.regWord rd ⟨.cmd, i, 0x18⟩ =
    at32 s.cmd.repeatFull.toNat 16 ||| at32 s.cmd.repeatDup.toNat 0 := rfl
@[simp] theorem regWord_cmdVote : s.regWord rd ⟨.cmd, i, 0x20⟩ =
    at32 s.cmd.voteExpired.toNat 24 ||| at32 s.cmd.voteNoThird.toNat 16 ||| at32 s.cmd.voteConfirm.toNat 0 := rfl
@[simp] theorem regWord_mismatches : s.regWord rd ⟨.crc, i, 0x28⟩ = at32 (s.crc[Fin.ofNat 4 i]).mismatchCnt.toNat 0 := rfl
@[simp] theorem regWord_lost : s.regWord rd ⟨.mgt, i, 0x24⟩ = at32 s.mgt.lostAxles.toNat 16 ||| at32 s.mgt.lostEvents.toNat 0 := rfl
@[simp] theorem regWord_ethErr : s.regWord rd ⟨.mgt, i, 0x30⟩ = at32 s.mgt.rxErr.toNat 16 ||| at32 s.mgt.refused.toNat 0 := rfl

/-- R107: the registers of the WDU of an unassigned point that the configuration does not give hold their reset values. -/
theorem regWord_wdu_unassigned {a : RegAt} (hb : a.blk = .wdu) (ho : 0x10 ≤ a.off) (h : s.assigned (Fin.ofNat 64 a.idx) = false) :
    s.regWord rd a = wduIdle a.off := by
  obtain ⟨k, i, o⟩ := a
  cases hb
  dsimp only at ho h
  simp only [State.regWord, State.wduReg]
  split
  case h_5 => rw [h]; rfl
  all_goals omega

end Words

@[simp] theorem modWdu_assigned (s : State) (n m : Fin 64) (f : Wdu → Wdu) : (s.modWdu n f).assigned m = s.assigned m := rfl

/-! ### W1C registers (R13, R332) -/

/-- The registers with W1C bits. -/
inductive W1cReg : RegAt → Prop
  | irq (i : Nat) : W1cReg ⟨.mod, i, 0x028⟩
  | cfg (i : Nat) : W1cReg ⟨.mod, i, 0x104⟩
  | sup (i : Nat) : W1cReg ⟨.sup, i, 0x04⟩
  | prt (i : Nat) : W1cReg ⟨.prt, i, 0x0C⟩
  | flt (i : Nat) : W1cReg ⟨.flt, i, 0x0C⟩
  | wdu (i : Nat) : W1cReg ⟨.wdu, i, 0x14⟩
  | cen (i : Nat) : W1cReg ⟨.cen, i, 0x08⟩
  | sec (i : Nat) : W1cReg ⟨.sec, i, 0x18⟩
  | lnk (i : Nat) : W1cReg ⟨.lnk, i, 0x0C⟩
  | tbs (i : Nat) : W1cReg ⟨.tbs, i, 0x08⟩
  | vi (i : Nat) : W1cReg ⟨.vi, i, 0x08⟩
  | vo (i : Nat) : W1cReg ⟨.vo, i, 0x08⟩
  | cmd (i : Nat) : W1cReg ⟨.cmd, i, 0x0C⟩
  | crc (i : Nat) : W1cReg ⟨.crc, i, 0x24⟩
  | mgt (i : Nat) : W1cReg ⟨.mgt, i, 0x04⟩
  | tst (i : Nat) : W1cReg ⟨.tst, i, 0x04⟩

/-- They are the registers whose mask is not 0. -/
theorem w1cReg_of_mask {a : RegAt} (h : w1cMask a ≠ 0) : W1cReg a := by
  obtain ⟨k, i, o⟩ := a
  dsimp only [w1cMask] at h
  split at h
  case h_17 => exact absurd rfl h -- every other register has the mask 0
  all_goals constructor

/-- A write to a W1C register changes its own element alone. -/
theorem mapW1c_changesElement (s : State) (f : Word → Word) {a : RegAt} (h : W1cReg a) :
    s.ChangesElement (s.mapW1c a f) a := by
  cases h
  case irq => exact ⟨(_, s.img), rfl⟩
  case cfg => exact ⟨(s.mdl, _), rfl⟩
  all_goals exact ⟨_, rfl⟩

/-- What a write to a W1C register leaves. -/
theorem mapW1c_frame (s : State) (a : RegAt) (f : Word → Word) :
    (s.mapW1c a f).clk = s.clk ∧ (s.mapW1c a f).causes = s.causes ∧ (s.mapW1c a f).readers = s.readers ∧
    (s.mapW1c a f).mgt.queue = s.mgt.queue ∧ (s.mapW1c a f).lanes = s.lanes ∧ (s.mapW1c a f).img.active = s.img.active := by
  unfold State.mapW1c; split <;> exact ⟨rfl, rfl, rfl, rfl, rfl, rfl⟩

/-- A W1C register shows the same where its element is the same and the points are assigned alike. -/
theorem State.SameElement.regWord_w1c {s t : State} {a : RegAt} {rd : Reader} (h : s.SameElement t a) (ha : W1cReg a)
    (hi : t.img.active = s.img.active) : t.regWord rd a = s.regWord rd a := by
  have hw (n : Fin 64) : t.assigned n = s.assigned n := by simp [State.assigned, State.cfg, hi]
  cases ha <;> simp [State.SameElement] at h <;> simp [h, hw, State.irqWord]

/-- A write to a W1C register leaves every other one as it is: it lies in another element, or it is the other one of MOD. -/
theorem regWord_mapW1c_other (s : State) (f : Word → Word) (rd : Reader) {a a' : RegAt} {n n' : Nat} (h : W1cReg a)
    (h' : W1cReg a') (hn : decodeReg n = some a) (hn' : decodeReg n' = some a') (hne : a' ≠ a) :
    (s.mapW1c a f).regWord rd a' = s.regWord rd a' := by
  by_cases he : a'.blk = a.blk ∧ a'.idx = a.idx
  · obtain ⟨k, i, o⟩ := a
    obtain ⟨k', i', o'⟩ := a'
    obtain ⟨rfl, rfl⟩ : k' = k ∧ i' = i := he
    cases h <;> cases h'
    case irq.cfg | cfg.irq => simp [State.mapW1c, State.irqWord]
    all_goals exact absurd rfl hne
  · obtain ⟨_, _, _, _, _, hact⟩ := mapW1c_frame s a f
    exact ((mapW1c_changesElement s f h).other hn hn' he).regWord_w1c h' hact

theorem getLsbD_at32 (v lo b : Nat) : (at32 v lo).getLsbD b = (decide (b < 32 ∧ lo ≤ b) && v.testBit (b - lo)) := by
  simp [at32, BitVec.getLsbD_ofNat, ← Nat.shiftLeft_eq, Nat.testBit_shiftLeft, Bool.and_assoc, Bool.decide_and]

theorem testBit_fieldNat (w : Word) (lo len j : Nat) : (fieldNat w lo len).testBit j = (decide (j < len) && w.getLsbD (lo + j)) := by
  simp [fieldNat, Nat.testBit_mod_two_pow, ← Nat.shiftRight_eq_div_pow, Nat.testBit_shiftRight, BitVec.getLsbD]

/-- The W1C bits of MOD_IRQ are its two fields. -/
theorem irqMask_bit {b : Nat} (h : (0xFF300000 : Word).getLsbD b = true) : 24 ≤ b ∧ b < 32 ∨ 20 ≤ b ∧ b < 22 := by
  have hall : ∀ c : Fin 32, (0xFF300000 : Word).getLsbD c = true →
      24 ≤ c.val ∧ c.val < 32 ∨ 20 ≤ c.val ∧ c.val < 22 := by decide
  exact hall ⟨b, BitVec.lt_of_getLsbD h⟩ h

/-- The fields of MOD_IRQ cut out of a word and put back show its bits there. -/
theorem irqFields_bit (w : Word) {b : Nat} (h : 24 ≤ b ∧ b < 32 ∨ 20 ≤ b ∧ b < 22) :
    (at32 (BitVec.ofNat 8 (fieldNat w 24 8)).toNat 24 ||| at32 (BitVec.ofNat 2 (fieldNat w 20 2)).toNat 20).getLsbD b =
      w.getLsbD b := by
  have h8 : fieldNat w 24 8 < 2 ^ 8 := Nat.mod_lt _ (by decide)
  have h2 : fieldNat w 20 2 < 2 ^ 2 := Nat.mod_lt _ (by decide)
  simp only [BitVec.toNat_ofNat, Nat.mod_eq_of_lt h8, Nat.mod_eq_of_lt h2, BitVec.getLsbD_or, getLsbD_at32, testBit_fieldNat]
  rcases h with h | h
  · simp [h, show 20 ≤ b by omega, show ¬ b - 20 < 2 by omega, show b - 24 < 8 by omega]
  · simp [h, show ¬ 24 ≤ b by omega, show b < 32 by omega, show b - 20 < 2 by omega]

/-- A W1C register shows at its W1C bits what is written to it. -/
theorem regWord_mapW1c_bit (s : State) (f : Word → Word) (rd : Reader) {a : RegAt} (h : W1cReg a)
    (hw : a.blk = .wdu → s.assigned (Fin.ofNat 64 a.idx) = true) {b : Nat} (hb : (w1cMask a).getLsbD b = true) :
    ((s.mapW1c a f).regWord rd a).getLsbD b = (f (s.regWord rd a)).getLsbD b := by
  cases h
  case irq i => exact irqFields_bit (f s.irqWord) (irqMask_bit hb)
  case crc i =>
    obtain rfl : b = 0 := by simpa [w1cMask] using hb
    simp only [State.mapW1c, regWord_crcFault, State.modCrc_crc, upd_get_same]
    cases (f (bitAt (s.crc[Fin.ofNat 4 i]).fault 0)).getLsbD 0 <;> rfl
  all_goals simp [State.mapW1c, hw, upd_get_same, -Fin.ofNat_eq_cast, -Fin.getElem_fin]

/-- A W1C bit after a write of `v` with the events `ev` of the same clock cycle (R13). -/
theorem getLsbD_w1cWord {mask v ev old : Word} {b : Nat} (h : mask.getLsbD b = true) :
    (w1cWord mask v ev old).getLsbD b = (old.getLsbD b && !v.getLsbD b || ev.getLsbD b) := by
  have hb : b < 32 := BitVec.lt_of_getLsbD h
  simp only [w1cWord, BitVec.getLsbD_or, BitVec.getLsbD_and, BitVec.getLsbD_not, h, hb, decide_true, Bool.true_and, Bool.and_true]

/-- A W1C_WRITE that Pewter runs maps the register by `w1cWord`. -/
theorem exec_w1cWrite {s : State} {addr : BitVec 20} {a : RegAt} (v ev : Word) (hp : s.pewterOn = true) (hal : addr.toNat % 4 = 0)
    (hd : decodeReg addr.toNat = some a) (hm : w1cMask a ≠ 0) :
    exec (.w1cWrite addr v ev) s = .next (s.mapW1c a (w1cWord (w1cMask a) v ev)) := by
  have hw : s.write addr.toNat v ev .w32 = s.mapW1c a (w1cWord (w1cMask a) v ev) := by
    simp only [State.write, unaligned, Width.bytes, hal, hd, hm, ne_eq, not_true_eq_false, not_false_eq_true, decide_false,
      Bool.false_eq_true, if_false, if_true]
  have he : exec (.w1cWrite addr v ev) s = s.when s.pewterOn (fun s => s.write addr.toNat v ev .w32) := rfl
  rw [he, State.when_true hp, hw]

/-! ### RC registers (R13, R331) -/

/-- The registers with RC fields. -/
inductive RcReg : RegAt → Prop
  | supCounts (i : Nat) : RcReg ⟨.sup, i, 0x1C⟩
  | surges (i : Nat) : RcReg ⟨.prt, i, 0x24⟩
  | saturations (i : Nat) : RcReg ⟨.flt, i, 0x30⟩
  | blinds (i : Nat) : RcReg ⟨.flt, i, 0x34⟩
  | uncertain (i : Nat) : RcReg ⟨.wdu, i, 0x30⟩
  | lnkErr1 (i : Nat) : RcReg ⟨.lnk, i, 0x18⟩
  | lnkErr2 (i : Nat) : RcReg ⟨.lnk, i, 0x1C⟩
  | lnkErr3 (i : Nat) : RcReg ⟨.lnk, i, 0x20⟩
  | lnkRelay (i : Nat) : RcReg ⟨.lnk, i, 0x24⟩
  | lnkTimeouts (i : Nat) : RcReg ⟨.lnk, i, 0x28⟩
  | discarded (i : Nat) : RcReg ⟨.vo, i, 0x14⟩
  | cmdErr (i : Nat) : RcReg ⟨.cmd, i, 0x14⟩
  | cmdRepeat (i : Nat) : RcReg ⟨.cmd, i, 0x18⟩
  | cmdVote (i : Nat) : RcReg ⟨.cmd, i, 0x20⟩
  | mismatches (i : Nat) : RcReg ⟨.crc, i, 0x28⟩
  | lost (i : Nat) : RcReg ⟨.mgt, i, 0x24⟩
  | ethErr (i : Nat) : RcReg ⟨.mgt, i, 0x30⟩

/-- They are the registers for which RC fields are listed. -/
theorem rcReg_of_fields {a : RegAt} (h : rcFields a ≠ []) : RcReg a := by
  obtain ⟨k, i, o⟩ := a
  dsimp only [rcFields] at h
  split at h
  case h_18 => exact absurd rfl h -- every other register has no RC field
  all_goals constructor

/-- A read of a register without RC fields clears nothing. -/
theorem clearRc_of_no_fields (s : State) (inc : BitVec 4) {a : RegAt} (h : rcFields a = []) : s.clearRc a inc = s := by
  obtain ⟨k, i, o⟩ := a
  dsimp only [State.clearRc]
  split
  case h_18 => rfl
  all_goals cases h

/-- A read of an RC register changes its own element alone. -/
theorem clearRc_changesElement (s : State) (inc : BitVec 4) {a : RegAt} (h : RcReg a) : s.ChangesElement (s.clearRc a inc) a := by
  cases h <;> exact ⟨_, rfl⟩

/-- What a read of an RC register leaves. -/
theorem clearRc_frame (s : State) (a : RegAt) (inc : BitVec 4) :
    (s.clearRc a inc).clk = s.clk ∧ (s.clearRc a inc).causes = s.causes ∧ (s.clearRc a inc).readers = s.readers ∧
    (s.clearRc a inc).mgt.queue = s.mgt.queue ∧ (s.clearRc a inc).img = s.img ∧ (s.clearRc a inc).vis = s.vis := by
  unfold State.clearRc; split <;> exact ⟨rfl, rfl, rfl, rfl, rfl, rfl⟩

/-- An RC register shows the same where its element is the same and the points are assigned alike. -/
theorem State.SameElement.regWord_rc {s t : State} {a : RegAt} {rd : Reader} (h : s.SameElement t a) (ha : RcReg a)
    (hi : t.img.active = s.img.active) : t.regWord rd a = s.regWord rd a := by
  have hw (n : Fin 64) : t.assigned n = s.assigned n := by simp [State.assigned, State.cfg, hi]
  cases ha <;> simp [State.SameElement] at h <;> simp [h, hw]

/-- A read of an RC register leaves every other one as it is: it lies in another element, or shows other counters of it. -/
theorem regWord_clearRc_other (s : State) (inc : BitVec 4) (rd : Reader) {a a' : RegAt} {n n' : Nat}
    (h' : RcReg a') (hn : decodeReg n = some a) (hn' : decodeReg n' = some a') (hne : a' ≠ a) :
    (s.clearRc a inc).regWord rd a' = s.regWord rd a' := by
  by_cases hf : rcFields a = []
  · rw [clearRc_of_no_fields s inc hf]
  have h := rcReg_of_fields hf
  by_cases he : a'.blk = a.blk ∧ a'.idx = a.idx
  · obtain ⟨k, i, o⟩ := a
    obtain ⟨k', i', o'⟩ := a'
    obtain ⟨rfl, rfl⟩ : k' = k ∧ i' = i := he
    cases h <;> cases h'
    all_goals simp [State.clearRc, upd_get_same, -Fin.ofNat_eq_cast, -Fin.getElem_fin] at hne ⊢
  · obtain ⟨_, _, _, _, himg, _⟩ := clearRc_frame s a inc
    exact ((clearRc_changesElement s inc h).other hn hn' he).regWord_rc h' (congrArg _ himg)

theorem fieldNat_or (x y : Word) (lo len : Nat) : fieldNat (x ||| y) lo len = fieldNat x lo len ||| fieldNat y lo len := by
  simp [fieldNat, ← Nat.shiftRight_eq_div_pow, Nat.shiftRight_or_distrib, Nat.or_mod_two_pow]

theorem testBit_fieldNat_at32 (v lo' lo len j : Nat) : (fieldNat (at32 v lo') lo len).testBit j =
    (decide (j < len) && (decide (lo + j < 32 ∧ lo' ≤ lo + j) && v.testBit (lo + j - lo'))) := by
  rw [testBit_fieldNat, getLsbD_at32]

/-- A counter placed at a field is the field. -/
theorem fieldNat_at32_self {m : Nat} (x : BitVec m) (lo : Nat) (h : lo + m ≤ 32) : fieldNat (at32 x.toNat lo) lo m = x.toNat := by
  refine Nat.eq_of_testBit_eq fun j => ?_
  rw [testBit_fieldNat_at32, Nat.add_sub_cancel_left]
  by_cases hj : j < m
  · simp [hj, show lo + j < 32 by omega]
  · simp [hj, BitVec.testBit_toNat, BitVec.getLsbD_of_ge x j (by omega)]

/-- A counter placed above a field does not show in it. -/
theorem fieldNat_at32_above {m : Nat} (x : BitVec m) (lo' lo len : Nat) (h : lo + len ≤ lo') :
    fieldNat (at32 x.toNat lo') lo len = 0 := by
  refine Nat.eq_of_testBit_eq fun j => ?_
  by_cases hj : j < len
  · simp [testBit_fieldNat_at32, show ¬ lo' ≤ lo + j by omega]
  · simp [testBit_fieldNat_at32, hj]

/-- A counter placed below a field does not show in it. -/
theorem fieldNat_at32_below {m : Nat} (x : BitVec m) (lo' lo len : Nat) (h : lo' + m ≤ lo) :
    fieldNat (at32 x.toNat lo') lo len = 0 := by
  refine Nat.eq_of_testBit_eq fun j => ?_
  simp [testBit_fieldNat_at32, BitVec.testBit_toNat, BitVec.getLsbD_of_ge x (lo + j - lo') (by omega)]

/-- The field of a counter that a read has cleared. -/
theorem fieldNat_rcLeft {m : Nat} (inc : BitVec 4) (j lo : Nat) (h : 0 < m) (hl : lo + m ≤ 32) :
    fieldNat (at32 (rcLeft inc j : BitVec m).toNat lo) lo m = if inc.getLsbD j then 1 else 0 := by
  rw [fieldNat_at32_self _ lo hl, rcLeft]
  split <;> simp [Nat.mod_eq_of_lt, h]

/-- An RC field that is read keeps an increment of the same clock cycle and is 0 without one. -/
theorem fieldNat_clearRc (s : State) (inc : BitVec 4) (rd : Reader) {a : RegAt} {j lo len : Nat}
    (hj : (rcFields a)[j]? = some (lo, len)) (hw : a.blk = .wdu → s.assigned (Fin.ofNat 64 a.idx) = true) :
    fieldNat ((s.clearRc a inc).regWord rd a) lo len = if inc.getLsbD j then 1 else 0 := by
  have h : RcReg a := rcReg_of_fields (by rintro e; simp [e] at hj)
  -- A register has at most four RC fields; each is a cleared counter, and the others lie above or below it.
  cases h <;> rcases j with _ | _ | _ | _ | j <;> cases hj
  all_goals simp [State.clearRc, hw, upd_get_same, fieldNat_or, fieldNat_rcLeft, fieldNat_at32_above, fieldNat_at32_below,
      -Fin.ofNat_eq_cast, -Fin.getElem_fin]

/-! ### 32-bit reads -/

/-- The reader holds the register's word and its latched partners; no RC field is cleared yet. -/
def State.fetched (s : State) (rd : Reader) (a : RegAt) : State :=
  s.modReader rd (fun r => { s.latch a r with data := s.regWord rd a, busError := false })

theorem readerOf_modReader (s : State) (rd : Reader) (f : ReaderSt → ReaderSt) :
    (s.modReader rd f).readerOf rd = f (s.readerOf rd) := by
  cases rd <;> exact upd_get_same _ _ _

theorem fetched_data (s : State) (rd : Reader) (a : RegAt) : ((s.fetched rd a).readerOf rd).data = s.regWord rd a := by
  rw [State.fetched, readerOf_modReader]

/-- An RC_READ by a reader that can read fetches the register and clears its RC fields. -/
theorem exec_rcRead {s : State} {rd : Reader} {addr : BitVec 20} {a : RegAt} (inc : BitVec 4) (hr : s.canRead rd = true)
    (hal : addr.toNat % 4 = 0) (hd : decodeReg addr.toNat = some a) :
    exec (.rcRead rd addr inc) s = .next ((s.fetched rd a).clearRc a inc) := by
  have he : exec (.rcRead rd addr inc) s = s.when (s.canRead rd) (fun s => s.read32 rd addr.toNat inc) := rfl
  have hw : s.read32 rd addr.toNat inc = (s.fetched rd a).clearRc a inc := by
    simp only [State.read32, State.peek, State.fetched, unaligned, Width.bytes, hal, hd, ne_eq, not_true_eq_false, decide_false,
      Bool.false_eq_true, if_false]
  rw [he, State.when_true hr, hw]

/-- No RC register shows what a reader holds. -/
theorem regWord_fetched (s : State) (rd : Reader) (a : RegAt) {a' : RegAt} (h : RcReg a') :
    (s.fetched rd a).regWord rd a' = s.regWord rd a' := by
  cases h <;> rfl

end Sys2Proof.Machine

open Sys2Proof Sys2Proof.Machine

/-- Settles O58: a write maps its own register by `w1cWord` and a read clears the fields of its own register; another register of
the kind lies in another element of the state, or shows another field of the same one. -/
theorem noEventIsLost : Obligations.NoEventIsLost := by
  unfold Obligations.NoEventIsLost
  refine ⟨fun s addr v ev a hp hal hd hm hw => ?_, fun s rd addr inc a hr hal hd => ?_, fun s rd a hb ho h =>
    regWord_wdu_unassigned s rd hb ho h⟩
  · have hbit (b : Nat) (hb : (w1cMask a).getLsbD b = true) :=
      (regWord_mapW1c_bit s (w1cWord (w1cMask a) v ev) .pewter (w1cReg_of_mask hm) hw hb).trans (getLsbD_w1cWord hb)
    refine ⟨_, exec_w1cWrite v ev hp hal hd hm, fun b hb => ?_, fun n a' hd' hne hm' => ?_, mapW1c_frame s a _⟩
    · rw [hbit b hb]
      exact ⟨fun he => by simp [he], fun he hv => by simp [he, hv], fun he hv => by simp [he, hv]⟩
    · exact regWord_mapW1c_other s _ .pewter (w1cReg_of_mask hm) (w1cReg_of_mask hm') hd hd' hne
  · obtain ⟨hclk, hcauses, hreaders, hqueue, himg, hvis⟩ := clearRc_frame (s.fetched rd a) a inc
    refine ⟨_, exec_rcRead inc hr hal hd, ?_, fun j lo w hj hw => fieldNat_clearRc _ inc rd hj hw, fun n a' hd' hne p hmem => ?_,
      fun hf => ?_, hclk, hcauses, hqueue, himg, hvis⟩
    · have hrd : ((s.fetched rd a).clearRc a inc).readerOf rd = (s.fetched rd a).readerOf rd := by
        cases rd <;> simp only [State.readerOf, hreaders]
      rw [hrd, fetched_data]
    · have h' : RcReg a' := rcReg_of_fields (List.ne_nil_of_mem hmem)
      rw [regWord_clearRc_other _ inc rd h' hd hd' hne, regWord_fetched s rd a h']
    · rw [clearRc_of_no_fields _ inc hf]
      rfl

end

section
/-! PROOFS. One step runs the front command (R22). -/

open Sys2Proof Sys2Proof.Machine

/-- Settles O1: the two clauses are the two branches of `step`. -/
theorem stepRunsFrontCommand : Obligations.StepRunsFrontCommand := by
  unfold Obligations.StepRunsFrontCommand
  refine ⟨fun s c rest h => ?_, fun s h => ?_⟩ <;> rw [step, h]

end

section
/-! PROOFS. What asserts module reset (R31, R262, R310, R341, R353, R366). -/

namespace Sys2Proof.Machine

/-! ### Asserting module reset -/

/-- Module reset asserted by any cause leaves the state that R338 and Table 13-3 describe, whether a self-test runs or not. -/
theorem State.assertReset_resetAsserted (s : State) (cause : ResetCause) : s.resetAsserted (s.assertReset cause) cause := by
  unfold State.resetAsserted State.assertReset
  split <;> exact ⟨rfl, rfl, rfl, rfl, rfl, rfl, rfl, rfl, rfl, rfl, rfl, rfl, rfl, rfl, rfl, rfl, rfl, rfl, rfl, rfl, rfl, rfl,
    rfl, rfl, rfl⟩

/-- The button's fields and production test mode outlast a module reset. -/
theorem State.assertReset_keeps (s : State) (cause : ResetCause) :
    (s.assertReset cause).mdl.btnHeld = s.mdl.btnHeld ∧ (s.assertReset cause).clk.prodTest = s.clk.prodTest := by
  unfold State.assertReset
  split <;> exact ⟨rfl, rfl⟩

/-- A reset that meets no shutdown self-test adds no fault and keeps the test record. -/
theorem State.assertReset_noTest {s : State} (cause : ResetCause) (hs : s.tst.state ≠ .shutdown) (ha : s.tst.state ≠ .aborting) :
    (s.assertReset cause).mdl.resetFaults = s.mdl.resetFaults ∧ (s.assertReset cause).tst.record = s.tst.record := by
  unfold State.assertReset
  rw [if_neg (by simp [hs, ha])]
  exact ⟨rfl, rfl⟩

/-- R310: a reset of another cause than the supply that meets a running shutdown self-test ends it INCOMPLETE. -/
theorem State.assertReset_shutdown {s : State} {cause : ResetCause} (hs : s.tst.state = .shutdown) (hc : cause ≠ .supervision) :
    (s.assertReset cause).mdl.resetFaults = s.mdl.resetFaults ++ [(0x0C02, 0xFFFF)] ∧ (s.assertReset cause).tst.abortCause = 3 ∧
    (s.assertReset cause).tst.aborts = s.tst.aborts + 1 ∧
    ∃ r, (s.assertReset cause).tst.record = some r ∧ r.kind = 3 ∧ r.verdict = 3 ∧ r.token = none := by
  unfold State.assertReset
  rw [if_pos (.inl hs), if_neg hc, hs]
  exact ⟨congrArg (· ++ _) (List.append_nil _), rfl, rfl, _, rfl, rfl, rfl, rfl⟩

/-! ### Clock faults (R31) -/

/-- The state in which a clock fault waits for the next start to log it. -/
def State.noteResetFault (s : State) (code : BitVec 16) : State :=
  { s with mdl := { s.mdl with resetFaults := s.mdl.resetFaults ++ [(code, 0xFFFF)] } }

theorem clockFault_eq {s : State} (code : BitVec 16) (h : s.inReset = false) :
    clockFault code s = .next ((s.noteResetFault code).assertReset .clock) :=
  State.when_true (by simp [h])

/-- A clock fault that meets no shutdown self-test. -/
theorem clockFault_resets {s : State} (code : BitVec 16) (h : s.inReset = false) (hs : s.tst.state ≠ .shutdown)
    (ha : s.tst.state ≠ .aborting) :
    ∃ t, clockFault code s = .next t ∧ s.resetAsserted t .clock ∧
      t.mdl.resetFaults = s.mdl.resetFaults ++ [(code, 0xFFFF)] ∧ t.tst.record = s.tst.record := by
  obtain ⟨hfaults, hrecord⟩ := State.assertReset_noTest (s := s.noteResetFault code) .clock hs ha
  exact ⟨_, clockFault_eq code h, State.assertReset_resetAsserted (s.noteResetFault code) .clock, hfaults, hrecord⟩

/-- The period fault is a clock fault outside the window of Table 1-5, and no event within it. -/
theorem exec_tickPeriodFault (s : State) (dt : Nat) : exec (.tickPeriodFault dt) s =
    if s.now + dt - s.clk.tickAt < 237500 ∨ 525000 ≤ s.now + dt - s.clk.tickAt then clockFault 0x0133 (s.pass dt)
    else .next (s.pass dt) := rfl

theorem exec_tick_late {s : State} (m : TickMeas) (h : s.clk.tickAt + 525000 < s.now) : exec (.tick m) s = clockFault 0x0133 s :=
  if_pos h

/-! ### The restart button and the test access port (R262, R341, R353, R366) -/

/-- The state in which a press is held. -/
def State.holdButton (s : State) : State := { s with mdl := { s.mdl with btnHeld := some s.now } }

theorem exec_restartButtonPress {s : State} (dt : Nat) (h : s.inReset = false) (hb : s.mdl.btnHeld = none) :
    exec (.restartButtonPress dt) s = .next ((s.pass dt).holdButton.assertReset .button) := by
  have hin : (s.pass dt).holdButton.inReset = false := h
  have he : exec (.restartButtonPress dt) s = (s.pass dt).when (s.pass dt).mdl.btnHeld.isNone (fun s =>
    if s.holdButton.inReset then s.holdButton else s.holdButton.assertReset .button) := rfl
  rw [he, State.when_true (by simp [hb])]
  simp [hin]

/-- What the release of a button that was held for so long leaves (R341). -/
def Mdl.released (m : Mdl) (held : Nat) : Mdl :=
  let stuck := decide (30000000000 ≤ held)
  { m with
    btnHeld := none, btnHold := satNat 16 (held / 100000000), btnResets := satInc m.btnResets, btnStuck := stuck
    resetFaults := if stuck then m.resetFaults ++ [(0x0920, 0xFFFF)] else m.resetFaults }

theorem Mdl.released_spec (m : Mdl) (held : Nat) :
    (m.released held).phase = m.phase ∧ (m.released held).btnHeld = none ∧ (m.released held).btnResets = satInc m.btnResets ∧
    (m.released held).btnHold = satNat 16 (held / 100000000) ∧
    (m.released held).btnStuck = decide (30000000000 ≤ held) ∧
    ((m.released held).btnStuck = true → (m.released held).resetFaults = m.resetFaults ++ [(0x0920, 0xFFFF)]) ∧
    ((m.released held).btnStuck = false → (m.released held).resetFaults = m.resetFaults) := by
  simp only [Mdl.released, true_and]
  exact ⟨fun h => if_pos h, fun h => if_neg (ne_true_of_eq_false h)⟩

theorem exec_restartButtonRelease {s : State} (dt : Nat) {b : Nat} (hb : s.mdl.btnHeld = some b) :
    exec (.restartButtonRelease dt) s = .next { s.pass dt with mdl := s.mdl.released (s.now + dt - b + 100000000) } := by
  have he : exec (.restartButtonRelease dt) s = execRestartButtonRelease dt s := rfl
  rw [he, execRestartButtonRelease, State.pass_mdl, hb]
  rfl

/-- The state in which production test mode is entered. -/
def State.enterTestMode (s : State) : State :=
  { s.noteResetFault 0x0C07 with clk := { s.clk with prodTest := true } }

theorem exec_tapInstruction_enter {s : State} (dt : Nat) {op : TapOp} (hp : s.clk.prodTest = false) (hb : op ≠ .bypass)
    (hi : op ≠ .idcode) : exec (.tapInstruction dt op) s = .next ((s.pass dt).enterTestMode.assertReset .tap) := by
  have he : exec (.tapInstruction dt op) s = execTapInstruction dt op s := rfl
  rw [he, execTapInstruction, State.when_true (by simp [hb, hi]), if_neg (by simp [hp])]
  rfl

/-- In production test mode an instruction for one output moves its two switches. -/
theorem State.tapSwitch_spec (s : State) (j : Fin 8) (h l : Bool) : OthersSame s.vos (s.tapSwitch j h l).vos j ∧
    s.tapSwitch j h l = { s with vos := (s.tapSwitch j h l).vos } ∧
    ((s.tapSwitch j h l).vos[j]).hs = h ∧ ((s.tapSwitch j h l).vos[j]).ls = l := by
  refine ⟨upd_othersSame _ _ _, rfl, ?_⟩
  have hv : (s.tapSwitch j h l).vos[j] = (s.vos[j]).switchTo h l s.now := upd_get_same _ _ _
  rw [hv, Vo.switchTo]
  split
  · assumption
  · exact ⟨rfl, rfl⟩

theorem exec_tapInstruction_closeAlone {s : State} (dt : Nat) (j : Fin 8) (low : Bool) (hp : s.clk.prodTest = true)
    (hr : s.inReset = false) : exec (.tapInstruction dt (.closeAlone j low)) s = .next ((s.pass dt).tapSwitch j (!low) low) := by
  have he : exec (.tapInstruction dt (.closeAlone j low)) s = execTapInstruction dt (.closeAlone j low) s := rfl
  rw [he, execTapInstruction, State.when_true (by simp), if_pos (by simp [hp]), State.pass_inReset, hr]

theorem exec_tapInstruction_openBoth {s : State} (dt : Nat) (j : Fin 8) (hp : s.clk.prodTest = true) (hr : s.inReset = false) :
    exec (.tapInstruction dt (.openBoth j)) s = .next ((s.pass dt).tapSwitch j false false) := by
  have he : exec (.tapInstruction dt (.openBoth j)) s = execTapInstruction dt (.openBoth j) s := rfl
  rw [he, execTapInstruction, State.when_true (by simp), if_pos (by simp [hp]), State.pass_inReset, hr]

end Sys2Proof.Machine

open Sys2Proof Sys2Proof.Machine

/-- Settles O13: every cause asserts the same reset (`State.assertReset`), which differs only in what it finds: the faults noted for
the next start, and a shutdown self-test that it ends. -/
theorem causesOfModuleReset : Obligations.CausesOfModuleReset := by
  unfold Obligations.CausesOfModuleReset
  refine ⟨fun s dt h hs ha p hp => ?_, fun s dt h hs ha hn => ?_, fun s dt h1 h2 => ?_, fun s m h hs ha hn => ?_,
    fun s dt h hs => ?_, fun s dt h hs ha hb => ?_, fun s dt b hb => ?_, fun s dt hs ha => ?_, fun s dt op hp hs ha hb hi => ?_,
    fun s dt => ⟨rfl, rfl⟩, fun s dt j low hp hr => ?_, fun s dt j hp hr => ?_⟩
  · simp only [List.mem_cons, List.not_mem_nil, or_false] at hp
    rcases hp with rfl | rfl
    · exact clockFault_resets 0x0130 (s := s.pass dt) h hs ha
    · exact clockFault_resets 0x0131 (s := s.pass dt) h hs ha
  · rw [exec_tickPeriodFault, if_pos hn]
    exact clockFault_resets 0x0133 (s := s.pass dt) h hs ha
  · rw [exec_tickPeriodFault, if_neg (by omega)]
  · rw [exec_tick_late m hn]
    exact clockFault_resets 0x0133 h hs ha
  · obtain ⟨hfaults, hcause, haborts, hrecord⟩ :=
      State.assertReset_shutdown (s := (s.pass dt).noteResetFault 0x0130) (cause := .clock) hs (by decide)
    refine ⟨_, clockFault_eq (s := s.pass dt) 0x0130 h,
      State.assertReset_resetAsserted ((s.pass dt).noteResetFault 0x0130) .clock, ?_, hcause, haborts, hrecord⟩
    rw [hfaults]
    simp [State.noteResetFault]
  · exact ⟨_, exec_restartButtonPress dt h hb, State.assertReset_resetAsserted (s.pass dt).holdButton .button,
      (State.assertReset_keeps _ _).1⟩
  · rw [exec_restartButtonRelease dt hb]
    exact ⟨_, rfl, rfl, s.mdl.released_spec _⟩
  · exact ⟨_, rfl, State.assertReset_resetAsserted (s.pass dt) .powerOn, rfl, rfl, rfl, rfl, rfl, rfl⟩
  · obtain ⟨hfaults, _⟩ := State.assertReset_noTest (s := (s.pass dt).enterTestMode) .tap hs ha
    exact ⟨_, exec_tapInstruction_enter dt hp hb hi, State.assertReset_resetAsserted (s.pass dt).enterTestMode .tap,
      (State.assertReset_keeps _ _).2, hfaults⟩
  · exact ⟨_, exec_tapInstruction_closeAlone dt j low hp hr, State.tapSwitch_spec (s.pass dt) j (!low) low⟩
  · exact ⟨_, exec_tapInstruction_openBoth dt j hp hr, State.tapSwitch_spec (s.pass dt) j false false⟩

end

section
/-! PROOFS. Isolator lanes and return lanes (R34, R35, R78, R79, R100, R291). -/

namespace Sys2Proof.Machine

/-! ### Rules for arrays and folds -/

theorem upd_congr {α : Type} {n : Nat} {v : Vector α n} {i : Fin n} {f g : α → α} (h : f v[i] = g v[i]) : upd v i f = upd v i g := by
  have h' : f v[i.val] = g v[i.val] := h
  simp only [upd, h']

/-- A step that changes one channel by a rule of the other fields changes several channels by the rule of the first state. -/
theorem foldl_chanRule {step : State → Fin 128 → State} {rule : State → Fin 128 → Chan → Chan}
    (hs : ∀ s c, step s c = s.modChan c (rule s c)) (hr : ∀ (s : State) v c, rule { s with chans := v } c = rule s c) (l : List (Fin 128)) :
    ∀ s : State, l.foldl step s = l.foldl (fun t c => t.modChan c (rule s c)) s := by
  induction l with
  | nil => intro s; rfl
  | cons a l ih =>
    intro s
    have hsame : rule (s.modChan a (rule s a)) = rule s := funext fun c => hr s _ c
    rw [List.foldl_cons, List.foldl_cons, ih, hs, hsame]

/-- The same for ports. -/
theorem foldl_portRule {step : State → Fin 64 → State} {rule : State → Fin 64 → Port → Port}
    (hs : ∀ s n, step s n = s.modPort n (rule s n)) (hr : ∀ (s : State) v n, rule { s with ports := v } n = rule s n) (l : List (Fin 64)) :
    ∀ s : State, l.foldl step s = l.foldl (fun t n => t.modPort n (rule s n)) s := by
  induction l with
  | nil => intro s; rfl
  | cons a l ih =>
    intro s
    have hsame : rule (s.modPort a (rule s a)) = rule s := funext fun n => hr s _ n
    rw [List.foldl_cons, List.foldl_cons, ih, hs, hsame]

/-! ### Point events that begin no cause of UNPROVEN -/

/-- Such an item reaches the engines' journals and nothing else. -/
theorem State.postPoint_frame {ev : PointEv} (h : ∀ own, ev.begins own = none) (s : State) :
    s.postPoint ev = { s with engines := (s.postPoint ev).engines } := by
  unfold State.postPoint
  rw [h]
  rfl

theorem foldl_postPoint_quiet {ev : Fin 64 → PointEv} (h : ∀ n own, (ev n).begins own = none) (l : List (Fin 64)) :
    ∀ s : State, l.foldl (fun s n => s.postPoint (ev n)) s =
      { s with engines := (l.foldl (fun s n => s.postPoint (ev n)) s).engines } := by
  induction l with
  | nil => intro s; rfl
  | cons a l ih =>
    intro s
    rw [List.foldl_cons, ih, State.postPoint_frame (h a) s]

/-! ### Logging on top of a change -/

/-- A change of channels and then of engines. -/
theorem State.frame_chans_engines {s u t : State} (h : u = { s with chans := u.chans }) (k : t = { u with engines := t.engines }) :
    t = { s with chans := t.chans, engines := t.engines } := by
  rw [k, h]

/-- Logging after a change of lanes and channels. -/
theorem State.SameButLog.lanesChans {s u t : State} (h : u.SameButLog t) (hu : u = { s with lanes := u.lanes, chans := u.chans }) :
    ({ s with lanes := t.lanes, chans := t.chans } : State).SameButLog t := by
  rw [h.lanes, h.chans, ← hu]
  exact h

/-- A change of channels and journals on top of logging. -/
theorem State.SameButLog.withChansEngines {s t : State} (h : s.SameButLog t) (v : Vector Chan 128) (w : Vector Engine 4) :
    ({ s with chans := v, engines := w } : State).SameButLog { t with chans := v, engines := w } := by
  unfold State.SameButLog at h ⊢
  rw [h]

theorem State.lastFault.congr {t u : State} {code obj : Nat} (h : t.lastFault code obj) (hm : u.mdl = t.mdl) :
    u.lastFault code obj := by
  unfold State.lastFault at *
  rw [hm, h]

/-! ### Channels of a lane -/

/-- FLT_FAULT of the 16 channels of a lane takes a bit. -/
def State.markChans (s : State) (k : Fin 8) (bit : Nat) : State :=
  (laneChans k).foldl (fun s c => s.modChan c (fun x => { x with fault := setBit x.fault bit })) s

theorem State.markChans_frame (s : State) (k : Fin 8) (bit : Nat) :
    s.markChans k bit = { s with chans := (s.markChans k bit).chans } := by
  unfold State.markChans
  rw [foldl_modChan (fun _ x => { x with fault := setBit x.fault bit })]

theorem State.markChans_get (s : State) (k : Fin 8) (bit : Nat) (c : Fin 128) : (s.markChans k bit).chans[c] =
    if c.val / 16 = k.val then { s.chans[c] with fault := setBit (s.chans[c]).fault bit } else s.chans[c] := by
  simpa [State.markChans] using
    foldl_modChan_get (fun _ x => { x with fault := setBit x.fault bit }) (laneChans k) (laneChans_nodup k) s c

/-- The 16 channels of a lane enter single-cycle mode. -/
def State.scmChans (s : State) (k : Fin 8) : State := (laneChans k).foldl (fun s c => s.modChan c Chan.enterScm) s

theorem State.scmChans_frame (s : State) (k : Fin 8) : s.scmChans k = { s with chans := (s.scmChans k).chans } := by
  unfold State.scmChans
  rw [foldl_modChan (fun _ => Chan.enterScm)]

theorem State.scmChans_get (s : State) (k : Fin 8) (c : Fin 128) :
    (s.scmChans k).chans[c] = if c.val / 16 = k.val then (s.chans[c]).enterScm else s.chans[c] := by
  simpa [State.scmChans] using foldl_modChan_get (fun _ => Chan.enterScm) (laneChans k) (laneChans_nodup k) s c

/-- A synchronising reset as a rule of the channel and of the other fields. -/
def State.resetRule (load : Bool) (s : State) (c : Fin 128) (x : Chan) : Chan :=
  x.syncReset (if x.sel = 0 then max 1 (fieldNat (s.cfg.fltCfg[c]) 24 4) else 12) (s.chanPd c) load

theorem State.resetChan_eq (s : State) (c : Fin 128) (load : Bool) :
    s.resetChan c load = s.modChan c (s.resetRule load c) := by
  unfold State.resetChan State.modChan
  exact congrArg (fun v => { s with chans := v }) (upd_congr rfl)

/-- Synchronising resets of several channels. -/
theorem foldl_resetChan (load : Bool) (l : List (Fin 128)) (s : State) :
    l.foldl (fun s c => s.resetChan c load) s = l.foldl (fun t c => t.modChan c (s.resetRule load c)) s :=
  foldl_chanRule (fun s c => s.resetChan_eq c load) (fun _ _ _ => rfl) l s

theorem foldl_resetChan_frame (load : Bool) (l : List (Fin 128)) (s : State) :
    l.foldl (fun s c => s.resetChan c load) s = { s with chans := (l.foldl (fun s c => s.resetChan c load) s).chans } := by
  rw [foldl_resetChan, foldl_modChan]

theorem foldl_resetChan_get (load : Bool) {l : List (Fin 128)} (h : l.Nodup) (s : State) (c : Fin 128) :
    (l.foldl (fun s c => s.resetChan c load) s).chans[c] =
      if c ∈ l then (s.chans[c]).syncReset (s.chanM c) (s.chanPd c) load else s.chans[c] := by
  rw [foldl_resetChan]
  exact foldl_modChan_get (s.resetRule load) l h s c

/-! ### Isolator lanes (R34, R78, R79) -/

/-- A lane that has been SYNCED is in FAULT. -/
def Lane.lost (now : Nat) (l : Lane) : Lane :=
  { l with synced := false, good := 0, resetDue := none, faultAt := some now, timedOut := false, syncLoss := satInc l.syncLoss }

/-- A wrong word on a lane is counted. -/
def Lane.badWord (chk : Bool) (l : Lane) : Lane := { l with dirty := true, wordErr := if chk then satInc l.wordErr else l.wordErr }

theorem State.laneFault_synced {s : State} {k : Fin 8} (h : (s.lanes[k]).synced = true) :
    s.laneFault k = ((s.modLane k (Lane.lost s.now)).markChans k 1).fault 0x0310 k.val := by
  unfold State.laneFault
  dsimp only
  rw [if_pos h]
  rfl

theorem exec_laneWordFault {s : State} (dt : Nat) {k : Fin 8} (chk : Bool) (h : s.inReset = false) (hk : (s.lanes[k]).synced = true) :
    exec (.laneWordFault dt k chk) s =
      .next (((((s.pass dt).modLane k (Lane.badWord chk)).modLane k (Lane.lost (s.now + dt))).markChans k 1).fault 0x0310 k.val) := by
  have he : exec (.laneWordFault dt k chk) s = execLaneWordFault dt k chk s := rfl
  have hs : ((((s.pass dt).modLane k (Lane.badWord chk))).lanes[k]).synced = true :=
    (congrArg Lane.synced (upd_get_same s.lanes k (Lane.badWord chk))).trans hk
  rw [he, execLaneWordFault, State.when_true (by simp [h])]
  exact congrArg _ (State.laneFault_synced hs)

theorem laneWordFault_spec (s : State) (dt : Nat) (k : Fin 8) (chk : Bool) (h : s.inReset = false) (hk : (s.lanes[k]).synced = true) :
    ∃ t, exec (.laneWordFault dt k chk) s = .next t ∧ OthersSame s.lanes t.lanes k ∧
      ({ s.pass dt with lanes := t.lanes, chans := t.chans } : State).SameButLog t ∧
      t.lanes[k] = { s.lanes[k] with
        synced := false, good := 0, resetDue := none, faultAt := some (s.now + dt), timedOut := false, dirty := true
        wordErr := if chk then satInc (s.lanes[k]).wordErr else (s.lanes[k]).wordErr
        syncLoss := satInc (s.lanes[k]).syncLoss } ∧
      (∀ c : Fin 128, c.val / 16 = k.val → t.chans[c] = { s.chans[c] with fault := setBit (s.chans[c]).fault 1 }) ∧
      (∀ c : Fin 128, c.val / 16 ≠ k.val → t.chans[c] = s.chans[c]) ∧ t.lastFault 0x0310 k.val := by
  let u := ((s.pass dt).modLane k (Lane.badWord chk)).modLane k (Lane.lost (s.now + dt))
  have hl : ((u.markChans k 1).fault 0x0310 k.val).lanes = u.lanes := by rw [State.fault_lanes, State.markChans_frame]
  have hc (c : Fin 128) := u.markChans_get k 1 c
  refine ⟨_, exec_laneWordFault dt chk h hk, ?_, (State.fault_same _ _ _).lanesChans ?_, ?_, fun c hck => ?_, fun c hck => ?_,
    State.fault_lastFault _ _ _ (by decide) (by decide) (by decide) (by omega)⟩
  · rw [hl]
    exact (upd_othersSame _ _ _).trans (upd_othersSame _ _ _)
  · rw [State.markChans_frame]
    rfl
  · rw [hl]
    exact (upd_get_same _ _ _).trans (congrArg _ (upd_get_same _ _ _))
  · rw [State.fault_chans, hc, if_pos hck]
    rfl
  · rw [State.fault_chans, hc, if_neg hck]
    rfl

theorem exec_laneResyncTimeout {s : State} (dt : Nat) {k : Fin 8} {f : Nat} (h : s.inReset = false) (hk : (s.lanes[k]).synced = false)
    (hf : (s.lanes[k]).faultAt = some f) (ht : (s.lanes[k]).timedOut = false) (hd : f + 10000000 ≤ s.now + dt) :
    exec (.laneResyncTimeout dt k) s =
      .next (((s.pass dt).modLane k (fun l => { l with timedOut := true })).postPoint (.laneFail k)) := by
  have he : exec (.laneResyncTimeout dt k) s = execLaneResyncTimeout dt k s := rfl
  rw [he, execLaneResyncTimeout, State.when_true]
  simp only [State.pass_inReset, State.pass_lanes, State.pass_now, h, hk, hf, ht, hd, decide_true, Bool.not_false, Bool.and_self]

theorem exec_laneReturnSyncReset {s : State} {k : Fin 8} {n : Nat} (h : s.inReset = false) (hn : (s.lanes[k]).resetDue = some n)
    (hd : n ≤ s.tickNo) : exec (.laneReturnSyncReset k) s =
      .next ((laneChans k).foldl (fun s c => s.resetChan c false) (s.modLane k (fun l => { l with resetDue := none }))) := by
  have he : exec (.laneReturnSyncReset k) s = execLaneReturnSyncReset k s := rfl
  rw [he, execLaneReturnSyncReset, hn]
  exact State.when_true (by simp [h, hd])

theorem laneReturnSyncReset_spec (s : State) (k : Fin 8) (n : Nat) (h : s.inReset = false) (hn : (s.lanes[k]).resetDue = some n)
    (hd : n ≤ s.tickNo) :
    ∃ t, exec (.laneReturnSyncReset k) s = .next t ∧ OthersSame s.lanes t.lanes k ∧
      t = { s with lanes := t.lanes, chans := t.chans } ∧ t.lanes[k] = { s.lanes[k] with resetDue := none } ∧
      (∀ c : Fin 128, c.val / 16 = k.val → t.chans[c] = (s.chans[c]).syncReset (s.chanM c) (s.chanPd c) false) ∧
      (∀ c : Fin 128, c.val / 16 ≠ k.val → t.chans[c] = s.chans[c]) := by
  let u := s.modLane k (fun l => { l with resetDue := none })
  have hfr := foldl_resetChan_frame false (laneChans k) u
  have hget := foldl_resetChan_get false (laneChans_nodup k) u
  refine ⟨_, exec_laneReturnSyncReset h hn hd, ?_, ?_, ?_, fun c hc => ?_, fun c hc => ?_⟩
  · rw [hfr]
    exact upd_othersSame _ _ _
  · rw [hfr]
    rfl
  · rw [hfr]
    exact upd_get_same _ _ _
  · rw [hget, if_pos ((mem_laneChans k c).2 hc)]
    rfl
  · rw [hget, if_neg (fun hm => hc ((mem_laneChans k c).1 hm))]
    rfl

/-! ### Lane echo (R79, R291) -/

/-- The state in which the echo of a lane has ended. -/
def State.stopEcho (s : State) (k : Fin 8) : State := s.modLane k (fun l => { l with echo := none })

/-- The points of a lane leave the cause of UNPROVEN that its echo began. -/
def State.endEchoCause (s : State) (k : Fin 8) : State := (lanePorts k).foldl (fun s n => s.postPoint (.loop n true false)) s

theorem State.endEchoCause_frame (s : State) (k : Fin 8) : s.endEchoCause k = { s with engines := (s.endEchoCause k).engines } :=
  foldl_postPoint_quiet (fun _ _ => rfl) _ s

theorem State.endEchoCause_get (s : State) (k : Fin 8) (g : Fin 4) : (s.endEchoCause k).engines[g] =
    (s.engines[g]).post s.late (fun j => { j with points := j.points ++ (lanePorts k).map (fun n => PointEv.loop n true false) }) := by
  rw [State.endEchoCause, foldl_postPoint_engines]
  simp

/-- A mismatch of the echo: 0312h, the channels' mark, and the engines' item. -/
def State.failEcho (s : State) (k : Fin 8) : State := ((s.markChans k 0).fault 0x0312 k.val).postPoint (.laneFail k)

theorem State.failEcho_lanes (s : State) (k : Fin 8) : (s.failEcho k).lanes = s.lanes := by
  rw [State.failEcho, State.postPoint_lanes, State.fault_lanes, State.markChans_frame]

theorem State.failEcho_clk (s : State) (k : Fin 8) : (s.failEcho k).clk = s.clk := by
  rw [State.failEcho, State.postPoint_clk, State.fault_clk, State.markChans_frame]

theorem State.failEcho_chans (s : State) (k : Fin 8) : (s.failEcho k).chans = (s.markChans k 0).chans := by
  rw [State.failEcho, State.postPoint_chans, State.fault_chans]

theorem State.failEcho_lastFault (s : State) (k : Fin 8) : (s.failEcho k).lastFault 0x0312 k.val :=
  (State.fault_lastFault (s.markChans k 0) 0x0312 k.val (by decide) (by decide) (by decide) (by omega)).congr
    (State.postPoint_mdl _ _)

theorem State.failEcho_engines (s : State) (k : Fin 8) (g : Fin 4) : (s.failEcho k).engines[g] =
    (s.engines[g]).post s.late (fun j => { j with points := j.points ++ [.laneFail k] }) := by
  have hclk : ((s.markChans k 0).fault 0x0312 k.val).clk = s.clk := by rw [State.fault_clk, State.markChans_frame]
  rw [State.failEcho, State.postPoint_pointPosted, State.late_congr hclk, State.fault_engines, State.markChans_frame]

/-- Beside channels and journals a failed echo changes the log alone. -/
theorem State.failEcho_same (s : State) (k : Fin 8) :
    ({ s with chans := (s.failEcho k).chans, engines := (s.failEcho k).engines } : State).SameButLog (s.failEcho k) := by
  have h := (State.fault_same (s.markChans k 0) 0x0312 k.val).withChansEngines (s.failEcho k).chans (s.failEcho k).engines
  have hq : s.failEcho k = { (s.markChans k 0).fault 0x0312 k.val with
      chans := (s.failEcho k).chans, engines := (s.failEcho k).engines } := by
    conv_lhs => rw [State.failEcho, State.postPoint_frame (fun _ => rfl)]
    rw [State.failEcho_chans, State.failEcho, ← State.fault_chans (s.markChans k 0) 0x0312 k.val]
  rw [← hq, State.markChans_frame] at h
  exact h

theorem exec_laneEchoEnd {s : State} (dt : Nat) {k : Fin 8} {e : Echo} (h : s.inReset = false) (hk : (s.lanes[k]).echo = some e)
    (hd : e.begin + 10000000 ≤ s.now + dt) : exec (.laneEchoEnd dt k) s = .next
      (((if e.mismatch = true ∧ (lanePorts k).any (fun n => (s.pass dt).overlapsSuspect n e.begin) = false then
        ((s.pass dt).stopEcho k).failEcho k else (s.pass dt).stopEcho k).scmChans k).endEchoCause k) := by
  have he : exec (.laneEchoEnd dt k) s = execLaneEchoEnd dt k s := rfl
  rw [he, execLaneEchoEnd]
  simp only [State.pass_lanes, hk]
  exact State.when_true (by simp [h, hd])

/-- An echo without a mismatch leaves the channels' single-cycle mode and the end of its cause. -/
theorem laneEchoEnd_pass (s : State) (dt : Nat) (k : Fin 8) (e : Echo) (h : s.inReset = false) (hk : (s.lanes[k]).echo = some e)
    (hd : e.begin + 10000000 ≤ s.now + dt) (hm : e.mismatch = false) :
    ∃ t, exec (.laneEchoEnd dt k) s = .next t ∧ OthersSame s.lanes t.lanes k ∧
      t = { s.pass dt with lanes := t.lanes, chans := t.chans, engines := t.engines } ∧
      t.lanes[k] = { s.lanes[k] with echo := none } ∧
      (∀ c : Fin 128, c.val / 16 = k.val → t.chans[c] = (s.chans[c]).enterScm) ∧
      (∀ c : Fin 128, c.val / 16 ≠ k.val → t.chans[c] = s.chans[c]) ∧
      (∀ g : Fin 4, t.engines[g] = (s.engines[g]).post (s.pass dt).late (fun j => { j with
        points := j.points ++ (lanePorts k).map (fun n => PointEv.loop n true false) })) := by
  let u := (s.pass dt).stopEcho k
  have hfr := (u.scmChans k).endEchoCause_frame k
  have hsc := u.scmChans_frame k
  have hget (c : Fin 128) := u.scmChans_get k c
  rw [exec_laneEchoEnd dt h hk hd, if_neg (by simp [hm])]
  refine ⟨_, rfl, ?_, ?_, ?_, fun c hc => ?_, fun c hc => ?_, fun g => ?_⟩
  · rw [hfr, hsc]
    exact upd_othersSame _ _ _
  · rw [hfr, hsc]
    rfl
  · rw [hfr, hsc]
    exact upd_get_same _ _ _
  · rw [hfr]
    exact (hget c).trans (if_pos hc)
  · rw [hfr]
    exact (hget c).trans (if_neg hc)
  · rw [State.endEchoCause_get, hsc]
    rfl

/-- An echo with a mismatch also fails the lane. -/
theorem laneEchoEnd_fail (s : State) (dt : Nat) (k : Fin 8) (e : Echo) (h : s.inReset = false) (hk : (s.lanes[k]).echo = some e)
    (hd : e.begin + 10000000 ≤ s.now + dt) (hm : e.mismatch = true)
    (hs : ∀ n : Fin 64, laneOfPort n = k → (s.pass dt).overlapsSuspect n e.begin = false) :
    ∃ t, exec (.laneEchoEnd dt k) s = .next t ∧ OthersSame s.lanes t.lanes k ∧
      ({ s.pass dt with lanes := t.lanes, chans := t.chans, engines := t.engines } : State).SameButLog t ∧
      t.lanes[k] = { s.lanes[k] with echo := none } ∧
      (∀ c : Fin 128, c.val / 16 = k.val →
        t.chans[c] = ({ s.chans[c] with fault := setBit (s.chans[c]).fault 0 } : Chan).enterScm) ∧
      (∀ c : Fin 128, c.val / 16 ≠ k.val → t.chans[c] = s.chans[c]) ∧
      (∀ g : Fin 4, t.engines[g] = (s.engines[g]).post (s.pass dt).late (fun j => { j with
        points := j.points ++ .laneFail k :: (lanePorts k).map (fun n => PointEv.loop n true false) })) ∧
      t.lastFault 0x0312 k.val := by
  have hskip : (lanePorts k).any (fun n => (s.pass dt).overlapsSuspect n e.begin) = false :=
    List.any_eq_false.2 fun n hn => by simp [hs n ((mem_lanePorts k n).1 hn)]
  rw [exec_laneEchoEnd dt h hk hd, if_pos ⟨hm, hskip⟩]
  generalize hu : (s.pass dt).stopEcho k = u
  have hlanes : (((u.failEcho k).scmChans k).endEchoCause k).lanes = u.lanes := by
    rw [State.endEchoCause_frame, State.scmChans_frame, State.failEcho_lanes]
  have hchans (c : Fin 128) : (((u.failEcho k).scmChans k).endEchoCause k).chans[c] =
      if c.val / 16 = k.val then ((u.markChans k 0).chans[c]).enterScm else (u.markChans k 0).chans[c] := by
    rw [State.endEchoCause_frame, ← State.failEcho_chans]
    exact (u.failEcho k).scmChans_get k c
  refine ⟨_, rfl, ?_, ?_, ?_, fun c hc => ?_, fun c hc => ?_, fun g => ?_, ?_⟩
  · rw [hlanes, ← hu]
    exact upd_othersSame _ _ _
  · rw [hlanes]
    have hq := (u.failEcho_same k).withChansEngines (((u.failEcho k).scmChans k).endEchoCause k).chans
      (((u.failEcho k).scmChans k).endEchoCause k).engines
    have ht : ((u.failEcho k).scmChans k).endEchoCause k = { u.failEcho k with
        chans := (((u.failEcho k).scmChans k).endEchoCause k).chans
        engines := (((u.failEcho k).scmChans k).endEchoCause k).engines } :=
      State.frame_chans_engines ((u.failEcho k).scmChans_frame k) (((u.failEcho k).scmChans k).endEchoCause_frame k)
    rw [← ht] at hq
    rw [← hu] at hq ⊢
    exact hq
  · rw [hlanes, ← hu]
    exact upd_get_same _ _ _
  · rw [hchans, if_pos hc, State.markChans_get, if_pos hc, ← hu]
    rfl
  · rw [hchans, if_neg hc, State.markChans_get, if_neg hc, ← hu]
    rfl
  · have hclk : ((u.failEcho k).scmChans k).clk = u.clk := by rw [State.scmChans_frame, State.failEcho_clk]
    rw [State.endEchoCause_get, State.late_congr hclk, State.scmChans_frame, State.failEcho_engines, Engine.post_post, ← hu]
    simp only [List.append_assoc, List.singleton_append]
    rfl
  · refine (u.failEcho_lastFault k).congr ?_
    rw [State.endEchoCause_frame, State.scmChans_frame]

/-! ### Return lanes (R35) -/

/-- The ports that a return lane serves change by the rule `f`. -/
def State.modRetPorts (s : State) (r : Fin 2) (f : Fin 64 → Port → Port) : State := (retPorts r).foldl (fun s n => s.modPort n (f n)) s

/-- An event of a return lane changes the lane and the ports that it serves. -/
theorem retLaneEvent_spec (s : State) (r : Fin 2) (g : RetLane → RetLane) (f : Fin 64 → Port → Port) :
    ∃ t, ({ s with retLanes := upd s.retLanes r g } : State).modRetPorts r f = t ∧ OthersSame s.retLanes t.retLanes r ∧
      t = { s with retLanes := t.retLanes, ports := t.ports } ∧ t.retLanes[r] = g s.retLanes[r] ∧
      (∀ n : Fin 64, n.val / 32 = r.val → t.ports[n] = f n s.ports[n]) ∧
      (∀ n : Fin 64, n.val / 32 ≠ r.val → t.ports[n] = s.ports[n]) := by
  have hfr := foldl_modPort f (retPorts r) { s with retLanes := upd s.retLanes r g }
  have hget := foldl_modPort_get f (retPorts r) (retPorts_nodup r) { s with retLanes := upd s.retLanes r g }
  refine ⟨_, rfl, ?_, ?_, ?_, fun n hn => ?_, fun n hn => ?_⟩ <;> unfold State.modRetPorts
  · rw [hfr]
    exact upd_othersSame _ _ _
  · rw [hfr]
  · rw [hfr]
    exact upd_get_same _ _ _
  · rw [hget, if_pos ((mem_retPorts r n).2 hn)]
  · rw [hget, if_neg (fun hm => hn ((mem_retPorts r n).1 hm))]

/-- Regulator and pulses are off. -/
def Port.off (p : Port) : Port := { p with supplyOn := false, pulsesOn := false, setpoint := 0, rampEnd := none }

theorem exec_returnLaneFailure {s : State} (dt : Nat) {r : Fin 2} (h : s.inReset = false) (hf : (s.retLanes[r]).failed = false) :
    exec (.returnLaneFailure dt r) s = .next
      (({ s.pass dt with retLanes := upd s.retLanes r (fun _ => { failed := true, failedAt := s.now + dt }) } : State).modRetPorts r
        (fun _ p => { p with pulsesOn := false })) := by
  have he : exec (.returnLaneFailure dt r) s = execReturnLaneFailure dt r s := rfl
  rw [he, execReturnLaneFailure]
  exact State.when_true (by simp [h, hf, -Fin.getElem_fin])

theorem exec_returnLaneTimeout {s : State} (dt : Nat) {r : Fin 2} (h : s.inReset = false) (hf : (s.retLanes[r]).failed = true)
    (ho : (s.retLanes[r]).off = false) (hd : (s.retLanes[r]).failedAt + 100000000 ≤ s.now + dt) :
    exec (.returnLaneTimeout dt r) s = .next
      (({ s.pass dt with retLanes := upd s.retLanes r (fun l => { l with off := true }) } : State).modRetPorts r
        (fun _ => Port.off)) := by
  have he : exec (.returnLaneTimeout dt r) s = execReturnLaneTimeout dt r s := rfl
  rw [he, execReturnLaneTimeout]
  exact State.when_true (by simp [h, hf, ho, hd, -Fin.getElem_fin])

/-- A ramp that starts, as a rule of the port and of the other fields. -/
def State.rampRule (s : State) (n : Fin 64) (p : Port) : Port :=
  if s.assigned n ∧ s.retUp n = true then
    let from' := if p.supplyOn then p.ramped s.now / 128 else 0
    { p with supplyOn := true, pulsesOn := true, setpoint := BitVec.ofNat 9 (s.supplySet n), rampFrom := from', rampAt := s.now
             rampEnd := some (s.now + 50000 * absDiff from' (s.supplySet n)) }
  else p

/-- A change of one port that is none. -/
theorem State.modPort_self {s : State} {n : Fin 64} {f : Port → Port} (h : f s.ports[n] = s.ports[n]) : s.modPort n f = s := by
  have h' : f s.ports[n.val] = s.ports[n.val] := h
  unfold State.modPort upd
  rw [h', Vector.set_getElem_self]

/-- Changes of one port that do the same to it. -/
theorem State.modPort_congr {s : State} {n : Fin 64} {f g : Port → Port} (h : f s.ports[n] = g s.ports[n]) :
    s.modPort n f = s.modPort n g := by
  unfold State.modPort
  rw [upd_congr h]

theorem State.modPort_modPort (s : State) (n : Fin 64) (f g : Port → Port) :
    (s.modPort n f).modPort n g = s.modPort n (fun p => g (f p)) := by
  unfold State.modPort
  rw [upd_upd]

theorem State.startRamp_eq (s : State) (n : Fin 64) : s.startRamp n = s.modPort n (s.rampRule n) := by
  unfold State.startRamp
  by_cases h : s.assigned n = true ∧ s.retUp n = true
  · rw [if_pos h]
    exact State.modPort_congr (if_pos h).symm
  · rw [if_neg h, State.modPort_self (f := s.rampRule n) (if_neg h)]

/-- The port has ramped, or holds what its regulator holds, with its pulses. -/
def State.backRule (off : Bool) (s : State) (n : Fin 64) (p : Port) : Port :=
  if s.assigned n then
    if (off || (p.supplyOn && decide (p.setpoint.toNat ≠ s.supplySet n))) && decide (s.sup.field.st ≠ RailSt.cutoff) then
      s.rampRule n { p with pulsesOn := p.supplyOn }
    else { p with pulsesOn := p.supplyOn }
  else p.off

theorem State.retBack_eq (s : State) (off : Bool) (n : Fin 64) : s.retBack off n = s.modPort n (s.backRule off n) := by
  unfold State.retBack
  by_cases ha : s.assigned n = true
  · have hp : (s.modPort n (fun p => { p with pulsesOn := p.supplyOn })).ports[n] =
        { s.ports[n] with pulsesOn := (s.ports[n]).supplyOn } := upd_get_same _ _ _
    rw [if_neg (by simp [ha])]
    dsimp only
    rw [hp]
    dsimp only
    split
    · rename_i hc
      rw [State.startRamp_eq, State.modPort_modPort]
      exact State.modPort_congr ((if_pos ha).trans (if_pos hc)).symm
    · rename_i hc
      exact State.modPort_congr ((if_pos ha).trans (if_neg hc)).symm
  · rw [if_pos (by simp [ha])]
    exact State.modPort_congr (if_neg ha).symm

/-- The state in which a return lane has come back. -/
def State.laneBack (s : State) (r : Fin 2) : State := { s with retLanes := upd s.retLanes r (fun l => { reportAt := l.reportAt }) }

theorem exec_returnLaneRestored {s : State} (dt : Nat) {r : Fin 2} (h : s.inReset = false) (hf : (s.retLanes[r]).failed = true) :
    exec (.returnLaneRestored dt r) s =
      .next ((retPorts r).foldl (fun t n => t.retBack (s.retLanes[r]).off n) ((s.pass dt).laneBack r)) := by
  have he : exec (.returnLaneRestored dt r) s = execReturnLaneRestored dt r s := rfl
  rw [he, execReturnLaneRestored]
  exact State.when_true (by simp [h, hf, -Fin.getElem_fin])

theorem foldl_retBack (off : Bool) (r : Fin 2) (s : State) :
    (retPorts r).foldl (fun t n => t.retBack off n) s = s.modRetPorts r (s.backRule off) :=
  foldl_portRule (fun s n => s.retBack_eq off n) (fun _ _ _ => rfl) _ s

theorem State.laneBack_retUp (s : State) {r : Fin 2} {n : Fin 64} (hn : n.val / 32 = r.val) : (s.laneBack r).retUp n = true := by
  obtain rfl : retOfPort n = r := Fin.ext hn
  have hl : (s.laneBack (retOfPort n)).retLanes[retOfPort n] = { reportAt := (s.retLanes[retOfPort n]).reportAt } := upd_get_same _ _ _
  rw [State.retUp, hl]
  rfl

/-- A port whose regulator kept its setpoint takes its pulses up again. -/
theorem State.backRule_kept {s : State} {n : Fin 64} {p : Port} (ha : s.assigned n = true)
    (hp : p.supplyOn = false ∨ p.setpoint.toNat = s.supplySet n) : s.backRule false n p = { p with pulsesOn := p.supplyOn } := by
  refine (if_pos ha).trans (if_neg ?_)
  rcases hp with hp | hp <;> simp [hp]

/-- A port whose regulator went off, or whose setpoint has changed, ramps. -/
theorem State.backRule_ramps {s : State} {off : Bool} {n : Fin 64} {p : Port} (ha : s.assigned n = true) (hu : s.retUp n = true)
    (hc : s.sup.field.st ≠ .cutoff) (hp : off = true ∨ (p.supplyOn = true ∧ p.setpoint.toNat ≠ s.supplySet n)) :
    (s.backRule off n p).supplyOn = true ∧ (s.backRule off n p).pulsesOn = true ∧ (s.backRule off n p).rampAt = s.now ∧
    (s.backRule off n p).rampEnd.isSome = true ∧ (s.backRule off n p).setpoint = BitVec.ofNat 9 (s.supplySet n) := by
  have hb : s.backRule off n p = s.rampRule n { p with pulsesOn := p.supplyOn } := by
    refine (if_pos ha).trans (if_pos ?_)
    rcases hp with hp | hp <;> simp [hp, hc]
  rw [hb, State.rampRule, if_pos ⟨ha, hu⟩]
  exact ⟨rfl, rfl, rfl, rfl, rfl⟩

end Sys2Proof.Machine

open Sys2Proof Sys2Proof.Machine

/-- Settles O22: each event changes its lane, and the channels or ports of the lane by one rule (`markChans`, `scmChans`, `resetRule`,
`modRetPorts`, `backRule`). -/
theorem lanesFailAndReturn : Obligations.LanesFailAndReturn := by
  unfold Obligations.LanesFailAndReturn
  refine ⟨laneWordFault_spec, fun s dt k f h hk hf ht hd => ?_, laneReturnSyncReset_spec, laneEchoEnd_fail, laneEchoEnd_pass,
    fun s dt r h hf => ?_, fun s dt r h hf ho hd => ?_, fun s dt r h hf => ?_⟩
  · exact ⟨_, exec_laneResyncTimeout dt h hk hf ht hd, upd_othersSame _ _ _, State.postPoint_frame (fun _ => rfl) _,
      upd_get_same _ _ _, State.postPoint_pointPosted ((s.pass dt).modLane k (fun l => { l with timedOut := true })) (.laneFail k)⟩
  · obtain ⟨t, ht, hspec⟩ := retLaneEvent_spec (s.pass dt) r _ _
    exact ⟨t, (exec_returnLaneFailure dt h hf).trans (congrArg _ ht), hspec⟩
  · obtain ⟨t, ht, hspec⟩ := retLaneEvent_spec (s.pass dt) r _ _
    exact ⟨t, (exec_returnLaneTimeout dt h hf ho hd).trans (congrArg _ ht), hspec⟩
  · obtain ⟨t, ht, hoth, hframe, hlane, hports, hrest⟩ := retLaneEvent_spec (s.pass dt) r _
      (((s.pass dt).laneBack r).backRule (s.retLanes[r]).off)
    rw [exec_returnLaneRestored dt h hf, foldl_retBack]
    refine ⟨t, congrArg _ ht, hoth, hframe, hlane, fun n hn ha => ?_, fun n hn ha ho hp => ?_, fun n hn ha hc hp => ?_, hrest⟩
    · exact (hports n hn).trans (if_neg (ne_true_of_eq_false ha))
    · rw [hports n hn, ho]
      exact State.backRule_kept (s := (s.pass dt).laneBack r) ha hp
    · rw [hports n hn]
      exact State.backRule_ramps (s := (s.pass dt).laneBack r) ha (State.laneBack_retUp _ hn) hc hp

end

section
/-! PROOFS. Steps of the time base (R24, R172, R210 to R212). -/

namespace Sys2Proof.Machine

/-! ### What replies and frames to be sent change (R172, R185, R205, R229) -/

/-- `t` is `s` but for links, AREA streams and the interpreter. -/
def State.SameButSending (s t : State) : Prop := t = { s with links := t.links, areas := t.areas, cmd := t.cmd }

section
variable {s t u : State}

theorem State.SameButSending.refl (s : State) : s.SameButSending s := rfl

theorem State.SameButSending.trans (h : s.SameButSending t) (k : t.SameButSending u) : s.SameButSending u := by
  unfold State.SameButSending at *
  rw [k, h]

theorem State.SameButSending.thenEngines (h : s.SameButSending t) (k : u = { t with engines := u.engines }) :
    u = { s with links := u.links, areas := u.areas, cmd := u.cmd, engines := u.engines } := by
  unfold State.SameButSending at h
  rw [k, h]

theorem State.SameButSending.foldl {α : Type} {f : State → α → State} (h : ∀ (s : State) a, s.SameButSending (f s a)) (l : List α) :
    ∀ s : State, s.SameButSending (l.foldl f s) := by
  induction l with
  | nil => exact State.SameButSending.refl
  | cons a l ih => exact fun s => (h s a).trans (ih _)

end

section
variable (s : State) (k : Fin 8) (e : Fin 4) (id : Nat)

theorem State.modLink_sending (f : Link → Link) : s.SameButSending (s.modLink k f) := rfl

theorem State.modArea_sending (i : Nat) (f : Area → Area) : s.SameButSending (s.modArea i f) := rfl

theorem State.discardTag_sending : s.SameButSending (s.discardTag id) := rfl

theorem State.sendPacket_sending (path : Path) (bytes : List Byte) (tag : Option Nat) :
    s.SameButSending (s.sendPacket path bytes tag) := by
  cases path with
  | lane i => exact s.modLink_sending _ _
  | mailbox =>
    unfold State.sendPacket
    dsimp only
    split <;> rfl

theorem State.releaseTag_sending : s.SameButSending (s.releaseTag id) := by
  unfold State.releaseTag
  split
  · exact .refl s
  · dsimp only
    split
    · exact State.SameButSending.trans (by rfl) (State.sendPacket_sending _ _ _ _)
    · rfl

theorem State.dropReply_sending : s.SameButSending (s.dropReply k) := by
  unfold State.dropReply
  split
  · exact .refl s
  · dsimp only
    split
    · exact (s.modLink_sending k _).trans (State.discardTag_sending _ _)
    · exact s.modLink_sending k _

theorem State.armStatus_sending (slot : Nat) (tx : Stamp) : s.SameButSending (s.armStatus k slot tx e) := rfl

theorem State.armReply_sending (slot : Nat) (tx : Stamp) : s.SameButSending (s.armReply k slot tx e) := by
  unfold State.armReply
  split
  · exact .refl s
  · dsimp only
    split
    · exact (s.modLink_sending k _).trans (State.releaseTag_sending _ _)
    · exact s.modLink_sending k _

theorem State.armArea_sending (slot : Nat) (tx : Stamp) (i : Nat) : s.SameButSending (s.armArea k slot tx e i) := by
  unfold State.armArea
  split
  · exact (s.modArea_sending i _).trans (State.modLink_sending _ k _)
  · exact .refl s

theorem State.armLink_sending : s.SameButSending (s.armLink k) := by
  unfold State.armLink
  dsimp only
  split
  · exact .refl s
  · split
    · exact .refl s
    · split
      · exact s.armStatus_sending k _ _ _
      · split
        · exact s.armReply_sending k _ _ _
        · split
          · exact s.armArea_sending k _ _ _ _
          · exact .refl s
    · split
      · exact s.dropReply_sending k
      · exact .refl s

theorem State.rearm_sending : s.SameButSending (s.rearm k) := by
  unfold State.rearm
  split
  · exact s.armLink_sending k
  · exact .refl s
  · exact s.modLink_sending k _
  · split
    · split
      · exact (s.modLink_sending k _).trans (State.armStatus_sending _ k _ _ _)
      · exact s.modLink_sending k _
    · exact .refl s

end

/-- The safety codes change the open frames alone. -/
theorem State.signCodes_frame (s : State) : s.signCodes = { s with engines := s.signCodes.engines } := rfl

/-- The safety codes of a frame: its images stand. -/
theorem State.signCodes_engine (s : State) (e : Fin 4) :
    s.signCodes.engines[e] = { s.engines[e] with work := (s.signCodes.engines[e]).work } ∧
    (s.signCodes.engines[e]).work.map Work.img = (s.engines[e]).work.map Work.img := by
  simp [State.signCodes, Function.comp_def]

/-- Fixing the frames of the coming slots anew leaves all but links, streams, replies and the safety codes of the open frames. -/
theorem State.rearmAll_frame (s : State) :
    s.rearmAll = { s with links := s.rearmAll.links, areas := s.rearmAll.areas, cmd := s.rearmAll.cmd, engines := s.rearmAll.engines } := by
  have h : s.SameButSending ((allFin 8).foldl State.rearm s) := .foldl (fun s k => s.rearm_sending k) _ s
  exact h.thenEngines (State.signCodes_frame _)

theorem State.rearmAll_engine (s : State) (e : Fin 4) :
    s.rearmAll.engines[e] = { s.engines[e] with work := (s.rearmAll.engines[e]).work } ∧
    (s.rearmAll.engines[e]).work.map Work.img = (s.engines[e]).work.map Work.img := by
  have h : s.SameButSending ((allFin 8).foldl State.rearm s) := .foldl (fun s k => s.rearm_sending k) _ s
  have he : ((allFin 8).foldl State.rearm s).engines = s.engines := by rw [h]
  rw [State.rearmAll, ← he]
  exact State.signCodes_engine _ e

/-! ### A step of the time base (R24, R210) -/

/-- The counter after a step. -/
def State.stepped (s : State) (d : Int) : Nat := (((s.clk.tickTb : Int) + d) % 2 ^ 64).toNat

/-- What a step of the time base leaves: the counter, its records and the epoch, and what the coming frames carry. -/
structure State.SteppedTo (s t : State) (d : Int) : Prop where
  tickTb : t.clk.tickTb = s.stepped d
  tickAt : t.clk.tickAt = s.clk.tickAt
  now : t.now = s.now
  stepDue : t.clk.stepDue = none
  extDue : t.clk.extDue = none
  stepFrame : t.clk.stepFrame = true
  stepCnt : t.tbs.stepCnt = s.tbs.stepCnt + 1
  lastStep : t.tbs.lastStep = BitVec.ofInt 32 d
  fault : t.tbs.fault = setBit s.tbs.fault 0
  epoch : t.mgt.epoch = s.mgt.epoch + 1
  engines : ∀ e : Fin 4, t.engines[e] = { s.engines[e] with work := (t.engines[e]).work } ∧
    (t.engines[e]).work.map Work.img = (s.engines[e]).work.map Work.img
  vis : t.vis = s.vis
  vos : t.vos = s.vos
  ports : t.ports = s.ports
  chans : t.chans = s.chans
  img : t.img = s.img

/-- A new epoch changes the log and the epoch alone. -/
theorem State.newEpoch_same (s : State) (d : Int) :
    ({ s with mgt := { s.mgt with epoch := s.mgt.epoch + 1 } } : State).SameButLog (s.newEpoch d) := State.event_same _ _ _ _

theorem State.tbsFault_same (s : State) (bit code : Nat) :
    ({ s with tbs := { s.tbs with fault := setBit s.tbs.fault bit } } : State).SameButLog (s.tbsFault bit code) :=
  State.fault_same _ _ _

theorem State.stepTb_spec (s : State) (d : Int) : s.SteppedTo (s.stepTb d) d := by
  let u : State := { s with
    clk := { s.clk with tickTb := s.stepped d, stepFrame := true, stepDue := none, extDue := none
                        codeEnd := s.stepped d / 1280000 * 1280000
                        imageTb := if s.clk.imageTb = s.clk.tickTb then s.stepped d else s.clk.imageTb }
    tbs := { s.tbs with theta := none, stepCnt := s.tbs.stepCnt + 1, lastStep := BitVec.ofInt 32 d } }
  have hu : s.stepTb d = ((u.realignPeriods.tbsFault 0 0x0810).newEpoch d).rearmAll := rfl
  have hf := State.tbsFault_same u.realignPeriods 0 0x0810
  have he := State.newEpoch_same (u.realignPeriods.tbsFault 0 0x0810) d
  generalize u.realignPeriods.tbsFault 0 0x0810 = v at hu hf he
  generalize v.newEpoch d = w at hu he
  have hr := w.rearmAll_frame
  rw [hu]
  have hclk : w.clk = u.clk := he.clk.trans hf.clk
  have htbs : w.tbs = { u.tbs with fault := setBit u.tbs.fault 0 } := he.tbs.trans hf.tbs
  have hepoch : w.mgt.epoch = s.mgt.epoch + 1 := he.mgt_epoch.trans (congrArg (· + 1) hf.mgt_epoch)
  have heng : w.engines = s.engines := he.engines.trans hf.engines
  have hcr : w.rearmAll.clk = u.clk := by rw [hr, hclk]
  have htr : w.rearmAll.tbs = { u.tbs with fault := setBit u.tbs.fault 0 } := by rw [hr, htbs]
  constructor
  case tickTb | tickAt | stepDue | extDue | stepFrame => rw [hcr]
  case now => unfold State.now; rw [hcr]
  case stepCnt | lastStep | fault => rw [htr]
  case epoch => rw [hr, hepoch]
  case engines =>
    intro e
    rw [← heng]
    exact w.rearmAll_engine e
  case vis => rw [hr]; exact he.vis.trans hf.vis
  case vos => rw [hr]; exact he.vos.trans hf.vos
  case ports => rw [hr]; exact he.ports.trans hf.ports
  case chans => rw [hr]; exact he.chans.trans hf.chans
  case img => rw [hr]; exact he.img.trans hf.img

theorem exec_timeBaseStep {s : State} {d : Int} (h : s.inReset = false) (hd : s.clk.stepDue = some d) (hn : s.now = s.clk.tickAt) :
    exec .timeBaseStep s = .next (s.stepTb d) := by
  have he : exec .timeBaseStep s = execTimeBaseStep s := rfl
  rw [he, execTimeBaseStep, hd]
  exact State.when_true (by simp [h, hn])

/-- The step that loads bits [63:48] of the extended time base (R211). -/
def State.extStep (s : State) (x : BitVec 16) : Int := (x.toNat * 2 ^ 48 + s.clk.tickTb % 2 ^ 48 : Nat) - (s.clk.tickTb : Int)

theorem exec_timeBaseExtLoad {s : State} {x : BitVec 16} (h : s.inReset = false) (hx : s.clk.extDue = some x)
    (hn : s.now = s.clk.tickAt) : exec .timeBaseExtLoad s = .next (s.stepTb (s.extStep x)) := by
  have he : exec .timeBaseExtLoad s = execTimeBaseExtLoad s := rfl
  rw [he, execTimeBaseExtLoad, hx]
  exact State.when_true (by simp [h, hn])

theorem State.stepped_ext (s : State) (x : BitVec 16) : s.stepped (s.extStep x) = x.toNat * 2 ^ 48 + s.clk.tickTb % 2 ^ 48 := by
  have hx := x.isLt
  unfold State.stepped State.extStep
  omega

/-! ### The end of HOLDOVER (R212, R215) -/

theorem State.postLink_frame {ev : LinkEv} (h : ev.begins = none) (s : State) :
    s.postLink ev = { s with engines := (s.postLink ev).engines } := by
  unfold State.postLink
  rw [h]
  rfl

/-- Logging after a change of the time base and of the journals. -/
theorem State.SameButLog.thenTbsEngines {s u t : State} {x : Tbs} (h : ({ u with tbs := x } : State).SameButLog t)
    (hu : u = { s with tbs := u.tbs, engines := u.engines }) :
    ({ s with tbs := t.tbs, engines := t.engines } : State).SameButLog t := by
  have hs : ({ u with tbs := x } : State) = { s with tbs := x, engines := u.engines } := by rw [hu]
  rw [h.tbs, h.engines, ← hs]
  exact h

theorem exec_holdoverExpiry {s : State} (dt : Nat) (h : s.inReset = false) (hs : s.tbs.state = .holdover)
    (hd : s.tbs.holdSince + 2000000000 ≤ s.now + dt) :
    exec (.holdoverExpiry dt) s = .next (((s.pass dt).tbEnter .invalid).tbsFault 2 0x0812) := by
  have he : exec (.holdoverExpiry dt) s = execHoldoverExpiry dt s := rfl
  rw [he, execHoldoverExpiry]
  exact State.when_true (by simp [h, hs, hd])

theorem holdoverExpiry_spec (s : State) (dt : Nat) (h : s.inReset = false) (hs : s.tbs.state = .holdover)
    (hd : s.tbs.holdSince + 2000000000 ≤ s.now + dt) :
    ∃ t, exec (.holdoverExpiry dt) s = .next t ∧
      ({ s.pass dt with tbs := t.tbs, engines := t.engines } : State).SameButLog t ∧
      t.tbs.state = .invalid ∧ t.tbs.valid = false ∧ t.tbs.fault = setBit s.tbs.fault 2 ∧ t.lastFault 0x0812 0xFFFF ∧
      (s.pass dt).linkPosted t .allLost := by
  rw [exec_holdoverExpiry dt h hs hd]
  generalize hu : (s.pass dt).tbEnter .invalid = u
  have hf := State.tbsFault_same u 2 0x0812
  have hl : (u.tbsFault 2 0x0812).lastFault 0x0812 0xFFFF :=
    State.fault_lastFault _ _ _ (by decide) (by decide) (by decide) (by decide)
  generalize u.tbsFault 2 0x0812 = t at hf hl
  have hpost := State.postLink_frame (ev := .allLost) rfl
    { s.pass dt with tbs := { s.tbs with state := .invalid, valid := false, thetas := [], bad := 0 } }
  have htbs : t.tbs = { u.tbs with fault := setBit u.tbs.fault 2 } := hf.tbs
  have heng : t.engines = u.engines := hf.engines
  refine ⟨t, rfl, ?_, ?_, ?_, ?_, hl, fun e => ?_⟩
  · exact hf.thenTbsEngines (hu ▸ hpost)
  · rw [htbs, ← hu]; rfl
  · rw [htbs, ← hu]; rfl
  · rw [htbs, ← hu]; rfl
  · rw [heng, ← hu]
    exact State.postLink_linkPosted _ _ e

end Sys2Proof.Machine

open Sys2Proof Sys2Proof.Machine

/-- Settles O16: both rows run `State.stepTb`, a load of bits [63:48] as the step that it amounts to. -/
theorem timeBaseStepsAndHoldover : Obligations.TimeBaseStepsAndHoldover := by
  unfold Obligations.TimeBaseStepsAndHoldover
  refine ⟨fun s d h hd hn => ?_, fun s x h hx hn => ?_, holdoverExpiry_spec⟩
  · have k := s.stepTb_spec d
    exact ⟨_, exec_timeBaseStep h hd hn, k.tickTb, k.tickAt, k.now, k.stepDue, k.stepFrame, k.stepCnt, k.lastStep, k.fault, k.epoch,
      k.engines, k.vis, k.vos, k.ports, k.chans, k.img⟩
  · have k := s.stepTb_spec (s.extStep x)
    exact ⟨_, exec_timeBaseExtLoad h hx hn, k.tickTb.trans (s.stepped_ext x), k.tickAt, k.now, k.extDue, k.stepCnt, k.epoch,
      k.engines, k.vis, k.vos, k.ports, k.chans, k.img⟩

end

section
/-! O52: a tick also lets Pewter take its queue, and an epoch's entry there makes it write its page buffers, whose check
value is formed on CRC unit 2 (R318, R322): the tick does not leave the CRC units as they were. -/

namespace Sys2Proof.Machine
open Sys2Proof

/-- A module in service at a tick, its engines halted. Pewter's page buffer holds one event, and an epoch's entry (0003h) waits
in its queue. -/
def epochQueued : State := { State.reset with
  clk := { elapsed := 100000000000000, tickTb := 100000000000000, tickAt := 100000000000000 }
  mdl := { phase := .service }
  causes := []
  engines := Vector.replicate 4 { mode := .halted }
  mgt := { pw := .running, recOk := true
           evtBuf := [(0, { ts := 0, code := 0x0801, obj := 0xFFFF, detail := 0 })]
           queue := [.event { ts := 0, code := 0x0003, obj := 0xFFFF, detail := 0 }] } }

/-- The number of bytes that CRC unit 2 has taken in when a command completes. -/
def unit2Bytes : Out → Option Nat
  | .next t => some (t.crc[2]).bytes.toNat
  | _ => none

theorem unit2Bytes_epochQueued : (epochQueued.crc[2]).bytes.toNat = 0 := by decide +kernel

theorem unit2Bytes_tick_epochQueued : unit2Bytes (exec (.tick {}) epochQueued) = some 4092 := by decide +kernel

theorem done_epochQueued (e : Fin 4) : (epochQueued.engines[e]).done = none := by
  simp [epochQueued]

end Sys2Proof.Machine

open Sys2Proof Sys2Proof.Machine

/-- Refutes O52: at the tick of `epochQueued` Pewter takes the entry of an epoch from its queue and writes out its event page,
so CRC unit 2 has taken in 4,092 bytes, while the second clause says that the tick leaves the CRC units unchanged. -/
theorem not_tickOpensTheNextFrame : ¬ Obligations.TickOpensTheNextFrame := by
  unfold Obligations.TickOpensTheNextFrame
  rintro ⟨-, hopen, -⟩
  obtain ⟨t, ht, -, -, -, -, -, -, -, -, -, hcrc, -⟩ :=
    hopen epochQueued {} (by decide +kernel) (by decide +kernel) (fun e w h => by rw [done_epochQueued e] at h; contradiction)
  have hticked := unit2Bytes_tick_epochQueued
  rw [ht] at hticked
  have hbytes : (t.crc[2]).bytes.toNat = 4092 := Option.some.inj hticked
  rw [hcrc, unit2Bytes_epochQueued] at hbytes
  contradiction
end

section
/-! O53, the clock: what the operations of a tick leave unchanged of it. After `State.clockTick` has passed the clock on, no
other part of a tick changes the tick's instant or its number. -/

namespace Sys2Proof.Machine
open Sys2Proof

/-- What every step of a fold keeps, the fold keeps. -/
theorem foldl_keeps {α β : Type} (p : State → β) {f : State → α → State} (h : ∀ s a, p (f s a) = p s) (l : List α) :
    ∀ s : State, p (l.foldl f s) = p s := by
  induction l with
  | nil => exact fun _ => rfl
  | cons a l ih => exact fun s => (ih (f s a)).trans (h s a)

@[simp] theorem foldl_clk {α : Type} {f : State → α → State} (h : ∀ s a, (f s a).clk = s.clk) (l : List α) (s : State) :
    (l.foldl f s).clk = s.clk := foldl_keeps State.clk h l s

/-! ### Faults and causes -/

section
variable (s : State)

@[simp] theorem State.enqueue_clk (q : QItem) : (s.enqueue q).clk = s.clk := by
  unfold State.enqueue; split
  · rfl
  · cases q <;> rfl

@[simp] theorem State.flushDropped_clk : s.flushDropped.clk = s.clk := s.flushDropped_same.clk

@[simp] theorem State.secLog_clk (l : SecLog) : (s.secLog l).clk = s.clk := by
  unfold State.secLog; split <;> simp

@[simp] theorem State.cenFault_clk (e : Fin 4) (bit code : Nat) : (s.cenFault e bit code).clk = s.clk := by
  simp [State.cenFault]

@[simp] theorem State.cmdFault_clk (bit code : Nat) : (s.cmdFault bit code).clk = s.clk := by simp [State.cmdFault]

@[simp] theorem State.endCause_clk (u : UCause) : (s.endCause u).clk = s.clk := by
  unfold State.endCause; split <;> simp

/-! ### The detection side -/

@[simp] theorem State.resetAllChans_clk (load : Bool) : (s.resetAllChans load).clk = s.clk := by
  exact foldl_clk (fun s c => State.modChan_clk s c _) (allFin 128) s

@[simp] theorem State.startRamp_clk (n : Fin 64) : (s.startRamp n).clk = s.clk := by
  unfold State.startRamp; split <;> simp

@[simp] theorem State.rampGroups_clk : s.rampGroups.clk = s.clk := by
  unfold State.rampGroups
  refine foldl_clk (fun s n => ?_) _ _
  split
  · split <;> simp
  · rfl

@[simp] theorem State.startPortStage_clk (l : List (Fin 64)) (all : Bool) : (s.startPortStage l all).clk = s.clk := by
  refine Eq.trans (b := State.clk (l.foldl _ s)) rfl (foldl_clk (fun s n => ?_) l s)
  split <;> rfl

@[simp] theorem State.resetChan_clk (c : Fin 128) (load : Bool) : (s.resetChan c load).clk = s.clk := rfl

@[simp] theorem State.endPortStage_clk : s.endPortStage.clk = s.clk := by
  unfold State.endPortStage
  split
  · simp [State.dropStage]
  · simp only [State.dropStage]
    refine foldl_clk (fun s n => ?_) (allFin 64) s
    split <;> simp

@[simp] theorem State.startProving_clk : s.startProving.clk = s.clk := by simp [State.startProving]

@[simp] theorem State.portsAtTick_clk : s.portsAtTick.clk = s.clk := by
  simp only [State.portsAtTick]
  split
  · split
    · split
      · simp
      · split
        · split <;> simp [State.dropStage]
        · simp
    · split <;> simp
    · simp
  · split <;> simp

@[simp] theorem State.returnLanesAtTick_clk : s.returnLanesAtTick.clk = s.clk := by
  unfold State.returnLanesAtTick
  refine foldl_clk (fun s r => ?_) _ _
  simp only
  split
  · refine (foldl_clk (fun s k => ?_) _ _).trans rfl
    split <;> simp
  · rfl

/-! ### Hand-overs and the failure of a frame -/

@[simp] theorem State.failHandover_clk (e : Fin 4) (h : HandOver) : (s.failHandover e h).clk = s.clk := by
  simp [State.failHandover, State.dropBuf]

@[simp] theorem State.haltEngine_clk (e : Fin 4) : (s.haltEngine e).clk = s.clk := by simp [State.haltEngine]

@[simp] theorem State.failFrame_clk (e : Fin 4) (k : FrameFail) : (s.failFrame e k).clk = s.clk := by
  have h : (s.failHandovers e).clk = s.clk := foldl_clk (fun s h => s.failHandover_clk e h) _ _
  simp only [State.failFrame]
  split <;> simp [h]

@[simp] theorem State.startHandover_clk (src tgt : Fin 4) (join : Bool) (secs : List (Fin 256)) :
    (s.startHandover src tgt join secs).clk = s.clk := rfl

@[simp] theorem State.enterHandover_clk (e : Fin 4) (h : HandOver) : (s.enterHandover e h).clk = s.clk := by
  simp only [State.enterHandover]
  generalize h.at' s.engines[e] = n
  generalize h.source = source
  match n, source with
  | 1, false =>
    simp only
    split
    · split <;> simp
    · simp
  | 2, true => simp only; split <;> rfl
  | 0, _ => rfl
  | 1, true => rfl
  | 2, false => rfl
  | _ + 3, _ => rfl

/-! ### Replies and commands -/

theorem State.SameButSending.clk {s t : State} (h : s.SameButSending t) : t.clk = s.clk := by
  unfold State.SameButSending at h
  rw [h]

@[simp] theorem State.sendPacket_clk (path : Path) (bytes : List Byte) (tag : Option Nat) :
    (s.sendPacket path bytes tag).clk = s.clk := (State.sendPacket_sending s path bytes tag).clk

@[simp] theorem State.releaseTag_clk (id : Nat) : (s.releaseTag id).clk = s.clk := (State.releaseTag_sending s id).clk

@[simp] theorem State.replyTag_clk (id : Nat) (r : Result) : (s.replyTag id r).clk = s.clk := by
  simp only [State.replyTag]
  split
  · rfl
  · split
    · rfl
    · split
      · simp
      · split <;> simp [State.discardTag]

@[simp] theorem State.answer_clk (ref : Ref) (r : Result) : (s.answer ref r).clk = s.clk := by
  unfold State.answer
  split
  · rfl
  · simp
  · split <;> simp [State.dropVotes, State.modVote]

@[simp] theorem State.answerSt_clk (ref : Ref) (st : Byte) : (s.answerSt ref st).clk = s.clk := State.answer_clk s ref _

@[simp] theorem State.finish_clk (c : Cmd) (r : Result) : (s.finish c r).clk = s.clk := by
  simp only [State.finish]
  split <;> simp

/-- A command that the first checks of Table 8-6 refuse leaves the clock: it is answered, and not performed. -/
theorem State.runOp_clk_of_refused {c : Cmd} {k : Snap} (h : (s.precheck c k).isSome) : (s.runOp c k).clk = s.clk := by
  obtain ⟨st, hst⟩ := Option.isSome_iff_exists.mp h
  have hfault : (if st = stNotPermitted then s.cmdFault 5 0x0A06 else s).clk = s.clk := by split <;> simp
  simp only [State.runOp, hst, State.answerSt_clk]
  split
  · split <;> simp [hfault]
  · exact hfault

@[simp] theorem State.haltedAnswer_clk (c : Cmd) (k : Snap) : (s.haltedAnswer c k).clk = s.clk := by
  unfold State.haltedAnswer
  split
  case isTrue h => exact s.runOp_clk_of_refused h
  case isFalse => simp only [State.answerSt_clk]; split <;> simp

/-! ### Publication -/

@[simp] theorem State.judgeFrame_clk (bad : Bool) (sched : BitVec 16) (e : Fin 4) : (s.judgeFrame bad sched e).clk = s.clk := by
  simp only [State.judgeFrame]
  split
  · split <;> simp
  · split <;> simp

@[simp] theorem State.publish_clk (e : Fin 4) : (s.publish e).clk = s.clk := by
  simp only [State.publish]
  split
  · simp
  · split
    · simp
    · split <;> simp

@[simp] theorem State.publishLogs_clk (w : Work) : (s.publishLogs w).clk = s.clk := by simp [State.publishLogs]

@[simp] theorem State.logFresh_clk (l : List Sec) : (s.logFresh l).clk = s.clk := by simp [State.logFresh]

@[simp] theorem State.enterRun_clk (e : Fin 4) : (s.enterRun e).clk = s.clk := by simp [State.enterRun]

@[simp] theorem State.detachProved_clk (e : Fin 4) : (s.detachProved e).clk = s.clk := by simp [State.detachProved]

@[simp] theorem State.joinProved_clk (e : Fin 4) : (s.joinProved e).clk = s.clk := by
  simp only [State.joinProved]
  rw [foldl_clk (fun s j => ?_), State.logFresh_clk, State.modEngine_clk]
  split <;> simp

@[simp] theorem State.provedFrame_clk (e : Fin 4) : (s.provedFrame e).clk = s.clk := by
  simp only [State.provedFrame]
  repeat' split
  all_goals simp

@[simp] theorem State.answerHalted_clk (e : Fin 4) : (s.answerHalted e).clk = s.clk := by
  simp only [State.answerHalted]
  split <;> simp

@[simp] theorem State.impose_clk (e : Fin 4) : (s.impose e).clk = s.clk := by
  simp only [State.impose]
  split <;> simp

@[simp] theorem State.updateVos_clk : s.updateVos.clk = s.clk := by
  unfold State.updateVos
  refine foldl_clk (fun s j => ?_) _ _
  split
  · rfl
  · exact State.modVo_clk s j _

@[simp] theorem State.changeList_clk : s.changeList.clk = s.clk := by
  simp only [State.changeList]
  rw [foldl_clk (fun s j => ?_)]
  · refine (foldl_clk (fun s p => ?_) _ s)
    split <;> simp
  · split <;> simp

@[simp] theorem State.takeSnapshot_clk : s.takeSnapshot.clk = s.clk := by
  unfold State.takeSnapshot
  split <;> simp

@[simp] theorem State.showPublished_clk : s.showPublished.clk = s.clk := by simp [State.showPublished]

/-! ### Sampling -/

@[simp] theorem State.foreign_clk (r : AxleRec) : (s.foreign r).clk = s.clk := by
  simp only [State.foreign]
  split <;> simp

@[simp] theorem State.sampleRemote_clk : s.sampleRemote.clk = s.clk := by
  simp only [State.sampleRemote]
  rw [foldl_clk (fun s p => ?_)]
  split
  · rfl
  · simp

@[simp] theorem State.passCommands_clk (e : Fin 4) : (s.passCommands e).clk = s.clk := by
  unfold State.passCommands
  refine foldl_clk (fun s h => ?_) _ _
  split <;> rfl

@[simp] theorem State.handCommands_clk (e : Fin 4) : (s.handCommands e).clk = s.clk := by
  simp only [State.handCommands]
  split <;> simp

@[simp] theorem State.dualCommands_clk (e : Fin 4) : (s.dualCommands e).clk = s.clk := by
  unfold State.dualCommands
  refine foldl_clk (fun s h => ?_) _ _
  simp only
  split <;> simp

@[simp] theorem State.writePool_clk (e : Fin 4) : (s.writePool e).clk = s.clk := by
  unfold State.writePool
  split <;> rfl

@[simp] theorem State.openEngine_clk (k : Snap) (m : TickMeas) (e : Fin 4) : (s.openEngine k m e).clk = s.clk := by
  simp only [State.openEngine]
  repeat' split
  all_goals simp

@[simp] theorem State.sampleAll_clk (m : TickMeas) : (s.sampleAll m).clk = s.clk := by simp [State.sampleAll]

/-! ### The frames of the coming slots -/

@[simp] theorem State.armAll_clk : s.armAll.clk = s.clk := by
  unfold State.armAll
  split
  · rfl
  · exact foldl_clk (fun s k => (State.armLink_sending s k).clk) _ _

end

end Sys2Proof.Machine
end

section
/-! O53, the operations of a tick's publication: a frame that is still done when its publication comes has the operations with
which it committed. Where no frame has any, the publication runs none. -/

namespace Sys2Proof.Machine
open Sys2Proof

/-- The frame that an engine has done, if any, is one that it had done before, with the same operations. -/
def Engine.OpsFrom (g h : Engine) : Prop := ∀ w, h.done = some w → ∃ v, g.done = some v ∧ w.ops = v.ops

/-- The same for every engine. -/
def State.OpsFrom (s t : State) : Prop := ∀ e : Fin 4, (s.engines[e]).OpsFrom t.engines[e]

section
variable {g h k : Engine}

theorem Engine.OpsFrom.of_done (hd : h.done = g.done) : g.OpsFrom h := fun w hw => ⟨w, hd ▸ hw, rfl⟩

theorem Engine.OpsFrom.of_none (hd : h.done = none) : g.OpsFrom h := fun w hw => by rw [hd] at hw; contradiction

theorem Engine.OpsFrom.trans (hg : g.OpsFrom h) (hk : h.OpsFrom k) : g.OpsFrom k := by
  intro w hw
  obtain ⟨v, hv, hwv⟩ := hk w hw
  obtain ⟨u, hu, hvu⟩ := hg v hv
  exact ⟨u, hu, hwv.trans hvu⟩

@[simp] theorem Engine.modLoaded_done (e : Fin 4) (f : Slot → Slot) : (g.modLoaded e f).done = g.done := by
  unfold Engine.modLoaded; split <;> rfl

@[simp] theorem Engine.modOther_done (e : Fin 4) (f : Slot → Slot) : (g.modOther e f).done = g.done := by
  unfold Engine.modOther; split <;> rfl

theorem Engine.mapState_opsFrom (cfg : Cfg) (e : Fin 4) (f : List Sec → List Sec) : g.OpsFrom (g.mapState cfg e f) := by
  intro w hw
  obtain ⟨v, hv, rfl⟩ := Option.map_eq_some_iff.mp (show g.done.map _ = some w from hw)
  exact ⟨v, hv, rfl⟩

theorem Engine.undo_opsFrom (cfg : Cfg) (e : Fin 4) : g.OpsFrom (g.undo cfg e) := by
  unfold Engine.undo
  split
  · exact .of_none rfl
  · exact .of_done rfl

theorem Engine.overrun_done (cfg : Cfg) (e : Fin 4) (sched : BitVec 16) : (g.overrun cfg e sched).done = g.done := by
  simp only [Engine.overrun]
  repeat' split
  all_goals simp

theorem Engine.debugAct_done (a : DebugAct) : (g.debugAct a).done = g.done := by
  unfold Engine.debugAct
  split
  · cases a <;> rfl
  · rfl

end

section
variable {s t u : State}

theorem State.OpsFrom.of_engines (h : t.engines = s.engines) : s.OpsFrom t := fun e => .of_done (by rw [h])

theorem State.OpsFrom.trans (h : s.OpsFrom t) (k : t.OpsFrom u) : s.OpsFrom u := fun e => (h e).trans (k e)

theorem State.OpsFrom.foldl {α : Type} {f : State → α → State} (h : ∀ (s : State) a, s.OpsFrom (f s a)) (l : List α) :
    ∀ s : State, s.OpsFrom (l.foldl f s) := by
  induction l with
  | nil => exact fun _ => .of_engines rfl
  | cons a l ih => exact fun s => (h s a).trans (ih _)

theorem State.OpsFrom.modEngine (s : State) (e : Fin 4) {f : Engine → Engine} (h : ∀ g : Engine, g.OpsFrom (f g)) :
    s.OpsFrom (s.modEngine e f) := by
  intro k
  change (s.engines[k]).OpsFrom (upd s.engines e f)[k]
  rw [upd_get]
  split
  · exact h _
  · exact .of_done rfl

theorem State.OpsFrom.map {f : Engine → Engine} (h : ∀ g : Engine, (f g).done = g.done) (ht : t.engines = s.engines.map f) :
    s.OpsFrom t := by
  intro e
  refine .of_done ?_
  simp [ht, h]

end

section
variable (s : State)

theorem State.cenFault_opsFrom (e : Fin 4) (bit code : Nat) : s.OpsFrom (s.cenFault e bit code) := by
  unfold State.cenFault
  refine (State.OpsFrom.modEngine s e ?_).trans (.of_engines (State.fault_engines _ _ _))
  exact fun _ => .of_done rfl

theorem State.failHandover_opsFrom (e : Fin 4) (h : HandOver) : s.OpsFrom (s.failHandover e h) := by
  have hmod (t : State) (k : Fin 4) (cfg : Cfg) (f : List Sec → List Sec) (p : Fin 4) (r : Word) :
      t.OpsFrom (t.modEngine k (fun g => { (g.mapState cfg k f).leaveHo p with hoReg := r })) :=
    .modEngine t k fun g => (g.mapState_opsFrom cfg k f).trans (.of_done rfl)
  have hbuf (t : State) (a b : Fin 4) : t.OpsFrom (t.dropBuf a b) := .of_engines rfl
  unfold State.failHandover
  refine .trans ?_ (State.cenFault_opsFrom _ _ _ _)
  refine .trans ?_ (hbuf _ _ _)
  exact (hmod _ _ _ _ _ _).trans (hmod _ _ _ _ _ _)

theorem State.haltEngine_opsFrom (e : Fin 4) : s.OpsFrom (s.haltEngine e) :=
  (State.OpsFrom.modEngine s e fun _ => .of_none rfl).trans (State.cenFault_opsFrom _ _ _ _)

theorem State.failFrame_opsFrom (e : Fin 4) (k : FrameFail) : s.OpsFrom (s.failFrame e k) := by
  have hho : s.OpsFrom (s.failHandovers e) := .foldl (fun s h => s.failHandover_opsFrom e h) _ s
  have hfail (t : State) (f : Engine → Engine) (hf : ∀ g, (f g).done = none) (bit code : Nat) :
      t.OpsFrom ((t.modEngine e f).cenFault e bit code) :=
    (State.OpsFrom.modEngine t e fun g => .of_none (hf g)).trans (State.cenFault_opsFrom _ _ _ _)
  simp only [State.failFrame]
  split
  · exact hho.trans ((hfail _ _ (fun _ => rfl) _ _).trans (State.haltEngine_opsFrom _ _))
  · exact hho.trans (hfail _ _ (fun _ => rfl) _ _)

theorem State.judgeFrame_opsFrom (bad : Bool) (sched : BitVec 16) (e : Fin 4) : s.OpsFrom (s.judgeFrame bad sched e) := by
  simp only [State.judgeFrame]
  split
  · split
    · exact (State.OpsFrom.modEngine s e fun g => g.undo_opsFrom _ e).trans (State.failFrame_opsFrom _ _ _)
    · exact s.cenFault_opsFrom _ _ _
  · split
    · exact (State.OpsFrom.modEngine s e fun g => .of_done (g.overrun_done _ e sched)).trans (State.failFrame_opsFrom _ _ _)
    · exact .of_engines rfl

theorem State.postPoint_opsFrom (ev : PointEv) : s.OpsFrom (s.postPoint ev) := by
  refine .map (f := Engine.post s.late _) (fun g => ?_) (State.postPoint_engines s ev)
  unfold Engine.post
  split <;> rfl

theorem State.endCause_opsFrom (u : UCause) : s.OpsFrom (s.endCause u) := by
  unfold State.endCause
  split
  · exact (State.OpsFrom.of_engines rfl).trans (State.postPoint_opsFrom _ _)
  · exact .of_engines rfl

theorem State.resetAllChans_engines (load : Bool) : (s.resetAllChans load).engines = s.engines :=
  foldl_keeps State.engines (fun s c => State.modChan_engines s c _) (allFin 128) s

theorem State.startRamp_engines (n : Fin 64) : (s.startRamp n).engines = s.engines := by
  unfold State.startRamp; split <;> simp

theorem State.rampGroups_engines : s.rampGroups.engines = s.engines := by
  unfold State.rampGroups
  refine foldl_keeps State.engines (fun s n => ?_) _ _
  split
  · split <;> simp [State.startRamp_engines]
  · rfl

theorem State.startPortStage_engines (l : List (Fin 64)) (all : Bool) : (s.startPortStage l all).engines = s.engines := by
  refine Eq.trans (b := State.engines (l.foldl _ s)) rfl (foldl_keeps State.engines (fun s n => ?_) l s)
  split <;> rfl

theorem State.endPortStage_opsFrom : s.OpsFrom s.endPortStage := by
  unfold State.endPortStage
  split
  · refine .trans ?_ (State.endCause_opsFrom _ _)
    refine .of_engines ?_
    simp only [State.dropStage, State.resetAllChans_engines]
  · refine .of_engines ?_
    simp only [State.dropStage]
    refine foldl_keeps State.engines (fun s n => ?_) (allFin 64) s
    split <;> rfl

theorem State.startProving_opsFrom : s.OpsFrom s.startProving := by
  have hr := s.resetAllChans_engines true
  refine .map (f := fun g => if g.mode = .halted then g else { g with mode := .proving, proveLeft := 4, from' := g.frame + 8 })
    (fun g => ?_) ?_
  · split <;> rfl
  · simp only [State.startProving, hr]

theorem State.portsAtTick_opsFrom : s.OpsFrom s.portsAtTick := by
  refine (State.OpsFrom.of_engines s.rampGroups_engines).trans ?_
  simp only [State.portsAtTick]
  generalize s.rampGroups = t
  split
  · split
    · split
      · exact .of_engines (t.startPortStage_engines _ _)
      · split
        · split
          · exact .of_engines rfl
          · exact (State.OpsFrom.of_engines rfl).trans (State.startProving_opsFrom _)
        · exact .of_engines rfl
    · split
      · exact t.startProving_opsFrom
      · exact .of_engines rfl
    · exact .of_engines rfl
  · split
    · exact t.endPortStage_opsFrom
    · exact .of_engines rfl

theorem State.returnLanesAtTick_opsFrom : s.OpsFrom s.returnLanesAtTick := by
  unfold State.returnLanesAtTick
  refine .foldl (fun s r => ?_) _ _
  simp only
  split
  · refine (State.OpsFrom.of_engines rfl).trans (State.OpsFrom.foldl (fun s k => ?_) _ _)
    split
    · exact s.postPoint_opsFrom _
    · exact .of_engines rfl
  · exact .of_engines rfl

theorem State.clockTick_opsFrom : s.OpsFrom s.clockTick := by
  refine .map (f := fun g => ({ g with frame := g.frame + 1, due := g.journal, journal := g.next, next := {} } : Engine).slotTick)
    (fun g => ?_) rfl
  unfold Engine.slotTick
  split <;> rfl

end

end Sys2Proof.Machine
end

section
/-! O53: a step of the time base is applied at a tick alone, and sets when the next tick comes (R24). -/

namespace Sys2Proof.Machine
open Sys2Proof

/-- What the clock holds of the last tick: the time base and the instant. -/
def State.lastTick (s : State) : Nat × Nat := (s.clk.tickTb, s.clk.tickAt)

theorem State.lastTick_of_clk {s t : State} (h : t.clk = s.clk) : t.lastTick = s.lastTick := by
  simp only [State.lastTick, h]

/-! ### Pewter's queue: a page draws its check value, and leaves the tick -/

section
variable (s : State)

theorem State.writePage_lastTick (axles ok : Bool) : (s.writePage axles ok).lastTick = s.lastTick := rfl

theorem State.writeAllPages_lastTick : s.writeAllPages.lastTick = s.lastTick := by
  simp only [State.writeAllPages]
  rw [foldl_keeps State.lastTick (fun s _ => s.writePage_lastTick true true),
    foldl_keeps State.lastTick (fun s _ => s.writePage_lastTick false true)]

theorem State.takeEvent_lastTick (e : Event) : (s.takeEvent e).lastTick = s.lastTick := by
  have h : (if e.code = 0x0003 then s.writeAllPages else s).lastTick = s.lastTick := by
    split
    · exact s.writeAllPages_lastTick
    · rfl
  exact h

theorem State.writeSnapshot_clk (rail : BitVec 2) (dur low : BitVec 16) : (s.writeSnapshot rail dur low).clk = s.clk := by
  simp only [State.writeSnapshot]
  split <;> simp

theorem State.takeEntry_lastTick (q : QItem) : (s.takeEntry q).lastTick = s.lastTick := by
  cases q with
  | event e => exact s.takeEvent_lastTick e
  | axle a => rfl
  | images l => exact State.lastTick_of_clk (State.writeSnapshot_clk _ _ _ _)

theorem State.sendReplies_clk : s.sendReplies.clk = s.clk := by
  unfold State.sendReplies
  split <;> rfl

theorem State.drainQueue_lastTick : s.drainQueue.lastTick = s.lastTick := by
  simp only [State.drainQueue]
  split
  · rw [State.lastTick_of_clk (State.sendReplies_clk _), State.lastTick_of_clk (State.flushDropped_clk _),
      foldl_keeps State.lastTick State.takeEntry_lastTick]
    rfl
  · rfl

end

/-! ### Publication -/

/-- No engine has a frame done that has operations on the module. -/
def State.NoOps (s : State) : Prop := ∀ (e : Fin 4) (w : Work), (s.engines[e]).done = some w → w.ops = []

theorem State.NoOps.of_opsFrom {s t : State} (hs : s.NoOps) (h : s.OpsFrom t) : t.NoOps := by
  intro e w hw
  obtain ⟨v, hv, hwv⟩ := h e w hw
  rw [hwv, hs e v hv]

/-- The frames that are published then have no operations. -/
theorem State.NoOps.finished {s : State} (h : s.NoOps) : ∀ p ∈ s.finished, p.2.ops = [] := by
  rintro ⟨e, w⟩ hp
  simp only [State.finished, List.mem_filterMap, Option.map_eq_some_iff] at hp
  obtain ⟨e', -, w', hw', he⟩ := hp
  cases he
  exact h e w hw'

theorem foldl_publishOps {ws : List (Fin 4 × Work)} (h : ∀ p ∈ ws, p.2.ops = []) (s : State) :
    ws.foldl (fun s p => s.publishOps p.2) s = s := by
  induction ws with
  | nil => rfl
  | cons p ws ih =>
    have hp : s.publishOps p.2 = s := by rw [State.publishOps, h p List.mem_cons_self, List.foldl_nil]
    rw [List.foldl_cons, hp]
    exact ih fun q hq => h q (List.mem_cons_of_mem p hq)

/-- The engines' cycles are measured and their frames judged, before the publication. -/
def State.judgeAll (m : TickMeas) (stepFrame : Bool) (s : State) : State :=
  (allFin 4).foldl (fun (s : State) (e : Fin 4) =>
    (s.modEngine e (Engine.measure m.cyc[e] m.sched[e])).judgeFrame (s.cyclesBad m.cyc[e] stepFrame) m.sched[e] e) s

theorem State.judgeAll_clk (m : TickMeas) (stepFrame : Bool) (s : State) : (s.judgeAll m stepFrame).clk = s.clk :=
  foldl_clk (fun s e => (State.judgeFrame_clk _ _ _ e).trans (State.modEngine_clk s e _)) _ s

theorem State.judgeAll_opsFrom (m : TickMeas) (stepFrame : Bool) (s : State) : s.OpsFrom (s.judgeAll m stepFrame) :=
  .foldl (fun s e => (State.OpsFrom.modEngine s e (f := Engine.measure m.cyc[e] m.sched[e]) fun _ => .of_done rfl).trans
    (State.judgeFrame_opsFrom _ _ _ e)) _ s

/-- The images of a publication; with something new, their instant is this tick. -/
def State.showImages (news : Bool) (s : State) : State :=
  (allFin 4).foldl State.publish (if news then { s with clk := { s.clk with imageTb := s.clk.tickTb } } else s)

/-- What follows the images of the published frames `ws`. -/
def State.afterImages (ws : List (Fin 4 × Work)) (s : State) : State :=
  let s := ws.foldl (fun (s : State) p => s.publishLogs p.2) s
  let s := ws.foldl (fun (s : State) p => s.publishOps p.2) s
  let s := ws.foldl (fun (s : State) p => s.provedFrame p.1) s
  let s := (allFin 4).foldl State.answerHalted s
  let s := (allFin 4).foldl State.impose { s with engines := s.engines.map Engine.detachAtTick }
  s.updateVos.showPublished

theorem State.publishAll_eq (s : State) (m : TickMeas) (stepFrame : Bool) : ∃ ok news, s.publishAll m stepFrame =
    (((s.judgeAll m stepFrame).releaseFrames ok).showImages news).afterImages (s.judgeAll m stepFrame).finished := ⟨_, _, rfl⟩

theorem State.showImages_lastTick (news : Bool) (s : State) : (s.showImages news).lastTick = s.lastTick := by
  unfold State.showImages
  rw [State.lastTick_of_clk (foldl_clk (fun s e => s.publish_clk e) _ _)]
  split <;> rfl

theorem State.afterImages_clk {ws : List (Fin 4 × Work)} (h : ∀ p ∈ ws, p.2.ops = []) (s : State) :
    (s.afterImages ws).clk = s.clk := by
  simp [State.afterImages, foldl_publishOps h]

/-- A publication without operations leaves the last tick. -/
theorem State.publishAll_lastTick {s : State} (m : TickMeas) (stepFrame : Bool) (h : s.NoOps) :
    (s.publishAll m stepFrame).lastTick = s.lastTick := by
  obtain ⟨ok, news, heq⟩ := s.publishAll_eq m stepFrame
  have hops := (h.of_opsFrom (State.judgeAll_opsFrom m stepFrame s)).finished
  calc (s.publishAll m stepFrame).lastTick
    _ = (((s.judgeAll m stepFrame).releaseFrames ok).showImages news).lastTick := by
      rw [heq, State.lastTick_of_clk (State.afterImages_clk hops _)]
    _ = ((s.judgeAll m stepFrame).releaseFrames ok).lastTick := State.showImages_lastTick _ _
    _ = (s.judgeAll m stepFrame).lastTick := rfl
    _ = s.lastTick := State.lastTick_of_clk (State.judgeAll_clk m stepFrame s)

/-! ### The tick -/

/-- A tick up to its publication: the clock, the debug sessions, the detection side, the return lanes and the ports. -/
def State.beforePublication (m : TickMeas) (s : State) : State :=
  let t := m.sessions.foldl (fun (t : State) p => t.modEngine p.1 (Engine.debugAct p.2)) s.clockTick
  let t := ((t.fieldAtTick s.tickNo).suppliesAtTick m).chansAtTick
  let t := { t with vis := t.vis.map (Vi.atTick t.now) }
  let t := if s.clk.stepFrame then t.resetAllChans false else t
  t.returnLanesAtTick.portsAtTick

/-- A tick from its sampling on. -/
def State.afterPublication (m : TickMeas) (s : State) : State :=
  let s := s.sampleAll m
  let s := { s with mgt := { s.mgt with
    pw := if s.mgt.pw = PwState.starting then PwState.running else s.mgt.pw
    recOk := s.mgt.recOk || decide (s.mgt.pw ≠ PwState.restarting) } }
  let s := s.drainQueue
  State.armAll { s with clk := { s.clk with signed := s.signer.isSome } }

theorem exec_tick {s : State} (m : TickMeas) (hr : s.inReset = false) (hl : s.now ≤ s.clk.tickAt + 525000) :
    ∃ u, u = (s.beforePublication m).publishAll m s.clk.stepFrame ∧
      exec (.tick m) s = .next (if u.inReset then u else u.afterPublication m) := by
  refine ⟨_, rfl, ?_⟩
  have hc : (!s.inReset) = true := by rw [hr]; rfl
  have hexec : exec (.tick m) s = execTick m s := rfl
  rw [hexec, execTick, if_neg (Nat.not_lt.mpr hl), State.when_true hc]
  unfold State.afterPublication State.beforePublication
  with_reducible rfl

theorem State.beforePublication_clk (m : TickMeas) (s : State) : (s.beforePublication m).clk = s.clockTick.clk := by
  simp only [State.beforePublication, State.portsAtTick_clk, State.returnLanesAtTick_clk]
  have h : (m.sessions.foldl (fun (t : State) p => t.modEngine p.1 (Engine.debugAct p.2)) s.clockTick).clk = s.clockTick.clk :=
    foldl_clk (fun t (p : Fin 4 × DebugAct) => State.modEngine_clk t p.1 _) _ _
  split
  · exact (State.resetAllChans_clk _ false).trans h
  · exact h

theorem State.beforePublication_opsFrom (m : TickMeas) (s : State) : s.OpsFrom (s.beforePublication m) := by
  have hdbg (t : State) : t.OpsFrom (m.sessions.foldl (fun (t : State) p => t.modEngine p.1 (Engine.debugAct p.2)) t) :=
    .foldl (fun t (p : Fin 4 × DebugAct) => .modEngine t p.1 fun g => .of_done (g.debugAct_done p.2)) _ t
  refine s.clockTick_opsFrom.trans ((hdbg _).trans ?_)
  simp only [State.beforePublication]
  refine .trans ?_ ((State.returnLanesAtTick_opsFrom _).trans (State.portsAtTick_opsFrom _))
  refine .of_engines ?_
  split
  · exact State.resetAllChans_engines _ false
  · rfl

theorem State.afterPublication_lastTick (m : TickMeas) (s : State) : (s.afterPublication m).lastTick = s.lastTick := by
  simp only [State.afterPublication]
  have hsample := State.lastTick_of_clk (s.sampleAll_clk m)
  generalize s.sampleAll m = u at hsample
  rw [State.lastTick_of_clk (State.armAll_clk _), ← hsample]
  exact State.drainQueue_lastTick _

/-- A tick on which no published frame brings operations: the clock is the one that `State.clockTick` sets. -/
theorem tick_lastTick {s : State} (m : TickMeas) (hr : s.inReset = false) (hl : s.now ≤ s.clk.tickAt + 525000) (h : s.NoOps) :
    ∃ t, exec (.tick m) s = .next t ∧ t.lastTick = (s.nextTb % 2 ^ 64, s.tickDue) := by
  obtain ⟨u, hu, hexec⟩ := exec_tick m hr hl
  have hlast : u.lastTick = s.clockTick.lastTick := by
    rw [hu, State.publishAll_lastTick m _ (h.of_opsFrom (s.beforePublication_opsFrom m)),
      State.lastTick_of_clk (s.beforePublication_clk m)]
  refine ⟨_, hexec, Eq.trans ?_ (hlast.trans rfl)⟩
  split
  · rfl
  · exact u.afterPublication_lastTick m

/-! ### Steps -/

theorem exec_timeBaseStep_offTick {s : State} (h : s.now ≠ s.clk.tickAt) : exec .timeBaseStep s = .next s := by
  change execTimeBaseStep s = _
  unfold execTimeBaseStep
  split
  · exact State.when_false (by simp [h])
  · rfl

theorem exec_timeBaseExtLoad_offTick {s : State} (h : s.now ≠ s.clk.tickAt) : exec .timeBaseExtLoad s = .next s := by
  change execTimeBaseExtLoad s = _
  unfold execTimeBaseExtLoad
  split
  · exact State.when_false (by simp [h])
  · rfl

/-- The next tick is the first multiple of 250,000 ns that is at least 250,000 ns away. -/
theorem State.nextTb_first (s : State) : s.nextTb % 250000 = 0 ∧ s.clk.tickTb + 250000 ≤ s.nextTb ∧
    s.nextTb < s.clk.tickTb + 500000 ∧ ∀ x : Nat, x % 250000 = 0 → s.clk.tickTb + 250000 ≤ x → s.nextTb ≤ x := by
  unfold State.nextTb Clk.nextTb
  refine ⟨by omega, by omega, by omega, fun x hx hle => by omega⟩

/-- Without steering the tick comes when the time base has advanced to it, a ns in each ns. -/
theorem State.tickDue_unsteered {s : State} (hrate : s.clk.rate = 0) (hfrac : s.clk.frac = 0) :
    s.tickDue = s.clk.tickAt + (s.nextTb - s.clk.tickTb) := by
  have hpace : s.clk.pace = 10000000000 := by simp [Clk.pace, hrate]
  simp only [State.tickDue, Clk.tickDue, hpace, hfrac, State.nextTb]
  omega

end Sys2Proof.Machine

open Sys2Proof Sys2Proof.Machine

/-- Settles O53: off a tick the rows of a step do nothing, at one they set the time base; the next tick follows from the value
after the step, and a tick keeps the clock that it has set. -/
theorem stepsOnlyAtTicks : Obligations.StepsOnlyAtTicks := by
  unfold Obligations.StepsOnlyAtTicks
  refine ⟨fun s h => ⟨exec_timeBaseStep_offTick h, exec_timeBaseExtLoad_offTick h⟩, fun s d hr hd hn => ?_,
    State.nextTb_first, fun s m hr hl hrate hfrac hops => ?_⟩
  · have hstep := s.stepTb_spec d
    exact ⟨_, exec_timeBaseStep hr hd hn, hstep.tickTb, hstep.tickAt, hstep.now, hstep.stepFrame⟩
  · obtain ⟨t, ht, hlast⟩ := tick_lastTick m hr hl hops
    obtain ⟨htb, hat⟩ := Prod.mk.inj hlast
    exact ⟨t, ht, htb, hat.trans (State.tickDue_unsteered hrate hfrac)⟩
end

section
/-! PROOFS. Detection ports that fail (R49, R54, R55, R68, R293, R356). -/

namespace Sys2Proof.Machine

/-! ### One port, channel or detection unit -/

theorem State.modPort_spec (s : State) (n : Fin 64) (f : Port → Port) : OthersSame s.ports (s.modPort n f).ports n ∧
    s.modPort n f = { s with ports := (s.modPort n f).ports } ∧ (s.modPort n f).ports[n] = f s.ports[n] :=
  ⟨upd_othersSame _ _ _, rfl, upd_get_same _ _ _⟩

theorem State.modWdu_spec (s : State) (n : Fin 64) (f : Wdu → Wdu) : OthersSame s.wdus (s.modWdu n f).wdus n ∧
    s.modWdu n f = { s with wdus := (s.modWdu n f).wdus } ∧ (s.modWdu n f).wdus[n] = f s.wdus[n] :=
  ⟨upd_othersSame _ _ _, rfl, upd_get_same _ _ _⟩

/-! ### A point that fails (R55) -/

/-- FAILED begins. -/
def Port.beginFail (p : Port) : Port := { p with failed := true, failEnd := none }

/-- FAILED ends 1 s after the last condition, as a rule of the port. -/
def Port.settle (now : Nat) (p : Port) : Port :=
  if p.failed then
    if p.condition then { p with failEnd := none } else { p with failEnd := some (p.failEnd.getD (now + 1000000000)) }
  else p

/-- What the failure of a point makes of its port: FAILED, with an end 1 s later where no condition holds. -/
def Port.fail (now : Nat) (p : Port) : Port :=
  { p with failed := true, failEnd := if p.condition then none else some (now + 1000000000) }

theorem Port.settle_of_not_failed {p : Port} (now : Nat) (h : p.failed = false) : p.settle now = p := by
  simp [Port.settle, h]

theorem Port.settle_beginFail (now : Nat) (p : Port) : p.beginFail.settle now = p.fail now := by
  have hc : p.beginFail.condition = p.condition := rfl
  unfold Port.settle Port.fail
  rw [if_pos (show p.beginFail.failed = true from rfl), hc]
  cases p.condition <;> rfl

/-- The failure of a point changes its port and, where it is new and no cut-off has been declared, the journals. -/
theorem State.failPoint_eq (s : State) (n : Fin 64) : s.failPoint n =
    if s.sup.cutDeclared || (s.ports[n]).failed then s.modPort n (Port.fail s.now)
    else (s.modPort n (Port.fail s.now)).postPoint (.failed n) := by
  have hp : s.modPort n (Port.fail s.now) = (s.modPort n Port.beginFail).modPort n (Port.settle s.now) := by
    rw [State.modPort_modPort]
    exact State.modPort_congr (Port.settle_beginFail _ _).symm
  have hf : s.failPoint n = (if s.sup.cutDeclared || (s.ports[n]).failed then s.modPort n Port.beginFail
    else (s.modPort n Port.beginFail).postPoint (.failed n)).settleFail n := rfl
  rw [hf, hp]
  split <;> rfl

/-- A bit of PRT_FAULT is set. -/
def Port.markFault (bit : Nat) (p : Port) : Port := { p with fault := setBit p.fault bit }

/-- A point has failed with a fault of its port logged: FAILED, the bit, the fault, and the engines' item but for a declared
cut-off or a failure that holds already (R55, R136, R293). -/
structure State.PointFaulted (s t : State) (n : Fin 64) (bit code : Nat) : Prop where
  others : OthersSame s.ports t.ports n
  frame : ({ s with ports := t.ports, engines := t.engines } : State).SameButLog t
  port : t.ports[n] = ((s.ports[n]).markFault bit).fail s.now
  logged : t.lastFault code n.val
  posted : s.sup.cutDeclared = false ∧ (s.ports[n]).failed = false → s.pointPosted t (.failed n)
  quiet : s.sup.cutDeclared = true ∨ (s.ports[n]).failed = true → t.engines = s.engines

/-- A change of ports and journals on top of logging. -/
theorem State.SameButLog.withPortsEngines {s t : State} (h : s.SameButLog t) (v : Vector Port 64) (w : Vector Engine 4) :
    ({ s with ports := v, engines := w } : State).SameButLog { t with ports := v, engines := w } := by
  unfold State.SameButLog at h ⊢
  rw [h]

theorem State.prtFault_ports (s : State) (n : Fin 64) (bit code : Nat) :
    (s.prtFault n bit code).ports = upd s.ports n (Port.markFault bit) :=
  State.fault_ports _ _ _

theorem State.prtFault_port (s : State) (n : Fin 64) (bit code : Nat) :
    (s.prtFault n bit code).ports[n] = (s.ports[n]).markFault bit := by
  rw [State.prtFault_ports]
  exact upd_get_same _ _ _

theorem State.prtFault_failPoint (s : State) (n : Fin 64) (bit : Nat) {code : Nat} (h5 : code ≠ 0x0605) (h3 : code ≠ 0x0703)
    (hc : code < 65536) : s.PointFaulted ((s.prtFault n bit code).failPoint n) n bit code := by
  let u := s.modPort n (Port.markFault bit)
  have hsame : u.SameButLog (s.prtFault n bit code) := State.fault_same u code n.val
  have hlast : (s.prtFault n bit code).lastFault code n.val := State.fault_lastFault u code n.val h5 h3 hc (by omega)
  have hfailed : ((s.prtFault n bit code).ports[n]).failed = (s.ports[n]).failed := by rw [State.prtFault_port]; rfl
  have hnow : (s.prtFault n bit code).now = s.now := by simp only [State.now, hsame.clk]; rfl
  have hoth : OthersSame s.ports ((s.prtFault n bit code).modPort n (Port.fail s.now)).ports n := by
    refine OthersSame.trans ?_ (upd_othersSame _ _ _)
    rw [State.prtFault_ports]
    exact upd_othersSame _ _ _
  have hport : ((s.prtFault n bit code).modPort n (Port.fail s.now)).ports[n] =
      ((s.ports[n]).markFault bit).fail s.now :=
    (upd_get_same _ _ _).trans (congrArg _ (s.prtFault_port n bit code))
  have heq := (s.prtFault n bit code).failPoint_eq n
  rw [hsame.sup, hfailed, hnow, State.modPort_sup] at heq
  by_cases hq : s.sup.cutDeclared = true ∨ (s.ports[n]).failed = true
  · rw [if_pos (by simpa using hq)] at heq
    rw [heq]
    refine ⟨hoth, hsame.withPortsEngines _ _, hport, hlast, fun h => ?_, fun _ => hsame.engines⟩
    obtain ⟨hcut, hold⟩ := h
    exact absurd hq (by rw [hcut, hold]; decide)
  · rw [if_neg (by simpa using hq)] at heq
    rw [heq, State.postPoint_frame (fun _ => rfl)]
    refine ⟨hoth, hsame.withPortsEngines _ _, hport, hlast, fun _ e => ?_, fun h => absurd h hq⟩
    refine (State.postPoint_pointPosted ((s.prtFault n bit code).modPort n (Port.fail s.now)) (.failed n) e).trans ?_
    rw [State.modPort_engines, hsame.engines, State.late_congr (s := s) (t := (s.prtFault n bit code).modPort n _) hsame.clk]
    rfl

/-- The same after a change of the port that leaves FAILED as it is. -/
theorem State.modPort_faulted (s : State) (n : Fin 64) (f : Port → Port) (hf : ∀ p, (f p).failed = p.failed) {bit code : Nat}
    {t : State} (h : (s.modPort n f).PointFaulted t n bit code) :
    OthersSame s.ports t.ports n ∧ ({ s with ports := t.ports, engines := t.engines } : State).SameButLog t ∧
    t.ports[n] = ((f s.ports[n]).markFault bit).fail s.now ∧ t.lastFault code n.val ∧
    (s.sup.cutDeclared = false ∧ (s.ports[n]).failed = false → s.pointPosted t (.failed n)) ∧
    (s.sup.cutDeclared = true ∨ (s.ports[n]).failed = true → t.engines = s.engines) := by
  obtain ⟨hoth, hframe, hport, hlog, hpost, hquiet⟩ := h
  have hget : (s.modPort n f).ports[n] = f s.ports[n] := upd_get_same _ _ _
  rw [hget, hf] at hpost hquiet
  rw [hget] at hport
  exact ⟨(upd_othersSame _ _ _).trans hoth, hframe, hport, hlog, hpost, hquiet⟩

/-- A failure while a condition holds has no end yet. -/
theorem Port.fail_of_condition (now : Nat) {p : Port} (h : p.condition = true) : p.fail now = p.beginFail := by
  simp [Port.fail, Port.beginFail, h]

/-! ### Ramps and loop conditions (R49, R54) -/

theorem exec_supplyRampEnd {s : State} (dt : Nat) {n : Fin 64} {e : Nat} (h : s.inReset = false) (hr : (s.ports[n]).rampEnd = some e)
    (he : e ≤ s.now + dt) : exec (.supplyRampEnd dt n) s =
      .next ((s.pass dt).modPort n (fun p => { p with rampEnd := none, blindUntil := e + 2000000 })) := by
  have hx : exec (.supplyRampEnd dt n) s = execSupplyRampEnd dt n s := rfl
  rw [hx, execSupplyRampEnd, State.pass_ports, hr]
  exact State.when_true (by simp [h, he])

theorem exec_loopConditionDetected {s : State} (dt : Nat) {n : Fin 64} {q : LoopCond} {b : Nat} (h : s.inReset = false)
    (hb : ((s.ports[n]).loopCond q).1 = some b) (hq : ((s.ports[n]).loopCond q).2.1 = false)
    (hd : b + ((s.ports[n]).loopCond q).2.2 ≤ s.now + dt) (hj : (s.pass dt).condJudged n q = true) :
    exec (.loopConditionDetected dt n q) s =
      .next ((((s.pass dt).modPort n (Port.setCond q)).prtFault n q.fault.1 q.fault.2).failPoint n) := by
  have hx : exec (.loopConditionDetected dt n q) s = execLoopConditionDetected dt n q s := rfl
  rw [hx, execLoopConditionDetected, State.pass_ports, hb, hq, hj]
  exact State.when_true (by dsimp only; rw [State.pass_inReset, h, decide_eq_true (p := _ ≤ (s.pass dt).now) hd]; rfl)

theorem LoopCond.fault_code (q : LoopCond) : q.fault.2 ≠ 0x0605 ∧ q.fault.2 ≠ 0x0703 ∧ q.fault.2 < 65536 := by
  rcases q with _ | (_ | _) | (_ | _) <;> decide

theorem Port.setCond_failed (q : LoopCond) (p : Port) : (p.setCond q).failed = p.failed := by
  rcases q with _ | (_ | _) | (_ | _) <;> rfl

/-- A loop condition whose status bit is set is a condition of R55. -/
theorem Port.setCond_condition (q : LoopCond) (p : Port) : (p.setCond q).condition = true := by
  rcases q with _ | (_ | _) | (_ | _) <;> simp [Port.condition, Port.setCond]

theorem Port.setCond_status (q : LoopCond) (p : Port) : ((p.setCond q).loopCond q).2.1 = true := by
  rcases q with _ | (_ | _) | (_ | _) <;> rfl

theorem Port.setCond_fault (q : LoopCond) (p : Port) : (p.setCond q).fault = p.fault := by
  rcases q with _ | (_ | _) | (_ | _) <;> rfl

/-- FAILED and PRT_FAULT are not among what a loop condition is judged by. -/
theorem Port.loopCond_markFault_beginFail (q : LoopCond) (p : Port) (bit : Nat) :
    (p.markFault bit).beginFail.loopCond q = p.loopCond q := by
  rcases q with _ | (_ | _) | (_ | _) <;> rfl

theorem Port.markFault_condition (p : Port) (bit : Nat) : (p.markFault bit).condition = p.condition := rfl

/-! ### The end of a failure (R55, R114) -/

/-- The state in which both systems of a detection unit are 0. -/
def Wdu.clearSystems (w : Wdu) : Wdu :=
  { w with ctx := { w.ctx with c1 := { w.ctx.c1 with s := false }, c2 := { w.ctx.c2 with s := false } } }

theorem exec_pointFailureEnd {s : State} (dt : Nat) {n : Fin 64} {e : Nat} (h : s.inReset = false)
    (hf : (s.ports[n]).failed = true) (hc : (s.ports[n]).condition = false) (hn : (s.ports[n]).failEnd = some e)
    (he : e ≤ s.now + dt) : exec (.pointFailureEnd dt n) s =
      .next ((((s.pass dt).modPort n (fun p => { p with failed := false, failEnd := none })).modWdu n Wdu.clearSystems).postPoint
        (.failEnd n)) := by
  have hx : exec (.pointFailureEnd dt n) s = execPointFailureEnd dt n s := rfl
  rw [hx, execPointFailureEnd, State.pass_ports, hf, hc, hn]
  exact State.when_true (by dsimp only; rw [State.pass_inReset, h, decide_eq_true (p := _ ≤ (s.pass dt).now) he]; rfl)

/-! ### Surges (R68, R356) -/

/-- A surge is counted. -/
def Port.surged (now : Nat) (p : Port) : Port := { p with surge := true, surgeSince := now, surgeCnt := satInc p.surgeCnt }

/-- The port in which a surge has begun. -/
def State.surgeOn (s : State) (n : Fin 64) : State := s.modPort n (Port.surged s.now)

theorem exec_surgeDetected {s : State} (dt : Nat) {n : Fin 64} {uA : Nat} (h : s.inReset = false) (hu : 10000 < uA) :
    exec (.surgeDetected dt n uA) s = .next (if s.testOn (fun m => decide (m = n)) then ((s.pass dt).surgeOn n).stopTest false 0
      else (s.pass dt).surgeOn n) := by
  have hx : exec (.surgeDetected dt n uA) s = execSurgeDetected dt n uA s := rfl
  rw [hx, execSurgeDetected]
  exact State.when_true (by simp [h, hu])

theorem exec_surgeDetected_small (s : State) (dt : Nat) (n : Fin 64) {uA : Nat} (hu : uA ≤ 10000) :
    exec (.surgeDetected dt n uA) s = .next (s.pass dt) := by
  have hx : exec (.surgeDetected dt n uA) s = execSurgeDetected dt n uA s := rfl
  rw [hx, execSurgeDetected]
  exact State.when_false (by simp [Nat.not_lt.2 hu])

/-- A test that is abandoned at the instant `now`: its sink goes off unless it is off already. -/
def RunTest.abandon (now : Nat) (r : RunTest) : RunTest :=
  { r with
    abandoned := true
    stage := if r.stage = .settle then .settle else .decay
    mark := if r.stage = .settle ∨ r.stage = .decay then r.mark else now }

theorem State.stopTest_abandon {s : State} {r : RunTest} (hr : s.rt = some r) (hg : r.stage ≠ .gap) :
    s.stopTest false 0 = { s with rt := some (r.abandon s.now) } := by
  unfold State.stopTest
  rw [hr]
  obtain ⟨port, sys, stage, origin, mark⟩ := r
  cases stage
  case gap => exact absurd rfl hg
  all_goals rfl

/-- A test that waits between its systems ends at once. -/
theorem State.stopTest_gap {s : State} {r : RunTest} (hr : s.rt = some r) (hg : r.stage = .gap) :
    s.stopTest false 0 = s.endTest { r with abandoned := true, sys := .cs1 } := by
  unfold State.stopTest
  rw [hr]
  obtain ⟨port, sys, stage, origin, mark⟩ := r
  obtain rfl : stage = .gap := hg
  rfl

/-- What the end of a test does to its port (R66). -/
def RunTest.close (now : Nat) (r : RunTest) (p : Port) : Port :=
  { p with
    testRes := r.result
    abandoned := if r.result = 4 then satInc p.abandoned else p.abandoned
    lastTest := if r.sys = Sys.cs2 ∧ r.result ≠ 4 then some now else p.lastTest
    overdue := p.overdue && !decide (r.sys = Sys.cs2 ∧ r.result ≠ 4) }

theorem State.endTest_eq (s : State) (r : RunTest) :
    s.endTest r = ({ s with rt := none } : State).modPort r.port (r.close s.now) := rfl

theorem State.testOn_none {s : State} (h : s.rt = none) (p : Fin 64 → Bool) : s.testOn p = false := by
  simp [State.testOn, h]

theorem State.testOn_some {s : State} {r : RunTest} (h : s.rt = some r) (p : Fin 64 → Bool) : s.testOn p = p r.port := by
  simp [State.testOn, h]

/-- A surge while no test waits between its systems on the port. -/
theorem surgeDetected_spec (s : State) (dt uA : Nat) (n : Fin 64) (h : s.inReset = false) (hu : 10000 < uA)
    (hg : ∀ r, s.rt = some r → r.port = n → r.stage ≠ .gap) :
    ∃ t, exec (.surgeDetected dt n uA) s = .next t ∧ OthersSame s.ports t.ports n ∧
      t = { s.pass dt with ports := t.ports, rt := t.rt } ∧ t.ports[n] = (s.ports[n]).surged (s.now + dt) ∧
      (s.rt = none → t.rt = none) ∧ (∀ r, s.rt = some r → r.port ≠ n → t.rt = some r) ∧
      (∀ r, s.rt = some r → r.port = n → t.rt = some (r.abandon (s.now + dt))) := by
  obtain ⟨hoth, hframe, hport⟩ := (s.pass dt).modPort_spec n (Port.surged (s.now + dt))
  rw [exec_surgeDetected dt h hu]
  by_cases hon : ∃ r, s.rt = some r ∧ r.port = n
  · obtain ⟨r, hr, hn⟩ := hon
    rw [State.testOn_some hr, if_pos (by simp [hn]), State.stopTest_abandon (s := (s.pass dt).surgeOn n) hr (hg r hr hn)]
    refine ⟨_, rfl, hoth, rfl, hport, fun h0 => ?_, fun q hq hne => ?_, fun q hq _ => ?_⟩
    · rw [hr] at h0; contradiction
    · rw [hr] at hq; cases hq; contradiction
    · rw [hr] at hq; cases hq; rfl
  · have hoff : s.testOn (fun m => decide (m = n)) = false := by
      cases hr : s.rt with
      | none => exact State.testOn_none hr _
      | some r => rw [State.testOn_some hr]; exact decide_eq_false fun hn => hon ⟨r, hr, hn⟩
    rw [hoff]
    exact ⟨_, rfl, hoth, rfl, hport, id, fun r hr _ => hr, fun r hr hn => absurd ⟨r, hr, hn⟩ hon⟩

/-- A surge on a port whose test waits between its systems ends the test. -/
theorem surgeDetected_gap (s : State) (dt uA : Nat) (n : Fin 64) (r : RunTest) (h : s.inReset = false) (hu : 10000 < uA)
    (hr : s.rt = some r) (hn : r.port = n) (hg : r.stage = .gap) :
    ∃ t, exec (.surgeDetected dt n uA) s = .next t ∧ OthersSame s.ports t.ports n ∧
      t = { s.pass dt with ports := t.ports, rt := none } ∧ (t.ports[n]).surge = true ∧
      (t.ports[n]).surgeSince = s.now + dt ∧ (t.ports[n]).surgeCnt = satInc (s.ports[n]).surgeCnt := by
  subst hn
  rw [exec_surgeDetected dt h hu, State.testOn_some hr, if_pos (by simp), State.stopTest_gap (s := (s.pass dt).surgeOn r.port) hr hg,
    State.endTest_eq]
  have hport (f : Port → Port) : (upd (upd s.ports r.port (Port.surged (s.now + dt))) r.port f)[r.port] =
      f ((s.ports[r.port]).surged (s.now + dt)) := by rw [upd_upd]; exact upd_get_same _ _ _
  refine ⟨_, rfl, (upd_othersSame _ _ _).trans (upd_othersSame _ _ _), rfl, ?_, ?_, ?_⟩
  · exact congrArg Port.surge (hport _)
  · exact congrArg Port.surgeSince (hport _)
  · exact congrArg Port.surgeCnt (hport _)

theorem exec_surgeLong {s : State} (dt : Nat) {n : Fin 64} {uA : Nat} (h : s.inReset = false) (hs : (s.ports[n]).surge = true)
    (hl : (s.ports[n]).surgeLong = false) (hu : 10000 < uA) (hd : (s.ports[n]).surgeSince + 10000000 < s.now + dt) :
    exec (.surgeLong dt (n, uA)) s =
      .next ((((s.pass dt).modPort n (fun p => { p with surgeLong := true })).prtFault n 10 0x0209).failPoint n) := by
  have hx : exec (.surgeLong dt (n, uA)) s = execSurgeLong dt (n, uA) s := rfl
  rw [hx, execSurgeLong, State.pass_ports, hs, hl]
  exact State.when_true (by simpa [h, hu] using hd)

/-- The clamp has stopped for 1 ms. -/
def Port.surgeOver (p : Port) : Port := { p with surge := false, surgeLong := false }

theorem exec_surgeEnd {s : State} (dt : Nat) {n : Fin 64} (h : s.inReset = false) (hs : (s.ports[n]).surge = true)
    (hd : (s.ports[n]).surgeSince + 1000000 ≤ s.now + dt) : exec (.surgeEnd dt n) s =
      .next ((s.pass dt).modPort n (fun p => p.surgeOver.settle (s.now + dt))) := by
  have hx : exec (.surgeEnd dt n) s = execSurgeEnd dt n s := rfl
  rw [hx, execSurgeEnd, State.pass_ports, hs, ← State.modPort_modPort]
  exact State.when_true (by rw [State.pass_inReset, h, decide_eq_true (p := _ ≤ (s.pass dt).now) hd]; rfl)

/-- The end of a condition leaves FAILED, PRT_FAULT and the surge bits. -/
theorem Port.settle_keeps (now : Nat) (p : Port) : (p.settle now).failed = p.failed ∧ (p.settle now).fault = p.fault ∧
    (p.settle now).surge = p.surge ∧ (p.settle now).surgeLong = p.surgeLong := by
  unfold Port.settle
  split
  · split <;> exact ⟨rfl, rfl, rfl, rfl⟩
  · exact ⟨rfl, rfl, rfl, rfl⟩

end Sys2Proof.Machine

open Sys2Proof Sys2Proof.Machine

/-- Settles O12: a condition that begins changes its port, and `State.prtFault_failPoint` says what the failure adds; a surge also
abandons the test of its port (`RunTest.abandon`). What a failed point posts again, that only a new failure does, and that a surge
abandons the test at once are the model's choices (log 67, log 101). -/
theorem pointFailuresAndSurges : Obligations.PointFailuresAndSurges := by
  unfold Obligations.PointFailuresAndSurges
  refine ⟨fun s dt n e h hr he => ?_, fun s dt n q b h hb hq hd hj => ?_, fun s dt n e h hf hc hn he => ?_, surgeDetected_spec,
    surgeDetected_gap, fun s dt uA n hu => exec_surgeDetected_small s dt n hu, fun s dt uA n h hs hl hu hd => ?_,
    fun s dt n h hs hd => ?_⟩
  · obtain ⟨hoth, hframe, hport⟩ := (s.pass dt).modPort_spec n (fun p => { p with rampEnd := none, blindUntil := e + 2000000 })
    exact ⟨_, exec_supplyRampEnd dt h hr he, hoth, hframe, hport⟩
  · obtain ⟨h5, h3, hc⟩ := q.fault_code
    obtain ⟨hoth, hframe, hport, hlog, hpost, hquiet⟩ := (s.pass dt).modPort_faulted n (Port.setCond q) (Port.setCond_failed q)
      (State.prtFault_failPoint _ n q.fault.1 h5 h3 hc)
    rw [Port.fail_of_condition _ ((Port.markFault_condition _ _).trans (Port.setCond_condition q _))] at hport
    refine ⟨_, exec_loopConditionDetected dt h hb hq hd hj, hoth, hframe, ?_, ?_, ?_, ?_, hlog, hpost, hquiet⟩ <;> rw [hport]
    · rw [Port.loopCond_markFault_beginFail]
      exact Port.setCond_status q _
    · rfl
    · rfl
    · exact congrArg (setBit · _) (Port.setCond_fault q _)
  · let u := ((s.pass dt).modPort n (fun p => { p with failed := false, failEnd := none })).modWdu n Wdu.clearSystems
    have hw : u.wdus[n] = (s.wdus[n]).clearSystems := upd_get_same _ _ _
    refine ⟨_, exec_pointFailureEnd dt h hf hc hn he, upd_othersSame _ _ _, upd_othersSame _ _ _,
      State.postPoint_frame (fun _ => rfl) u, upd_get_same _ _ _, ?_, ?_, State.postPoint_pointPosted u (.failEnd n)⟩
    · rw [State.postPoint_wdus, hw]
      rfl
    · rw [State.postPoint_wdus, hw]
      rfl
  · obtain ⟨hoth, hframe, hport, hlog, hpost, _⟩ := (s.pass dt).modPort_faulted n (fun p => { p with surgeLong := true })
      (fun _ => rfl) (State.prtFault_failPoint _ n 10 (code := 0x0209) (by decide) (by decide) (by decide))
    rw [Port.fail_of_condition _ (by simp [Port.condition, Port.markFault])] at hport
    exact ⟨_, exec_surgeLong dt h hs hl hu hd, hoth, hframe, hport, hlog, hpost⟩
  · obtain ⟨hoth, hframe, hport⟩ := (s.pass dt).modPort_spec n (fun p => p.surgeOver.settle (s.now + dt))
    obtain ⟨hfailed, hfault, hsurge, hlong⟩ := (s.ports[n]).surgeOver.settle_keeps (s.now + dt)
    refine ⟨_, exec_surgeEnd dt h hs hd, hoth, hframe, ?_, ?_, ?_, ?_⟩ <;> rw [hport]
    exacts [hsurge, hlong, hfailed, hfault]

end

section
/-! PROOFS. Run-time port tests (R61 to R66). -/

namespace Sys2Proof.Machine

/-! ### Eligibility and the scheduler (R61, R66) -/

theorem exec_portTestEligible {s : State} (dt : Nat) {n : Fin 64} {b : Nat} (h : s.inReset = false) (ha : s.assigned n = true)
    (hq : (s.ports[n]).quietSince = some b) (hd : b + 30000000000 ≤ s.now + dt) : exec (.portTestEligible dt n) s =
      .next ((s.pass dt).modPort n (fun p => { p with eligible := true })) := by
  have hx : exec (.portTestEligible dt n) s = execPortTestEligible dt n s := rfl
  have ha' : (s.pass dt).assigned n = true := ha
  rw [hx, execPortTestEligible, State.pass_ports, hq]
  exact State.when_true (by simp [h, ha', hd])

theorem exec_runtimeTestOverdue {s : State} (dt : Nat) {n : Fin 64} (h : s.inReset = false) (ha : s.assigned n = true)
    (ho : (s.ports[n]).overdue = false) (hd : (s.ports[n]).lastTest.getD (s.ports[n]).assignedAt + 86400000000000 ≤ s.now + dt) :
    exec (.runtimeTestOverdue dt n) s =
      .next (((s.pass dt).modPort n (fun p => { p with overdue := true })).fault 0x0208 n.val) := by
  have hx : exec (.runtimeTestOverdue dt n) s = execRuntimeTestOverdue dt n s := rfl
  have ha' : (s.pass dt).assigned n = true := ha
  rw [hx, execRuntimeTestOverdue, State.pass_ports, ho, ha']
  exact State.when_true (by rw [State.pass_inReset, h, decide_eq_true (p := _ ≤ (s.pass dt).now) hd]; rfl)

/-- R61: the port picked is eligible, and a port named by SELFTEST_PORT where one of them is. -/
theorem State.pickPort_spec {s : State} {n : Fin 64} (h : s.pickPort = some n) :
    (s.ports[n]).eligible = true ∧ ((∃ m ∈ s.rtFirst, (s.ports[m]).eligible = true) → n ∈ s.rtFirst) := by
  unfold State.pickPort at h
  split at h
  · rename_i m hm
    cases h
    exact ⟨List.find?_some (p := fun k : Fin 64 => (s.ports[k]).eligible) hm, fun _ => List.mem_of_find?_eq_some hm⟩
  · rename_i hnone
    -- The scheduler's choice among the ports that are not named takes none but an eligible one.
    refine ⟨List.foldlRecOn (motive := fun acc => ∀ b, acc = some b → (s.ports[b]).eligible = true) _ _
      (fun b hb => by cases hb) (fun acc hacc a _ b hb => ?_) n h, fun hm => ?_⟩
    · split at hb
      · rename_i ha
        cases acc with
        | none => cases hb; exact ha
        | some c =>
          dsimp only at hb
          split at hb
          · cases hb; exact ha
          · exact hacc b hb
      · exact hacc b hb
    · obtain ⟨m, hmem, hel⟩ := hm
      exact absurd hel (List.find?_eq_none.1 hnone m hmem)

/-! ### The windows and steps of a test (R62) -/

/-- The port that a test takes is no longer eligible, and no longer named. -/
def State.takePort (s : State) (n : Fin 64) : State :=
  { s.modPort n (fun p => { p with eligible := false, quietSince := none }) with rtFirst := s.rtFirst.erase n }

theorem exec_runtimeTestStart {s : State} (dt : Nat) {n : Fin 64} (hp : s.pickPort = some n) (hr : s.rt = none)
    (hn : s.railsNormal = true) (hu : s.retUp n = true) (hm : s.mdl.phase = .service) :
    exec (.runtimeTestStart dt) s = .next (((s.pass dt).takePort n).beginTest n .cs1) := by
  have hx : exec (.runtimeTestStart dt) s = execRuntimeTestStart dt s := rfl
  have hp' : (s.pass dt).pickPort = some n := hp
  have hn' : (s.pass dt).railsNormal = true := hn
  have hu' : (s.pass dt).retUp n = true := hu
  rw [hx, execRuntimeTestStart, hp']
  exact State.when_true (by simp [State.inReset, hm, hr, hn', hu'])

/-- The sink of a test goes off. -/
def RunTest.sinkOff (now : Nat) (fail : Bool) (r : RunTest) : RunTest :=
  { r with stage := .decay, mark := now, steps := now :: r.steps, stepFail := fail }

/-- Both steps of a test lie within their limits (R63). -/
def RunTest.stepsPass (r : RunTest) : Bool :=
  stepPasses r.sumA r.cntA r.preSum r.preCnt 350 && stepPasses r.sumB r.cntB r.preSum r.preCnt 700

section
variable {s : State} {r : RunTest} (dt : Nat) (hr : s.rt = some r)
include hr

theorem exec_runtimeTestWindowOpen (hd : (r.stage = .sinkA ∧ r.origin + 2000000 ≤ s.now + dt) ∨
    (r.stage = .sinkB ∧ r.origin + 8000000 ≤ s.now + dt)) : exec (.runtimeTestWindowOpen dt) s =
      .next { s.pass dt with rt := some { r with stage := if r.stage = .sinkA then .winA else .winB } } := by
  have hx : exec (.runtimeTestWindowOpen dt) s = execRuntimeTestWindowOpen dt s := rfl
  rw [hx, execRuntimeTestWindowOpen, State.pass_rt, hr]
  exact State.when_true (decide_eq_true hd)

theorem exec_runtimeTestSinkStep (hs : r.stage = .winA) (hd : r.origin + 6000000 ≤ s.now + dt) :
    exec (.runtimeTestSinkStep dt) s = .next { s.pass dt with
      rt := some { r with stage := .sinkB, mark := s.now + dt, steps := (s.now + dt) :: r.steps } } := by
  have hx : exec (.runtimeTestSinkStep dt) s = execRuntimeTestSinkStep dt s := rfl
  rw [hx, execRuntimeTestSinkStep, State.pass_rt, hr]
  exact State.when_true (decide_eq_true ⟨hs, hd⟩)

theorem exec_runtimeTestSinkOff_pass (hs : r.stage = .winB) (hd : r.origin + 12000000 ≤ s.now + dt) (hp : r.stepsPass = true) :
    exec (.runtimeTestSinkOff dt) s = .next { s.pass dt with rt := some (r.sinkOff (s.now + dt) false) } := by
  have hx : exec (.runtimeTestSinkOff dt) s = execRuntimeTestSinkOff dt s := rfl
  rw [hx, execRuntimeTestSinkOff, State.pass_rt, hr]
  refine (State.when_true (decide_eq_true ⟨hs, hd⟩)).trans ?_
  have hok : (stepPasses r.sumA r.cntA r.preSum r.preCnt 350 && stepPasses r.sumB r.cntB r.preSum r.preCnt 700) = true := hp
  simp only [hok]
  rfl

theorem exec_runtimeTestSinkOff_fail (hs : r.stage = .winB) (hd : r.origin + 12000000 ≤ s.now + dt) (hp : r.stepsPass = false) :
    exec (.runtimeTestSinkOff dt) s = .next ((({ s.pass dt with rt := some (r.sinkOff (s.now + dt) true) } : State).prtFault
      r.port 16 0x0206).failPoint r.port) := by
  have hx : exec (.runtimeTestSinkOff dt) s = execRuntimeTestSinkOff dt s := rfl
  rw [hx, execRuntimeTestSinkOff, State.pass_rt, hr]
  refine (State.when_true (decide_eq_true ⟨hs, hd⟩)).trans ?_
  have hok : (stepPasses r.sumA r.cntA r.preSum r.preCnt 350 && stepPasses r.sumB r.cntB r.preSum r.preCnt 700) = false := hp
  simp only [hok]
  rfl

/-- R63: a test whose steps are not both within their limits fails its point with 0206h. -/
theorem runtimeTestSinkOff_fail (hs : r.stage = .winB) (hd : r.origin + 12000000 ≤ s.now + dt) (hp : r.stepsPass = false) :
    ∃ t, exec (.runtimeTestSinkOff dt) s = .next t ∧ OthersSame s.ports t.ports r.port ∧
      ({ s.pass dt with ports := t.ports, engines := t.engines, rt := t.rt } : State).SameButLog t ∧
      t.rt = some (r.sinkOff (s.now + dt) true) ∧ (t.ports[r.port]).failed = true ∧
      (t.ports[r.port]).fault = setBit (s.ports[r.port]).fault 16 ∧ t.lastFault 0x0206 r.port.val ∧
      (s.sup.cutDeclared = false ∧ (s.ports[r.port]).failed = false → (s.pass dt).pointPosted t (.failed r.port)) := by
  obtain ⟨hoth, hframe, hport, hlog, hpost, _⟩ := State.prtFault_failPoint
    ({ s.pass dt with rt := some (r.sinkOff (s.now + dt) true) } : State) r.port 16 (code := 0x0206) (by decide) (by decide) (by decide)
  refine ⟨_, exec_runtimeTestSinkOff_fail dt hr hs hd hp, hoth, ?_, hframe.rt, ?_, ?_, hlog, hpost⟩
  · rw [hframe.rt]
    exact hframe
  · rw [hport]
    rfl
  · rw [hport]
    rfl

theorem exec_runtimeTestSettle (hs : r.stage = .decay) (hd : r.mark + 500000 ≤ s.now + dt) : exec (.runtimeTestSettle dt) s =
    .next (({ s.pass dt with rt := some { r with stage := .settle } } : State).modChan (chanOf r.port r.sys) Chan.enterScm) := by
  have hx : exec (.runtimeTestSettle dt) s = execRuntimeTestSettle dt s := rfl
  rw [hx, execRuntimeTestSettle, State.pass_rt, hr]
  exact State.when_true (decide_eq_true ⟨hs, hd⟩)

theorem exec_runtimeTestComplete (hs : r.stage = .settle) (hb : s.testBack r = true) : exec (.runtimeTestComplete dt) s =
    .next (if r.sys = .cs1 ∧ r.result = 1 then { s.pass dt with rt := some { r with stage := .gap, mark := s.now + dt } }
      else (s.pass dt).endTest r) := by
  have hx : exec (.runtimeTestComplete dt) s = execRuntimeTestComplete dt s := rfl
  have hb' : (s.pass dt).testBack r = true := hb
  rw [hx, execRuntimeTestComplete, State.pass_rt, hr]
  exact State.when_true (by simp [hs, hb'])

theorem exec_runtimeTestCs2Start (hs : r.stage = .gap) (hd : r.mark + 100000000 ≤ s.now + dt) :
    exec (.runtimeTestCs2Start dt) s = .next ((s.pass dt).beginTest r.port .cs2) := by
  have hx : exec (.runtimeTestCs2Start dt) s = execRuntimeTestCs2Start dt s := rfl
  rw [hx, execRuntimeTestCs2Start, State.pass_rt, hr]
  exact State.when_true (decide_eq_true ⟨hs, hd⟩)

end

/-- R66: a test of the second system that is not abandoned leaves its result and ends OVERDUE. -/
theorem RunTest.close_cs2 {r : RunTest} (now : Nat) (p : Port) (hs : r.sys = .cs2) (hr : r.result ≠ 4) :
    r.close now p = { p with testRes := r.result, lastTest := some now, overdue := false } := by
  have hc : r.sys = .cs2 ∧ r.result ≠ 4 := ⟨hs, hr⟩
  rw [RunTest.close, if_neg hr, if_pos hc, decide_eq_true hc, Bool.not_true, Bool.and_false]

end Sys2Proof.Machine

open Sys2Proof Sys2Proof.Machine

/-- Settles O17: every clause is one stage of a test, and each changes the test record, the tested port or the tested channel by its
rule; a step outside its limits is a failure of the point (`State.prtFault_failPoint`). -/
theorem runTimePortTests : Obligations.RunTimePortTests := by
  unfold Obligations.RunTimePortTests
  refine ⟨fun s dt n b h ha hq hd => ?_, fun s n h => s.pickPort_spec h, fun s dt n hp hr hn hu hm => ?_,
    fun s dt r hr hs hd => ?_, fun s dt r hr hs hd => ?_, fun s dt r hr hs hd => exec_runtimeTestSinkStep dt hr hs hd,
    fun s dt r hr hs hd hA hB => exec_runtimeTestSinkOff_pass dt hr hs hd (by rw [RunTest.stepsPass, hA, hB]; rfl),
    fun s dt r hr hs hd hp => runtimeTestSinkOff_fail dt hr hs hd (Bool.and_eq_false_iff.2 hp), fun s dt r hr hs hd => ?_,
    fun s dt r hr hs hb hsys hres => ?_, fun s dt r hr hs hb hsys hres => ?_, fun s dt r hr hs hd => ?_,
    fun s dt n h ha ho hd => ?_⟩
  · obtain ⟨hoth, hframe, hport⟩ := (s.pass dt).modPort_spec n (fun p => { p with eligible := true })
    exact ⟨_, exec_portTestEligible dt h ha hq hd, hoth, hframe, hport⟩
  · exact ⟨_, _, exec_runtimeTestStart dt hp hr hn hu hm, upd_othersSame _ _ _, rfl, upd_get_same _ _ _, rfl, rfl, rfl, rfl, rfl,
      rfl, rfl⟩
  · rw [exec_runtimeTestWindowOpen dt hr (.inl ⟨hs, hd⟩), hs]
    rfl
  · rw [exec_runtimeTestWindowOpen dt hr (.inr ⟨hs, hd⟩), hs]
    rfl
  · exact ⟨_, exec_runtimeTestSettle dt hr hs hd, upd_othersSame _ _ _, rfl, upd_get_same _ _ _⟩
  · rw [exec_runtimeTestComplete dt hr hs hb, if_pos ⟨hsys, hres⟩]
  · rw [exec_runtimeTestComplete dt hr hs hb, if_neg (by simp [hsys]), State.endTest_eq]
    exact ⟨_, rfl, upd_othersSame _ _ _, rfl, (upd_get_same _ _ _).trans (RunTest.close_cs2 _ _ hsys hres)⟩
  · exact ⟨_, _, exec_runtimeTestCs2Start dt hr hs hd, rfl, rfl, rfl, rfl, rfl⟩
  · let u := (s.pass dt).modPort n (fun p => { p with overdue := true })
    have hports : (u.fault 0x0208 n.val).ports = u.ports := State.fault_ports u _ _
    refine ⟨_, exec_runtimeTestOverdue dt h ha ho hd, ?_, ?_, ?_,
      State.fault_lastFault u _ _ (by decide) (by decide) (by decide) (by omega)⟩
    · rw [hports]
      exact upd_othersSame _ _ _
    · rw [hports]
      exact u.fault_same _ _
    · rw [hports]
      exact upd_get_same _ _ _

end

section
/-! PROOFS. Loopbacks of a port and of its detection unit (R69 to R71, R103, R104, R291). -/

namespace Sys2Proof.Machine

/-! ### Logging on top of a change -/

theorem State.SameButLog.withEngines {s t : State} (h : s.SameButLog t) (w : Vector Engine 4) :
    ({ s with engines := w } : State).SameButLog { t with engines := w } := by
  unfold State.SameButLog at h ⊢
  rw [h]

theorem State.SameButLog.withChans {s t : State} (h : s.SameButLog t) (v : Vector Chan 128) :
    ({ s with chans := v } : State).SameButLog { t with chans := v } := by
  unfold State.SameButLog at h ⊢
  rw [h]

/-- A bit of FLT_FAULT is set. -/
def Chan.markFault (bit : Nat) (c : Chan) : Chan := { c with fault := setBit c.fault bit }

theorem State.fltFault_spec (s : State) (c : Fin 128) (bit : Nat) {code : Nat} (h5 : code ≠ 0x0605) (h3 : code ≠ 0x0703)
    (hc : code < 65536) : (s.fltFault c bit code).chans = upd s.chans c (Chan.markFault bit) ∧
    ({ s with chans := (s.fltFault c bit code).chans } : State).SameButLog (s.fltFault c bit code) ∧
    (s.fltFault c bit code).lastFault code c.val := by
  let u := s.modChan c (Chan.markFault bit)
  have hchans : (s.fltFault c bit code).chans = upd s.chans c (Chan.markFault bit) := State.fault_chans u code c.val
  refine ⟨hchans, ?_, State.fault_lastFault u code c.val h5 h3 hc (by omega)⟩
  rw [hchans]
  exact u.fault_same code c.val

/-! ### The two channels of a port -/

@[simp] theorem portOf_chanOf (n : Fin 64) (y : Sys) : portOf (chanOf n y) = n := by
  cases y <;> exact Fin.ext (by simp only [portOf, chanOf]; omega)

/-- A port has the two channels of its systems and no other. -/
theorem portOf_eq_iff {c : Fin 128} {n : Fin 64} : portOf c = n ↔ c = chanOf n .cs1 ∨ c = chanOf n .cs2 := by
  simp only [portOf, chanOf, Fin.ext_iff]
  omega

theorem chanOf_cs2_ne_cs1 (n : Fin 64) : chanOf n .cs2 ≠ chanOf n .cs1 := by
  simp only [chanOf, ne_eq, Fin.ext_iff]
  omega

/-- Both channels of a port change by one rule. -/
def State.modPair (s : State) (n : Fin 64) (f : Chan → Chan) : State := (s.modChan (chanOf n .cs1) f).modChan (chanOf n .cs2) f

theorem State.modPair_get (s : State) (n : Fin 64) (f : Chan → Chan) (c : Fin 128) :
    (s.modPair n f).chans[c] = if portOf c = n then f s.chans[c] else s.chans[c] := by
  have h : (s.modPair n f).chans = upd (upd s.chans (chanOf n .cs1) f) (chanOf n .cs2) f := rfl
  rw [h, upd_get, upd_get]
  by_cases h2 : c = chanOf n .cs2
  · subst h2
    rw [if_pos rfl, if_neg (chanOf_cs2_ne_cs1 n), portOf_chanOf, if_pos rfl]
  · rw [if_neg h2]
    exact if_congr (by simp [portOf_eq_iff, h2]) rfl rfl

/-! ### LB0 and LB1 (R69 to R71) -/

/-- A step of a loopback has ended with this judgement. -/
def PortLb.next (ok : Bool) (l : PortLb) : PortLb := { l with phase := l.phase + 1, ok := l.ok && ok }

theorem State.stepLoop_eq {s : State} {n : Fin 64} {l : PortLb} (hl : (s.ports[n]).lb = some l) (ok : Bool) :
    s.stepLoop n ok = s.modPort n (fun p => { p with lb := some (l.next ok) }) :=
  State.modPort_congr (by rw [hl]; rfl)

theorem State.loopStepDue_eq {s : State} {n : Fin 64} {l : PortLb} {k : LbKind} {steps : Nat} (h : s.inReset = false)
    (hl : (s.ports[n]).lb = some l) (hk : l.kind = k) (hp : l.phase < steps) (hd : l.begin + 20000000 * (l.phase + 1) ≤ s.now) :
    s.loopStepDue n k steps = some l := by
  unfold State.loopStepDue
  rw [hl]
  exact if_pos ⟨hk, hp, hd, h⟩

theorem exec_lb0Step {s : State} (dt : Nat) {n : Fin 64} {l : PortLb} (h : s.inReset = false) (hl : (s.ports[n]).lb = some l)
    (hk : l.kind = .lb0) (hp : l.phase < 3) (hd : l.begin + 20000000 * (l.phase + 1) ≤ s.now + dt) : exec (.lb0Step dt n) s =
      .next ((s.pass dt).modPort n (fun p => { p with lb := some (l.next
        (s.tapsNear n (lb0Current l.phase * 65536) ((lb0Current l.phase / 100 + 5000) * 65536))) })) := by
  have hx : exec (.lb0Step dt n) s = execLb0Step dt n s := rfl
  rw [hx, execLb0Step, State.loopStepDue_eq (s := s.pass dt) h hl hk hp hd, ← State.stepLoop_eq (s := s.pass dt) hl]
  rfl

theorem exec_lb1Step {s : State} (dt : Nat) {n : Fin 64} {l : PortLb} (h : s.inReset = false) (hl : (s.ports[n]).lb = some l)
    (hk : l.kind = .lb1) (hp : l.phase < 2) (hd : l.begin + 20000000 * (l.phase + 1) ≤ s.now + dt) : exec (.lb1Step dt n) s =
      .next ((s.pass dt).modPort n (fun p => { p with lb := some (l.next
        (s.tapsNear n (if l.phase = 0 then 0 else 2 ^ 39 * 9 / 10) (2 ^ 39 / 500))) })) := by
  have hx : exec (.lb1Step dt n) s = execLb1Step dt n s := rfl
  rw [hx, execLb1Step, State.loopStepDue_eq (s := s.pass dt) h hl hk hp hd, ← State.stepLoop_eq (s := s.pass dt) hl]
  rfl

/-- R71: what the end of a port loopback leaves, whatever its verdict. -/
theorem State.endPortLoop_spec (s : State) (n : Fin 64) :
    s.endPortLoop n = { s with ports := (s.endPortLoop n).ports, chans := (s.endPortLoop n).chans,
                               engines := (s.endPortLoop n).engines } ∧
    (s.endPortLoop n).ports = upd s.ports n (fun p => { p with lb := none }) ∧
    (∀ c : Fin 128, (s.endPortLoop n).chans[c] = if portOf c = n then (s.chans[c]).enterScm else s.chans[c]) ∧
    s.pointPosted (s.endPortLoop n) (.loop n false false) :=
  ⟨rfl, rfl, fun c => (s.modPort n (fun p => { p with lb := none })).modPair_get n Chan.enterScm c,
    State.postPoint_pointPosted ((s.modPort n (fun p => { p with lb := none })).scmPort n) (.loop n false false)⟩

/-- Beside ports, channels and journals, a change on top of logging leaves the log alone. -/
theorem State.SameButLog.thenPortLoop {s u t : State} (h : s.SameButLog u)
    (ht : t = { u with ports := t.ports, chans := t.chans, engines := t.engines }) :
    ({ s with ports := t.ports, chans := t.chans, engines := t.engines } : State).SameButLog t := by
  have h' := (h.withChansEngines t.chans t.engines).withPortsEngines t.ports t.engines
  rwa [← ht] at h'

/-- The verdict of LB0 or LB1 enters the conditions of the port. -/
def Port.lbVerdict (k : LbKind) (fail : Bool) (p : Port) : Port :=
  if k = .lb0 then { p with lb0Fail := fail } else { p with lb1Fail := fail }

theorem exec_portLoopbackEnd {s : State} (dt : Nat) {n : Fin 64} {l : PortLb} (h : s.inReset = false) (hl : (s.ports[n]).lb = some l)
    (hk : (l.kind = .lb0 ∧ l.phase = 3) ∨ (l.kind = .lb1 ∧ l.phase = 2)) : exec (.portLoopbackEnd dt n) s = .next
      (if (s.pass dt).overlapsSuspect n l.begin then (s.pass dt).endPortLoop n
       else
        if l.ok then (((s.pass dt).endPortLoop n).modPort n (Port.lbVerdict l.kind (!l.ok))).settleFail n
        else ((((s.pass dt).endPortLoop n).modPort n (Port.lbVerdict l.kind (!l.ok))).prtFault n 18 0x020A).failPoint n) := by
  have hx : exec (.portLoopbackEnd dt n) s = execPortLoopbackEnd dt n s := rfl
  rw [hx, execPortLoopbackEnd, State.pass_ports, hl]
  exact State.when_true (by rw [State.pass_inReset, h, decide_eq_true hk]; rfl)

/-- LB0 without a deviation. -/
theorem portLoopbackEnd_pass (s : State) (dt : Nat) (n : Fin 64) (l : PortLb) (h : s.inReset = false)
    (hl : (s.ports[n]).lb = some l) (hk : l.kind = .lb0) (hp : l.phase = 3) (hok : l.ok = true)
    (hs : (s.pass dt).overlapsSuspect n l.begin = false) (hf : (s.ports[n]).failed = false) :
    ∃ t, exec (.portLoopbackEnd dt n) s = .next t ∧ OthersSame s.ports t.ports n ∧
      t = { s.pass dt with ports := t.ports, chans := t.chans, engines := t.engines } ∧
      t.ports[n] = { s.ports[n] with lb := none, lb0Fail := false } ∧
      (∀ c : Fin 128, portOf c = n → t.chans[c] = (s.chans[c]).enterScm) ∧
      (∀ c : Fin 128, portOf c ≠ n → t.chans[c] = s.chans[c]) ∧ (s.pass dt).pointPosted t (.loop n false false) := by
  obtain ⟨_, hports, hchans, hpost⟩ := (s.pass dt).endPortLoop_spec n
  rw [exec_portLoopbackEnd dt h hl (.inl ⟨hk, hp⟩), hs, hok, hk]
  refine ⟨_, rfl, ?_, rfl, ?_, fun c hc => (hchans c).trans (if_pos hc), fun c hc => (hchans c).trans (if_neg hc), hpost⟩
  · exact ((upd_othersSame _ _ _).trans (upd_othersSame _ _ _)).trans (upd_othersSame _ _ _)
  · have hget : (upd (upd (upd s.ports n (fun p => { p with lb := none })) n (Port.lbVerdict .lb0 false)) n
        (Port.settle (s.now + dt)))[n] = (Port.lbVerdict .lb0 false { s.ports[n] with lb := none }).settle (s.now + dt) := by
      rw [upd_upd, upd_upd]
      exact upd_get_same _ _ _
    exact hget.trans (Port.settle_of_not_failed _ hf)

/-- LB1 with a deviation while the field bus is declared cut off. -/
theorem portLoopbackEnd_fail (s : State) (dt : Nat) (n : Fin 64) (l : PortLb) (h : s.inReset = false)
    (hl : (s.ports[n]).lb = some l) (hk : l.kind = .lb1) (hp : l.phase = 2) (hok : l.ok = false)
    (hs : (s.pass dt).overlapsSuspect n l.begin = false) (hcut : s.sup.cutDeclared = true) :
    ∃ t, exec (.portLoopbackEnd dt n) s = .next t ∧ OthersSame s.ports t.ports n ∧
      ({ s.pass dt with ports := t.ports, chans := t.chans, engines := t.engines } : State).SameButLog t ∧
      (t.ports[n]).lb = none ∧ (t.ports[n]).lb1Fail = true ∧ (t.ports[n]).failed = true ∧
      (t.ports[n]).fault = setBit (s.ports[n]).fault 18 ∧ t.lastFault 0x020A n.val ∧
      (s.pass dt).pointPosted t (.loop n false false) := by
  let u := ((s.pass dt).endPortLoop n).modPort n (Port.lbVerdict .lb1 true)
  obtain ⟨_, hports, _, hpost⟩ := (s.pass dt).endPortLoop_spec n
  obtain ⟨hoth, hframe, hport, hlog, _, hquiet⟩ := State.prtFault_failPoint u n 18 (code := 0x020A) (by decide) (by decide) (by decide)
  have hu : u.ports[n] = Port.lbVerdict .lb1 true { s.ports[n] with lb := none } :=
    (upd_get_same _ _ _).trans (congrArg _ (upd_get_same _ _ _))
  rw [hu] at hport
  rw [exec_portLoopbackEnd dt h hl (.inr ⟨hk, hp⟩), hs, hok, hk]
  refine ⟨_, rfl, ((upd_othersSame _ _ _).trans (upd_othersSame _ _ _)).trans hoth, ?_, ?_, ?_, ?_, ?_, hlog, fun e => ?_⟩
  · have hc := hframe.chans
    exact hc ▸ hframe
  · exact congrArg Port.lb hport
  · exact congrArg Port.lb1Fail hport
  · exact congrArg Port.failed hport
  · exact congrArg Port.fault hport
  · exact (congrArg (·[e]) (hquiet (.inl hcut))).trans (hpost e)

/-- R291: LB0 in an interval that overlaps a suspect one leaves no result. -/
theorem portLoopbackEnd_suspect (s : State) (dt : Nat) (n : Fin 64) (l : PortLb) (h : s.inReset = false)
    (hl : (s.ports[n]).lb = some l) (hk : l.kind = .lb0) (hp : l.phase = 3) (hs : (s.pass dt).overlapsSuspect n l.begin = true) :
    ∃ t, exec (.portLoopbackEnd dt n) s = .next t ∧ OthersSame s.ports t.ports n ∧
      t = { s.pass dt with ports := t.ports, chans := t.chans, engines := t.engines } ∧
      t.ports[n] = { s.ports[n] with lb := none } ∧ (s.pass dt).pointPosted t (.loop n false false) := by
  obtain ⟨hframe, hports, _, hpost⟩ := (s.pass dt).endPortLoop_spec n
  rw [exec_portLoopbackEnd dt h hl (.inl ⟨hk, hp⟩), hs, if_pos rfl]
  exact ⟨_, rfl, upd_othersSame _ _ _, hframe, upd_get_same _ _ _, hpost⟩

/-! ### LB2 (R103) -/

theorem State.lb2Of_chanOf {s : State} {n : Fin 64} {l : PortLb} (hl : (s.ports[n]).lb = some l) (hk : l.kind = .lb2) (y : Sys) :
    s.lb2Of (chanOf n y) = some l := by
  unfold State.lb2Of
  simp only [portOf_chanOf, hl]
  exact if_pos hk

/-- The complement of LB2's pattern begins on a channel. -/
def Chan.lb2Restart (c : Chan) : Chan := { c with lb2Mod := 0, lb2Out := 0 }

theorem exec_lb2PhaseChange {s : State} (dt : Nat) {n : Fin 64} {l : PortLb} (h : s.inReset = false)
    (hl : (s.ports[n]).lb = some l) (hk : l.kind = .lb2) (hp : l.phase = 0) (hd : l.begin + 10000000 ≤ s.now + dt) :
    exec (.lb2PhaseChange dt n) s =
      .next (((s.pass dt).modPort n (fun p => { p with lb := some { l with phase := 1 } })).modPair n Chan.lb2Restart) := by
  have hx : exec (.lb2PhaseChange dt n) s = execLb2PhaseChange dt n s := rfl
  rw [hx, execLb2PhaseChange, State.lb2Of_chanOf (s := s.pass dt) hl hk]
  exact State.when_true (by rw [State.pass_inReset, h, decide_eq_true (p := _ ∧ _ ≤ (s.pass dt).now) ⟨hp, hd⟩]; rfl)

/-- A channel gets its result of LB2. -/
def Chan.lb2Result (res : BitVec 4) (c : Chan) : Chan := { c with lb2Res := res }

theorem State.lb2Judge_pass {s : State} {c : Fin 128} (h : (s.chans[c]).lb2Bad = false) :
    s.lb2Judge c = s.modChan c (Chan.lb2Result 1) := by
  unfold State.lb2Judge
  rw [h]
  rfl

theorem State.lb2Judge_fail {s : State} {c : Fin 128} (h : (s.chans[c]).lb2Bad = true) :
    s.lb2Judge c = (s.modChan c (Chan.lb2Result 2)).fltFault c 4 0x0410 := by
  unfold State.lb2Judge
  rw [h]
  rfl

/-- The state in which LB2 has found a deviation on the first system of a port alone. -/
def State.lb2FailedCs1 (s : State) (n : Fin 64) : State :=
  ((s.modChan (chanOf n .cs1) (Chan.lb2Result 2)).fltFault (chanOf n .cs1) 4 0x0410).modChan (chanOf n .cs2) (Chan.lb2Result 1)

theorem State.lb2FailedCs1_spec (s : State) (n : Fin 64) :
    ({ s with chans := (s.lb2FailedCs1 n).chans } : State).SameButLog (s.lb2FailedCs1 n) ∧
    (s.lb2FailedCs1 n).chans[chanOf n .cs1] = ((s.chans[chanOf n .cs1]).lb2Result 2).markFault 4 ∧
    (s.lb2FailedCs1 n).chans[chanOf n .cs2] = (s.chans[chanOf n .cs2]).lb2Result 1 ∧
    (s.lb2FailedCs1 n).lastFault 0x0410 (chanOf n .cs1).val := by
  have hne := chanOf_cs2_ne_cs1 n
  obtain ⟨hchans, hsame, hlog⟩ := (s.modChan (chanOf n .cs1) (Chan.lb2Result 2)).fltFault_spec (chanOf n .cs1) 4 (code := 0x0410)
    (by decide) (by decide) (by decide)
  unfold State.lb2FailedCs1
  refine ⟨hsame.withChans _, ?_, ?_, hlog⟩
  · rw [State.modChan_chans, upd_get_ne _ _ _ _ hne.symm, hchans, upd_get_same, State.modChan_chans, upd_get_same]
  · rw [State.modChan_chans, upd_get_same, hchans, upd_get_ne _ _ _ _ hne, State.modChan_chans, upd_get_ne _ _ _ _ hne]

theorem State.lb2Judge_failCs1 {s : State} {n : Fin 64} (h1 : (s.chans[chanOf n .cs1]).lb2Bad = true)
    (h2 : (s.chans[chanOf n .cs2]).lb2Bad = false) :
    (s.lb2Judge (chanOf n .cs1)).lb2Judge (chanOf n .cs2) = s.lb2FailedCs1 n := by
  have hne := chanOf_cs2_ne_cs1 n
  obtain ⟨hchans, _, _⟩ := (s.modChan (chanOf n .cs1) (Chan.lb2Result 2)).fltFault_spec (chanOf n .cs1) 4 (code := 0x0410)
    (by decide) (by decide) (by decide)
  rw [State.lb2Judge_fail h1]
  refine State.lb2Judge_pass ?_
  rw [hchans, upd_get_ne _ _ _ _ hne, State.modChan_chans, upd_get_ne _ _ _ _ hne]
  exact h2

/-- The end of LB2 after a deviation, which the engines hear of. -/
theorem State.loopFail_endPortLoop_spec (s : State) (n : Fin 64) {t : State} (h : (s.postPoint (.loopFail n)).endPortLoop n = t) :
    t = { s with ports := t.ports, chans := t.chans, engines := t.engines } ∧
    t.ports[n] = { s.ports[n] with lb := none } ∧ ∀ y : Sys, t.chans[chanOf n y] = (s.chans[chanOf n y]).enterScm := by
  obtain ⟨hframe, hports, hchans, _⟩ := (s.postPoint (.loopFail n)).endPortLoop_spec n
  rw [h] at hframe hports hchans
  refine ⟨?_, ?_, fun y => (hchans _).trans (if_pos (portOf_chanOf n y))⟩
  · rw [hframe, State.postPoint_frame (fun _ => rfl)]
  · rw [hports]
    exact upd_get_same _ _ _

section
variable {s : State} (dt : Nat) {n : Fin 64} {l : PortLb} (h : s.inReset = false) (hl : (s.ports[n]).lb = some l)
  (hk : l.kind = .lb2) (hp : l.phase = 1) (hd : l.begin + 20000000 ≤ s.now + dt)
  (hs : (s.pass dt).overlapsSuspect n l.begin = false)
include h hl hk hp hd hs

theorem exec_lb2End : exec (.lb2End dt n) s = .next
    ((if (s.chans[chanOf n .cs1]).lb2Bad || (s.chans[chanOf n .cs2]).lb2Bad then
      (((s.pass dt).lb2Judge (chanOf n .cs1)).lb2Judge (chanOf n .cs2)).postPoint (.loopFail n)
      else ((s.pass dt).lb2Judge (chanOf n .cs1)).lb2Judge (chanOf n .cs2)).endPortLoop n) := by
  have hx : exec (.lb2End dt n) s = execLb2End dt n s := rfl
  rw [hx, execLb2End, State.lb2Of_chanOf (s := s.pass dt) hl hk]
  refine (State.when_true ?_).trans ?_
  · rw [State.pass_inReset, h, decide_eq_true (p := _ ∧ _ ≤ (s.pass dt).now) ⟨hp, hd⟩]
    rfl
  · rw [hs]
    rfl

/-- LB2 without a deviation. -/
theorem lb2End_pass (h1 : (s.chans[chanOf n .cs1]).lb2Bad = false) (h2 : (s.chans[chanOf n .cs2]).lb2Bad = false) :
    ∃ t, exec (.lb2End dt n) s = .next t ∧ OthersSame s.ports t.ports n ∧
      t = { s.pass dt with ports := t.ports, chans := t.chans, engines := t.engines } ∧
      t.ports[n] = { s.ports[n] with lb := none } ∧
      (∀ c : Fin 128, portOf c = n → t.chans[c] = ({ s.chans[c] with lb2Res := 1 } : Chan).enterScm) ∧
      (∀ c : Fin 128, portOf c ≠ n → t.chans[c] = s.chans[c]) ∧ (s.pass dt).pointPosted t (.loop n false false) := by
  have h2' : (((s.pass dt).modChan (chanOf n .cs1) (Chan.lb2Result 1)).chans[chanOf n .cs2]).lb2Bad = false :=
    (congrArg Chan.lb2Bad (upd_get_ne _ _ _ _ (chanOf_cs2_ne_cs1 n))).trans h2
  let u := (s.pass dt).modPair n (Chan.lb2Result 1)
  have hres (c : Fin 128) := (s.pass dt).modPair_get n (Chan.lb2Result 1) c
  obtain ⟨hframe, hports, hchans, hpost⟩ := u.endPortLoop_spec n
  rw [exec_lb2End dt h hl hk hp hd hs, h1, h2, State.lb2Judge_pass (s := s.pass dt) h1, State.lb2Judge_pass h2']
  refine ⟨u.endPortLoop n, rfl, upd_othersSame _ _ _, hframe, upd_get_same _ _ _, fun c hc => ?_, fun c hc => ?_, hpost⟩
  · rw [hchans, if_pos hc, hres, if_pos hc]
    rfl
  · rw [hchans, if_neg hc, hres, if_neg hc]
    rfl

/-- LB2 with a deviation on the first system. -/
theorem lb2End_fail (h1 : (s.chans[chanOf n .cs1]).lb2Bad = true) (h2 : (s.chans[chanOf n .cs2]).lb2Bad = false) :
    ∃ t, exec (.lb2End dt n) s = .next t ∧
      ({ s.pass dt with ports := t.ports, chans := t.chans, engines := t.engines } : State).SameButLog t ∧
      (t.ports[n]).lb = none ∧ (t.chans[chanOf n .cs1]).lb2Res = 2 ∧ (t.chans[chanOf n .cs2]).lb2Res = 1 ∧
      (t.chans[chanOf n .cs1]).fault = setBit (s.chans[chanOf n .cs1]).fault 4 ∧
      t.lastFault 0x0410 (chanOf n .cs1).val := by
  obtain ⟨hsame, hc1, hc2, hlog⟩ := (s.pass dt).lb2FailedCs1_spec n
  rw [exec_lb2End dt h hl hk hp hd hs, h1, h2, State.lb2Judge_failCs1 (s := s.pass dt) h1 h2, Bool.true_or, if_pos rfl]
  generalize (s.pass dt).lb2FailedCs1 n = u at hsame hc1 hc2 hlog ⊢
  generalize ht : (u.postPoint (.loopFail n)).endPortLoop n = t
  obtain ⟨hframe, hport, hchans⟩ := u.loopFail_endPortLoop_spec n ht
  refine ⟨t, rfl, hsame.thenPortLoop hframe, ?_, ?_, ?_, ?_, hlog.congr (by rw [hframe])⟩
  · rw [hport]
  · rw [hchans, hc1]
    rfl
  · rw [hchans, hc2]
    rfl
  · rw [hchans, hc1]
    rfl

end

/-! ### LB3 (R104) -/

theorem exec_lb3Run {s : State} (dt : Nat) {n : Fin 64} {l : Lb3} (h : s.inReset = false) (hl : (s.wdus[n]).lb3 = some l)
    (hr : l.run < 3) (hd : l.begin + lb3RunNs (s.spacingOf n) l.run + 100000000 ≤ s.now + dt) : exec (.lb3Run dt n) s =
      .next ((s.pass dt).modWdu n (fun w => { w with lb3 := some { l with run := l.run + 1, begin := s.now + dt, k := 0 } })) := by
  have hx : exec (.lb3Run dt n) s = execLb3Run dt n s := rfl
  rw [hx, execLb3Run, State.pass_wdus, hl]
  exact State.when_true (by
    rw [State.pass_inReset, h,
      decide_eq_true (p := _ ∧ l.begin + lb3RunNs ((s.pass dt).spacingOf n) l.run + _ ≤ (s.pass dt).now) ⟨hr, hd⟩]; rfl)

/-- LB3 has ended on a detection unit with its verdict. -/
def Wdu.endLb3 (l : Lb3) (w : Wdu) : Wdu :=
  { w with lb3 := none, lb3Res := l.verdict, lb3Speed := (l.res1.head?.map AxleRec.speed).getD 0 }

theorem exec_lb3End {s : State} (dt : Nat) {n : Fin 64} {l : Lb3} (h : s.inReset = false) (hl : (s.wdus[n]).lb3 = some l)
    (hr : l.run = 3) (hd : l.begin + 150000000 ≤ s.now + dt) : exec (.lb3End dt n) s =
      .next (if l.verdict = 1 then (s.pass dt).modWdu n (Wdu.endLb3 l)
        else (((s.pass dt).modWdu n (Wdu.endLb3 l)).wduFault n 4 0x0511).postPoint (.loopFail n)) := by
  have hx : exec (.lb3End dt n) s = execLb3End dt n s := rfl
  rw [hx, execLb3End, State.pass_wdus, hl]
  exact State.when_true (by
    rw [State.pass_inReset, h,
      decide_eq_true (p := _ ∧ l.begin + lb3RunNs ((s.pass dt).spacingOf n) 3 ≤ (s.pass dt).now) ⟨hr, hd⟩]; rfl)

/-- LB3 that fails: 0511h and the engines' item, and the live context as it was. -/
theorem lb3End_fail (s : State) (dt : Nat) (n : Fin 64) (l : Lb3) (h : s.inReset = false) (hl : (s.wdus[n]).lb3 = some l)
    (hr : l.run = 3) (hd : l.begin + 150000000 ≤ s.now + dt) (hv : l.verdict ≠ 1) :
    ∃ t, exec (.lb3End dt n) s = .next t ∧ OthersSame s.wdus t.wdus n ∧
      ({ s.pass dt with wdus := t.wdus, engines := t.engines } : State).SameButLog t ∧
      (t.wdus[n]).lb3 = none ∧ (t.wdus[n]).lb3Res = l.verdict ∧ (t.wdus[n]).ctx = (s.wdus[n]).ctx ∧
      (t.wdus[n]).fault = setBit (s.wdus[n]).fault 4 ∧ t.lastFault 0x0511 n.val ∧ (s.pass dt).pointPosted t (.loopFail n) := by
  let u := ((s.pass dt).modWdu n (Wdu.endLb3 l)).modWdu n (fun w => { w with fault := setBit w.fault 4 })
  have hsame : u.SameButLog (u.fault 0x0511 n.val) := u.fault_same _ _
  have hwdus : ((u.fault 0x0511 n.val).postPoint (.loopFail n)).wdus = u.wdus := hsame.wdus
  have hget : ((u.fault 0x0511 n.val).postPoint (.loopFail n)).wdus[n] =
      { (s.wdus[n]).endLb3 l with fault := setBit (s.wdus[n]).fault 4 } := by
    rw [hwdus]
    exact (upd_get_same _ _ _).trans (by rw [State.modWdu_wdus, upd_get_same]; rfl)
  rw [exec_lb3End dt h hl hr hd, if_neg hv]
  refine ⟨(u.fault 0x0511 n.val).postPoint (.loopFail n), rfl, ?_, ?_, by rw [hget]; rfl, by rw [hget]; rfl,
    by rw [hget]; rfl, by rw [hget],
    State.fault_lastFault u _ _ (by decide) (by decide) (by decide) (by omega), fun e => ?_⟩
  · rw [hwdus]
    exact (upd_othersSame _ _ _).trans (upd_othersSame _ _ _)
  · rw [hwdus]
    exact hsame.withEngines _
  · refine (State.postPoint_pointPosted (u.fault 0x0511 n.val) (.loopFail n) e).trans ?_
    rw [hsame.engines, State.late_congr hsame.clk]
    rfl

/-- R104: LB3 passes with one certain record in each direction, both at the speed of the stimulus. -/
theorem Lb3.verdict_eq_one_iff {l : Lb3} {a b : AxleRec} (h1 : l.res1 = [a]) (h2 : l.res2 = [b]) (h3 : l.res3 = []) :
    l.verdict = 1 ↔ a.uncertain = false ∧ b.uncertain = false ∧ a.dir = 1 ∧ b.dir = 2 ∧
      396 ≤ a.speed.toNat ∧ a.speed.toNat ≤ 404 ∧ 396 ≤ b.speed.toNat ∧ b.speed.toNat ≤ 404 := by
  unfold Lb3.verdict
  rw [h1, h2, h3]
  dsimp only
  split
  · rename_i hu
    simp only [BitVec.reduceEq, false_iff]
    rintro ⟨ha, hb, _⟩
    simp [ha, hb] at hu
  · rename_i hu
    split
    · rename_i hdir
      simp only [BitVec.reduceEq, false_iff]
      rintro ⟨_, _, ha, hb, _⟩
      exact hdir.elim (· ha) (· hb)
    · rename_i hdir
      split
      · simp only [BitVec.reduceEq, false_iff]
        omega
      · simp only [not_or, Bool.not_eq_true, ne_eq, not_not] at hu hdir
        exact iff_of_true rfl ⟨hu.1, hu.2, hdir.1, hdir.2, by omega⟩

end Sys2Proof.Machine

open Sys2Proof Sys2Proof.Machine

/-- Settles O18: a port loopback changes its port and the two channels of it (`State.modPair`), and ends by `State.endPortLoop_spec`
whatever its verdict; LB3 changes its detection unit. That LB0 and LB1 are judged on the newest absolute tap is the model's choice
(log 68). -/
theorem loopbacksLb0ToLb3 : Obligations.LoopbacksLb0ToLb3 := by
  unfold Obligations.LoopbacksLb0ToLb3
  refine ⟨fun s dt n l h hl hk hp hd => ?_, fun s dt n l h hl hk hp hd => ?_, portLoopbackEnd_pass, portLoopbackEnd_fail,
    portLoopbackEnd_suspect, fun s dt n l h hl hk hp hd => ?_,
    fun s dt n l h hl hk hp hd hs h1 h2 => lb2End_pass dt h hl hk hp hd hs h1 h2,
    fun s dt n l h hl hk hp hd hs h1 h2 => lb2End_fail dt h hl hk hp hd hs h1 h2,
    fun s dt n l h hl hr hd => ?_, fun s dt n l h hl hr hd hv => ?_, lb3End_fail,
    fun l a b h1 h2 h3 => Lb3.verdict_eq_one_iff h1 h2 h3⟩
  · obtain ⟨hoth, hframe, hport⟩ := (s.pass dt).modPort_spec n (fun p => { p with lb := some (l.next
      (s.tapsNear n (lb0Current l.phase * 65536) ((lb0Current l.phase / 100 + 5000) * 65536))) })
    exact ⟨_, exec_lb0Step dt h hl hk hp hd, hoth, hframe, hport⟩
  · rw [exec_lb1Step dt h hl hk hp hd]
    obtain ⟨hoth, hframe, hport⟩ := (s.pass dt).modPort_spec n (fun p => { p with lb := some (l.next
      (s.tapsNear n (if l.phase = 0 then 0 else 2 ^ 39 * 9 / 10) (2 ^ 39 / 500))) })
    refine ⟨_, rfl, hoth, hframe, fun h0 => ?_, fun h1 => ?_⟩
    · rw [hport, if_pos h0, PortLb.next, h0]
      rfl
    · rw [hport, if_neg (by omega), PortLb.next, h1]
      rfl
  · have hget (c : Fin 128) := ((s.pass dt).modPort n (fun p => { p with lb := some { l with phase := 1 } })).modPair_get n
      Chan.lb2Restart c
    exact ⟨_, exec_lb2PhaseChange dt h hl hk hp hd, upd_othersSame _ _ _, rfl, upd_get_same _ _ _,
      fun c hc => (hget c).trans (if_pos hc), fun c hc => (hget c).trans (if_neg hc)⟩
  · obtain ⟨hoth, hframe, hwdu⟩ := (s.pass dt).modWdu_spec n
      (fun w => { w with lb3 := some { l with run := l.run + 1, begin := s.now + dt, k := 0 } })
    exact ⟨_, exec_lb3Run dt h hl hr hd, hoth, hframe, hwdu⟩
  · obtain ⟨hoth, hframe, hwdu⟩ := (s.pass dt).modWdu_spec n (Wdu.endLb3 l)
    rw [exec_lb3End dt h hl hr hd, if_pos hv]
    refine ⟨_, rfl, hoth, hframe, fun a b ha hb => ?_⟩
    rw [hwdu, Wdu.endLb3, hv, ha]
    rfl

end

section
/-! PROOFS. The SAR conversion of a frame (R52, R60, R75). -/

namespace Sys2Proof.Machine

/-! ### Several ports, one after the other -/

/-- `t` is `s` but for ports, the engines' journals and the log. -/
def State.PortsOnly (s t : State) : Prop := ({ s with ports := t.ports, engines := t.engines } : State).SameButLog t

theorem State.PortsOnly.refl (s : State) : s.PortsOnly s := rfl

theorem State.PortsOnly.trans {s t u : State} (h : s.PortsOnly t) (k : t.PortsOnly u) : s.PortsOnly u :=
  (State.SameButLog.withPortsEngines h u.ports u.engines).trans k

/-- Steps that change one port each, by a rule of the first state, change several ports by it. -/
theorem foldl_portsOnly {s : State} {step : State → Fin 64 → State} {rule : Fin 64 → Port → Port}
    (hs : ∀ t n, s.PortsOnly t → (step t n).ports = upd t.ports n (rule n) ∧ t.PortsOnly (step t n)) (l : List (Fin 64)) :
    ∀ t, s.PortsOnly t →
      (l.foldl step t).ports = l.foldl (fun v n => upd v n (rule n)) t.ports ∧ s.PortsOnly (l.foldl step t) := by
  induction l with
  | nil => intro t ht; exact ⟨rfl, ht⟩
  | cons a l ih =>
    intro t ht
    obtain ⟨hports, hstep⟩ := hs t a ht
    obtain ⟨hl, hrest⟩ := ih (step t a) (ht.trans hstep)
    exact ⟨by rw [List.foldl_cons, List.foldl_cons, hl, hports], hrest⟩

theorem foldl_portsOnly_all {s : State} {step : State → Fin 64 → State} {rule : Fin 64 → Port → Port}
    (hs : ∀ t n, s.PortsOnly t → (step t n).ports = upd t.ports n (rule n) ∧ t.PortsOnly (step t n)) :
    (∀ n : Fin 64, ((allFin 64).foldl step s).ports[n] = rule n s.ports[n]) ∧ s.PortsOnly ((allFin 64).foldl step s) := by
  obtain ⟨hports, hsame⟩ := foldl_portsOnly hs (allFin 64) s (State.PortsOnly.refl s)
  refine ⟨fun n => ?_, hsame⟩
  rw [hports, foldl_upd_get rule n (allFin 64) s.ports (allFin_nodup 64), if_pos (mem_allFin n)]

/-- A fault of a port that fails its point, as a change of ports. -/
theorem State.prtFault_failPoint_ports (s : State) (n : Fin 64) (bit : Nat) {code : Nat} (h5 : code ≠ 0x0605) (h3 : code ≠ 0x0703)
    (hc : code < 65536) : ((s.prtFault n bit code).failPoint n).ports = upd s.ports n (fun p => (p.markFault bit).fail s.now) ∧
    s.PortsOnly ((s.prtFault n bit code).failPoint n) := by
  obtain ⟨hoth, hframe, hport, _, _, _⟩ := s.prtFault_failPoint n bit h5 h3 hc
  refine ⟨Vector.ext fun i hi => ?_, hframe⟩
  by_cases hk : (⟨i, hi⟩ : Fin 64) = n
  · subst hk
    exact hport.trans (upd_get_same s.ports ⟨i, hi⟩ (fun p => (p.markFault bit).fail s.now)).symm
  · exact (hoth ⟨i, hi⟩ hk).trans (upd_get_ne _ _ _ _ hk).symm

/-- The end of a condition touches the end of the failure alone. -/
theorem Port.settle_eq (now : Nat) (p : Port) : ∃ e, p.settle now = { p with failEnd := e } := by
  unfold Port.settle
  split
  · split <;> exact ⟨_, rfl⟩
  · exact ⟨_, rfl⟩

theorem getLsbD_setBit {w : Word} {i : Nat} (h : i < 32) : (setBit w i).getLsbD i = true := by
  have hone : (BitVec.ofNat 32 (1 <<< i)).getLsbD i = true := by
    rw [BitVec.getLsbD_ofNat, decide_eq_true h, Nat.testBit_shiftLeft]
    simp
  exact (BitVec.getLsbD_or ..).trans ((congrArg (w.getLsbD i || ·) hone).trans (Bool.or_true _))

/-! ### One conversion of one port -/

theorem Port.convert_sar (slot : Fin 4) (code : BitVec 12) (sign : Int) (judge : Bool) (now : Nat) (p : Port) :
    (p.convert slot code sign judge now).sar = p.sar.set slot.val code ∧
    (p.convert slot code sign judge now).sarCount = p.sarCount + 1 := by
  unfold Port.convert
  dsimp only
  split
  · split <;> exact ⟨rfl, rfl⟩
  · exact ⟨rfl, rfl⟩

/-- The slots of other inputs leave the supply's judgement. -/
theorem Port.convert_other {slot : Fin 4} (h : slot ≠ 2) (code : BitVec 12) (sign : Int) (judge : Bool) (now : Nat) (p : Port) :
    (p.convert slot code sign judge now).pulseBad = p.pulseBad ∧ (p.convert slot code sign judge now).supplyPrev = p.supplyPrev ∧
    (p.convert slot code sign judge now).pulseFault = p.pulseFault := by
  unfold Port.convert
  dsimp only
  rw [if_neg h]
  exact ⟨rfl, rfl, rfl⟩

/-- How far a supply reading lies off the chip in force, around the voltage that the regulator holds, in 1/1,280 V (R60). -/
def Port.pulseOff (code : BitVec 12) (sign : Int) (now : Nat) (p : Port) : Nat :=
  (10 * (code.toNat : Int) - p.ramped now - 1280 * sign).natAbs

/-- R60: a supply reading that is judged. -/
theorem Port.convert_judged (code : BitVec 12) (sign : Int) (now : Nat) (p : Port) :
    (p.convert 2 code sign true now).pulseBad = (if 384 < p.pulseOff code sign now then p.pulseBad + 1 else 0) ∧
    (p.convert 2 code sign true now).pulseFault = (p.pulseFault && decide (384 < p.pulseOff code sign now)) := by
  refine ⟨?_, rfl⟩
  have h : (p.convert 2 code sign true now).pulseBad =
      if decide (384 < p.pulseOff code sign now) = true then p.pulseBad + 1 else 0 := rfl
  rw [h]
  simp only [decide_eq_true_eq]

/-- A supply reading that is not judged starts the count anew. -/
theorem Port.convert_unjudged (code : BitVec 12) (sign : Int) (now : Nat) (p : Port) :
    (p.convert 2 code sign false now).pulseBad = 0 ∧ (p.convert 2 code sign false now).pulseFault = p.pulseFault := ⟨rfl, rfl⟩

/-! ### The conversion of all ports -/

/-- The slot of the frame's conversion. -/
def State.slot (s : State) : Fin 4 := ⟨s.tickNo % 4, Nat.mod_lt _ (by decide)⟩

/-- What the conversion makes of a port before its train is judged. -/
def State.converted (s : State) (code : BitVec 12) (n : Fin 64) (p : Port) : Port :=
  p.convert s.slot code (chipValue n.val s.clk.tickTb) (s.assigned n && p.supplyOn) s.now

/-- The train of a port is taken to be bad. -/
def Port.badTrain (p : Port) : Port := { p with pulseFault := true }

/-- The whole rule of a port. -/
def State.convRule (s : State) (code : BitVec 12) (n : Fin 64) (p : Port) : Port :=
  let q := s.converted code n p
  if (s.assigned n && p.supplyOn) = true ∧ 8 ≤ q.pulseBad ∧ q.pulseFault = false then
    (q.badTrain.markFault 11).fail s.now
  else q.settle s.now

/-- The train of a port is found bad by the conversion. -/
def State.pulseTrip (s : State) (code : BitVec 12) (n : Fin 64) (p : Port) : Prop :=
  (s.assigned n && p.supplyOn) = true ∧ 8 ≤ (s.converted code n p).pulseBad ∧ (s.converted code n p).pulseFault = false

/-- R60: a port whose train is found bad is failed with 0210h; every other port may only get an end of its failure. -/
theorem State.convRule_cases (s : State) (code : BitVec 12) (n : Fin 64) (p : Port) :
    (s.pulseTrip code n p ∧ s.convRule code n p = { s.converted code n p with
      pulseFault := true, fault := setBit (s.converted code n p).fault 11, failed := true, failEnd := none }) ∨
    (¬ s.pulseTrip code n p ∧ ∃ e, s.convRule code n p = { s.converted code n p with failEnd := e }) := by
  by_cases h : s.pulseTrip code n p
  · refine .inl ⟨h, (if_pos h).trans ?_⟩
    rw [Port.fail_of_condition]
    · rfl
    · simp [Port.condition, Port.markFault, Port.badTrain]
  · obtain ⟨e, he⟩ := (s.converted code n p).settle_eq s.now
    exact .inr ⟨h, e, (if_neg h).trans he⟩

/-- The conversion of one port, in the order of the ports. -/
def State.convertPort (codes : Vector (BitVec 12) 64) (slot : Fin 4) (s : State) (n : Fin 64) : State :=
  let judge := s.supplyJudged n
  let s := s.modPort n (fun p => p.convert slot codes[n] (chipValue n.val s.clk.tickTb) judge s.now)
  if judge = true ∧ 8 ≤ (s.ports[n]).pulseBad ∧ (s.ports[n]).pulseFault = false then
    ((s.modPort n Port.badTrain).prtFault n 11 0x0210).failPoint n
  else s.settleFail n

theorem State.convertPort_rule {s t : State} (codes : Vector (BitVec 12) 64) (n : Fin 64) (h : s.PortsOnly t) :
    (t.convertPort codes s.slot n).ports = upd t.ports n (s.convRule codes[n] n) ∧ t.PortsOnly (t.convertPort codes s.slot n) := by
  have hclk : t.clk = s.clk := h.clk
  have hnow : t.now = s.now := congrArg Clk.elapsed hclk
  have hasg : t.assigned n = s.assigned n := by simp only [State.assigned, State.cfg, h.img]
  let u := t.modPort n (s.converted codes[n] n)
  have hu : u.ports[n] = s.converted codes[n] n t.ports[n] := upd_get_same _ _ _
  have hmod : t.modPort n (fun p => p.convert s.slot codes[n] (chipValue n.val t.clk.tickTb) (t.supplyJudged n) t.now) = u :=
    State.modPort_congr (by rw [State.supplyJudged, hasg, hclk, hnow]; rfl)
  unfold State.convertPort
  dsimp only
  rw [hmod, hu, State.supplyJudged, hasg]
  by_cases hc : s.pulseTrip codes[n] n t.ports[n]
  · obtain ⟨hports, hsame⟩ := (u.modPort n Port.badTrain).prtFault_failPoint_ports n 11 (code := 0x0210)
      (by decide) (by decide) (by decide)
    rw [if_pos (show _ ∧ _ ∧ _ from hc)]
    refine ⟨hports.trans ?_, hsame⟩
    have hw : (u.modPort n Port.badTrain).ports =
        upd t.ports n (fun p => (s.converted codes[n] n p).badTrain) := upd_upd _ _ _ _
    rw [hw, upd_upd]
    refine upd_congr ((if_pos hc).trans ?_).symm
    rw [← hnow]
    rfl
  · rw [if_neg (show ¬ (_ ∧ _ ∧ _) from hc)]
    have hset : (u.settleFail n).ports = upd t.ports n (fun p => (s.converted codes[n] n p).settle t.now) :=
      upd_upd t.ports n (s.converted codes[n] n) (Port.settle t.now)
    refine ⟨hset.trans (upd_congr ((if_neg hc).trans ?_).symm), rfl⟩
    rw [hnow]

/-- The readings of a frame are compared with the median, port by port (R288). -/
def Port.fieldReading (now : Nat) (off : Bool) (p : Port) : Port :=
  let agree := since now (!off) p.agreeSince
  let back : Bool := match agree with
    | some t => decide (t + 1000000000 ≤ now)
    | none => false
  { p with diffSince := since now off p.diffSince, agreeSince := agree, excluded := p.excluded && !back }

/-- The rule of one port, against the median of all readings. -/
def State.compareRule (s : State) (codes : Vector (BitVec 12) 64) (n : Fin 64) : Port → Port :=
  let all := sortNat ((allFin 64).map (fun n => (codes[n]).toNat))
  let med2 : Int := (all.getD 31 0 + all.getD 32 0 : Nat)
  Port.fieldReading s.now (decide (1000 * (2 * ((codes[n]).toNat : Int) - med2).natAbs > (102400 + 30 * med2).natAbs))

/-- The field bus readings change the comparison of each port and the supply's median alone. -/
theorem State.fieldReadings_eq (s : State) (codes : Vector (BitVec 12) 64) : ∃ u : Sup, s.fieldReadings codes =
    { s with ports := (allFin 64).foldl (fun v n => upd v n (s.compareRule codes n)) s.ports, sup := u } := by
  unfold State.fieldReadings
  dsimp only
  rw [foldl_portRule (rule := fun t n => t.compareRule codes n) ?rule ?base, foldl_modPort]
  · exact ⟨_, rfl⟩
  case rule =>
    intro t n
    unfold State.compareRule
    dsimp only
    generalize sortNat ((allFin 64).map (fun n => (codes[n]).toNat)) = all
    rfl
  case base => exact fun _ _ _ => rfl

/-- The base of a frame's conversion: its instant, and the read marked. -/
def State.sarBase (s : State) : State :=
  { s.upTo (s.inFrame 5000) with clk := { (s.upTo (s.inFrame 5000)).clk with sarRead := some s.clk.tickAt } }

/-- The conversion of every port, and in the field bus's slot the comparison of its readings. -/
def State.convertAll (codes : Vector (BitVec 12) 64) (s : State) : State :=
  let t := (allFin 64).foldl (State.convertPort codes s.sarBase.slot) s.sarBase
  if s.sarBase.slot = 3 then t.fieldReadings codes else t

theorem execSarConversion_eq (codes : Vector (BitVec 12) 64) (s : State) : execSarConversion codes s =
    s.when (!s.inReset && decide (s.clk.sarRead ≠ some s.clk.tickAt)) (State.convertAll codes) := rfl

/-- What a conversion leaves of a port: the reading, the judgement of the supply, and a bad train with its failure. -/
structure State.Converts (s : State) (code : BitVec 12) (n : Fin 64) (p q : Port) : Prop where
  sar : q.sar = (s.converted code n p).sar
  count : q.sarCount = (s.converted code n p).sarCount
  bad : q.pulseBad = (s.converted code n p).pulseBad
  prev : q.supplyPrev = (s.converted code n p).supplyPrev
  trip : s.pulseTrip code n p → q.pulseFault = true ∧ q.fault.getLsbD 11 = true ∧ q.failed = true
  quiet : ¬ s.pulseTrip code n p → q.pulseFault = (s.converted code n p).pulseFault

theorem State.convRule_converts (s : State) (code : BitVec 12) (n : Fin 64) (p : Port) :
    s.Converts code n p (s.convRule code n p) := by
  obtain ⟨ht, h⟩ | ⟨ht, e, h⟩ := s.convRule_cases code n p
  · rw [h]
    exact ⟨rfl, rfl, rfl, rfl, fun _ => ⟨rfl, getLsbD_setBit (by decide), rfl⟩, fun k => absurd ht k⟩
  · rw [h]
    exact ⟨rfl, rfl, rfl, rfl, fun k => absurd k ht, fun _ => rfl⟩

/-- The comparison of the field bus readings touches none of these. -/
theorem State.Converts.compare {s : State} {code : BitVec 12} {n : Fin 64} {p q : Port} (h : s.Converts code n p q) (now : Nat)
    (off : Bool) : s.Converts code n p (q.fieldReading now off) := ⟨h.sar, h.count, h.bad, h.prev, h.trip, h.quiet⟩

theorem State.SameButLog.withPortsSup {s t : State} (h : s.SameButLog t) (v : Vector Port 64) (u : Sup) :
    ({ s with ports := v, sup := u } : State).SameButLog { t with ports := v, sup := u } := by
  unfold State.SameButLog at h ⊢
  rw [h]

theorem State.convertAll_spec (codes : Vector (BitVec 12) 64) (s : State) :
    ({ s with clk := s.sarBase.clk, ports := (s.convertAll codes).ports, sup := (s.convertAll codes).sup
              engines := (s.convertAll codes).engines } : State).SameButLog (s.convertAll codes) ∧
    ∀ n : Fin 64, s.sarBase.Converts codes[n] n s.ports[n] (s.convertAll codes).ports[n] := by
  obtain ⟨hports, hsame⟩ := foldl_portsOnly_all (s := s.sarBase) (step := State.convertPort codes s.sarBase.slot)
    (rule := fun n => s.sarBase.convRule codes[n] n) (fun _ n h => State.convertPort_rule codes n h)
  have hrule : ∀ n : Fin 64, s.sarBase.Converts codes[n] n s.ports[n]
      ((allFin 64).foldl (State.convertPort codes s.sarBase.slot) s.sarBase).ports[n] := fun n =>
    (hports n).symm ▸ s.sarBase.convRule_converts codes[n] n s.ports[n]
  unfold State.convertAll
  dsimp only
  generalize (allFin 64).foldl (State.convertPort codes s.sarBase.slot) s.sarBase = t at hsame hrule ⊢
  split
  · obtain ⟨u, hu⟩ := t.fieldReadings_eq codes
    rw [hu]
    refine ⟨?_, fun n => ?_⟩
    · exact State.SameButLog.withPortsSup hsame _ u
    · rw [foldl_upd_get (t.compareRule codes) n (allFin 64) t.ports (allFin_nodup 64), if_pos (mem_allFin n)]
      unfold State.compareRule
      exact (hrule n).compare _ _
  · refine ⟨?_, hrule⟩
    rw [show t.sup = s.sup from hsame.sup]
    exact hsame

/-- The clauses on one port follow from what a conversion leaves of it. -/
theorem State.Converts.untouched {s : State} {code : BitVec 12} {n : Fin 64} {p q : Port} (h : s.Converts code n p q)
    (hs : s.slot ≠ 2) : q.pulseBad = p.pulseBad ∧ q.supplyPrev = p.supplyPrev := by
  obtain ⟨hbad, hprev, _⟩ := Port.convert_other hs code (chipValue n.val s.clk.tickTb) (s.assigned n && p.supplyOn) s.now p
  exact ⟨h.bad.trans hbad, h.prev.trans hprev⟩

/-- A conversion keeps the judgement of the train or ends it. -/
theorem Port.convert_pulseFault {slot : Fin 4} {code : BitVec 12} {sign : Int} {judge : Bool} {now : Nat} {p : Port}
    (h : (p.convert slot code sign judge now).pulseFault = true) : p.pulseFault = true := by
  by_cases hs : slot = 2
  · subst hs
    cases judge
    · exact h
    · rw [(p.convert_judged code sign now).2, Bool.and_eq_true] at h
      exact h.1
  · exact (Port.convert_other hs code sign judge now p).2.2 ▸ h

theorem State.Converts.fresh {s : State} {code : BitVec 12} {n : Fin 64} {p q : Port} (h : s.Converts code n p q)
    (hq : q.pulseFault = true) (hp : p.pulseFault = false) : 8 ≤ q.pulseBad ∧ q.fault.getLsbD 11 = true ∧ q.failed = true := by
  by_cases ht : s.pulseTrip code n p
  · obtain ⟨_, hfault, hfailed⟩ := h.trip ht
    exact ⟨h.bad ▸ ht.2.1, hfault, hfailed⟩
  · rw [h.quiet ht] at hq
    rw [Port.convert_pulseFault hq] at hp
    cases hp

theorem State.Converts.judged {s : State} {code : BitVec 12} {n : Fin 64} {p q : Port} (h : s.Converts code n p q)
    (hs : s.slot = 2) (hj : (s.assigned n && p.supplyOn) = true) :
    q.pulseBad = (if 384 < p.pulseOff code (chipValue n.val s.clk.tickTb) s.now then p.pulseBad + 1 else 0) ∧
    (8 ≤ q.pulseBad → q.pulseFault = true) := by
  have hc : s.converted code n p = p.convert 2 code (chipValue n.val s.clk.tickTb) true s.now := by
    rw [State.converted, hs, hj]
  refine ⟨?_, fun h8 => ?_⟩
  · rw [h.bad, hc]
    exact (p.convert_judged _ _ _).1
  · by_cases ht : s.pulseTrip code n p
    · exact (h.trip ht).1
    · rw [h.quiet ht]
      rw [h.bad] at h8
      by_contra hf
      exact ht ⟨hj, h8, Bool.eq_false_iff.2 hf⟩

theorem State.Converts.unjudged {s : State} {code : BitVec 12} {n : Fin 64} {p q : Port} (h : s.Converts code n p q)
    (hs : s.slot = 2) (hj : (s.assigned n && p.supplyOn) = false) : q.pulseBad = 0 := by
  rw [h.bad, State.converted, hs, hj]
  exact (p.convert_unjudged code _ s.now).1

end Sys2Proof.Machine

open Sys2Proof Sys2Proof.Machine

/-- Settles O24: each port's conversion is a rule of the port's own state, applied port by port. That the train is judged only
while the regulator is on, and that a reading not judged starts the count anew, is the model's choice (log 86), as is the voltage
during a ramp (log 87). -/
theorem sarConversionSlots : Obligations.SarConversionSlots := by
  unfold Obligations.SarConversionSlots
  refine ⟨fun s codes hr hread => ?_, fun s codes hread => ?_⟩
  · obtain ⟨hframe, hconv⟩ := s.convertAll_spec codes
    have hrun : exec (.sarConversion codes) s = .next (s.convertAll codes) :=
      (execSarConversion_eq codes s).trans (State.when_true (by rw [hr, decide_eq_true hread]; rfl))
    have hclk : (s.convertAll codes).clk = s.sarBase.clk := hframe.clk
    refine ⟨_, hrun, hclk, ?_, fun n => ?_, fun n hs => ?_, fun n => (hconv n).fresh, fun n hs ha hon => ?_, fun n hs hoff => ?_⟩
    · rw [hclk]
      exact hframe
    · obtain ⟨hsar, hcount⟩ := Port.convert_sar s.sarBase.slot codes[n] (chipValue n.val s.clk.tickTb)
        (s.sarBase.assigned n && (s.ports[n]).supplyOn) s.sarBase.now s.ports[n]
      exact ⟨(hconv n).sar.trans hsar, (hconv n).count.trans hcount⟩
    · exact (hconv n).untouched fun h => hs (congrArg Fin.val h)
    · obtain ⟨hbad, hfault⟩ := (hconv n).judged (Fin.ext hs) (by rw [show s.sarBase.assigned n = true from ha, hon]; rfl)
      refine ⟨fun hle => hbad.trans (if_neg (Nat.not_lt.2 hle)), fun hlt => ?_⟩
      have hnext := hbad.trans (if_pos hlt)
      exact ⟨hnext, fun h7 => hfault (hnext ▸ Nat.succ_le_succ h7)⟩
    · refine (hconv n).unjudged (Fin.ext hs) ?_
      rw [show s.sarBase.assigned n = s.assigned n from rfl, Bool.and_eq_false_iff]
      exact hoff
  · exact (execSarConversion_eq codes s).trans (State.when_false (by simp [hread]))

end

section
/-! PROOFS. The conditions that a code period shows (R58, R59). -/

namespace Sys2Proof.Machine

/-! ### The channels, one after the other -/

/-- A word made of the bits that meet a condition shows no other bit. -/
theorem getLsbD_foldl_or {P : Fin 64 → Prop} [DecidablePred P] (k : Fin 64) (l : List (Fin 64)) : ∀ w : BitVec 64,
    (l.foldl (fun w n => if P n then w ||| (1#64 <<< n.val) else w) w).getLsbD k.val = true → w.getLsbD k.val = true ∨ P k := by
  induction l with
  | nil => exact fun w h => .inl h
  | cons n l ih =>
    intro w h
    rw [List.foldl_cons] at h
    obtain hw | hk := ih _ h
    · split at hw
      next hn =>
        by_cases he : n = k
        · exact .inr (he ▸ hn)
        · have hv : k.val ≠ n.val := fun e => he (Fin.ext e.symm)
          rw [BitVec.getLsbD_or, Bool.or_eq_true] at hw
          refine hw.imp id fun hone => absurd ?_ hv
          simp at hone
          omega
      next => exact .inl hw
    · exact .inr hk

theorem upd_self {α : Type} {n : Nat} {v : Vector α n} {i : Fin n} {f : α → α} (h : f v[i] = v[i]) : upd v i f = v := by
  have h' : f v[i.val] = v[i.val] := h
  rw [upd, h', Vector.set_getElem_self]

theorem State.modChan_self {s : State} {c : Fin 128} {f : Chan → Chan} (h : f s.chans[c] = s.chans[c]) : s.modChan c f = s := by
  unfold State.modChan
  rw [upd_self h]

/-- One channel of a code period: only the channel itself changes, and not when its period was blind; what the verdict gains, the
channel shows in this code period and in the one before. -/
theorem State.codeChannel_spec (s : State) (period : Nat) (c : Fin 128) (v : CodeVerdict) :
    ∃ f, (s.codeChannel period c v).1 = s.modChan c f ∧
      ((∀ k, (s.chans[c]).codePeriod period = some k → k.blind = true) → f s.chans[c] = s.chans[c]) ∧
      (∀ m ∈ (s.codeChannel period c v).2.own,
        m ∈ v.own ∨ portOf c = m ∧ (s.chans[c]).prevOwn = true ∧ (f s.chans[c]).prevOwn = true) ∧
      (∀ p ∈ (s.codeChannel period c v).2.cross, p ∈ v.cross ∨ portOf c = p.1 ∧ p.2 ≠ p.1 ∧
        (s.chans[c]).prevX.getLsbD p.2.val = true ∧ (f s.chans[c]).prevX.getLsbD p.2.val = true) := by
  have hnone : s = s.modChan c id := (State.modChan_self rfl).symm
  unfold State.codeChannel
  dsimp only
  split
  next h => exact ⟨id, hnone, fun _ => rfl, fun _ => .inl, fun _ => .inl⟩
  next k h =>
    split
    next hb => exact ⟨id, hnone, fun _ => rfl, fun _ => .inl, fun _ => .inl⟩
    next hb =>
      refine ⟨_, rfl, fun hall => absurd (hall k h) hb, fun m hm => ?_, fun p hp => ?_⟩
      · split at hm
        next ho =>
          rw [Bool.and_eq_true] at ho
          rw [List.mem_append, List.mem_singleton] at hm
          exact hm.imp id fun he => ⟨he.symm, ho.2, ho.1⟩
        next => exact .inl hm
      · rw [List.mem_append, List.mem_filterMap] at hp
        refine hp.imp id ?_
        rintro ⟨n, -, hn⟩
        split at hn
        next hbits =>
          cases hn
          rw [BitVec.getLsbD_and, Bool.and_eq_true] at hbits
          obtain hz | hne := getLsbD_foldl_or n (allFin 64) _ hbits.1
          · simp at hz
          · exact ⟨rfl, hne.1, hbits.2, hbits.1⟩
        next => cases hn

/-- A run over the channels of a code period, with those of `l` still to come: the state is the one before but for channels, and
every finding is of a channel that shows it in this code period and in the one before. -/
structure CodeRun (s : State) (period : Nat) (l : List (Fin 128)) (t : State) (v : CodeVerdict) : Prop where
  frame : t = { s with chans := t.chans }
  todo : ∀ c : Fin 128, c ∈ l → t.chans[c] = s.chans[c]
  quiet : ∀ c : Fin 128, (∀ k, (s.chans[c]).codePeriod period = some k → k.blind = true) → t.chans[c] = s.chans[c]
  own : ∀ m ∈ v.own, ∃ c : Fin 128, c ∉ l ∧ portOf c = m ∧ (s.chans[c]).prevOwn = true ∧ (t.chans[c]).prevOwn = true
  cross : ∀ p ∈ v.cross, ∃ c : Fin 128, c ∉ l ∧ portOf c = p.1 ∧ p.2 ≠ p.1 ∧
    (s.chans[c]).prevX.getLsbD p.2.val = true ∧ (t.chans[c]).prevX.getLsbD p.2.val = true

theorem CodeRun.step {s : State} {period : Nat} {c : Fin 128} {l : List (Fin 128)} {t : State} {v : CodeVerdict}
    (h : CodeRun s period (c :: l) t v) (hc : c ∉ l) :
    CodeRun s period l (t.codeChannel period c v).1 (t.codeChannel period c v).2 := by
  obtain ⟨f, hstate, hquiet, hown, hcross⟩ := t.codeChannel_spec period c v
  have hold : t.chans[c] = s.chans[c] := h.todo c (List.mem_cons_self ..)
  have hsame : (t.codeChannel period c v).1.chans[c] = f s.chans[c] := by
    rw [hstate, ← hold]; exact upd_get_same t.chans c f
  have hother : ∀ d, d ≠ c → (t.codeChannel period c v).1.chans[d] = t.chans[d] := fun d hd => by
    rw [hstate]; exact upd_get_ne t.chans c d f hd
  rw [hold] at hquiet hown hcross
  refine ⟨?_, fun d hd => ?_, fun d hd => ?_, fun m hm => ?_, fun p hp => ?_⟩
  · rw [hstate, h.frame]
    rfl
  · rw [hother d fun e => hc (e ▸ hd)]
    exact h.todo d (List.mem_cons_of_mem c hd)
  · by_cases hdc : d = c
    · subst hdc
      exact hsame.trans (hquiet hd)
    · exact (hother d hdc).trans (h.quiet d hd)
  · obtain hm | ⟨hport, hprev, hnow⟩ := hown m hm
    · obtain ⟨d, hd, hport, hprev, hnow⟩ := h.own m hm
      rw [List.mem_cons, not_or] at hd
      exact ⟨d, hd.2, hport, hprev, by rw [hother d hd.1]; exact hnow⟩
    · exact ⟨c, hc, hport, hprev, by rw [hsame]; exact hnow⟩
  · obtain hp | ⟨hport, hne, hprev, hnow⟩ := hcross p hp
    · obtain ⟨d, hd, hport, hne, hprev, hnow⟩ := h.cross p hp
      rw [List.mem_cons, not_or] at hd
      exact ⟨d, hd.2, hport, hne, hprev, by rw [hother d hd.1]; exact hnow⟩
    · exact ⟨c, hc, hport, hne, hprev, by rw [hsame]; exact hnow⟩

theorem CodeRun.foldl {s : State} {period : Nat} (l : List (Fin 128)) (hl : l.Nodup) : ∀ a : State × CodeVerdict,
    CodeRun s period l a.1 a.2 →
      CodeRun s period [] (l.foldl (fun a c => a.1.codeChannel period c a.2) a).1
        (l.foldl (fun a c => a.1.codeChannel period c a.2) a).2 := by
  induction l with
  | nil => exact fun _ h => h
  | cons c l ih =>
    intro a h
    obtain ⟨hc, hl⟩ := List.nodup_cons.1 hl
    exact ih hl _ (h.step hc)

theorem CodeRun.all (s : State) (period : Nat) :
    CodeRun s period [] ((allFin 128).foldl (fun a c => a.1.codeChannel period c a.2) (s, { cross := [], own := [] })).1
      ((allFin 128).foldl (fun a c => a.1.codeChannel period c a.2) (s, { cross := [], own := [] })).2 :=
  CodeRun.foldl (allFin 128) (allFin_nodup 128) (s, _)
    ⟨rfl, fun _ _ => rfl, fun _ _ => rfl, fun _ h => absurd h List.not_mem_nil, fun _ h => absurd h List.not_mem_nil⟩

/-! ### The conditions of the ports -/

/-- A condition that a code period shows, or shows no longer. -/
def Port.codeShow (holds residual : Bool) (p : Port) : Port :=
  if residual then { p with residual := holds } else { p with xshort := holds }

/-- Whether a code period showed the condition before. -/
def Port.codeWas (residual : Bool) (p : Port) : Bool := if residual then p.residual else p.xshort

/-- The rule of a port: a new condition is a fault that fails its point (R59). -/
def Port.codeRule (holds residual : Bool) (now : Nat) (p : Port) : Port :=
  if holds = true ∧ p.codeWas residual = false then ((p.codeShow holds residual).markFault (if residual then 9 else 8)).fail now
  else (p.codeShow holds residual).settle now

theorem Port.codeRule_eq (holds residual : Bool) (now : Nat) (p : Port) : ∃ f e w,
    p.codeRule holds residual now = { p.codeShow holds residual with failed := f, failEnd := e, fault := w } := by
  unfold Port.codeRule
  split
  · exact ⟨_, _, _, rfl⟩
  · obtain ⟨e, he⟩ := (p.codeShow holds residual).settle_eq now
    exact ⟨_, e, _, he⟩

theorem Port.codeRule_residual (holds : Bool) (now : Nat) (p : Port) :
    (p.codeRule holds true now).residual = holds ∧ (p.codeRule holds true now).xshort = p.xshort := by
  obtain ⟨f, e, w, h⟩ := p.codeRule_eq holds true now
  rw [h]
  exact ⟨rfl, rfl⟩

theorem Port.codeRule_xshort (holds : Bool) (now : Nat) (p : Port) : (p.codeRule holds false now).xshort = holds := by
  obtain ⟨f, e, w, h⟩ := p.codeRule_eq holds false now
  rw [h]
  rfl

theorem State.codeCond_eq (s : State) (n : Fin 64) (holds residual : Bool) : s.codeCond n holds residual =
    if holds = true ∧ (s.ports[n]).codeWas residual = false then
      ((s.modPort n (Port.codeShow holds residual)).prtFault n (if residual then 9 else 8)
        (if residual then 0x0205 else 0x0204)).failPoint n
    else (s.modPort n (Port.codeShow holds residual)).settleFail n := by
  cases residual <;> rfl

theorem State.codeCond_rule {s t : State} (n : Fin 64) (holds residual : Bool) (h : s.PortsOnly t) :
    (t.codeCond n holds residual).ports = upd t.ports n (Port.codeRule holds residual s.now) ∧
    t.PortsOnly (t.codeCond n holds residual) := by
  have hnow : s.now = t.now := congrArg Clk.elapsed h.clk.symm
  let u := t.modPort n (Port.codeShow holds residual)
  rw [State.codeCond_eq, hnow]
  by_cases hc : holds = true ∧ (t.ports[n]).codeWas residual = false
  · obtain ⟨hports, hsame⟩ := u.prtFault_failPoint_ports n (if residual then 9 else 8)
      (code := if residual then 0x0205 else 0x0204) (by cases residual <;> decide) (by cases residual <;> decide)
      (by cases residual <;> decide)
    rw [if_pos hc]
    refine ⟨hports.trans ((upd_upd ..).trans (upd_congr ?_)), hsame⟩
    exact (if_pos hc).symm
  · rw [if_neg hc]
    refine ⟨(upd_upd t.ports n (Port.codeShow holds residual) (Port.settle t.now)).trans (upd_congr ?_), rfl⟩
    exact (if_neg hc).symm

/-- Both conditions of every port, from what the channels found. -/
def State.codeConds (s : State) (short own : Fin 64 → Bool) : State :=
  (allFin 64).foldl (fun s n => s.codeCond n (own n) true) ((allFin 64).foldl (fun s n => s.codeCond n (short n) false) s)

theorem State.codeConds_spec (s : State) (short own : Fin 64 → Bool) : s.PortsOnly (s.codeConds short own) ∧
    ∀ n : Fin 64, ((s.codeConds short own).ports[n]).residual = own n ∧ ((s.codeConds short own).ports[n]).xshort = short n := by
  obtain ⟨hx, hxs⟩ := foldl_portsOnly_all (s := s) (step := fun s n => s.codeCond n (short n) false)
    (rule := fun n => Port.codeRule (short n) false s.now) (fun _ n h => State.codeCond_rule n (short n) false h)
  unfold State.codeConds
  generalize (allFin 64).foldl (fun s n => s.codeCond n (short n) false) s = t at hx hxs
  obtain ⟨hr, hrs⟩ := foldl_portsOnly_all (s := t) (step := fun s n => s.codeCond n (own n) true)
    (rule := fun n => Port.codeRule (own n) true t.now) (fun _ n h => State.codeCond_rule n (own n) true h)
  refine ⟨hxs.trans hrs, fun n => ?_⟩
  obtain ⟨hres, hkeep⟩ := Port.codeRule_residual (own n) t.now t.ports[n]
  rw [hr n, hkeep, hres, hx n]
  exact ⟨rfl, Port.codeRule_xshort (short n) s.now s.ports[n]⟩

/-! ### The register word -/

/-- What PRT_XCORR of a port shows. -/
def State.xcorrRule (s : State) (n : Fin 64) (p : Port) : Port :=
  { p with xcorr := xcorrWord n.val (s.chans[chanOf n .cs1]).lastX (s.chans[chanOf n .cs2]).lastX }

theorem foldl_xcorrRule (s : State) (n : Fin 64) :
    s.PortsOnly ((allFin 64).foldl (fun s n => s.modPort n (s.xcorrRule n)) s) ∧
    ((allFin 64).foldl (fun s n => s.modPort n (s.xcorrRule n)) s).ports[n] = s.xcorrRule n s.ports[n] := by
  rw [foldl_portRule (rule := State.xcorrRule) (fun _ _ => rfl) (fun _ _ _ => rfl)]
  refine ⟨?_, (foldl_modPort_get s.xcorrRule _ (allFin_nodup 64) s n).trans (if_pos (mem_allFin n))⟩
  rw [foldl_modPort]
  rfl

/-! ### The end of a code period -/

/-- The base of a code period's end. -/
def State.codeBase (s : State) (x : Nat) : State :=
  { s.upTo (s.clk.tickAt + (x - s.clk.tickTb)) with
    clk := { (s.upTo (s.clk.tickAt + (x - s.clk.tickTb))).clk with codeEnd := x } }

/-- The channels of a code period. -/
def State.codeChannels (s : State) (period : Nat) : State × CodeVerdict :=
  (allFin 128).foldl (fun a c => a.1.codeChannel period c a.2) (s, { cross := [], own := [] })

/-- A verdict's short for a port. -/
def CodeVerdict.short (v : CodeVerdict) (n : Fin 64) : Bool := v.cross.any (fun p => decide (p.1 = n ∨ p.2 = n))

/-- The conditions of the ports once the channels have been judged. -/
def State.codeJudged (s : State) (period : Nat) : State :=
  (s.codeChannels period).1.codeConds (s.codeChannels period).2.short (s.codeChannels period).2.own.contains

/-- The state in which a code period's end leaves the unit. -/
def State.codeEnded (x : Nat) (s : State) : State :=
  (allFin 64).foldl (fun s n => s.modPort n (s.xcorrRule n)) ((s.codeBase x).codeJudged (x / 1280000 - 1))

theorem execCodePeriodEnd_eq {s : State} {x : Nat} (hx : x = (s.clk.tickTb + 250000) / 1280000 * 1280000) : execCodePeriodEnd s =
    s.when (!s.inReset && decide (0 < x ∧ x ≠ s.clk.codeEnd) && s.periodIn (x / 1280000 - 1)) (State.codeEnded x) := by
  unfold execCodePeriodEnd
  dsimp only
  rw [← hx]
  unfold State.codeEnded State.codeJudged State.codeConds State.codeChannels State.codeBase CodeVerdict.short State.xcorrRule
  with_reducible rfl

theorem State.codeEnded_spec (x : Nat) (s : State) :
    ({ s with clk := (s.codeBase x).clk, chans := (s.codeEnded x).chans, ports := (s.codeEnded x).ports
              engines := (s.codeEnded x).engines } : State).SameButLog (s.codeEnded x) ∧
    (s.codeEnded x).chans = ((s.codeBase x).codeChannels (x / 1280000 - 1)).1.chans ∧
    ∀ n : Fin 64, ((s.codeEnded x).ports[n]).residual = ((s.codeBase x).codeChannels (x / 1280000 - 1)).2.own.contains n ∧
      ((s.codeEnded x).ports[n]).xshort = ((s.codeBase x).codeChannels (x / 1280000 - 1)).2.short n ∧
      ((s.codeEnded x).ports[n]).xcorr =
        xcorrWord n.val ((s.codeEnded x).chans[chanOf n .cs1]).lastX ((s.codeEnded x).chans[chanOf n .cs2]).lastX := by
  have hrun : CodeRun (s.codeBase x) (x / 1280000 - 1) [] ((s.codeBase x).codeChannels (x / 1280000 - 1)).1
      ((s.codeBase x).codeChannels (x / 1280000 - 1)).2 := CodeRun.all _ _
  unfold State.codeEnded State.codeJudged
  generalize (s.codeBase x).codeChannels (x / 1280000 - 1) = r at hrun
  obtain ⟨hsame, hcond⟩ := r.1.codeConds_spec r.2.short r.2.own.contains
  generalize r.1.codeConds r.2.short r.2.own.contains = t at hsame hcond
  have hx := foldl_xcorrRule t
  generalize (allFin 64).foldl (fun s n => s.modPort n (s.xcorrRule n)) t = u at hx
  have hframe : r.1.PortsOnly u := hsame.trans (hx 0).1
  have hchans : u.chans = t.chans := (hx 0).1.chans
  refine ⟨?_, hframe.chans, fun n => ?_⟩
  · have hpo : ({ r.1 with ports := u.ports, engines := u.engines } : State).SameButLog u := hframe
    rw [hrun.frame] at hpo
    rw [show u.chans = r.1.chans from hframe.chans]
    exact hpo
  · obtain ⟨hres, hshort⟩ := hcond n
    rw [(hx n).2, hchans]
    exact ⟨hres, hshort, rfl⟩

end Sys2Proof.Machine

open Sys2Proof Sys2Proof.Machine

/-- Settles O21: what the channels find rests on this code period and the one before, by induction over the channels; the ports'
conditions are then exactly what was found. The tie that PRT_XCORR settles is the model's choice (log 87). -/
theorem codePeriodConditions : Obligations.CodePeriodConditions := by
  unfold Obligations.CodePeriodConditions
  intro s x hr hx hpos hne hin
  obtain ⟨hframe, hchans, hports⟩ := s.codeEnded_spec x
  have hrun : CodeRun (s.codeBase x) (x / 1280000 - 1) [] ((s.codeBase x).codeChannels (x / 1280000 - 1)).1
      ((s.codeBase x).codeChannels (x / 1280000 - 1)).2 := CodeRun.all _ _
  have hclk : (s.codeEnded x).clk = (s.codeBase x).clk := hframe.clk
  refine ⟨_, (execCodePeriodEnd_eq hx).trans (State.when_true (by rw [hr, decide_eq_true ⟨hpos, hne⟩, hin]; rfl)), hclk,
    by rw [hclk]; exact hframe, fun c hq => ?_, fun n hn => ?_, fun n hn => ?_, fun n => (hports n).2.2⟩
  · rw [hchans]
    exact hrun.quiet c hq
  · rw [(hports n).1, List.contains_iff_mem] at hn
    obtain ⟨c, -, hport, hprev, hnow⟩ := hrun.own n hn
    exact ⟨c, hport, hprev, by rw [hchans]; exact hnow⟩
  · rw [(hports n).2.1, CodeVerdict.short, List.any_eq_true] at hn
    obtain ⟨p, hp, hpn⟩ := hn
    obtain ⟨c, -, hport, hne', hprev, hnow⟩ := hrun.cross p hp
    exact ⟨c, p.2, by rw [hport]; exact of_decide_eq_true hpn, by rw [hport]; exact hne', hprev, by rw [hchans]; exact hnow⟩

end

section
/-! PROOFS. The commands that start self-tests, port tests and loopbacks (R61, R69 to R71, R79, R103, R104, R216 to R218, R304). -/

namespace Sys2Proof.Machine

/-! ### A command that is answered -/

theorem State.answered.same {s t : State} {r : Result} (h : s.answered t r) :
    ({ s with cmd := { s.cmd with lastReply := some r } } : State).SameButLog t := h

/-- What is logged on the way does not show in the reply. -/
theorem State.SameButLog.answered {s u t : State} {r : Result} (h : s.SameButLog u) (k : u.answered t r) : s.answered t r := by
  have hcmd : ({ s with cmd := { s.cmd with lastReply := some r } } : State).SameButLog
      { u with cmd := { u.cmd with lastReply := some r } } := by
    unfold State.SameButLog at h ⊢
    rw [h]
  exact hcmd.trans k

/-- A command that nothing bars completes with its operation's state, finished. -/
theorem exec_finished {c : Instr} {w : Who} {o : Op} {ps : List Byte} {s u : State} {r : Result}
    (hc : asOp c = some (w, o, ps)) (h : s.admits w o ps) (hr : o.asReset = none)
    (hp : s.perform { who := w, op := o, ref := .none } s.snap = (u, some r)) :
    exec c s = .next (u.finish { who := w, op := o, ref := .none } r) := by
  obtain ⟨hreset, _, _, _, _, _, hpre⟩ := id h
  rw [exec_opRow c w o ps s hc, opRow, State.when_true (by rw [hreset]; rfl), State.giveOp_admits h hr, State.runOp_some hpre hp]

theorem portIx_ofNat (n : Fin 64) : portIx (BitVec.ofNat 8 n.val) = some n := by
  have h : (BitVec.ofNat 8 n.val).toNat = n.val := by rw [BitVec.toNat_ofNat]; omega
  unfold portIx
  rw [dif_pos (by omega)]
  exact congrArg some (Fin.ext h)

theorem linkIx_ofNat (k : Fin 8) : linkIx (BitVec.ofNat 8 k.val) = some k := by
  have h : (BitVec.ofNat 8 k.val).toNat = k.val := by rw [BitVec.toNat_ofNat]; omega
  unfold linkIx
  rw [dif_pos (by omega)]
  exact congrArg some (Fin.ext h)

theorem State.opLoopback_port (s : State) (n : Fin 64) (kind : Byte) :
    s.opLoopback 0 (BitVec.ofNat 8 n.val) kind = s.opPortLoop n kind := by
  unfold State.opLoopback
  rw [portIx_ofNat]
  rfl

theorem State.opLoopback_echo (s : State) (k : Fin 8) : s.opLoopback 1 (BitVec.ofNat 8 k.val) 0 = s.opEcho k := by
  unfold State.opLoopback
  rw [linkIx_ofNat]
  rfl

/-- The byte of a link loopback's kind. -/
def LinkLb.byte : LinkLb → Byte
  | .lba => 0
  | .lbf => 1
  | .lbr => 2

theorem State.opLoopback_link (s : State) (k : Fin 8) (x : LinkLb) :
    s.opLoopback 2 (BitVec.ofNat 8 k.val) x.byte = s.opLinkLoop k x := by
  unfold State.opLoopback
  rw [linkIx_ofNat]
  cases x <;> rfl

/-! ### Loopbacks of a port (R69, R70, R103, R104) -/

theorem State.testOn_of_none {s : State} (h : s.rt = none) (p : Fin 64 → Bool) : s.testOn p = false := by
  unfold State.testOn
  rw [h]

/-- The commands of LB0, LB1 and LB2, by the kind that they give. -/
theorem asOp_of_loopKind {w : Who} {n : Fin 64} {c : Instr} {kind : Byte} {lk : LbKind} (hc : (c, kind, lk) ∈
    [(Instr.loopbackSetLb0 w n, (0 : Byte), LbKind.lb0), (.loopbackSetLb1 w n, 1, .lb1), (.loopbackSetLb2 w n, 2, .lb2)]) :
    asOp c = some (w, .loopback 0 (BitVec.ofNat 8 n.val) kind, [0, BitVec.ofNat 8 n.val, kind]) ∧
    (kind, lk) ∈ [((0 : Byte), LbKind.lb0), (1, .lb1), (2, .lb2)] := by
  simp only [List.mem_cons, Prod.mk.injEq, List.not_mem_nil, or_false] at hc
  obtain ⟨rfl, rfl, rfl⟩ | ⟨rfl, rfl, rfl⟩ | ⟨rfl, rfl, rfl⟩ := hc <;> exact ⟨rfl, by decide⟩

theorem State.opPortLoop_starts {s : State} {n : Fin 64} {kind : Byte} {lk : LbKind} (hk : (kind, lk) ∈
    [((0 : Byte), LbKind.lb0), (1, .lb1), (2, .lb2)]) (ha : s.assigned n = true) (hlb : (s.ports[n]).lb = none)
    (hlb3 : (s.wdus[n]).lb3 = none) (hrt : s.rt = none) (he : (s.lanes[laneOfPort n]).echo = none) :
    s.opPortLoop n kind = (s.startPortLoop n lk, ret stAccepted) := by
  have hfree : ¬ ((s.ports[n]).lb.isSome = true ∨ (s.wdus[n]).lb3.isSome = true ∨ s.testOn (fun m => decide (m = n)) = true ∨
      (kind ≠ 3 ∧ (s.lanes[laneOfPort n]).echo.isSome = true)) := by
    rw [hlb, hlb3, State.testOn_of_none hrt, he]
    simp
  unfold State.opPortLoop
  rw [ha, if_neg hfree]
  simp only [List.mem_cons, Prod.mk.injEq, List.not_mem_nil, or_false] at hk
  obtain ⟨rfl, rfl⟩ | ⟨rfl, rfl⟩ | ⟨rfl, rfl⟩ := hk <;> rfl

theorem State.opPortLoop_lb3 {s : State} {n : Fin 64} (ha : s.assigned n = true) (hlb : (s.ports[n]).lb = none)
    (hrt : s.rt = none) (hlb3 : (s.wdus[n]).lb3 = none) : s.opPortLoop n 3 = (s.startLb3 n, ret stAccepted) := by
  unfold State.opPortLoop
  rw [ha, hlb, State.testOn_of_none hrt, hlb3]
  rfl

/-- A run of LB3 bars another one. -/
theorem State.opPortLoop_lb3_refused {s : State} {n : Fin 64} (ha : s.assigned n = true) (hlb3 : (s.wdus[n]).lb3 ≠ none) :
    s.opPortLoop n 3 = (s, ret stNotPermitted) := by
  unfold State.opPortLoop
  rw [ha, if_neg (by simp), if_pos (.inr (.inl (Option.isSome_iff_ne_none.2 hlb3)))]

/-- LB2 clears the history of a channel, and its fade completes (R87, R103). -/
def Chan.lb2Start (c : Chan) : Chan :=
  { c with resetNow := true, lb2Mod := 0, lb2Out := 0, lb2Bad := false, scm := none, filled := false }.endFade

/-- The state in which a loopback of a port has begun, before the engines hear of it. -/
def State.loopBegun (s : State) (n : Fin 64) (k : LbKind) : State :=
  if k = .lb2 then (s.modPort n (fun p => { p with lb := some { kind := k, begin := s.now } })).modPair n Chan.lb2Start
  else s.modPort n (fun p => { p with lb := some { kind := k, begin := s.now } })

theorem State.startPortLoop_eq (s : State) (n : Fin 64) (k : LbKind) :
    s.startPortLoop n k = (s.loopBegun n k).postPoint (.loop n false true) := rfl

theorem State.loopBegun_frame (s : State) (n : Fin 64) (k : LbKind) :
    s.loopBegun n k = { s with ports := (s.loopBegun n k).ports, chans := (s.loopBegun n k).chans } := by
  cases k <;> rfl

theorem State.loopBegun_ports (s : State) (n : Fin 64) (k : LbKind) :
    (s.loopBegun n k).ports = upd s.ports n (fun p => { p with lb := some { kind := k, begin := s.now } }) := by
  cases k <;> rfl

theorem State.loopBegun_chans (s : State) (n : Fin 64) (k : LbKind) : (k ≠ .lb2 → (s.loopBegun n k).chans = s.chans) ∧
    ∀ c : Fin 128, portOf c ≠ n → (s.loopBegun n k).chans[c] = s.chans[c] := by
  refine ⟨fun hk => ?_, fun c hc => ?_⟩
  · unfold State.loopBegun
    rw [if_neg hk]
    rfl
  · unfold State.loopBegun
    split
    · exact (State.modPair_get _ n Chan.lb2Start c).trans (if_neg hc)
    · rfl

theorem State.startPortLoop_answered {s t : State} {n : Fin 64} {k : LbKind} {r : Result}
    (h : (s.startPortLoop n k).answered t r) : OthersSame s.ports t.ports n ∧
    ({ s with ports := t.ports, chans := t.chans, engines := t.engines, begun := t.begun } : State).answered t r ∧
    t.ports[n] = { s.ports[n] with lb := some { kind := k, begin := s.now } } ∧ (k ≠ .lb2 → t.chans = s.chans) ∧
    (∀ c : Fin 128, portOf c ≠ n → t.chans[c] = s.chans[c]) ∧ s.pointPosted t (.loop n false true) := by
  rw [State.startPortLoop_eq] at h
  have hframe := s.loopBegun_frame n k
  have hports := s.loopBegun_ports n k
  obtain ⟨hkeep, hchans⟩ := s.loopBegun_chans n k
  generalize s.loopBegun n k = u at h hframe hports hkeep hchans
  have hp : t.ports = u.ports := h.same.ports
  have hc : t.chans = u.chans := h.same.chans
  have he : t.engines = (u.postPoint (.loop n false true)).engines := h.same.engines
  have hb : t.begun = (u.postPoint (.loop n false true)).begun := h.same.begun
  have hlate : u.late = s.late := by rw [hframe]; rfl
  have hengines : u.engines = s.engines := by rw [hframe]
  refine ⟨?_, ?_, ?_, fun hk => hc.trans (hkeep hk), fun c hn => ?_, fun e => ?_⟩
  · rw [hp, hports]
    exact upd_othersSame _ _ _
  · rw [hp, hc, he, hb]
    have hu : ({ s with ports := u.ports, chans := u.chans, engines := (u.postPoint (.loop n false true)).engines
                        begun := (u.postPoint (.loop n false true)).begun } : State) = u.postPoint (.loop n false true) := by
      rw [hframe]; rfl
    rw [hu]
    exact h
  · rw [hp, hports]
    exact upd_get_same _ _ _
  · rw [hc]
    exact hchans c hn
  · rw [he, ← hlate, ← hengines]
    exact State.postPoint_pointPosted u _ e

theorem State.startLb3_answered {s t : State} {n : Fin 64} {r : Result} (h : (s.startLb3 n).answered t r) :
    OthersSame s.wdus t.wdus n ∧ ({ s with wdus := t.wdus } : State).answered t r ∧
    t.wdus[n] = { s.wdus[n] with lb3 := some { begin := s.now } } := by
  have hw : t.wdus = upd s.wdus n (fun w => { w with lb3 := some { begin := s.now } }) := h.same.wdus
  rw [hw]
  exact ⟨upd_othersSame _ _ _, h, upd_get_same _ _ _⟩

/-! ### The echo of a lane (R79) -/

theorem State.opEcho_starts {s : State} {k : Fin 8} (he : (s.lanes[k]).echo = none)
    (hlb : ∀ n : Fin 64, laneOfPort n = k → (s.ports[n]).lb = none) (hrt : s.rt = none) :
    s.opEcho k = (s.startEcho k, ret stAccepted) := by
  have hnone : (lanePorts k).any (fun n => (s.ports[n]).lb.isSome) = false := by
    rw [List.any_eq_false]
    intro n hn
    rw [hlb n ((mem_lanePorts k n).1 hn)]
    decide
  unfold State.opEcho
  rw [he, hnone, State.testOn_of_none hrt]
  rfl

/-- The lane of an echo that begins. -/
def State.echoBegun (s : State) (k : Fin 8) : State :=
  s.modLane k (fun l => { l with echo := some { begin := s.now, prbs := BitVec.ofNat 15 (k.val + 1) } })

theorem State.startEcho_answered {s t : State} {k : Fin 8} {r : Result} (h : (s.startEcho k).answered t r) :
    OthersSame s.lanes t.lanes k ∧
    ({ s with lanes := t.lanes, engines := t.engines, begun := t.begun } : State).answered t r ∧
    t.lanes[k] = { s.lanes[k] with echo := some { begin := s.now, prbs := BitVec.ofNat 15 (k.val + 1) } } ∧
    (∀ e : Fin 4, t.engines[e] = (s.engines[e]).post s.late (fun j => { j with
      points := j.points ++ (lanePorts k).map (fun n => PointEv.loop n true true) })) := by
  have heq : s.startEcho k = (lanePorts k).foldl (fun s n => s.postPoint (.loop n true true)) (s.echoBegun k) := rfl
  have heng := foldl_postPoint_engines (fun n => .loop n true true) (lanePorts k) (s.echoBegun k)
  obtain ⟨b, hframe⟩ := foldl_postPoint_frame (fun n => .loop n true true) (lanePorts k) (s.echoBegun k)
  rw [← heq] at heng hframe
  generalize s.startEcho k = u at h heng hframe
  have hl : t.lanes = (s.echoBegun k).lanes := h.same.lanes.trans (by rw [hframe])
  have he : t.engines = u.engines := h.same.engines
  have hb : t.begun = b := h.same.begun.trans (by rw [hframe])
  refine ⟨?_, ?_, ?_, fun e => ?_⟩
  · rw [hl]
    exact upd_othersSame _ _ _
  · rw [hl, he, hb]
    rw [hframe] at h
    exact h
  · rw [hl]
    exact upd_get_same _ _ _
  · rw [he, heng]
    exact Vector.getElem_map ..

/-! ### Loopbacks of a link (R216 to R218) -/

theorem State.opLinkLoop_starts {s : State} {k : Fin 8} {x : LinkLb} (hu : s.linkUsed k = true) (hx : x = .lbr → 3 ≤ k.val)
    (hl : (s.links[k]).loop = none) : s.opLinkLoop k x = (s.startLinkLoop k x, ret stAccepted) := by
  unfold State.opLinkLoop
  rw [hu, hl, if_neg]
  · rfl
  · rintro (h | ⟨hlbr, hk⟩)
    · simp at h
    · exact absurd (hx hlbr) (Nat.not_le.2 hk)

/-- L0 to L2 have no LBR. -/
theorem State.opLinkLoop_lane {s : State} {k : Fin 8} (hk : k.val < 3) : s.opLinkLoop k .lbr = (s, ret stBadParam) :=
  if_pos (.inr ⟨rfl, hk⟩)

theorem State.startLbf_answered {s t : State} {k : Fin 8} {r : Result} (h : (s.startLinkLoop k .lbf).answered t r) :
    OthersSame s.links t.links k ∧ ({ s with links := t.links } : State).answered t r ∧
    t.links[k] = { s.links[k] with loop := some { kind := .lbf, begin := s.now } } := by
  have hl : t.links = upd s.links k (fun l => { l with loop := some { kind := .lbf, begin := s.now } }) := h.same.links
  rw [hl]
  exact ⟨upd_othersSame _ _ _, h, upd_get_same _ _ _⟩

/-- The number of a test that a link begins: the one after the last, and never 0 (R218). -/
def Link.nextTest (l : Link) : Byte := if l.testLast = 0xFF then 1 else l.testLast + 1

theorem Link.nextTest_ne_zero (l : Link) : l.nextTest ≠ 0 := by
  unfold Link.nextTest
  split
  · decide
  next h => bv_omega

/-- The near end of an LBR that begins. -/
def Link.lbrLoop (now : Nat) (l : Link) : LinkLoop := { kind := .lbr, begin := now, no := l.nextTest }

/-- A link whose LBR begins asks its peer for the test. -/
def Link.lbrStart (now : Nat) (l : Link) : Link :=
  { l with loop := some (l.lbrLoop now), testReq := 1, testNo := l.nextTest, testLast := l.nextTest }

theorem State.startLbr_answered {s t : State} {k : Fin 8} {r : Result} (h : (s.startLinkLoop k .lbr).answered t r) :
    OthersSame s.links t.links k ∧ ({ s with links := t.links } : State).answered t r ∧
    t.links[k] = (s.links[k]).lbrStart s.now := by
  have hl : t.links = upd s.links k (Link.lbrStart s.now) := h.same.links
  rw [hl]
  exact ⟨upd_othersSame _ _ _, h, upd_get_same _ _ _⟩

theorem State.tbsFault_withTbs (s : State) (x : Tbs) (bit code : Nat) :
    ({ s with tbs := (({ s with tbs := x } : State).tbsFault bit code).tbs } : State).SameButLog
      (({ s with tbs := x } : State).tbsFault bit code) := by
  have h := ({ s with tbs := x } : State).tbsFault_same bit code
  rw [h.tbs]
  exact h

/-- The source is judged again: the time base and the log alone. -/
theorem State.judgeSource_same (s : State) : ({ s with tbs := s.judgeSource.tbs } : State).SameButLog s.judgeSource := by
  unfold State.judgeSource
  split
  · split
    · split <;> rfl
    · rfl
  · dsimp only
    split
    · exact State.tbsFault_withTbs s _ 1 0x0811
    · rfl

/-- The link of an LBA that begins, before the source is judged. -/
def State.lbaBegun (s : State) (k : Fin 8) : State :=
  (s.modLink k (fun l => { l with loop := some { kind := .lba, begin := s.now } })).postLink (.linkLoop k true)

theorem State.startLba_answered {s t : State} {k : Fin 8} {r : Result} (h : (s.startLinkLoop k .lba).answered t r) :
    OthersSame s.links t.links k ∧
    ({ s with links := t.links, engines := t.engines, tbs := t.tbs, begun := t.begun } : State).answered t r ∧
    t.links[k] = { s.links[k] with loop := some { kind := .lba, begin := s.now } } ∧ s.linkPosted t (.linkLoop k true) := by
  have hj := (s.lbaBegun k).judgeSource_same
  have heq : s.startLinkLoop k .lba = (s.lbaBegun k).judgeSource := rfl
  rw [heq] at h
  generalize (s.lbaBegun k).judgeSource = u at h hj
  have hl : t.links = upd s.links k (fun l => { l with loop := some { kind := .lba, begin := s.now } }) := h.same.links.trans hj.links
  have he : t.engines = (s.lbaBegun k).engines := h.same.engines.trans hj.engines
  have ht : t.tbs = u.tbs := h.same.tbs
  have hb : t.begun = (s.lbaBegun k).begun := h.same.begun.trans hj.begun
  refine ⟨?_, ?_, ?_, fun e => ?_⟩
  · rw [hl]
    exact upd_othersSame _ _ _
  · rw [hl, he, ht, hb]
    exact hj.answered h
  · rw [hl]
    exact upd_get_same _ _ _
  · rw [he]
    exact State.postLink_linkPosted (s.modLink k (fun l => { l with loop := some { kind := .lba, begin := s.now } })) _ e

/-! ### All loopbacks end (R304) -/

/-- Steps that each change one field of one index alike change every index alike. -/
theorem foldl_allFin_upd {α : Type} {N : Nat} (p : State → Vector α N) {step : State → Fin N → State} {f : α → α}
    (h : ∀ s i, p (step s i) = upd (p s) i f) (s : State) (i : Fin N) : (p ((allFin N).foldl step s))[i] = f (p s)[i] := by
  rw [← List.foldl_hom p (g₂ := fun v i => upd v i f) fun s i => (h s i).symm]
  exact (foldl_upd_get (fun _ => f) i (allFin N) (p s) (allFin_nodup N)).trans (if_pos (mem_allFin i))

def Port.dropLb (p : Port) : Port := { p with lb := none }
theorem Port.dropLb_of_none {p : Port} (h : p.lb = none) : p.dropLb = p := by rw [Port.dropLb, ← h]

def Wdu.dropLb3 (w : Wdu) : Wdu := { w with lb3 := none }
def Lane.dropEcho (l : Lane) : Lane := { l with echo := none }
theorem Lane.dropEcho_of_none {l : Lane} (h : l.echo = none) : l.dropEcho = l := by rw [Lane.dropEcho, ← h]

def Link.dropLoop (l : Link) : Link := { l with loop := none, testReq := 0, testNo := 0 }

/-- The loopbacks of a point end. -/
def State.endPointLoops (s : State) (n : Fin 64) : State :=
  if ((s.modWdu n Wdu.dropLb3).ports[n]).lb.isSome then
    (((s.modWdu n Wdu.dropLb3).modPort n Port.dropLb).modPair n Chan.enterScm).postPoint (.loop n false false)
  else s.modWdu n Wdu.dropLb3

/-- The echo of a lane ends. -/
def State.endLaneEcho (s : State) (k : Fin 8) : State :=
  if (s.lanes[k]).echo.isSome then
    (lanePorts k).foldl (fun s n => s.postPoint (.loop n true false))
      ((laneChans k).foldl (fun s c => s.modChan c Chan.enterScm) (s.modLane k Lane.dropEcho))
  else s

/-- The loopback of a link ends. -/
def State.endLinkLoops (s : State) (k : Fin 8) : State :=
  if (s.links[k]).looped then (s.modLink k Link.dropLoop).postLink (.linkLoop k false) else s.modLink k Link.dropLoop

theorem State.endAllLoops_eq (s : State) : s.endAllLoops = (allFin 8).foldl State.endLinkLoops
    ((allFin 8).foldl State.endLaneEcho ((allFin 64).foldl State.endPointLoops { s with rt := none })) := rfl

theorem State.endPointLoops_wdus (s : State) (n : Fin 64) : (s.endPointLoops n).wdus = upd s.wdus n Wdu.dropLb3 := by
  unfold State.endPointLoops
  split <;> rfl

theorem State.endPointLoops_ports (s : State) (n : Fin 64) : (s.endPointLoops n).ports = upd s.ports n Port.dropLb := by
  unfold State.endPointLoops
  split
  · rfl
  next h =>
    exact (upd_self (Port.dropLb_of_none (Option.not_isSome_iff_eq_none.1 h))).symm

theorem State.endLaneEcho_lanes (s : State) (k : Fin 8) : (s.endLaneEcho k).lanes = upd s.lanes k Lane.dropEcho := by
  unfold State.endLaneEcho
  split
  · rw [foldl_keeps State.lanes fun s n => State.postPoint_lanes s _, foldl_keeps State.lanes fun s c => State.modChan_lanes s c _]
    rfl
  next h =>
    exact (upd_self (Lane.dropEcho_of_none (Option.not_isSome_iff_eq_none.1 h))).symm

/-- The echo of a lane ends in the lane, its channels and the journals. -/
theorem State.endLaneEcho_keeps {β : Type} (p : State → β) (hlane : ∀ s k f, p (State.modLane s k f) = p s)
    (hchan : ∀ s c f, p (State.modChan s c f) = p s) (hpost : ∀ s ev, p (State.postPoint s ev) = p s) (s : State) (k : Fin 8) :
    p (s.endLaneEcho k) = p s := by
  unfold State.endLaneEcho
  split
  · rw [foldl_keeps p fun s n => hpost s _, foldl_keeps p fun s c => hchan s c _, hlane]
  · rfl

theorem State.endLinkLoops_links (s : State) (k : Fin 8) : (s.endLinkLoops k).links = upd s.links k Link.dropLoop := by
  unfold State.endLinkLoops
  split <;> rfl

/-- The end of a link's loopback touches links, journals and the order of the causes alone. -/
theorem State.endLinkLoops_frame (s : State) (k : Fin 8) : s.endLinkLoops k =
    { s with links := (s.endLinkLoops k).links, engines := (s.endLinkLoops k).engines, begun := (s.endLinkLoops k).begun } := by
  unfold State.endLinkLoops
  split <;> rfl

/-- What the end of all loopbacks leaves as it is. -/
def State.besidesLoops (s : State) : Option RunTest × Clk × Interp × Images := (s.rt, s.clk, s.cmd, s.img)

theorem State.endAllLoops_besides (s : State) : s.endAllLoops.besidesLoops = (none, s.clk, s.cmd, s.img) := by
  have hlink : ∀ s k, (State.endLinkLoops s k).besidesLoops = s.besidesLoops := fun s k => by
    rw [s.endLinkLoops_frame k]; rfl
  have hlane : ∀ s k, (State.endLaneEcho s k).besidesLoops = s.besidesLoops :=
    State.endLaneEcho_keeps _ (fun _ _ _ => rfl) (fun _ _ _ => rfl) (fun _ _ => rfl)
  have hpoint : ∀ s n, (State.endPointLoops s n).besidesLoops = s.besidesLoops := fun s n => by
    unfold State.endPointLoops; split <;> rfl
  rw [State.endAllLoops_eq, foldl_keeps _ hlink, foldl_keeps _ hlane, foldl_keeps _ hpoint]
  rfl

theorem State.endAllLoops_loops (s : State) :
    (∀ n : Fin 64, (s.endAllLoops.ports[n]).lb = none ∧ (s.endAllLoops.wdus[n]).lb3 = none) ∧
    (∀ k : Fin 8, (s.endAllLoops.lanes[k]).echo = none ∧ (s.endAllLoops.links[k]).loop = none) := by
  have hports : ∀ s k, (State.endLinkLoops s k).ports = s.ports := fun s k => by rw [s.endLinkLoops_frame k]
  have hwdus : ∀ s k, (State.endLinkLoops s k).wdus = s.wdus := fun s k => by rw [s.endLinkLoops_frame k]
  have hlanes : ∀ s k, (State.endLinkLoops s k).lanes = s.lanes := fun s k => by rw [s.endLinkLoops_frame k]
  have eports : ∀ s k, (State.endLaneEcho s k).ports = s.ports :=
    State.endLaneEcho_keeps _ (fun _ _ _ => rfl) (fun _ _ _ => rfl) (fun _ _ => rfl)
  have ewdus : ∀ s k, (State.endLaneEcho s k).wdus = s.wdus :=
    State.endLaneEcho_keeps _ (fun _ _ _ => rfl) (fun _ _ _ => rfl) (fun _ _ => rfl)
  rw [State.endAllLoops_eq]
  refine ⟨fun n => ⟨?_, ?_⟩, fun k => ⟨?_, ?_⟩⟩
  · rw [foldl_keeps State.ports hports, foldl_keeps State.ports eports,
      foldl_allFin_upd State.ports State.endPointLoops_ports]
    rfl
  · rw [foldl_keeps State.wdus hwdus, foldl_keeps State.wdus ewdus, foldl_allFin_upd State.wdus State.endPointLoops_wdus]
    rfl
  · rw [foldl_keeps State.lanes hlanes, foldl_allFin_upd State.lanes State.endLaneEcho_lanes]
    rfl
  · rw [foldl_allFin_upd State.links State.endLinkLoops_links]
    rfl

/-! ### The shutdown self-test (R304) -/

theorem beginU_unproven (u : UCause) (x : Sec) : (beginU u x).unproven = true := by
  unfold beginU
  split
  next h =>
    unfold Sec.unproven
    rw [Bool.not_eq_true', List.isEmpty_eq_false_iff]
    exact List.ne_nil_of_mem (List.contains_iff_mem.1 h)
  · split <;> rfl

theorem unproven_ite_beginU {c : Prop} [Decidable c] (u : UCause) {x : Sec} (h : x.unproven = true) :
    (if c then beginU u x else x).unproven = true := by
  split
  · exact beginU_unproven u x
  · exact h

/-- A start in force leaves no section in service, in any image (R149, R304). -/
theorem State.imposed_unproven {s : State} (h : UCause.start ∈ s.causes) (e : Fin 4) (x : Sec) : (s.imposed e x).unproven = true := by
  have hstart : (if s.causes.contains .start then beginU .start x else x).unproven = true := by
    rw [if_pos (List.contains_iff_mem.2 h)]
    exact beginU_unproven .start x
  have hdebug := unproven_ite_beginU (c := (s.engines[e]).mode = .debug) .debug
    (unproven_ite_beginU (c := s.causes.contains .image = true) .image hstart)
  unfold State.imposed
  dsimp only [List.foldl_cons, List.foldl_nil]
  split <;> exact hdebug

/-- What bars a shutdown self-test. -/
def State.shutdownBarred (s : State) : Prop :=
  (!s.railsNormal) = true ∨ (allFin 4).any (fun e => (s.engines[e]).engaged) = true ∨ s.img.stage = .verifying ∨
    s.img.stage = .activating ∨ s.img.fwPending = true

theorem State.not_shutdownBarred {s : State} (hrails : s.railsNormal = true) (heng : ∀ e : Fin 4, (s.engines[e]).engaged = false)
    (hv : s.img.stage ≠ .verifying) (ha : s.img.stage ≠ .activating) (hfw : s.img.fwPending = false) : ¬ s.shutdownBarred := by
  have hany : (allFin 4).any (fun e => (s.engines[e]).engaged) = false :=
    List.any_eq_false.2 fun e _ => by rw [heng e]; decide
  rintro (h | h | h | h | h)
  · rw [hrails] at h; cases h
  · rw [hany] at h; cases h
  · exact hv h
  · exact ha h
  · rw [hfw] at h; cases h

theorem State.shutdownBarred_of {s : State} (h : s.railsNormal = false ∨ (∃ e : Fin 4, (s.engines[e]).engaged = true) ∨
    s.img.stage = .verifying ∨ s.img.stage = .activating ∨ s.img.fwPending = true) : s.shutdownBarred := by
  refine h.imp (fun hr => by rw [hr]; rfl) (Or.imp_left ?_)
  rintro ⟨e, he⟩
  exact List.any_eq_true.2 ⟨e, mem_allFin e, he⟩

theorem State.besidesLoops_eq {s : State} {a b c d} (h : s.besidesLoops = (a, b, c, d)) :
    s.rt = a ∧ s.clk = b ∧ s.cmd = c ∧ s.img = d := by
  simpa only [State.besidesLoops, Prod.mk.injEq] using h

theorem State.opShutdown_accepts {s : State} (x : Bool) (h : ¬ s.shutdownBarred) : ∃ u,
    s.opShutdown x = (u, ret stAccepted) ∧ u.mdl.phase = .shutdown ∧
    (u.tst.state = .shutdown ∧ u.tst.kind = 3 ∧ u.tst.windowed = x ∧ u.tst.acc = 0xFFFFFFFF) ∧ UCause.start ∈ u.causes ∧
    u.besidesLoops = (none, s.clk, s.cmd, s.img) ∧
    (∀ n : Fin 64, (u.ports[n]).lb = none ∧ (u.wdus[n]).lb3 = none) ∧
    (∀ k : Fin 8, (u.lanes[k]).echo = none ∧ (u.links[k]).loop = none) := by
  obtain ⟨hports, hlanes⟩ := s.endAllLoops_loops
  have hbesides := s.endAllLoops_besides
  unfold State.opShutdown
  rw [if_neg (show ¬ (_ ∨ _) from h)]
  generalize s.endAllLoops = v at hports hlanes hbesides
  refine ⟨_, rfl, rfl, ⟨rfl, rfl, rfl, rfl⟩, ?_, hbesides, hports, hlanes⟩
  dsimp only
  split
  next hc => exact List.contains_iff_mem.1 hc
  next => exact List.mem_cons_self ..

theorem State.opShutdown_refuses {s : State} (x : Bool) (h : s.shutdownBarred) :
    s.opShutdown x = (s.tstFault 4 0x0C05, ret stNotPermitted) := if_pos h

/-! ### The log behind a fault (R314, R323, R340) -/

/-- Nothing dropped waits for a place. -/
def State.flushed (s : State) : Prop := s.mgt.dropped = 0 ∨ 4096 ≤ s.mgt.queue.length

theorem State.flushDropped_of_flushed {s : State} (h : s.flushed) : s.flushDropped = s :=
  if_neg fun k => h.elim (Nat.ne_of_gt k.1) (Nat.not_le.2 k.2)

theorem State.flushDropped_flushed (s : State) : s.flushDropped.flushed := by
  unfold State.flushDropped
  split
  · exact .inl rfl
  next h =>
    unfold State.flushed
    omega

theorem State.enqueue_event_flushed {s : State} (h : s.flushed) (e : Event) : (s.enqueue (.event e)).flushed := by
  unfold State.enqueue
  split
  next hl => exact .inl (h.resolve_right (Nat.not_le.2 hl))
  next hl => exact .inr (Nat.not_lt.1 hl)

theorem State.event_flushed (s : State) (c o : BitVec 16) (d : BitVec 48) : (s.event c o d).flushed :=
  State.enqueue_event_flushed s.flushDropped_flushed _

theorem State.enqueue_mdl (s : State) (q : QItem) : (s.enqueue q).mdl = s.mdl := by
  unfold State.enqueue
  split
  · rfl
  · cases q <;> rfl

theorem State.fault_flushed (s : State) {c o : Nat} (h5 : c ≠ 0x0605) (h3 : c ≠ 0x0703) : (s.fault c o).flushed := by
  unfold State.fault
  dsimp only
  rw [if_neg (by simp [h5, h3])]
  exact s.event_flushed (BitVec.ofNat 16 c) (BitVec.ofNat 16 o) 0

/-- The event of a command that has run leaves the last fault as it is, where nothing dropped waits. -/
theorem State.finish_lastFault {s : State} (hs : s.flushed) (w : Who) (o : Op) (r : Result) {c n : Nat} (h : s.lastFault c n) :
    (s.finish { who := w, op := o, ref := .none } r).lastFault c n := by
  refine Eq.trans ?_ h
  unfold State.finish State.answer
  dsimp only
  split
  · rfl
  · rw [State.event, State.flushDropped_of_flushed hs, State.enqueue_mdl]

end Sys2Proof.Machine

open Sys2Proof Sys2Proof.Machine

/-- Settles O42: each command reaches its operation, which starts its test or refuses it; what it posts reaches every engine. -/
theorem testCommands : Obligations.TestCommands := by
  unfold Obligations.TestCommands
  refine ⟨fun s w x h hrails heng hv ha hfw => ?_, fun s w x h hbar => ?_, fun s w n h => ⟨fun ha => ?_, fun ha => ?_⟩,
    fun s w n c kind lk hc h ha hlb hlb3 hrt he => ?_, fun s w n h ha hlb hrt => ⟨fun hlb3 => ?_, fun hlb3 => ?_⟩,
    fun s w k h he hlb hrt => ?_, fun s w k h hu hl => ?_, fun s w k h hu hl => ?_,
    fun s w k h => ⟨fun hu hk hl => ?_, fun hk => ?_⟩⟩
  · obtain ⟨u, hop, hphase, htst, hcause, hbesides, hports, hlanes⟩ :=
      State.opShutdown_accepts x (State.not_shutdownBarred hrails heng hv ha hfw)
    obtain ⟨hrt, hclk, hcmd, himg⟩ := State.besidesLoops_eq hbesides
    obtain ⟨t, ht, hans⟩ := exec_answered (c := .selftestShutdown w x) rfl h rfl hop
    have hstart : UCause.start ∈ t.causes := hans.same.causes ▸ hcause
    rw [← show t.tst = u.tst from hans.same.tst] at htst
    rw [← show t.ports = u.ports from hans.same.ports, ← show t.wdus = u.wdus from hans.same.wdus] at hports
    rw [← show t.lanes = u.lanes from hans.same.lanes, ← show t.links = u.links from hans.same.links] at hlanes
    obtain ⟨hst, hkind, hwin, hacc⟩ := htst
    have hph : t.mdl.phase = .shutdown := hans.same.mdl_phase.trans hphase
    exact ⟨t, ht, hph, hst, hkind, hwin, hacc, hans.same.rt.trans hrt, hstart, hans.same.cmd.trans (by rw [← hcmd]),
      hans.same.img.trans himg, hans.same.clk.trans hclk, State.imposed_unproven hstart, hports, hlanes⟩
  · have hfin := exec_finished (c := .selftestShutdown w x) rfl h rfl (State.opShutdown_refuses x (State.shutdownBarred_of hbar))
    have hsame : ({ s with tst := { s.tst with fault := setBit s.tst.fault 4 } } : State).SameButLog (s.tstFault 4 0x0C05) :=
      State.fault_same _ _ _
    have hlast : (s.tstFault 4 0x0C05).lastFault 0x0C05 0xFFFF :=
      State.fault_lastFault _ _ _ (by decide) (by decide) (by decide) (by decide)
    exact ⟨_, hfin, hsame.answered (State.finish_answered _ _ _ _),
      State.finish_lastFault (State.fault_flushed _ (by decide) (by decide)) _ _ _ hlast⟩
  · exact exec_answered rfl h rfl (by
      show s.opTestPort n = _
      unfold State.opTestPort
      rw [ha]
      rfl)
  · exact exec_answered rfl h rfl (by
      show s.opTestPort n = _
      unfold State.opTestPort
      rw [ha]
      rfl)
  · obtain ⟨hasOp, hkind⟩ := asOp_of_loopKind hc
    obtain ⟨t, ht, hans⟩ := exec_answered hasOp h rfl
      ((s.opLoopback_port n kind).trans (State.opPortLoop_starts hkind ha hlb hlb3 hrt he))
    exact ⟨t, ht, State.startPortLoop_answered hans⟩
  · obtain ⟨t, ht, hans⟩ := exec_answered (c := .loopbackSetLb3 w n) rfl h rfl
      ((s.opLoopback_port n 3).trans (State.opPortLoop_lb3 ha hlb hrt hlb3))
    exact ⟨t, ht, State.startLb3_answered hans⟩
  · exact exec_answered (c := .loopbackSetLb3 w n) rfl h rfl
      ((s.opLoopback_port n 3).trans (State.opPortLoop_lb3_refused ha hlb3))
  · obtain ⟨t, ht, hans⟩ := exec_answered (c := .loopbackSetEcho w k) rfl h rfl
      ((s.opLoopback_echo k).trans (State.opEcho_starts he hlb hrt))
    exact ⟨t, ht, State.startEcho_answered hans⟩
  · obtain ⟨t, ht, hans⟩ := exec_answered (c := .loopbackSetLba w k) rfl h rfl
      ((s.opLoopback_link k .lba).trans (State.opLinkLoop_starts hu (fun e => nomatch e) hl))
    exact ⟨t, ht, State.startLba_answered hans⟩
  · obtain ⟨t, ht, hans⟩ := exec_answered (c := .loopbackSetLbf w k) rfl h rfl
      ((s.opLoopback_link k .lbf).trans (State.opLinkLoop_starts hu (fun e => nomatch e) hl))
    exact ⟨t, ht, State.startLbf_answered hans⟩
  · obtain ⟨t, ht, hans⟩ := exec_answered (c := .loopbackSetLbr w k) rfl h rfl
      ((s.opLoopback_link k .lbr).trans (State.opLinkLoop_starts hu (fun _ => hk) hl))
    obtain ⟨hoth, hframe, hlink⟩ := State.startLbr_answered hans
    exact ⟨t, (s.links[k]).lbrLoop s.now, ht, hoth, hframe, congrArg Link.loop hlink, rfl, rfl, rfl, rfl,
      (s.links[k]).nextTest_ne_zero, congrArg Link.testReq hlink, congrArg Link.testNo hlink⟩
  · obtain ⟨t, ht, hans⟩ := exec_answered (c := .loopbackSetLbr w k) rfl h rfl
      ((s.opLoopback_link k .lbr).trans (State.opLinkLoop_lane hk))
    exact ⟨t, ht, hans⟩

end

section
/-! PROOFS. The ends of what a channel goes through (R74, R86, R98, R100, R101). -/

namespace Sys2Proof.Machine

theorem State.modChan_spec (s : State) (c : Fin 128) (f : Chan → Chan) : OthersSame s.chans (s.modChan c f).chans c ∧
    s.modChan c f = { s with chans := (s.modChan c f).chans } ∧ (s.modChan c f).chans[c] = f s.chans[c] :=
  ⟨upd_othersSame _ _ _, rfl, upd_get_same _ _ _⟩

/-- The integrators are cleared, and the overload is flagged for the next superframe. -/
def Chan.overloaded (now : Nat) (c : Chan) : Chan := { c with ovlFlag := true, integClear := some now }

theorem exec_modulatorOverload {s : State} (dt : Nat) (c : Fin 128) {bits : BitVec 64} (h : s.inReset = false)
    (hb : bits = 0 ∨ bits = BitVec.allOnes 64) :
    exec (.modulatorOverload dt (c, bits)) s = .next ((s.pass dt).modChan c (Chan.overloaded (s.now + dt))) := by
  have he : exec (.modulatorOverload dt (c, bits)) s = execModulatorOverload dt (c, bits) s := rfl
  rw [he, execModulatorOverload]
  exact State.when_true (by rw [State.pass_inReset, h, decide_eq_true hb]; rfl)

/-- Outputs that differ are no overload. -/
theorem exec_modulatorOverload_none (s : State) (dt : Nat) (c : Fin 128) {bits : BitVec 64} (h0 : bits ≠ 0)
    (h1 : bits ≠ BitVec.allOnes 64) : exec (.modulatorOverload dt (c, bits)) s = .next (s.pass dt) := by
  have he : exec (.modulatorOverload dt (c, bits)) s = execModulatorOverload dt (c, bits) s := rfl
  rw [he, execModulatorOverload]
  exact State.when_false (by rw [decide_eq_false (not_or.2 ⟨h0, h1⟩), Bool.and_false])

theorem exec_saturationEnd {s : State} (dt : Nat) {c : Fin 128} (h : s.inReset = false) (hs : (s.chans[c]).sat = true)
    (hl : (s.chans[c]).satLeft = 0) :
    exec (.saturationEnd dt c) s = .next ((s.pass dt).modChan c (fun x => { x with sat := false })) := by
  have he : exec (.saturationEnd dt c) s = execSaturationEnd dt c s := rfl
  rw [he, execSaturationEnd]
  exact State.when_true (by rw [State.pass_inReset, State.pass_chans, h, hs, hl]; rfl)

theorem exec_fadeComplete {s : State} {c : Fin 128} {f : Fade} (h : s.inReset = false) (hf : (s.chans[c]).fade = some f)
    (hd : 256 ≤ f.done) :
    exec (.fadeComplete c) s = .next (s.modChan c (fun x => { x with fade := none, bank := f.target })) := by
  have he : exec (.fadeComplete c) s = execFadeComplete c s := rfl
  rw [he, execFadeComplete, hf]
  exact State.when_true (by simp [h, hd])

/-- A fade runs on until FIR output 255 has been made. -/
theorem exec_fadeComplete_early {s : State} {c : Fin 128} {f : Fade} (hf : (s.chans[c]).fade = some f) (hd : f.done < 256) :
    exec (.fadeComplete c) s = .next s := by
  have he : exec (.fadeComplete c) s = execFadeComplete c s := rfl
  rw [he, execFadeComplete, hf]
  exact State.when_false (by rw [decide_eq_false (Nat.not_le.2 hd), Bool.and_false])

theorem Chan.scmCount_some {c : Chan} {q : Scm} (h : c.scm = some q) : c.scmCount = q.count := by
  rw [Chan.scmCount, h]

theorem exec_scmFillEnd {s : State} (dt : Nat) {c : Fin 128} {q : Scm} (h : s.inReset = false) (hq : (s.chans[c]).scm = some q)
    (hf : (s.chans[c]).filled = false) (hc : s.chanM c ≤ q.count) :
    exec (.scmFillEnd dt c) s = .next ((s.pass dt).modChan c (fun x => { x with filled := true, ovl := x.ovlNew })) := by
  have he : exec (.scmFillEnd dt c) s = execScmFillEnd dt c s := rfl
  have hm : (s.pass dt).chanM c ≤ q.count := hc
  rw [he, execScmFillEnd]
  exact State.when_true (by rw [State.pass_inReset, State.pass_chans, Chan.scmCount_some hq, h, hq, hf, decide_eq_true hm]; rfl)

/-- The channel is back on its main path. -/
def Chan.leaveScm (c : Chan) : Chan := { c with scm := none, filled := false }

theorem exec_scmChangeover {s : State} (dt : Nat) {c : Fin 128} {q : Scm} (h : s.inReset = false)
    (hq : (s.chans[c]).scm = some q) (hc : settleLen (s.chans[c]).sel (s.chanM c) (s.chanPd c) ≤ q.count)
    (ha : (s.chans[c]).active = false) : exec (.scmChangeover dt c) s =
      .next (((s.pass dt).modChan c Chan.leaveScm).modWdu (portOf c) (fun w => { w with realignNow := true })) := by
  have he : exec (.scmChangeover dt c) s = execScmChangeover dt c s := rfl
  have hs : settleLen (s.chans[c]).sel ((s.pass dt).chanM c) ((s.pass dt).chanPd c) ≤ q.count := hc
  rw [he, execScmChangeover]
  exact State.when_true (by
    rw [State.pass_inReset, State.pass_chans, Chan.scmCount_some hq, h, hq, ha, decide_eq_true hs]; rfl)

/-- R98: the changeover waits while the point is ACTIVE. -/
theorem exec_scmChangeover_active {s : State} (dt : Nat) {c : Fin 128} (ha : (s.chans[c]).active = true) :
    exec (.scmChangeover dt c) s = .next (s.pass dt) := by
  have he : exec (.scmChangeover dt c) s = execScmChangeover dt c s := rfl
  rw [he, execScmChangeover]
  exact State.when_false (by rw [State.pass_chans, ha, Bool.not_true, Bool.and_false])

/-- A synchronising reset has settled; its baseline load falls at the next output instant. -/
def Chan.settled (c : Chan) : Chan := { c with settling := false, baseLoad := false, loadDue := c.baseLoad || c.loadDue }

theorem exec_syncResetSettled {s : State} {c : Fin 128} (h : s.inReset = false) (hs : (s.chans[c]).settling = true)
    (hl : (s.chans[c]).settleLeft = 0) : exec (.syncResetSettled c) s = .next (s.modChan c Chan.settled) := by
  have he : exec (.syncResetSettled c) s = execSyncResetSettled c s := rfl
  rw [he, execSyncResetSettled]
  exact State.when_true (by rw [h, hs, hl]; rfl)

end Sys2Proof.Machine

open Sys2Proof Sys2Proof.Machine

/-- Settles O20: each end is a rule of its channel (`State.modChan_spec`), and the changeover also one of its point's detection
unit. That the changeover looks at the channel's own ACTIVE (log 72) and that a load left pending by an earlier reset is made at
the end of this one (log 88) are the model's choices. -/
theorem channelIntervalsEnd : Obligations.ChannelIntervalsEnd := by
  unfold Obligations.ChannelIntervalsEnd
  refine ⟨fun s dt c bits h hb => ?_, fun s dt c bits h0 h1 => exec_modulatorOverload_none s dt c h0 h1,
    fun s dt c h hs hl => ?_, fun s c f h hf hd => ?_, fun s c f hf hd => exec_fadeComplete_early hf hd,
    fun s dt c q h hq hf hc => ?_, fun s dt c q h hq hc ha => ?_, fun s dt c ha => exec_scmChangeover_active dt ha,
    fun s c h hs hl => ?_⟩
  · exact ⟨_, exec_modulatorOverload dt c h hb, (s.pass dt).modChan_spec c _⟩
  · exact ⟨_, exec_saturationEnd dt h hs hl, (s.pass dt).modChan_spec c _⟩
  · exact ⟨_, exec_fadeComplete h hf hd, s.modChan_spec c _⟩
  · exact ⟨_, exec_scmFillEnd dt h hq hf hc, (s.pass dt).modChan_spec c _⟩
  · obtain ⟨hchans, -, hchan⟩ := (s.pass dt).modChan_spec c Chan.leaveScm
    obtain ⟨hwdus, -, hwdu⟩ := ((s.pass dt).modChan c Chan.leaveScm).modWdu_spec (portOf c) (fun w => { w with realignNow := true })
    exact ⟨_, exec_scmChangeover dt h hq hc ha, hchans, hwdus, rfl, hchan, hwdu⟩
  · exact ⟨_, exec_syncResetSettled h hs hl, s.modChan_spec c _⟩

end

section
/-! PROOFS. The commands of banks and channels (R84 to R86, R89, R96, R100). -/

namespace Sys2Proof.Machine

/-! ### Check values of an engine's unit (R241, R242) -/

/-- In the low word of the accumulator the unit runs the CRC-32C. -/
theorem foldl_crcFeed_crc32c (bs : List Byte) : ∀ a : Word,
    bs.foldl (crcFeed 2) (a.setWidth 64) = (bs.foldl (crcByteR poly32c) a).setWidth 64 := by
  induction bs with
  | nil => intro a; rfl
  | cons x bs ih =>
    intro a
    have hx : crcFeed 2 (a.setWidth 64) x = (crcByteR poly32c a x).setWidth 64 :=
      congrArg (fun y => (crcByteR poly32c y x).setWidth 64) (BitVec.setWidth_setWidth_of_le a (by decide))
    rw [List.foldl_cons, List.foldl_cons, hx, ih]

theorem crcDone_crc32c (bs : List Byte) : crcDone 2 (bs.foldl (crcFeed 2) (crcInit 2)) = (crc32c bs).setWidth 64 := by
  have hi : crcInit 2 = (0xFFFFFFFF : Word).setWidth 64 := rfl
  rw [hi, foldl_crcFeed_crc32c]
  exact congrArg (fun y : Word => (y ^^^ 0xFFFFFFFF).setWidth 64) (BitVec.setWidth_setWidth_of_le _ (by decide))

theorem setWidth64_inj {x y : Word} : x.setWidth 64 = y.setWidth 64 ↔ x = y := by
  refine ⟨fun h => ?_, fun h => h ▸ rfl⟩
  have h' := congrArg (BitVec.setWidth 32) h
  rwa [BitVec.setWidth_setWidth_of_le _ (by decide), BitVec.setWidth_setWidth_of_le _ (by decide), BitVec.setWidth_eq,
    BitVec.setWidth_eq] at h'

/-- The right CRC-32C matches, and changes the units alone. -/
theorem State.useUnit_match (s : State) (u : Fin 4) {bs : List Byte} {crc : Word} (h : crc = crc32c bs) :
    ∃ v, s.useUnit u 2 bs (crc.setWidth 64) = (true, { s with crc := v }) := by
  unfold State.useUnit
  exact ⟨_, if_pos ((crcDone_crc32c bs).trans (setWidth64_inj.2 h.symm))⟩

/-- A wrong CRC-32C does not; it also raises the interrupt to Pewter and is logged. -/
theorem State.useUnit_mismatch (s : State) (u : Fin 4) {bs : List Byte} {crc : Word} (h : crc ≠ crc32c bs) :
    ∃ v i t, s.useUnit u 2 bs (crc.setWidth 64) = (false, t) ∧
      ({ s with crc := v, mdl := { s.mdl with irqCheck := i } } : State).SameButLog t := by
  unfold State.useUnit
  exact ⟨_, _, _, if_neg fun k => h (setWidth64_inj.1 ((crcDone_crc32c bs).symm.trans k)).symm, State.fault_same _ _ _⟩

/-! ### Banks (R84, R85) -/

theorem State.modBank_bank (s : State) (b : Bool) (f : Bank → Bank) : (s.modBank b f).bank b = f (s.bank b) := by
  cases b
  · exact upd_get_same s.banks 0 f
  · exact upd_get_same s.banks 1 f

theorem State.bank_congr {s t : State} (h : t.banks = s.banks) (b : Bool) : t.bank b = s.bank b := by
  rw [State.bank, h]
  rfl

/-- For a command that its row gives, a bank is busy where it is in a fade now. -/
theorem State.bankBusy_snap (s : State) (b : Bool) : s.bankBusy s.snap b = s.bankFading b := by
  have hbits : ∀ x y z : Bool, (BitVec.ofNat 2 (b2n x + 2 * b2n y)).getLsbD (b2n z) = if z then y else x := by decide
  have hbit : s.snap.busy.getLsbD (b2n b) = s.bankFading b := (hbits _ _ b).trans (by cases b <;> rfl)
  rw [State.bankBusy, hbit, Bool.or_self]

/-- What BANK_LOAD may not be. -/
theorem not_badTaps {f : Byte} {l : List (BitVec 24)} (hl : l ≠ []) (hlen : l.length ≤ 64) (hend : f.toNat + l.length ≤ 256) :
    ¬ (l.isEmpty = true ∨ 64 < l.length ∨ 256 < f.toNat + l.length) := by
  rintro (h | h | h)
  · exact hl (List.isEmpty_iff.1 h)
  · omega
  · omega

theorem State.opBankLoad_writes {s : State} {b : Bool} {f : Byte} {l : List (BitVec 24)} (hl : l ≠ []) (hlen : l.length ≤ 64)
    (hend : f.toNat + l.length ≤ 256) (hf : s.bankFading b = false) (hu : s.bankUsed b = false) :
    s.opBankLoad s.snap b f l = (s.modBank b (Bank.writeTaps f.toNat l), ret stOk) := by
  rw [State.opBankLoad, if_neg (not_badTaps hl hlen hend), State.bankBusy_snap, hf, hu]
  rfl

theorem State.opBankLoad_busy {s : State} {b : Bool} {f : Byte} {l : List (BitVec 24)} (hl : l ≠ []) (hlen : l.length ≤ 64)
    (hend : f.toNat + l.length ≤ 256) (hf : s.bankFading b = true) : s.opBankLoad s.snap b f l = (s, ret stFadeBusy) := by
  rw [State.opBankLoad, if_neg (not_badTaps hl hlen hend), State.bankBusy_snap, hf]
  rfl

theorem Bank.writeTaps_coef (first : Nat) (l : List (BitVec 24)) (b : Bank) (j : Fin 256) : (b.writeTaps first l).coef[j] =
    if first ≤ j.val ∧ j.val < first + l.length then l.getD (j.val - first) 0 else b.coef[j] := by
  simp [Bank.writeTaps]

theorem bankLoad_writes (s : State) (w : Who) (b : Bool) (f : Byte) (l : List (BitVec 24)) (h : s.admits w (.bankLoad b f l) [])
    (hl : l ≠ []) (hlen : l.length ≤ 64) (hend : f.toNat + l.length ≤ 256) (hf : s.bankFading b = false)
    (hu : s.bankUsed b = false) :
    ∃ t, exec (.bankLoad w b f l) s = .next t ∧ OthersSame s.banks t.banks (if b then 1 else 0) ∧
      ({ s with banks := t.banks } : State).answered t { status := stOk } ∧
      (∀ j : Fin 256, f.toNat ≤ j.val → j.val < f.toNat + l.length →
        (t.bank b).coef[j] = l.getD (j.val - f.toNat) 0) ∧
      (∀ j : Fin 256, (j.val < f.toNat ∨ f.toNat + l.length ≤ j.val) → (t.bank b).coef[j] = (s.bank b).coef[j]) ∧
      (t.bank b).valid = false ∧ (t.bank b).loading = true := by
  obtain ⟨t, ht, hans⟩ := exec_answered (c := .bankLoad w b f l) rfl h rfl (State.opBankLoad_writes hl hlen hend hf hu)
  have hbanks : t.banks = (s.modBank b (Bank.writeTaps f.toNat l)).banks := hans.same.banks
  have hbank : t.bank b = (s.bank b).writeTaps f.toNat l := (State.bank_congr hbanks b).trans (s.modBank_bank b _)
  refine ⟨t, ht, hbanks ▸ upd_othersSame _ _ _, hbanks ▸ hans, fun j hj hj' => ?_, fun j hj => ?_, ?_⟩ <;> rw [hbank]
  · rw [Bank.writeTaps_coef, if_pos ⟨hj, hj'⟩]
  · rw [Bank.writeTaps_coef, if_neg (by omega)]
  · exact ⟨rfl, rfl⟩

/-- A load has been closed: VALID and COMMAND where it passed. -/
def Bank.close (ok : Bool) (crc : Word) (b : Bank) : Bank :=
  { b with loading := false, valid := ok, command := b.command || ok, crc := crc }

/-- The close of a load that nothing bars, by the verdict of unit 0. -/
theorem State.opBankClose_judges {s : State} {b : Bool} {crc : Word} (hload : (s.bank b).loading = true)
    (hf : s.bankFading b = false) (hu : s.bankUsed b = false) {m : Bool} {t : State}
    (hr : s.useUnit 0 2 (coefBytes (s.bank b).coef.toList) (crc.setWidth 64) = (m, t)) :
    s.opBankClose s.snap b crc =
      if m && setOk (s.bank b).coef.toList then (t.modBank b (Bank.close (m && setOk (s.bank b).coef.toList) crc), ret stOk)
      else ((t.modBank b (Bank.close (m && setOk (s.bank b).coef.toList) crc)).fault 0x0401 0xFFFF, ret stCheckFail) := by
  rw [State.opBankClose, State.bankBusy_snap, hload, hf, hu]
  dsimp only
  rw [hr]
  rfl

/-- A load whose CRC-32C is right and whose set passes. -/
theorem bankLoadClose_good (s : State) (w : Who) (b : Bool) (crc : Word) (h : s.admits w (.bankClose b crc) [])
    (hload : (s.bank b).loading = true) (hf : s.bankFading b = false) (hu : s.bankUsed b = false)
    (hcrc : crc = crc32c (coefBytes (s.bank b).coef.toList)) (hset : setOk (s.bank b).coef.toList = true) :
    ∃ t, exec (.bankLoadClose w b crc) s = .next t ∧ OthersSame s.banks t.banks (if b then 1 else 0) ∧
      ({ s with banks := t.banks, crc := t.crc } : State).answered t { status := stOk } ∧ (t.bank b).valid = true ∧
      (t.bank b).loading = false ∧ (t.bank b).command = true ∧ (t.bank b).coef = (s.bank b).coef := by
  obtain ⟨v, hv⟩ := s.useUnit_match 0 hcrc
  have hop := State.opBankClose_judges hload hf hu hv
  rw [hset, if_pos (by rfl)] at hop
  obtain ⟨t, ht, hans⟩ := exec_answered (c := .bankLoadClose w b crc) rfl h rfl hop
  have hbanks : t.banks = (s.modBank b (Bank.close true crc)).banks := hans.same.banks
  have hunits : t.crc = v := hans.same.crc
  have hbank : t.bank b = (s.bank b).close true crc := (State.bank_congr hbanks b).trans (s.modBank_bank b _)
  refine ⟨t, ht, hbanks ▸ upd_othersSame _ _ _, ?_, ?_⟩
  · rw [hbanks, hunits]
    exact hans
  · rw [hbank]
    exact ⟨rfl, rfl, Bool.or_true _, rfl⟩

/-- A change of banks on top of logging. -/
theorem State.SameButLog.withBanks {s t : State} (h : s.SameButLog t) (v : Vector Bank 2) :
    ({ s with banks := v } : State).SameButLog { t with banks := v } := by
  unfold State.SameButLog at h ⊢
  rw [h]

/-- A load whose CRC-32C is wrong. -/
theorem bankLoadClose_badCrc (s : State) (w : Who) (b : Bool) (crc : Word) (h : s.admits w (.bankClose b crc) [])
    (hload : (s.bank b).loading = true) (hf : s.bankFading b = false) (hu : s.bankUsed b = false)
    (hcrc : crc ≠ crc32c (coefBytes (s.bank b).coef.toList)) :
    ∃ t, exec (.bankLoadClose w b crc) s = .next t ∧ OthersSame s.banks t.banks (if b then 1 else 0) ∧
      ({ s with banks := t.banks, crc := t.crc, mdl := { s.mdl with irqCheck := t.mdl.irqCheck } } : State).answered t
        { status := stCheckFail } ∧ (t.bank b).valid = false ∧ t.lastFault 0x0401 0xFFFF := by
  obtain ⟨v, i, r, hr, hsame⟩ := s.useUnit_mismatch 0 hcrc
  have hop := State.opBankClose_judges hload hf hu hr
  rw [Bool.false_and, if_neg Bool.false_ne_true] at hop
  have hbanks : (r.modBank b (Bank.close false crc)).banks = upd s.banks (if b then 1 else 0) (Bank.close false crc) :=
    congrArg (fun x => upd x _ _) hsame.banks
  have hfin := exec_finished (c := .bankLoadClose w b crc) rfl h rfl hop
  have hsame' := (hsame.withBanks (r.modBank b (Bank.close false crc)).banks).trans
    (State.fault_same (r.modBank b (Bank.close false crc)) 0x0401 0xFFFF)
  have hans := hsame'.answered (State.finish_answered _ w (.bankClose b crc) { status := stCheckFail })
  have hlast := State.finish_lastFault (State.fault_flushed (r.modBank b (Bank.close false crc)) (by decide) (by decide)) w
    (.bankClose b crc) { status := stCheckFail }
    (State.fault_lastFault (r.modBank b (Bank.close false crc)) 0x0401 0xFFFF (by decide) (by decide) (by decide) (by decide))
  refine ⟨_, hfin, ?_, ?_, ?_, hlast⟩
  · rw [hans.same.banks, hbanks]
    exact upd_othersSame _ _ _
  · rw [hans.same.banks, hans.same.crc, hans.same.mdl_irqCheck]
    exact hans
  · rw [State.bank_congr hans.same.banks b]
    exact congrArg Bank.valid (State.modBank_bank _ b _)

/-! ### Channels of a range of ports -/

@[simp] theorem mem_portRange (a z : BitVec 6) (n : Fin 64) : n ∈ portRange a z ↔ a.toNat ≤ n.val ∧ n.val ≤ z.toNat := by
  simp [portRange]

theorem portRange_nodup (a z : BitVec 6) : (portRange a z).Nodup := (allFin_nodup 64).filter _

@[simp] theorem mem_rangeChans (l : List (Fin 64)) (c : Fin 128) : c ∈ rangeChans l ↔ portOf c ∈ l := by
  simp only [rangeChans, List.mem_flatMap, List.mem_cons, List.not_mem_nil, or_false]
  refine ⟨fun ⟨n, hn, hc⟩ => ?_, fun h => ⟨_, h, portOf_eq_iff.1 rfl⟩⟩
  rwa [portOf_eq_iff.2 hc]

theorem rangeChans_nodup {l : List (Fin 64)} (h : l.Nodup) : (rangeChans l).Nodup := by
  refine List.nodup_flatMap.2 ⟨fun n _ => ?_, h.imp fun {n m} hnm c hn hm => hnm ?_⟩
  · exact List.nodup_cons.2 ⟨by simpa using (chanOf_cs2_ne_cs1 n).symm, List.nodup_singleton _⟩
  · have hc : portOf c = n := portOf_eq_iff.2 (by simpa using hn)
    exact hc.symm.trans (portOf_eq_iff.2 (by simpa using hm))

/-- The assigned ports of a range (R96, R100). -/
def State.assignedRange (s : State) (a z : BitVec 6) : List (Fin 64) := (portRange a z).filter (fun n => s.assigned n)

theorem State.mem_assignedRange (s : State) (a z : BitVec 6) (c : Fin 128) : c ∈ rangeChans (s.assignedRange a z) ↔
    (a.toNat ≤ (portOf c).val ∧ (portOf c).val ≤ z.toNat) ∧ s.assigned (portOf c) = true := by
  simp [State.assignedRange]

theorem State.assignedRange_nodup (s : State) (a z : BitVec 6) : (rangeChans (s.assignedRange a z)).Nodup :=
  rangeChans_nodup ((portRange_nodup a z).filter _)

/-- A command that changes channels and answers OK. -/
theorem exec_answered_chans {c : Instr} {w : Who} {o : Op} {ps : List Byte} {s : State} {v : Vector Chan 128} {r : Result}
    (hc : asOp c = some (w, o, ps)) (h : s.admits w o ps) (hr : o.asReset = none)
    (hp : s.perform { who := w, op := o, ref := .none } s.snap = ({ s with chans := v }, some r)) :
    ∃ t, exec c s = .next t ∧ ({ s with chans := t.chans } : State).answered t r ∧ t.chans = v := by
  obtain ⟨t, ht, hans⟩ := exec_answered hc h hr hp
  have hv : t.chans = v := hans.same.chans
  exact ⟨t, ht, hv ▸ hans, hv⟩

/-! ### BANK_SWAP (R86) -/

/-- Bits set for the elements of a list with a property leave the bit of one without it. -/
theorem foldl_setBits_getLsbD {p : Fin 128 → Bool} {i : Fin 128} (h : p i = false) (l : List (Fin 128)) : ∀ w : BitVec 128,
    (l.foldl (fun w c => if p c then w ||| (1#128 <<< c.val) else w) w).getLsbD i.val = w.getLsbD i.val := by
  induction l with
  | nil => intro w; rfl
  | cons c l ih =>
    intro w
    rw [List.foldl_cons, ih]
    by_cases hc : p c = true
    · have hne : i.val ≠ c.val := fun e => by rw [Fin.ext e, hc] at h; cases h
      have hbit : (1#128 <<< c.val).getLsbD i.val = false := by
        rcases Nat.lt_or_gt_of_ne hne with hlt | hgt
        · simp [hlt]
        · simp [show i.val - c.val ≠ 0 by omega]
      rw [if_pos hc, BitVec.getLsbD_or, hbit, Bool.or_false]
    · rw [if_neg hc]

theorem State.snap_fading {s : State} {c : Fin 128} (h : (s.chans[c]).fade = none) : s.snap.fading.getLsbD c.val = false := by
  have hnone : (s.chans[c]).fade.isSome = false := by rw [h]; rfl
  have hzero : (0 : BitVec 128).getLsbD c.val = false := BitVec.getLsbD_zero
  have hfading : s.snap.fading = (allFin 128).foldl (fun w c => if (s.chans[c]).fade.isSome then w ||| (1#128 <<< c.val) else w) 0 := by
    rw [State.snap]
  rw [hfading, foldl_setBits_getLsbD (p := fun c => (s.chans[c]).fade.isSome) hnone, hzero]

theorem State.opBankSwap_swaps {s : State} {a z : BitVec 6} {b : Bool} (hr : a.toNat ≤ z.toNat)
    (hf : ∀ c : Fin 128, a.toNat ≤ (portOf c).val → (portOf c).val ≤ z.toNat → (s.chans[c]).fade = none)
    (hv : (s.bank b).valid = true) : s.opBankSwap s.snap a z b =
      ((rangeChans (portRange a z)).foldl (fun s c => s.modChan c (Chan.swapBank b)) s, ret stOk) := by
  have hidle : (rangeChans (portRange a z)).any (fun c => s.snap.fading.getLsbD c.val) = false :=
    List.any_eq_false.2 fun c hc => by
      obtain ⟨ha, hz⟩ := (mem_portRange a z _).1 ((mem_rangeChans _ c).1 hc)
      rw [State.snap_fading (hf c ha hz)]
      decide
  rw [State.opBankSwap, if_neg (Nat.not_lt.2 hr), hidle, hv]
  rfl

theorem Chan.swapBank_fades {c : Chan} {b : Bool} (hb : c.bank ≠ b) (hs : c.sel = 0) :
    c.swapBank b = { c with fade := some { target := b, wait := c.firBefore } } := by
  rw [Chan.swapBank, if_neg (fun h => hb h.1), if_pos hs]

theorem Chan.swapBank_preset {c : Chan} (b : Bool) (hs : c.sel ≠ 0) : c.swapBank b = { c with bank := b } := by
  by_cases h : c.bank = b ∧ c.fade.isNone = true
  · rw [Chan.swapBank, if_pos h, ← h.1]
  · rw [Chan.swapBank, if_neg h, if_neg hs]

theorem Chan.swapBank_same {c : Chan} {b : Bool} (hb : c.bank = b) (hf : c.fade = none) : c.swapBank b = c :=
  if_pos ⟨hb, by rw [hf]; rfl⟩

theorem bankSwap_spec (s : State) (w : Who) (a z : BitVec 6) (b : Bool) (h : s.admits w (.bankSwap a z b) [])
    (hr : a.toNat ≤ z.toNat)
    (hf : ∀ c : Fin 128, a.toNat ≤ (portOf c).val → (portOf c).val ≤ z.toNat → (s.chans[c]).fade = none)
    (hv : (s.bank b).valid = true) :
    ∃ t, exec (.bankSwap w a z b) s = .next t ∧ ({ s with chans := t.chans } : State).answered t { status := stOk } ∧
      ∀ c : Fin 128,
        (a.toNat ≤ (portOf c).val ∧ (portOf c).val ≤ z.toNat → (s.chans[c]).bank ≠ b → (s.chans[c]).sel = 0 →
          t.chans[c] = { s.chans[c] with fade := some { target := b, wait := (s.chans[c]).firBefore } }) ∧
        (a.toNat ≤ (portOf c).val ∧ (portOf c).val ≤ z.toNat → (s.chans[c]).sel ≠ 0 →
          t.chans[c] = { s.chans[c] with bank := b }) ∧
        ((portOf c).val < a.toNat ∨ z.toNat < (portOf c).val ∨ (s.chans[c]).bank = b → t.chans[c] = s.chans[c]) := by
  have hop := State.opBankSwap_swaps hr hf hv
  rw [foldl_modChan (fun _ => Chan.swapBank b)] at hop
  obtain ⟨t, ht, hans, hchans⟩ := exec_answered_chans (c := .bankSwap w a z b) rfl h rfl hop
  have hget (c : Fin 128) : t.chans[c] =
      if a.toNat ≤ (portOf c).val ∧ (portOf c).val ≤ z.toNat then (s.chans[c]).swapBank b else s.chans[c] := by
    rw [hchans, foldl_upd_get (fun _ => Chan.swapBank b) c _ _ (rangeChans_nodup (portRange_nodup a z))]
    exact if_congr (by rw [mem_rangeChans, mem_portRange]) rfl rfl
  refine ⟨t, ht, hans, fun c => ⟨fun hin hb hs => ?_, fun hin hs => ?_, fun hout => ?_⟩⟩ <;> rw [hget]
  · rw [if_pos hin, Chan.swapBank_fades hb hs]
  · rw [if_pos hin, Chan.swapBank_preset b hs]
  · split
    next hin =>
      obtain ⟨ha, hz⟩ := hin
      exact Chan.swapBank_same (by simpa [Nat.not_lt.2 ha, Nat.not_lt.2 hz] using hout) (hf c ha hz)
    next => rfl

/-! ### PRESET_SELECT and SYNC_RESET (R96, R100) -/

theorem State.modChan_modChan (s : State) (c : Fin 128) (f g : Chan → Chan) :
    (s.modChan c f).modChan c g = s.modChan c (fun x => g (f x)) := by
  unfold State.modChan
  rw [upd_upd]

theorem State.modChan_congr {s : State} {c : Fin 128} {f g : Chan → Chan} (h : f s.chans[c] = g s.chans[c]) :
    s.modChan c f = s.modChan c g := by
  unfold State.modChan
  rw [upd_congr h]

/-- One channel takes a selection: where that is another one, with a synchronising reset. -/
def State.selectChan (q : BitVec 2) (s : State) (c : Fin 128) : State :=
  if (s.chans[c]).sel = q then s else (s.modChan c (fun x => { x with sel := q })).resetChan c false

/-- The same as a rule of the channel and of the other fields. -/
def State.selectRule (q : BitVec 2) (s : State) (c : Fin 128) (x : Chan) : Chan :=
  if x.sel = q then x else s.resetRule false c { x with sel := q }

theorem State.selectChan_eq (q : BitVec 2) (s : State) (c : Fin 128) : s.selectChan q c = s.modChan c (s.selectRule q c) := by
  unfold State.selectChan
  split
  next h => exact (State.modChan_self (f := s.selectRule q c) (if_pos h)).symm
  next h =>
    rw [State.resetChan_eq, State.modChan_modChan]
    exact State.modChan_congr (if_neg h).symm

theorem presetSelect_spec (s : State) (w : Who) (a z : BitVec 6) (q : BitVec 2)
    (h : s.admits w (.presetSelect a z (some q) none) []) (hr : a.toNat ≤ z.toNat) :
    ∃ t, exec (.presetSelect w a z (some q) none) s = .next t ∧
      ({ s with chans := t.chans } : State).answered t { status := stOk } ∧
      ∀ c : Fin 128,
        (a.toNat ≤ (portOf c).val → (portOf c).val ≤ z.toNat → s.assigned (portOf c) = true → (s.chans[c]).sel ≠ q →
          (t.chans[c]).sel = q ∧ (t.chans[c]).settling = true ∧ (t.chans[c]).resetNow = true) ∧
        ((portOf c).val < a.toNat ∨ z.toNat < (portOf c).val ∨ s.assigned (portOf c) = false ∨ (s.chans[c]).sel = q →
          t.chans[c] = s.chans[c]) := by
  have hop : s.opPreset a z (some q) none = ((rangeChans (s.assignedRange a z)).foldl (State.selectChan q) s, ret stOk) :=
    if_neg (Nat.not_lt.2 hr)
  rw [foldl_chanRule (State.selectChan_eq q) (fun _ _ _ => rfl), foldl_modChan (s.selectRule q)] at hop
  obtain ⟨t, ht, hans, hchans⟩ := exec_answered_chans (c := .presetSelect w a z (some q) none) rfl h rfl hop
  have hget (c : Fin 128) := foldl_upd_get (s.selectRule q) c _ s.chans (s.assignedRange_nodup a z)
  rw [← hchans] at hget
  refine ⟨t, ht, hans, fun c => ⟨fun ha hz has hs => ?_, fun hout => ?_⟩⟩ <;> rw [hget]
  · rw [if_pos ((s.mem_assignedRange a z c).2 ⟨⟨ha, hz⟩, has⟩), State.selectRule, if_neg hs]
    exact ⟨rfl, rfl, rfl⟩
  · split
    next hin =>
      obtain ⟨⟨ha, hz⟩, has⟩ := (s.mem_assignedRange a z c).1 hin
      have hsel : (s.chans[c]).sel = q := by simpa [Nat.not_lt.2 ha, Nat.not_lt.2 hz, has] using hout
      exact if_pos hsel
    next => rfl

theorem syncReset_spec (s : State) (w : Who) (a z : BitVec 6) (h : s.admits w (.syncReset a z) []) (hr : a.toNat ≤ z.toNat) :
    ∃ t, exec (.syncReset w a z) s = .next t ∧ ({ s with chans := t.chans } : State).answered t { status := stOk } ∧
      ∀ c : Fin 128,
        (a.toNat ≤ (portOf c).val → (portOf c).val ≤ z.toNat → s.assigned (portOf c) = true →
          t.chans[c] = (s.chans[c]).syncReset (s.chanM c) (s.chanPd c) false) ∧
        ((portOf c).val < a.toNat ∨ z.toNat < (portOf c).val ∨ s.assigned (portOf c) = false → t.chans[c] = s.chans[c]) := by
  have hop : s.opSyncReset a z = ((rangeChans (s.assignedRange a z)).foldl (fun s c => s.resetChan c false) s, ret stOk) :=
    if_neg (Nat.not_lt.2 hr)
  have hget := foldl_resetChan_get false (s.assignedRange_nodup a z) s
  rw [foldl_resetChan_frame] at hop
  obtain ⟨t, ht, hans, hchans⟩ := exec_answered_chans (c := .syncReset w a z) rfl h rfl hop
  rw [← hchans] at hget
  refine ⟨t, ht, hans, fun c => ⟨fun ha hz has => ?_, fun hout => ?_⟩⟩ <;> rw [hget]
  · exact if_pos ((s.mem_assignedRange a z c).2 ⟨⟨ha, hz⟩, has⟩)
  · refine if_neg fun hin => ?_
    obtain ⟨⟨ha, hz⟩, has⟩ := (s.mem_assignedRange a z c).1 hin
    simp [Nat.not_lt.2 ha, Nat.not_lt.2 hz, has] at hout

end Sys2Proof.Machine

open Sys2Proof Sys2Proof.Machine

/-- Settles O40: each command reaches its operation, which changes one bank or, one by one, the channels of its ports by a rule of
each channel. That the 0401h of a wrong transfer CRC has the object FFFFh (log 66) is the model's choice. -/
theorem bankAndChannelCommands : Obligations.BankAndChannelCommands := by
  unfold Obligations.BankAndChannelCommands
  refine ⟨bankLoad_writes, fun s w b f l h hl hlen hend hf => ?_,
    fun s w b crc h hload hf hu => ⟨fun hcrc hset => ?_, fun hcrc => ?_⟩, bankSwap_spec, presetSelect_spec, syncReset_spec,
    fun s w a z h hr => ?_⟩
  · exact exec_answered (c := .bankLoad w b f l) rfl h rfl (State.opBankLoad_busy hl hlen hend hf)
  · exact bankLoadClose_good s w b crc h hload hf hu hcrc hset
  · exact bankLoadClose_badCrc s w b crc h hload hf hu hcrc
  · exact exec_answered (c := .syncReset w a z) rfl h rfl (if_pos hr)

end

section
/-! PROOFS. A superframe of an isolator lane (R35, R74 to R78). -/

namespace Sys2Proof.Machine

/-! ### Streams of a superframe (R77) -/

theorem foldl_bits (bs : List Bool) : ∀ a : Nat, bs.foldl (fun a b => a * 2 + b2n b) a = a * 2 ^ bs.length + ofBits bs := by
  unfold ofBits
  induction bs with
  | nil => intro a; simp
  | cons b bs ih =>
    intro a
    rw [List.foldl_cons, List.foldl_cons, ih, ih (0 * 2 + b2n b), List.length_cons]
    ring

theorem ofBits_append (as bs : List Bool) : ofBits (as ++ bs) = ofBits as * 2 ^ bs.length + ofBits bs := by
  rw [ofBits, List.foldl_append]
  exact foldl_bits bs _

theorem ofBits_lt (bs : List Bool) : ofBits bs < 2 ^ bs.length := by
  induction bs with
  | nil => decide
  | cons b bs ih =>
    have h : ofBits (b :: bs) = b2n b * 2 ^ bs.length + ofBits bs := by
      rw [← List.singleton_append, ofBits_append]
      cases b <;> rfl
    have hb : b2n b ≤ 1 := by cases b <;> decide
    have hm := Nat.mul_le_mul_right (2 ^ bs.length) hb
    rw [h, List.length_cons, Nat.pow_succ]
    omega

theorem streamNat_lt (l : List Bool) (i n : Nat) : streamNat l i n < 2 ^ n :=
  (ofBits_lt _).trans_le (Nat.pow_le_pow_right (by decide) (List.length_take_le ..))

/-- Consecutive fields of a stream, read as one. -/
theorem streamNat_add {l : List Bool} {i n m : Nat} (h : i + n + m ≤ l.length) :
    streamNat l i (n + m) = streamNat l i n * 2 ^ m + streamNat l (i + n) m := by
  have hlen : ((l.drop (i + n)).take m).length = m := by rw [List.length_take, List.length_drop]; omega
  rw [streamNat, List.take_add, List.drop_drop, ofBits_append, hlen]
  rfl

theorem stream_length (b : Nat) (ws : List (BitVec 20)) : (stream b ws).length = ws.length := List.length_map ..

/-! ### A lane that loses its words (R78) -/

/-- A SYNCED lane enters FAULT. -/
theorem State.laneFault_spec {s : State} {k : Fin 8} (h : (s.lanes[k]).synced = true) :
    OthersSame s.lanes (s.laneFault k).lanes k ∧
    ({ s with lanes := (s.laneFault k).lanes, chans := (s.laneFault k).chans } : State).SameButLog (s.laneFault k) ∧
    (s.laneFault k).lanes[k] = (s.lanes[k]).lost s.now ∧
    (∀ c : Fin 128, c.val / 16 = k.val → (s.laneFault k).chans[c] = { s.chans[c] with fault := setBit (s.chans[c]).fault 1 }) ∧
    (∀ c : Fin 128, c.val / 16 ≠ k.val → (s.laneFault k).chans[c] = s.chans[c]) ∧ (s.laneFault k).lastFault 0x0310 k.val := by
  let u := s.modLane k (Lane.lost s.now)
  have hl : ((u.markChans k 1).fault 0x0310 k.val).lanes = upd s.lanes k (Lane.lost s.now) := by
    rw [State.fault_lanes, State.markChans_frame]
    rfl
  rw [State.laneFault_synced h]
  refine ⟨?_, (State.fault_same _ _ _).lanesChans ?_, ?_, fun c hc => ?_, fun c hc => ?_,
    State.fault_lastFault _ _ _ (by decide) (by decide) (by decide) (by omega)⟩
  · rw [hl]
    exact upd_othersSame _ _ _
  · rw [State.markChans_frame]
    rfl
  · rw [hl]
    exact upd_get_same _ _ _
  · rw [State.fault_chans]
    exact (u.markChans_get k 1 c).trans (if_pos hc)
  · rw [State.fault_chans]
    exact (u.markChans_get k 1 c).trans (if_neg hc)

/-! ### The end of a superframe (R76 to R78) -/

/-- The lane's superframe has ended: its words are in, wrong ones are counted, and an echo that runs is compared. -/
def State.closeRule (s : State) (k : Fin 8) (ws : List (BitVec 20)) (l : Lane) : Lane :=
  { l.endSf ws with
    lastSf := some s.tickNo, dirty := false
    wordErr := if (s.lanes[k]).dirty then l.wordErr else satAdd l.wordErr (ws.countP (fun w => !chkOk w))
    echo := l.echo.map (fun e => if e.begin < s.clk.tickAt then e.compare ws else e) }

def State.closeSf (s : State) (k : Fin 8) (ws : List (BitVec 20)) : State := s.modLane k (s.closeRule k ws)

/-- A good superframe: a lane in FAULT returns with the second one in a row, its reset due at the next tick. -/
def Lane.goodSf (tick : Nat) (l : Lane) : Lane :=
  if l.synced then l
  else if l.good = 0 then { l with good := 1 }
  else { l with synced := true, good := 0, faultAt := none, timedOut := false, resetDue := some (tick + 1) }

section
variable {tick : Nat} {l : Lane}

theorem Lane.goodSf_synced (h : l.synced = true) : l.goodSf tick = l := if_pos h

theorem Lane.goodSf_first (h : l.synced = false) (hg : l.good = 0) : l.goodSf tick = { l with good := 1 } := by
  rw [Lane.goodSf, if_neg (by simp [h]), if_pos hg]

theorem Lane.goodSf_second (h : l.synced = false) (hg : l.good ≠ 0) : l.goodSf tick =
    { l with synced := true, good := 0, faultAt := none, timedOut := false, resetDue := some (tick + 1) } := by
  rw [Lane.goodSf, if_neg (by simp [h]), if_neg hg]

end

theorem State.modLane_self {s : State} {k : Fin 8} {f : Lane → Lane} (h : f s.lanes[k] = s.lanes[k]) : s.modLane k f = s := by
  have h' : f s.lanes[k.val] = s.lanes[k.val] := h
  unfold State.modLane upd
  rw [h', Vector.set_getElem_self]

theorem State.modLane_congr {s : State} {k : Fin 8} {f g : Lane → Lane} (h : f s.lanes[k] = g s.lanes[k]) :
    s.modLane k f = s.modLane k g := by
  unfold State.modLane
  rw [upd_congr h]

theorem State.closeSf_lane (s : State) (k : Fin 8) (ws : List (BitVec 20)) :
    (s.closeSf k ws).lanes[k] = s.closeRule k ws s.lanes[k] := upd_get_same _ _ _

/-- The lane of the superframe counts it as good, as a rule of the lane. -/
theorem State.closeSf_goodSf (s : State) (k : Fin 8) (ws : List (BitVec 20)) :
    (if (s.lanes[k]).synced then s.closeSf k ws
      else if (s.lanes[k]).good = 0 then (s.closeSf k ws).modLane k (fun l => { l with good := 1 })
      else (s.closeSf k ws).modLane k (fun l => { l with
        synced := true, good := 0, faultAt := none, timedOut := false, resetDue := some (s.tickNo + 1) })) =
      (s.closeSf k ws).modLane k (Lane.goodSf s.tickNo) := by
  have hsync : ((s.closeSf k ws).lanes[k]).synced = (s.lanes[k]).synced := (congrArg Lane.synced (s.closeSf_lane k ws)).trans rfl
  have hgood : ((s.closeSf k ws).lanes[k]).good = (s.lanes[k]).good := (congrArg Lane.good (s.closeSf_lane k ws)).trans rfl
  rw [← hsync, ← hgood]
  split
  next h => exact (State.modLane_self (f := Lane.goodSf s.tickNo) (Lane.goodSf_synced h)).symm
  next h =>
    split
    next hg => exact State.modLane_congr (Lane.goodSf_first (Bool.eq_false_iff.2 h) hg).symm
    next hg => exact State.modLane_congr (Lane.goodSf_second (Bool.eq_false_iff.2 h) hg).symm

/-- A superframe that fails its checks, or in which a wrong word has been found already. -/
theorem exec_laneSuperframe_bad {s : State} {k : Fin 8} {ws : List (BitVec 20)} (hlen : ws.length = 1536) (h : s.inReset = false)
    (hlast : (s.lanes[k]).lastSf ≠ some s.tickNo) (hbegin : (s.lanes[k]).begins ws = true)
    (hok : superframeOk (s.clk.prevTb / 250000) ws = false) :
    exec (.laneSuperframe k ws) s = .next ((s.closeSf k ws).laneFault k) := by
  have he : exec (.laneSuperframe k ws) s = execLaneSuperframe k ws s := rfl
  rw [he, execLaneSuperframe, if_neg (not_not.2 hlen)]
  dsimp only
  rw [State.when_true (by rw [hok, hbegin, h, decide_eq_true hlast]; rfl), hok]
  rfl

/-- A superframe that passes its checks and carries what the field side sent. -/
theorem exec_laneSuperframe_good {s : State} {k : Fin 8} {ws : List (BitVec 20)} (hlen : ws.length = 1536) (h : s.inReset = false)
    (hlast : (s.lanes[k]).lastSf ≠ some s.tickNo) (hbegin : (s.lanes[k]).begins ws = true) (hcarry : s.carries k ws = true)
    (hdirty : (s.lanes[k]).dirty = false) (hok : superframeOk (s.clk.prevTb / 250000) ws = true) :
    exec (.laneSuperframe k ws) s = .next (((s.closeSf k ws).modLane k (Lane.goodSf s.tickNo)).takeSuperframe k ws) := by
  have he : exec (.laneSuperframe k ws) s = execLaneSuperframe k ws s := rfl
  rw [he, execLaneSuperframe, if_neg (not_not.2 hlen), ← s.closeSf_goodSf k ws]
  dsimp only
  rw [State.when_true (by rw [hok, hbegin, hcarry, h, decide_eq_true hlast]; rfl), if_pos ⟨hok, hdirty⟩]
  rfl

/-! ### What a good superframe reports (R35, R74, R75, R293) -/

/-- Beside what a superframe can reach, the log alone may change. -/
def State.SameButSuperframe (s t : State) : Prop :=
  ({ s with lanes := t.lanes, chans := t.chans, ports := t.ports, sup := t.sup, causes := t.causes,
            begun := t.begun, engines := t.engines, retLanes := t.retLanes } : State).SameButLog t

theorem State.SameButSuperframe.trans {s t u : State} (h : s.SameButSuperframe t) (k : t.SameButSuperframe u) :
    s.SameButSuperframe u := by
  unfold State.SameButSuperframe State.SameButLog at *
  rw [k, h]

/-- A change of those fields with logging on top. -/
theorem State.SameButSuperframe.of_same {s t : State} {a : Vector Lane 8} {b : Vector Chan 128} {c : Vector Port 64} {d : Sup}
    {e : List UCause} {f : List (UCause × Option (Fin 4))} {g : Vector Engine 4} {h : Vector RetLane 2}
    (hs : ({ s with lanes := a, chans := b, ports := c, sup := d, causes := e, begun := f, engines := g, retLanes := h } :
      State).SameButLog t) : s.SameButSuperframe t := by
  unfold State.SameButSuperframe
  rw [hs.lanes, hs.chans, hs.ports, hs.sup, hs.causes, hs.begun, hs.engines, hs.retLanes]
  exact hs

/-- The status words enter the lane. -/
def Lane.takeStatus (stat : List Bool) (l : Lane) : Lane :=
  { l with
    surgeStat := BitVec.ofNat 8 (streamNat stat 0 16 / 256), regOn := BitVec.ofNat 8 (streamNat stat 0 16)
    retFail := BitVec.ofNat 2 (streamNat stat 32 16 / 16384), hkLow := natBit (streamNat stat 32 16) 13
    switch := BitVec.ofNat 8 (streamNat stat 32 16), seqEcho := BitVec.ofNat 16 (streamNat stat 48 16) }

/-- The first two status bytes of a superframe. -/
theorem takeStatus_flags {ws : List (BitVec 20)} (h : ws.length = 1536) (l : Lane) :
    (l.takeStatus (stream 17 ws)).surgeStat = BitVec.ofNat 8 (streamNat (stream 17 ws) 0 8) ∧
    (l.takeStatus (stream 17 ws)).regOn = BitVec.ofNat 8 (streamNat (stream 17 ws) 8 8) := by
  have hadd : streamNat (stream 17 ws) 0 16 = streamNat (stream 17 ws) 0 8 * 2 ^ 8 + streamNat (stream 17 ws) 8 8 :=
    streamNat_add (i := 0) (n := 8) (m := 8) (by rw [stream_length]; omega)
  have hlt := streamNat_lt (stream 17 ws) 8 8
  refine ⟨congrArg (BitVec.ofNat 8) (by omega), BitVec.eq_of_toNat_eq ?_⟩
  simp only [Lane.takeStatus, BitVec.toNat_ofNat]
  omega

/-- The conversions of a superframe enter their ports. -/
def State.takeSars (s : State) (k : Fin 8) (ws : List (BitVec 20)) : State :=
  (allFin 8).foldl (fun s j =>
    s.modPort (portOfLane k j) (fun p => p.takeSar (streamNat (stream 18 ws) (16 * j.val) 16) p.convEnd.chip)) s

theorem foldl_modPort_frame {α : Type} (g : α → Fin 64) (f : α → Port → Port) (l : List α) : ∀ s : State,
    l.foldl (fun s a => s.modPort (g a) (f a)) s = { s with ports := (l.foldl (fun s a => s.modPort (g a) (f a)) s).ports } := by
  induction l with
  | nil => intro s; rfl
  | cons a l ih => intro s; rw [List.foldl_cons, ih]; rfl

theorem State.takeSars_frame (s : State) (k : Fin 8) (ws : List (BitVec 20)) :
    s.takeSars k ws = { s with ports := (s.takeSars k ws).ports } :=
  foldl_modPort_frame (portOfLane k) _ _ s

/-- The overloads that a superframe flags. -/
def State.takeOverloads (s : State) (k : Fin 8) (ovl : Nat) : State :=
  (laneChans k).foldl (fun s c => if natBit ovl (c.val % 16) then s.reportOverload c else s) s

theorem State.reportOverload_same (s : State) (c : Fin 128) :
    ({ s with chans := (s.reportOverload c).chans } : State).SameButLog (s.reportOverload c) := by
  let u := s.modChan c (fun x => { x with ovl := true, ovlNew := true })
  obtain ⟨-, hsame, -⟩ := u.fltFault_spec c 2 (code := 0x0301) (by decide) (by decide) (by decide)
  exact hsame

theorem State.SameButLog.chansTrans {s t u : State} (h : ({ s with chans := t.chans } : State).SameButLog t)
    (k : ({ t with chans := u.chans } : State).SameButLog u) : ({ s with chans := u.chans } : State).SameButLog u :=
  (h.withChans u.chans).trans k

theorem foldl_overloads_same (ovl : Nat) (l : List (Fin 128)) : ∀ s : State,
    ({ s with chans := (l.foldl (fun s c => if natBit ovl (c.val % 16) then s.reportOverload c else s) s).chans } : State).SameButLog
      (l.foldl (fun s c => if natBit ovl (c.val % 16) then s.reportOverload c else s) s) := by
  induction l with
  | nil => exact State.SameButLog.refl
  | cons c l ih =>
    intro s
    rw [List.foldl_cons]
    refine State.SameButLog.chansTrans ?_ (ih _)
    split
    · exact s.reportOverload_same c
    · exact .refl s

theorem State.takeOverloads_same (s : State) (k : Fin 8) (ovl : Nat) :
    ({ s with chans := (s.takeOverloads k ovl).chans } : State).SameButLog (s.takeOverloads k ovl) :=
  foldl_overloads_same ovl (laneChans k) s

/-- R35: what a report of a return lane does to the lane and to its ports. -/
theorem State.returnReport_spec (s : State) (r : Fin 2) (failed : Bool) :
    s.returnReport r failed =
      { s with retLanes := (s.returnReport r failed).retLanes, ports := (s.returnReport r failed).ports } ∧
    ∀ n : Fin 64, ((s.returnReport r failed).ports[n]).retBlind =
      if n.val / 32 = r.val then failed else (s.ports[n]).retBlind := by
  have hfr := foldl_modPort (fun _ p => { p with retBlind := failed }) (retPorts r) s
  refine ⟨?_, fun n => ?_⟩ <;> unfold State.returnReport
  · rw [hfr]
  · refine (congrArg Port.retBlind
      (foldl_modPort_get (fun _ p => { p with retBlind := failed }) (retPorts r) (retPorts_nodup r) s n)).trans ?_
    rw [apply_ite Port.retBlind]
    exact if_congr (mem_retPorts r n) rfl rfl

theorem State.supFault_same (s : State) (bit code obj : Nat) :
    ({ s with sup := (s.supFault bit code obj).sup } : State).SameButLog (s.supFault bit code obj) := by
  have h := State.fault_same { s with sup := { s.sup with fault := setBit s.sup.fault bit } } code obj
  rw [State.supFault, h.sup]
  exact h

/-- A change of causes and journals on top of logging. -/
theorem State.SameButLog.withCauses {s t : State} (h : s.SameButLog t) (a : List UCause) (b : List (UCause × Option (Fin 4)))
    (v : Vector Engine 4) : ({ s with causes := a, begun := b, engines := v } : State).SameButLog
      { t with causes := a, begun := b, engines := v } := by
  unfold State.SameButLog at h ⊢
  rw [h]

/-- R293: a declared cut-off reaches the supervision, the causes and the journals. -/
theorem State.declareCutoff_same (s : State) :
    ({ s with sup := s.declareCutoff.sup, causes := s.declareCutoff.causes, begun := s.declareCutoff.begun
              engines := s.declareCutoff.engines } : State).SameButLog s.declareCutoff := by
  unfold State.declareCutoff
  split
  · exact .refl s
  dsimp only
  generalize hu : (if s.sup.cutOver = true then _ else _ : State) = u
  have hsame : ({ s with sup := u.sup } : State).SameButLog u := by
    rw [← hu]
    split <;> exact State.supFault_same { s with sup := { s.sup with cutDeclared := true, cutPending := false } } _ _ _
  rw [State.beginCause_frame]
  exact hsame.withCauses _ _ _

theorem State.declareCutoff_sf (s : State) : s.SameButSuperframe s.declareCutoff := .of_same s.declareCutoff_same
theorem State.declareCutoff_lanes (s : State) : s.declareCutoff.lanes = s.lanes := s.declareCutoff_same.lanes
theorem State.declareCutoff_ports (s : State) : s.declareCutoff.ports = s.ports := s.declareCutoff_same.ports

/-- What a good superframe reports, before a cut-off is declared. -/
def State.sfReported (s : State) (k : Fin 8) (ws : List (BitVec 20)) : State :=
  let misc := streamNat (stream 17 ws) 32 16
  ((((s.takeSars k ws).modLane k (Lane.takeStatus (stream 17 ws))).takeOverloads k (streamNat (stream 17 ws) 16 16)).returnReport 0
    (natBit misc 15)).returnReport 1 (natBit misc 14)

/-- R293: the cut-off is declared at the first superframe that reports the regulators off. -/
theorem State.takeSuperframe_cases (s : State) (k : Fin 8) (ws : List (BitVec 20)) :
    s.takeSuperframe k ws = s.sfReported k ws ∨ s.takeSuperframe k ws = (s.sfReported k ws).declareCutoff := by
  unfold State.takeSuperframe
  dsimp only
  split
  · exact .inr rfl
  · exact .inl rfl

/-- A report of each return lane reaches all ports. -/
theorem State.returnReports_retBlind (s : State) (a b : Bool) (n : Fin 64) :
    ((((s.returnReport 0 a).returnReport 1 b)).ports[n]).retBlind = if n.val / 32 = 0 then a else b := by
  obtain ⟨-, h0⟩ := s.returnReport_spec 0 a
  obtain ⟨-, h1⟩ := (s.returnReport 0 a).returnReport_spec 1 b
  rw [h1, h0]
  by_cases h : n.val / 32 = 0
  · rw [if_pos h, if_neg (by rw [h]; decide)]
    exact if_pos h
  · rw [if_neg h]
    exact if_pos (show n.val / 32 = 1 by omega)

theorem State.takeSars_sf (s : State) (k : Fin 8) (ws : List (BitVec 20)) : s.SameButSuperframe (s.takeSars k ws) := by
  rw [State.takeSars_frame]
  exact .of_same (.refl _)

theorem State.returnReport_sf (s : State) (r : Fin 2) (failed : Bool) : s.SameButSuperframe (s.returnReport r failed) := by
  obtain ⟨h, -⟩ := s.returnReport_spec r failed
  rw [h]
  exact .of_same (.refl _)

theorem State.returnReport_lanes (s : State) (r : Fin 2) (failed : Bool) : (s.returnReport r failed).lanes = s.lanes := by
  obtain ⟨h, -⟩ := s.returnReport_spec r failed
  rw [h]

theorem State.sfReported_spec (s : State) (k : Fin 8) (ws : List (BitVec 20)) : s.SameButSuperframe (s.sfReported k ws) ∧
    (s.sfReported k ws).lanes = upd s.lanes k (Lane.takeStatus (stream 17 ws)) ∧
    ∀ n : Fin 64, ((s.sfReported k ws).ports[n]).retBlind = natBit (streamNat (stream 17 ws) 32 16) (15 - n.val / 32) := by
  unfold State.sfReported
  dsimp only
  have hstatus : (s.takeSars k ws).SameButSuperframe ((s.takeSars k ws).modLane k (Lane.takeStatus (stream 17 ws))) :=
    .of_same (.refl _)
  have hovl := ((s.takeSars k ws).modLane k (Lane.takeStatus (stream 17 ws))).takeOverloads_same k (streamNat (stream 17 ws) 16 16)
  refine ⟨?_, ?_, fun n => ?_⟩
  · exact ((((s.takeSars_sf k ws).trans hstatus).trans (.of_same hovl)).trans (State.returnReport_sf _ _ _)).trans
      (State.returnReport_sf _ _ _)
  · rw [State.returnReport_lanes, State.returnReport_lanes, hovl.lanes, State.takeSars_frame]
    rfl
  · rw [State.returnReports_retBlind]
    by_cases h : n.val / 32 = 0
    · rw [if_pos h, h]
    · rw [if_neg h, show n.val / 32 = 1 by omega]

theorem State.takeSuperframe_spec (s : State) (k : Fin 8) (ws : List (BitVec 20)) : s.SameButSuperframe (s.takeSuperframe k ws) ∧
    (s.takeSuperframe k ws).lanes = upd s.lanes k (Lane.takeStatus (stream 17 ws)) ∧
    ∀ n : Fin 64, ((s.takeSuperframe k ws).ports[n]).retBlind = natBit (streamNat (stream 17 ws) 32 16) (15 - n.val / 32) := by
  obtain ⟨hsame, hlanes, hblind⟩ := s.sfReported_spec k ws
  obtain h | h := s.takeSuperframe_cases k ws
  · rw [h]
    exact ⟨hsame, hlanes, hblind⟩
  · rw [h, State.declareCutoff_lanes, State.declareCutoff_ports]
    exact ⟨hsame.trans (State.declareCutoff_sf _), hlanes, hblind⟩

end Sys2Proof.Machine

open Sys2Proof Sys2Proof.Machine

/-- Settles O23: the end of a superframe and its verdict change the lane by one rule (`State.closeRule` and then `Lane.lost` or
`Lane.goodSf`); of what a good one reports, the return lanes' part reaches every port. That the object of 0310h is the lane's index
(log 67) is the model's choice. -/
theorem laneSuperframeRule : Obligations.LaneSuperframeRule := by
  unfold Obligations.LaneSuperframeRule
  refine ⟨fun s k ws hlen => if_pos hlen, fun s k ws hlen h hlast hbegin hsync hok => ?_,
    fun s k ws hlen h hlast hbegin hcarry hdirty hok => ?_⟩
  · have hsync' : ((s.closeSf k ws).lanes[k]).synced = true := (congrArg Lane.synced (s.closeSf_lane k ws)).trans hsync
    obtain ⟨hoth, hsame, hlane, hmarked, hrest, hlog⟩ := State.laneFault_spec hsync'
    rw [s.closeSf_lane k ws] at hlane
    refine ⟨_, exec_laneSuperframe_bad hlen h hlast hbegin hok, (upd_othersSame _ _ _).trans hoth, hsame, ?_⟩
    rw [hlane]
    exact ⟨rfl, rfl, rfl, rfl, hmarked, hrest, hlog⟩
  · obtain ⟨hsame, hlanes, hblind⟩ := ((s.closeSf k ws).modLane k (Lane.goodSf s.tickNo)).takeSuperframe_spec k ws
    have hlane : ((((s.closeSf k ws).modLane k (Lane.goodSf s.tickNo)).takeSuperframe k ws).lanes[k]) =
        ((s.closeRule k ws s.lanes[k]).goodSf s.tickNo).takeStatus (stream 17 ws) := by
      rw [hlanes]
      exact (upd_get_same _ _ _).trans (congrArg _ ((upd_get_same _ _ _).trans (congrArg _ (s.closeSf_lane k ws))))
    obtain ⟨hsurge, hreg⟩ := takeStatus_flags hlen ((s.closeRule k ws s.lanes[k]).goodSf s.tickNo)
    refine ⟨_, exec_laneSuperframe_good hlen h hlast hbegin hcarry hdirty hok, ?_, hsame.clk, hsame, ?_⟩
    · rw [hlanes]
      exact ((upd_othersSame _ _ _).trans (upd_othersSame _ _ _)).trans (upd_othersSame _ _ _)
    · rw [hlane]
      refine ⟨fun hs => ?_, fun hs hg => ?_, fun hs hg => ?_, hsurge, hreg, rfl, hblind⟩
      · rw [Lane.goodSf_synced (l := s.closeRule k ws s.lanes[k]) hs]
        exact hs
      · rw [Lane.goodSf_first (l := s.closeRule k ws s.lanes[k]) hs hg]
        exact ⟨hs, rfl⟩
      · rw [Lane.goodSf_second (l := s.closeRule k ws s.lanes[k]) hs hg]
        exact ⟨rfl, rfl⟩

end

section
/-! PROOFS. The sample of an output instant (R63, R76, R90, R98 to R101, R112). -/

namespace Sys2Proof.Machine

/-! ### What a channel's bits leave unchanged (R80 to R83) -/

/-- What decides the instant, the path and the settling of a channel's next sample is the same. -/
structure Chan.KeepsSlot (c d : Chan) : Prop where
  outIdx : d.outIdx = c.outIdx
  scm : d.scm = c.scm
  sel : d.sel = c.sel
  settleLeft : d.settleLeft = c.settleLeft

theorem Chan.KeepsSlot.refl (c : Chan) : c.KeepsSlot c := ⟨rfl, rfl, rfl, rfl⟩

theorem Chan.KeepsSlot.trans {c d x : Chan} (h : c.KeepsSlot d) (k : d.KeepsSlot x) : c.KeepsSlot x :=
  ⟨k.outIdx.trans h.outIdx, k.scm.trans h.scm, k.sel.trans h.sel, k.settleLeft.trans h.settleLeft⟩

theorem Chan.correlate_keepsSlot (c : Chan) (bit : Bool) : c.KeepsSlot (c.correlate bit) := by
  unfold Chan.correlate
  dsimp only
  split
  · exact ⟨rfl, rfl, rfl, rfl⟩
  · split <;> exact ⟨rfl, rfl, rfl, rfl⟩

theorem Chan.pushBit_keepsSlot (e : ChanEnv) (cs : Chan × Bool) (bit : Bool) : cs.1.KeepsSlot (Chan.pushBit e cs bit).1 := by
  refine (cs.1.correlate_keepsSlot bit).trans ?_
  unfold Chan.pushBit
  dsimp only
  split
  · exact ⟨rfl, rfl, rfl, rfl⟩
  · split <;> exact ⟨rfl, rfl, rfl, rfl⟩

theorem foldl_pushBit_keepsSlot (e : ChanEnv) (bits : List Bool) : ∀ cs : Chan × Bool,
    cs.1.KeepsSlot (bits.foldl (Chan.pushBit e) cs).1 := by
  induction bits with
  | nil => intro cs; exact .refl _
  | cons b bits ih => intro cs; exact (Chan.pushBit_keepsSlot e cs b).trans (ih _)

/-! ### The stages of an output instant (R90, R98 to R101) -/

/-- The bits since the instant before; the first ones of a frame set the number of the modulator period. -/
def Chan.takeBits (e : ChanEnv) (bits : List Bool) (c : Chan) : Chan × Bool :=
  bits.foldl (Chan.pushBit e) (if c.outIdx = 0 then { c with modIdx := e.modBase - bits.length } else c, false)

/-- A new frame counts its FIR outputs anew. -/
def Chan.startFrame (c : Chan) : Chan := if c.outIdx = 0 then { c with firCount := 1 } else c

/-- A pending clear is made (R100). -/
def Chan.clearDue (c : Chan) : Chan :=
  if c.resetNow then { c.clearHist with resetNow := false, lb2Mod := 0, cicPhase := 0, firPhase := 0 } else c

/-- Single-cycle mode begins with its first sample (R98). -/
def Chan.enterDue (c : Chan) : Chan :=
  match c.scm with
  | some q => if q.count = 0 then c.clearHist.endFade else c
  | none => c

/-- A synchronising reset that has settled ends (R90, R100). -/
def Chan.settleDue (c : Chan) : Chan :=
  if c.settling && decide (c.settleLeft = 0) then
    { c with settling := false, loadDue := c.baseLoad || c.loadDue, baseLoad := false } else c

/-- What falls at an instant before its sample. -/
def Chan.beforeSample (c : Chan) : Chan := c.startFrame.clearDue.enterDue.settleDue

/-- The baseline load that is due is made with the sample (R90). -/
def Chan.loads (e : ChanEnv) (fir : Bool) (c : Chan) : Bool := c.loadDue && (c.loadBase.judge e fir).2.2.1

/-- The sample, with the baseline loaded or not. -/
def Chan.sample (e : ChanEnv) (fir : Bool) (c : Chan) : Chan × Int × Bool × BitVec 2 :=
  if c.loads e fir then c.loadBase.judge e fir else c.judge e fir

/-- The sample enters the registers of its channel. -/
def Chan.emitSample (e : ChanEnv) (load newSat : Bool) (t : Chan × Int × Bool × BitVec 2) : Chan :=
  let c : Chan := { t.1 with loadDue := t.1.loadDue && !load }
  let value := satInt 24 (reduce t.2.1 16)
  let c := c.lb2Check e value
  { c with
    out := { valid := t.2.2.1, path := t.2.2.2, value := BitVec.ofInt 24 value }
    blindCnt := if c.out.valid ∧ t.2.2.1 = false then satInc c.blindCnt else c.blindCnt
    satCnt := if newSat then satInc c.satCnt else c.satCnt
    corr := if t.2.2.1 then c.corr else { c.corr with blind := true }
    settleLeft := c.settleLeft - 1
    satLeft := c.satLeft - 1
    outIdx := c.outIdx + 1 }

/-- Single-cycle mode counts the sample, and begins after an overload (R74, R98). -/
def Chan.countScm (e : ChanEnv) (c : Chan) : Chan :=
  let c := match c.scm with
    | some q => { c with scm := some { count := q.count + 1 }, filled := decide (e.m ≤ q.count),
                         ovl := c.ovl && !decide (e.m ≤ q.count + 1) }
    | none => c
  if c.ovlNew then { c with ovlNew := false, scm := some {}, filled := false } else c

theorem Chan.emit_chan (e : ChanEnv) (bits : List Bool) (c : Chan) : ∃ load newSat, (c.emit e bits).chan =
    (Chan.emitSample e load newSat ((c.takeBits e bits).1.beforeSample.sample e (c.takeBits e bits).2)).countScm e :=
  ⟨_, _, rfl⟩

/-! ### The sample that is emitted (R99, R101) -/

theorem Chan.takeBits_keepsSlot (e : ChanEnv) (bits : List Bool) (c : Chan) : c.KeepsSlot (c.takeBits e bits).1 := by
  refine Chan.KeepsSlot.trans ?_ (foldl_pushBit_keepsSlot e bits _)
  dsimp only
  split <;> exact ⟨rfl, rfl, rfl, rfl⟩

theorem Chan.startFrame_keepsSlot (c : Chan) : c.KeepsSlot c.startFrame := by
  unfold Chan.startFrame
  split <;> exact ⟨rfl, rfl, rfl, rfl⟩

theorem Chan.clearDue_keepsSlot (c : Chan) : c.KeepsSlot c.clearDue := by
  unfold Chan.clearDue
  split <;> exact ⟨rfl, rfl, rfl, rfl⟩

theorem Chan.enterDue_keepsSlot (c : Chan) : c.KeepsSlot c.enterDue := by
  unfold Chan.enterDue
  split
  · split <;> exact ⟨rfl, rfl, rfl, rfl⟩
  · exact .refl c

theorem Chan.settleDue_keepsSlot (c : Chan) : c.KeepsSlot c.settleDue := by
  unfold Chan.settleDue
  split <;> exact ⟨rfl, rfl, rfl, rfl⟩

theorem Chan.beforeSample_keepsSlot (c : Chan) : c.KeepsSlot c.beforeSample :=
  ((c.startFrame_keepsSlot.trans (Chan.clearDue_keepsSlot _)).trans (Chan.enterDue_keepsSlot _)).trans (Chan.settleDue_keepsSlot _)

/-- The path in effect (R99). -/
def Chan.pathNow (c : Chan) : BitVec 2 := if c.scm.isSome then 2 else if c.sel = 0 then 0 else 1

theorem Chan.stage_path (e : ChanEnv) (c : Chan) : (c.stage e).2 = c.pathNow := by
  unfold Chan.stage Chan.pathNow
  split
  · rfl
  · split <;> rfl

/-- R101: what keeps a sample from being VALID, of what this statement names. -/
theorem Chan.validNow_eq_false {e : ChanEnv} {c : Chan} (h : e.blind = true ∨ e.lb2.isSome = true ∨ c.settleLeft ≠ 0) :
    c.validNow e = false := by
  unfold Chan.validNow
  rcases h with h | h | h
  · simp [h]
  · simp [Option.isSome_iff_ne_none.1 h]
  · simp [h]

/-- A sample has the path in effect, is VALID only where nothing stands against it, and leaves the instant. -/
structure Chan.Sampled (e : ChanEnv) (c : Chan) (t : Chan × Int × Bool × BitVec 2) : Prop where
  outIdx : t.1.outIdx = c.outIdx
  path : t.2.2.2 = c.pathNow
  valid : e.blind = true ∨ e.lb2.isSome = true ∨ c.settleLeft ≠ 0 → t.2.2.1 = false

theorem Chan.judge_sampled (e : ChanEnv) (fir : Bool) (c : Chan) : Chan.Sampled e c (c.judge e fir) := by
  refine ⟨?_, c.stage_path e, fun h => ?_⟩
  · unfold Chan.judge
    dsimp only
    split <;> rfl
  · unfold Chan.judge
    dsimp only
    exact Chan.validNow_eq_false (by split <;> exact h)

theorem Chan.sample_sampled (e : ChanEnv) (fir : Bool) (c : Chan) : Chan.Sampled e c (c.sample e fir) := by
  unfold Chan.sample
  split
  · obtain ⟨hidx, hpath, hvalid⟩ := c.loadBase.judge_sampled e fir
    exact ⟨hidx, hpath, hvalid⟩
  · exact c.judge_sampled e fir

/-- The output registers are the same. -/
structure Chan.KeepsOut (c d : Chan) : Prop where
  out : d.out = c.out
  outIdx : d.outIdx = c.outIdx

theorem Chan.countScm_keepsOut (e : ChanEnv) (c : Chan) : c.KeepsOut (c.countScm e) := by
  unfold Chan.countScm
  extract_lets c1
  have h1 : c.KeepsOut c1 := by
    unfold c1
    split <;> exact ⟨rfl, rfl⟩
  split
  · exact ⟨h1.out, h1.outIdx⟩
  · exact h1

theorem Chan.lb2Check_outIdx (e : ChanEnv) (value : Int) (c : Chan) : (c.lb2Check e value).outIdx = c.outIdx := by
  unfold Chan.lb2Check
  split <;> rfl

theorem Chan.emitSample_outIdx (e : ChanEnv) (load newSat : Bool) (t : Chan × Int × Bool × BitVec 2) :
    (Chan.emitSample e load newSat t).outIdx = t.1.outIdx + 1 :=
  congrArg (· + 1) (Chan.lb2Check_outIdx e _ _)

/-- What an output instant leaves in the output registers of its channel. -/
theorem Chan.emit_spec (e : ChanEnv) (bits : List Bool) (c : Chan) : (c.emit e bits).chan.outIdx = c.outIdx + 1 ∧
    (c.emit e bits).chan.out.path = c.pathNow ∧
    (e.blind = true ∨ e.lb2.isSome = true ∨ c.settleLeft ≠ 0 → (c.emit e bits).chan.out.valid = false) := by
  obtain ⟨load, newSat, hchan⟩ := c.emit_chan e bits
  have hkeep := (c.takeBits_keepsSlot e bits).trans (Chan.beforeSample_keepsSlot _)
  have hs := Chan.sample_sampled e (c.takeBits e bits).2 (c.takeBits e bits).1.beforeSample
  generalize (c.takeBits e bits).1.beforeSample = d at hchan hkeep hs
  generalize d.sample e (c.takeBits e bits).2 = t at hchan hs
  have hout := Chan.countScm_keepsOut e (Chan.emitSample e load newSat t)
  rw [← hchan] at hout
  refine ⟨?_, ?_, fun h => ?_⟩
  · rw [hout.outIdx, Chan.emitSample_outIdx, hs.outIdx, hkeep.outIdx]
  · have hpath : d.pathNow = c.pathNow := by rw [Chan.pathNow, hkeep.scm, hkeep.sel, Chan.pathNow]
    rw [hout.out]
    exact hs.path.trans hpath
  · rw [hout.out]
    exact hs.valid (by rw [hkeep.settleLeft]; exact h)

/-! ### What a sample reaches outside its channel's registers (R63, R101, R112) -/

/-- Beside one channel's other registers, its point's port and detection unit, the run-time test and the log, nothing changes; the
channel's output and the unit's inputs stand. -/
structure State.AfterSample (c : Fin 128) (s t : State) : Prop where
  same : ({ s with chans := t.chans, wdus := t.wdus, ports := t.ports, rt := t.rt } : State).SameButLog t
  chans : OthersSame s.chans t.chans c
  wdus : OthersSame s.wdus t.wdus (portOf c)
  ports : OthersSame s.ports t.ports (portOf c)
  out : (s.chans[c]).KeepsOut t.chans[c]
  in1 : (t.wdus[portOf c]).in1 = (s.wdus[portOf c]).in1
  in2 : (t.wdus[portOf c]).in2 = (s.wdus[portOf c]).in2

section
variable {c : Fin 128} {s t u : State}

theorem State.AfterSample.refl (c : Fin 128) (s : State) : State.AfterSample c s s :=
  ⟨.refl s, .refl _ _, .refl _ _, .refl _ _, ⟨rfl, rfl⟩, rfl, rfl⟩

theorem State.AfterSample.trans (h : State.AfterSample c s t) (k : State.AfterSample c t u) : State.AfterSample c s u := by
  refine ⟨?_, h.chans.trans k.chans, h.wdus.trans k.wdus, h.ports.trans k.ports,
    ⟨k.out.out.trans h.out.out, k.out.outIdx.trans h.out.outIdx⟩, k.in1.trans h.in1, k.in2.trans h.in2⟩
  have hs := h.same
  have ks := k.same
  unfold State.SameButLog at *
  rw [ks, hs]

theorem State.AfterSample.fault (c : Fin 128) (s : State) (code obj : Nat) : State.AfterSample c s (s.fault code obj) := by
  have h := s.fault_same code obj
  refine ⟨?_, ?_, ?_, ?_, ?_, ?_, ?_⟩
  · rw [h.chans, h.wdus, h.ports, h.rt]
    exact h
  · rw [h.chans]
    exact .refl _ _
  · rw [h.wdus]
    exact .refl _ _
  · rw [h.ports]
    exact .refl _ _
  · rw [h.chans]
    exact ⟨rfl, rfl⟩
  · rw [h.wdus]
  · rw [h.wdus]

theorem State.AfterSample.modPort (c : Fin 128) (s : State) (f : Port → Port) : State.AfterSample c s (s.modPort (portOf c) f) :=
  ⟨.refl _, .refl _ _, .refl _ _, upd_othersSame _ _ _, ⟨rfl, rfl⟩, rfl, rfl⟩

theorem State.AfterSample.modWdu (c : Fin 128) (s : State) {f : Wdu → Wdu} (h1 : ∀ w, (f w).in1 = w.in1)
    (h2 : ∀ w, (f w).in2 = w.in2) : State.AfterSample c s (s.modWdu (portOf c) f) :=
  ⟨.refl _, .refl _ _, upd_othersSame _ _ _, .refl _ _, ⟨rfl, rfl⟩, (congrArg Wdu.in1 (upd_get_same _ _ _)).trans (h1 _),
    (congrArg Wdu.in2 (upd_get_same _ _ _)).trans (h2 _)⟩

theorem State.AfterSample.modChan (c : Fin 128) (s : State) {f : Chan → Chan} (h : ∀ x : Chan, x.KeepsOut (f x)) :
    State.AfterSample c s (s.modChan c f) :=
  ⟨.refl _, upd_othersSame _ _ _, .refl _ _, .refl _ _, (upd_get_same s.chans c f) ▸ h s.chans[c], rfl, rfl⟩

theorem State.AfterSample.setRt (c : Fin 128) (s : State) (r : Option RunTest) : State.AfterSample c s { s with rt := r } :=
  ⟨.refl _, .refl _ _, .refl _ _, .refl _ _, ⟨rfl, rfl⟩, rfl, rfl⟩

theorem State.AfterSample.fltFault (c : Fin 128) (s : State) (bit code : Nat) : State.AfterSample c s (s.fltFault c bit code) := by
  unfold State.fltFault
  refine State.AfterSample.trans ?_ (.fault c _ code c.val)
  exact .modChan c s fun _ => ⟨rfl, rfl⟩

theorem State.AfterSample.wduFault (c : Fin 128) (s : State) (bit code : Nat) :
    State.AfterSample c s (s.wduFault (portOf c) bit code) := by
  unfold State.wduFault
  refine State.AfterSample.trans ?_ (.fault c _ code (portOf c).val)
  exact .modWdu c s (fun _ => rfl) (fun _ => rfl)

theorem State.checkBase_afterSample (c : Fin 128) (s : State) : State.AfterSample c s (s.checkBase c) := by
  unfold State.checkBase
  dsimp only
  split
  · split
    · refine State.AfterSample.trans ?_ (.wduFault c _ 1 0x0502)
      exact .modWdu c s (fun _ => rfl) (fun _ => rfl)
    · split
      · exact .wduFault c s 3 0x0504
      · exact .refl _ _
  · exact .refl _ _

theorem State.judgeTaps_afterSample (c : Fin 128) (s : State) (taps : List Int) : State.AfterSample c s (s.judgeTaps c taps) := by
  unfold State.judgeTaps
  dsimp only
  split
  · exact (State.AfterSample.modPort c s _).trans (State.AfterSample.modPort c _ _)
  · split
    · exact .refl _ _
    · exact .modPort _ _ _

theorem State.testTaps_afterSample (c : Fin 128) (s : State) (taps : List Int) : State.AfterSample c s (s.testTaps c taps) := by
  unfold State.testTaps
  split
  · split
    · dsimp only
      split
      · exact .setRt _ _ _
      · exact .setRt _ _ _
      · exact .refl _ _
    · exact .refl _ _
  · exact .refl _ _

end

/-! ### OUTPUT_SAMPLE (R76, R99 to R101) -/

/-- The instant has come, and the lane's words with it. -/
def State.arrived (s : State) (c : Fin 128) (words : List (BitVec 20)) : State :=
  (s.upTo (s.inFrame ((s.chans[c]).outIdx * 250000 / s.chanM c))).modLane (laneOfChan c) (Lane.receive words)

/-- Words that arrive change nothing that a channel's outputs depend on beside its bits. -/
theorem State.chanEnv_receive (s : State) (c : Fin 128) (words : List (BitVec 20)) :
    (s.modLane (laneOfChan c) (Lane.receive words)).chanEnv c = s.chanEnv c := by
  have hlane : (s.modLane (laneOfChan c) (Lane.receive words)).lanes[laneOfPort (portOf c)] =
      (s.lanes[laneOfPort (portOf c)]).receive words := upd_get_same _ _ _
  have hblind : (s.modLane (laneOfChan c) (Lane.receive words)).laneBlind c = s.laneBlind c := by
    rw [State.laneBlind, hlane]
    rfl
  have hecho : (s.modLane (laneOfChan c) (Lane.receive words)).echoOn c = s.echoOn c := by
    rw [State.echoOn, hlane]
    rfl
  rw [State.chanEnv, hblind, hecho]
  rfl

/-- What the channel yields at the instant. -/
def State.emitted (s : State) (c : Fin 128) : ChanOut := (s.chans[c]).emit (s.chanEnv c) (s.laneBits c)

/-- The sample stands in its channel's registers. -/
def State.registered (s : State) (c : Fin 128) : State :=
  s.modChan c (fun _ => { (s.emitted c).chan with used := (s.lanes[laneOfChan c]).got })

/-- A saturation that begins is flagged and logged (R101). -/
def State.noteSat (s : State) (c : Fin 128) (newSat : Bool) : State := if newSat then s.fltFault c 3 0x0402 else s

/-- A loaded baseline is checked (R112). -/
def State.noteBase (s : State) (c : Fin 128) (loaded : Bool) : State := if loaded then s.checkBase c else s

/-- What a sample reaches besides: the baseline checks, the loop conditions and a run-time test. -/
def State.noted (s : State) (c : Fin 128) (o : ChanOut) : State :=
  (((s.noteSat c o.newSat).noteBase c o.loaded).judgeTaps c o.newTaps).testTaps c o.newTaps

theorem State.noteSat_afterSample (c : Fin 128) (s : State) (b : Bool) : State.AfterSample c s (s.noteSat c b) := by
  unfold State.noteSat
  split
  · exact .fltFault c s 3 0x0402
  · exact .refl c s

theorem State.noteBase_afterSample (c : Fin 128) (s : State) (b : Bool) : State.AfterSample c s (s.noteBase c b) := by
  unfold State.noteBase
  split
  · exact State.checkBase_afterSample c s
  · exact .refl c s

theorem State.noted_afterSample (c : Fin 128) (s : State) (o : ChanOut) : State.AfterSample c s (s.noted c o) :=
  (((State.noteSat_afterSample c s _).trans (State.noteBase_afterSample c _ _)).trans (State.judgeTaps_afterSample c _ _)).trans
    (State.testTaps_afterSample c _ _)

theorem exec_outputSample {s : State} {c : Fin 128} {words : List (BitVec 20)} (h : s.inReset = false)
    (hi : (s.chans[c]).outIdx < s.chanM c) (hw : words.length ≤ 3072) : exec (.outputSample c words) s =
      .next ((((s.arrived c words).registered c).noted c ((s.arrived c words).emitted c)).toWdu c (s.outInst c)) := by
  have he : exec (.outputSample c words) s = execOutputSample c words s := rfl
  rw [he, execOutputSample, if_neg (Nat.not_lt.2 hw), State.when_true (by rw [h, decide_eq_true hi]; rfl)]
  unfold State.noted State.noteBase State.noteSat State.registered State.emitted State.arrived
  dsimp only

section
variable {s : State} {c : Fin 128} (inst : Nat)

theorem State.toWdu_cs1 (h : sysOf c = .cs1) :
    s.toWdu c inst = s.modWdu (portOf c) (fun w => { w with in1 := some (s.chans[c]).out, inInst := inst }) := by
  rw [State.toWdu, h]

theorem State.toWdu_cs2 (h : sysOf c = .cs2) :
    s.toWdu c inst = s.modWdu (portOf c) (fun w => { w with in2 := some (s.chans[c]).out, inInst := inst }) := by
  rw [State.toWdu, h]

end

theorem State.registered_chan (s : State) (c : Fin 128) :
    (s.registered c).chans[c] = { (s.emitted c).chan with used := (s.lanes[laneOfChan c]).got } := upd_get_same _ _ _

/-- A change of detection units on top of logging. -/
theorem State.SameButLog.withWdus {s t : State} (h : s.SameButLog t) (v : Vector Wdu 64) :
    ({ s with wdus := v } : State).SameButLog { t with wdus := v } := by
  unfold State.SameButLog at h ⊢
  rw [h]

/-- The state in which the sample has been handed to the detection unit of its point. -/
def State.sampled (s : State) (c : Fin 128) (words : List (BitVec 20)) : State :=
  (((s.arrived c words).registered c).noted c ((s.arrived c words).emitted c)).toWdu c (s.outInst c)

/-- What an output instant changes, and what of it the channel's own registers and the inputs of the detection unit show. -/
structure State.Sampled (s : State) (c : Fin 128) (words : List (BitVec 20)) (t : State) : Prop where
  clk : t.clk = (s.arrived c words).clk
  lanes : t.lanes = upd s.lanes (laneOfChan c) (Lane.receive words)
  chans : OthersSame s.chans t.chans c
  wdus : OthersSame s.wdus t.wdus (portOf c)
  ports : OthersSame s.ports t.ports (portOf c)
  same : ({ s with clk := t.clk, lanes := t.lanes, chans := t.chans, wdus := t.wdus, ports := t.ports, rt := t.rt } :
    State).SameButLog t
  out : ((s.arrived c words).emitted c).chan.KeepsOut t.chans[c]
  cs1 : sysOf c = .cs1 → (t.wdus[portOf c]).in1 = some (t.chans[c]).out ∧ (t.wdus[portOf c]).in2 = (s.wdus[portOf c]).in2
  cs2 : sysOf c = .cs2 → (t.wdus[portOf c]).in2 = some (t.chans[c]).out ∧ (t.wdus[portOf c]).in1 = (s.wdus[portOf c]).in1

theorem State.sampled_spec (s : State) (c : Fin 128) (words : List (BitVec 20)) : s.Sampled c words (s.sampled c words) := by
  have hafter := State.noted_afterSample c ((s.arrived c words).registered c) ((s.arrived c words).emitted c)
  have hreg := (s.arrived c words).registered_chan c
  unfold State.sampled
  generalize ((s.arrived c words).registered c).noted c ((s.arrived c words).emitted c) = t at hafter ⊢
  have hclk : t.clk = (s.arrived c words).clk := hafter.same.clk
  have hlanes : t.lanes = upd s.lanes (laneOfChan c) (Lane.receive words) := hafter.same.lanes
  refine ⟨hclk, hlanes, (upd_othersSame _ _ _).trans hafter.chans, hafter.wdus.trans (upd_othersSame _ _ _), hafter.ports, ?_, ?_,
    fun hsys => ?_, fun hsys => ?_⟩
  · have h := hafter.same.withWdus (t.toWdu c (s.outInst c)).wdus
    show ({ s with clk := t.clk, lanes := t.lanes, chans := t.chans, wdus := (t.toWdu c (s.outInst c)).wdus
                   ports := t.ports, rt := t.rt } : State).SameButLog _
    rw [hclk, hlanes]
    exact h
  · have hk := hafter.out
    rw [hreg] at hk
    exact ⟨hk.out, hk.outIdx⟩
  · rw [State.toWdu_cs1 _ hsys]
    exact ⟨congrArg Wdu.in1 (upd_get_same _ _ _), (congrArg Wdu.in2 (upd_get_same _ _ _)).trans hafter.in2⟩
  · rw [State.toWdu_cs2 _ hsys]
    exact ⟨congrArg Wdu.in2 (upd_get_same _ _ _), (congrArg Wdu.in1 (upd_get_same _ _ _)).trans hafter.in1⟩

end Sys2Proof.Machine

open Sys2Proof Sys2Proof.Machine

/-- Settles O19: what the channel emits is read off `Chan.emit_spec`; all that follows keeps its output (`State.AfterSample`) until
the detection unit takes it. -/
theorem outputSampleEmitted : Obligations.OutputSampleEmitted := by
  unfold Obligations.OutputSampleEmitted
  refine ⟨fun s u c words h hi hw hu => ?_, fun s c words hw => if_pos hw⟩
  have henv : (s.arrived c words).chanEnv c = u.chanEnv c := by
    rw [hu]
    exact State.chanEnv_receive _ c words
  have hclk : (s.arrived c words).clk = u.clk := by rw [hu]; rfl
  have hemit : (s.arrived c words).emitted c = (s.chans[c]).emit (u.chanEnv c) ((s.arrived c words).laneBits c) := by
    rw [State.emitted, henv]
    rfl
  obtain ⟨hidx, hpath, hvalid⟩ := (s.chans[c]).emit_spec (u.chanEnv c) ((s.arrived c words).laneBits c)
  obtain ⟨tclk, tlanes, tchans, twdus, tports, tsame, tout, tcs1, tcs2⟩ := s.sampled_spec c words
  rw [hemit] at tout
  rw [← tout.out] at hpath hvalid
  refine ⟨s.sampled c words, exec_outputSample h hi hw, tclk.trans hclk, tlanes ▸ upd_othersSame _ _ _, ?_, tchans, twdus,
    tports, tsame, tout.outIdx.trans hidx, fun hs => ?_, fun hs h0 => ?_, fun hs h0 => ?_, fun hb => hvalid (.inl hb),
    fun hl => hvalid (.inr (.inl hl)), fun hl => hvalid (.inr (.inr hl)), tcs1, tcs2⟩
  · rw [tlanes]
    exact upd_get_same _ _ _
  · rw [hpath, Chan.pathNow, if_pos hs]
  · rw [hpath, Chan.pathNow, hs, h0]
    rfl
  · rw [hpath, Chan.pathNow, hs, if_neg h0]
    rfl

end

section
/-! PROOFS. The trajectory rule of a detection context (R117 to R121, R118, R125). -/

namespace Sys2Proof.Machine

/-! ### A committed record (R119, R120) -/

/-- A quotient of two natural numbers is not rounded below 0. -/
theorem roundConv_nonneg {n : Int} (h : 0 ≤ n) (d : Nat) : 0 ≤ roundConv n d := by
  have hq : 0 ≤ n / (d : Int) := Int.ediv_nonneg h (Int.natCast_nonneg d)
  unfold roundConv
  dsimp only
  split
  · exact Int.add_nonneg hq (by decide)
  · exact hq

/-- A speed code up to 2,000 is held whole in its field. -/
theorem toNat_speedCode {v : Int} (h0 : 0 ≤ v) (h : v ≤ 2000) : (BitVec.ofInt 11 v).toNat ≤ 2000 := by
  rw [BitVec.toNat_ofInt]
  omega

/-- A record committed at an entry end: its direction, its point, and a speed code up to 2,000. -/
structure AxleRec.Committed (g : WduCfg) (entry : Bool) (r : AxleRec) : Prop where
  dir : r.dir = if entry then 2 else 1
  certain : r.uncertain = false
  speed : r.speed.toNat ≤ 2000
  point : r.point = g.point
  modAddr : r.modAddr = g.modAddr

theorem Ctx.commit_committed {g : WduCfg} {x : Ctx} {r : AxleRec} {k : Nat} (h : x.commit g = .commit r k) :
    r.Committed g x.entry := by
  unfold Ctx.commit at h
  split at h
  · cases h
  · extract_lets near far t tn speed w depth len num den asym p at h
    split at h
    · cases h
    · split at h
      · cases h
      next hspeed =>
        cases h
        exact ⟨rfl, rfl, toNat_speedCode (roundConv_nonneg (by positivity) _) (Int.not_lt.1 hspeed), rfl, rfl⟩

/-! ### The phases on a fully valid sample (R118) -/

/-- What the rule makes of a context on a fully valid sample: nothing, the quiet end of SPENT, an uncertain record, which leads into
SPENT, or a record committed in TRACK, which turns the trajectory round. -/
inductive Ctx.Outcome (g : WduCfg) (x : Ctx) : Ctx × WduEv → Prop
  | silent {y : Ctx} (stays : x.phase = .spent → y.phase = .spent) : Outcome g x (y, .none)
  | spentEnds {y : Ctx} (quiet : x.quiet g = true) (cs1 : y.c1 = x.c1) (cs2 : y.c2 = x.c2) : Outcome g x (y, .none)
  | uncertain {y : Ctx} (c : BitVec 5) (live : x.phase ≠ .spent) (spent : y.phase = .spent) : Outcome g x (y, .unc c)
  | committed {y : Ctx} {r : AxleRec} (k : Nat) (track : x.phase = .track) (stays : y.phase = .track) (turned : y.entry = !x.entry)
      (record : r.Committed g x.entry) : Outcome g x (y, .commit r k)

section
variable {g : WduCfg} {x : Ctx}

theorem Ctx.evalTrack_outcome (both : Bool) (hx : x.phase = .track) : x.Outcome g (x.evalTrack g both) := by
  have hlive : x.phase ≠ .spent := by simp [hx]
  have hsilent {y : Ctx} : x.Outcome g (y, .none) := .silent fun h => absurd h hlive
  unfold Ctx.evalTrack
  split
  · exact .uncertain 4 hlive rfl
  extract_lets qn z w
  have hw : w.phase = .track ∧ w.entry = x.entry := by
    unfold w
    split <;> exact ⟨hx, rfl⟩
  split
  · exact .uncertain 5 hlive rfl
  split
  · exact .uncertain 6 hlive rfl
  split
  · exact hsilent
  split
  · split
    · exact .uncertain 5 hlive rfl
    · cases hc : w.commit g with
      | none => exact hsilent
      | unc c => exact .uncertain c hlive rfl
      | commit r k => exact .committed k hx hw.1 (congrArg not hw.2) (hw.2 ▸ Ctx.commit_committed hc)
  · exact hsilent

theorem Ctx.evalPhase_outcome (both : Bool) : x.Outcome g (x.evalPhase g both) := by
  unfold Ctx.evalPhase
  split
  next hx =>
    split
    next hq => exact .spentEnds hq rfl rfl
    next => exact .silent id
  next hx => exact Ctx.evalTrack_outcome both hx
  next hs _ =>
    split
    · exact .silent fun h => absurd h hs
    · split
      · exact .uncertain 4 hs rfl
      · exact .silent fun h => absurd h hs

end

/-! ### A paired sample (R110 to R118) -/

/-- Both systems take their part of a paired sample. -/
def Ctx.takePair (g : WduCfg) (h1 h2 : Half) (inst : Nat) (x : Ctx) : Ctx :=
  { x with
    c1 := if h1.valid then x.c1.sample g.m g.on1 g.off1 h1.d (pos h1.d) (pos h2.d) (h1.scm || h2.scm) x.inst inst
      else x.c1.blind h1.d
    c2 := if h2.valid then x.c2.sample g.m g.on2 g.off2 h2.d (pos h1.d) (pos h2.d) (h1.scm || h2.scm) x.inst inst
      else x.c2.blind h2.d
    inst := inst }

/-- With the position of a fully valid sample, and t_x0 where its sign changes (R115, R117). -/
def Ctx.locate (g : WduCfg) (h1 h2 : Half) (inst : Nat) (x : Ctx) : Ctx :=
  let e0 := pos x.c2.d - pos x.c1.d
  let e1 := pos h2.d - pos h1.d
  let defd := decide ((g.posMin : Int) ≤ pos h1.d + pos h2.d)
  { x.takePair g h1 h2 inst with
    region := regionOf g.posMin x.entry (pos h1.d) (pos h2.d)
    xdef := defd
    x0 := if x.xdef = true ∧ defd = true ∧ e0.sign ≠ e1.sign then some (crossing g.m x.inst 0 e0 e1) else x.x0
    afterBlind := false }

/-- Both states changed in this sample. -/
def Ctx.bothChange (x y : Ctx) : Bool := decide (y.c1.s ≠ x.c1.s) && decide (y.c2.s ≠ x.c2.s)

section
variable {g : WduCfg} {h1 h2 : Half} {inst : Nat} {susp : Bool} {x : Ctx}

theorem Ctx.evaluate_blind (h : h1.valid = false ∨ h2.valid = false) :
    x.evaluate g h1 h2 inst susp = (x.takePair g h1 h2 inst).evalBlind g h1 h2 := if_pos h

theorem Ctx.evaluate_valid (v1 : h1.valid = true) (v2 : h2.valid = true) : x.evaluate g h1 h2 inst susp =
    let z := x.locate g h1 h2 inst
    if x.afterBlind = true ∧ x.basePending = true then
      if z.phase ≠ .spent then { z with basePending := false }.uncertain 9 else ({ z with basePending := false }, .none)
    else if x.afterBlind = true ∧ z.quiet g = false ∧ z.phase ≠ .spent then z.uncertain 2
    else if susp = true ∧ z.quiet g = false ∧ z.phase ≠ .spent then z.uncertain 8
    else z.evalPhase g (x.bothChange (x.takePair g h1 h2 inst)) := if_neg (by simp [v1, v2])

/-- d is that of the sample. -/
theorem SysTrack.sample_d (m : Nat) (on off d dx dy : Int) (scm : Bool) (prev inst : Nat) (k : SysTrack) :
    (k.sample m on off d dx dy scm prev inst).d = d := by
  unfold SysTrack.sample
  extract_lets
  split <;> rfl

theorem Ctx.locate_d (v1 : h1.valid = true) (v2 : h2.valid = true) :
    (x.locate g h1 h2 inst).c1.d = h1.d ∧ (x.locate g h1 h2 inst).c2.d = h2.d := by
  simp only [Ctx.locate, Ctx.takePair, v1, v2, if_true, SysTrack.sample_d, and_self]

/-- A VALID=0 sample: APPROACH and TRACK end in cause 01h, IDLE may begin SPENT, and SPENT lasts. -/
theorem Ctx.evalBlind_cases (g : WduCfg) (h1 h2 : Half) (x : Ctx) :
    (∃ c y, x.evalBlind g h1 h2 = (y, .unc c) ∧ y.phase = .spent ∧ x.phase ≠ .spent ∧
      (x.phase = .approach ∨ x.phase = .track → c = 1)) ∨
    (∃ y, x.evalBlind g h1 h2 = (y, .none) ∧ y.phase = x.phase ∧ x.phase ≠ .approach ∧ x.phase ≠ .track) := by
  unfold Ctx.evalBlind
  extract_lets z
  have hz : z.phase = x.phase := rfl
  rw [hz]
  cases hx : x.phase with
  | approach => exact .inl ⟨1, _, rfl, rfl, by simp, fun _ => rfl⟩
  | track => exact .inl ⟨1, _, rfl, rfl, by simp, fun _ => rfl⟩
  | spent => exact .inr ⟨z, rfl, hx, by simp, by simp⟩
  | idle =>
    dsimp only
    split
    · exact .inl ⟨3, _, rfl, rfl, by simp, by simp⟩
    · exact .inr ⟨z, rfl, hx, by simp, by simp⟩

theorem Ctx.evaluate_outcome (v1 : h1.valid = true) (v2 : h2.valid = true) :
    (x.locate g h1 h2 inst).Outcome g (x.evaluate g h1 h2 inst susp) := by
  rw [Ctx.evaluate_valid v1 v2]
  dsimp only
  split
  · split
    next hp => exact .uncertain 9 hp rfl
    next => exact .silent id
  split
  next h => exact .uncertain 2 h.2.2 rfl
  split
  next h => exact .uncertain 8 h.2.2 rfl
  exact Ctx.evalPhase_outcome _

end

end Sys2Proof.Machine

open Sys2Proof Sys2Proof.Machine

/-- Settles O25: a sample with VALID=0 ends or keeps the phase (`Ctx.evalBlind_cases`), a fully valid one has one of four outcomes
(`Ctx.Outcome`), and each says what the rule asks. -/
theorem trajectoryRule : Obligations.TrajectoryRule := by
  unfold Obligations.TrajectoryRule
  intro g h1 h2 inst susp x y ev h
  by_cases hb : h1.valid = false ∨ h2.valid = false
  · rw [Ctx.evaluate_blind hb] at h
    obtain ⟨c, z, hz, hspent, hlive, hcause⟩ | ⟨z, hz, hsame, hidle⟩ := Ctx.evalBlind_cases g h1 h2 (x.takePair g h1 h2 inst)
    all_goals
      rw [hz] at h
      cases h
    · exact ⟨fun hs => absurd hs hlive, fun hs => absurd hs hlive, fun _ _ => hspent, nofun,
        fun hp _ => congrArg _ (hcause hp)⟩
    · exact ⟨fun _ => rfl, fun hs hne => absurd (hsame.trans hs) hne, nofun, nofun,
        fun hp _ => absurd hp (not_or.2 hidle)⟩
  · have v : h1.valid = true ∧ h2.valid = true := by simpa using hb
    obtain ⟨v1, v2⟩ := v
    have hphase : (x.locate g h1 h2 inst).phase = x.phase := rfl
    obtain ⟨hd1, hd2⟩ := Ctx.locate_d (g := g) (inst := inst) (x := x) v1 v2
    have ho := Ctx.evaluate_outcome (g := g) (inst := inst) (susp := susp) (x := x) v1 v2
    rw [h] at ho
    cases ho with
    | silent stays =>
      exact ⟨fun _ => rfl, fun hs hne => absurd (stays hs) hne, nofun, nofun,
        fun _ hv => absurd hv hb⟩
    | spentEnds quiet cs1 cs2 =>
      simp only [Ctx.quiet, hd1, hd2, Bool.and_eq_true, Bool.not_eq_true', decide_eq_true_eq] at quiet
      obtain ⟨⟨hs1, hs2⟩, hpos⟩ := quiet
      exact ⟨fun _ => rfl, fun _ _ => ⟨v1, v2, (congrArg SysTrack.s cs1).trans hs1, (congrArg SysTrack.s cs2).trans hs2, hpos⟩,
        nofun, nofun, fun _ hv => absurd hv hb⟩
    | uncertain c live spent =>
      exact ⟨fun hs => absurd hs live, fun hs => absurd hs live, fun _ _ => spent, nofun,
        fun _ hv => absurd hv hb⟩
    | committed k track stays turned record =>
      have hlive : x.phase ≠ .spent := by simp [← hphase, track]
      refine ⟨fun hs => absurd hs hlive, fun hs => absurd hs hlive, nofun, fun r k hk => ?_,
        fun _ hv => absurd hv hb⟩
      cases hk
      exact ⟨track, v1, v2, stays, turned, record.dir, record.certain, record.speed, record.point, record.modAddr⟩

end

section
/-! PROOFS. The records that a detection unit emits (R118, R123, R125, R320) and the ends of damping (R113, R116). -/

namespace Sys2Proof.Machine

/-! ### Around one point -/

/-- What logging does not hide of a change around a detection point: units, ports, channels, the run-time test, the engines' journals
and the number of the next record may differ. -/
def State.SameButPoint (s t : State) : Prop :=
  ({ s with wdus := t.wdus, ports := t.ports, chans := t.chans, rt := t.rt, engines := t.engines
            mgt := { s.mgt with axlEmit := t.mgt.axlEmit } } : State).SameButLog t

theorem State.SameButPoint.trans {s t u : State} (h : s.SameButPoint t) (k : t.SameButPoint u) : s.SameButPoint u := by
  unfold State.SameButPoint State.SameButLog at *
  rw [k, h]

/-- A change of these fields on top of logging. -/
theorem State.SameButPoint.of_same {s t : State} {w : Vector Wdu 64} {p : Vector Port 64} {c : Vector Chan 128} {r : Option RunTest}
    {e : Vector Engine 4} {x : Nat} (h : ({ s with wdus := w, ports := p, chans := c, rt := r, engines := e
                                                   mgt := { s.mgt with axlEmit := x } } : State).SameButLog t) :
    s.SameButPoint t := by
  unfold State.SameButPoint
  rw [h.wdus, h.ports, h.chans, h.rt, h.engines, h.mgt_axlEmit]
  exact h

/-- The live context, the test context and the samples that wait are the same. -/
structure Wdu.KeepsInput (w v : Wdu) : Prop where
  ctx : v.ctx = w.ctx
  lb3 : v.lb3 = w.lb3
  in1 : v.in1 = w.in1
  in2 : v.in2 = w.in2

theorem Wdu.KeepsInput.refl (w : Wdu) : w.KeepsInput w := ⟨rfl, rfl, rfl, rfl⟩

theorem Wdu.KeepsInput.trans {w v x : Wdu} (h : w.KeepsInput v) (k : v.KeepsInput x) : w.KeepsInput x :=
  ⟨k.ctx.trans h.ctx, k.lb3.trans h.lb3, k.in1.trans h.in1, k.in2.trans h.in2⟩

/-- The records of a unit are the same: those that wait for delivery, the counters and the last cause. -/
structure Wdu.KeepsRecords (w v : Wdu) : Prop where
  outQ : v.outQ = w.outQ
  cntFwd : v.cntFwd = w.cntFwd
  cntRev : v.cntRev = w.cntRev
  uncCnt : v.uncCnt = w.uncCnt
  lastCause : v.lastCause = w.lastCause

theorem Wdu.KeepsRecords.refl (w : Wdu) : w.KeepsRecords w := ⟨rfl, rfl, rfl, rfl, rfl⟩

theorem Wdu.KeepsRecords.trans {w v x : Wdu} (h : w.KeepsRecords v) (k : v.KeepsRecords x) : w.KeepsRecords x :=
  ⟨k.outQ.trans h.outQ, k.cntFwd.trans h.cntFwd, k.cntRev.trans h.cntRev, k.uncCnt.trans h.uncCnt,
    k.lastCause.trans h.lastCause⟩

/-- Of units, ports and channels only those of point `n` differ. -/
structure State.OnlyPoint (n : Fin 64) (s t : State) : Prop where
  same : s.SameButPoint t
  wdus : OthersSame s.wdus t.wdus n
  ports : OthersSame s.ports t.ports n
  chans : ∀ c : Fin 128, portOf c ≠ n → t.chans[c] = s.chans[c]

/-- Besides, the unit keeps its input. -/
structure State.AroundPoint (n : Fin 64) (s t : State) : Prop extends State.OnlyPoint n s t where
  input : (s.wdus[n]).KeepsInput t.wdus[n]

/-- The records of a unit and the number of the next record are the same. -/
structure State.KeepsRecords (n : Fin 64) (s t : State) : Prop where
  emit : t.mgt.axlEmit = s.mgt.axlEmit
  wdu : (s.wdus[n]).KeepsRecords t.wdus[n]

/-- A change around a point that emits no record. -/
def State.Quietly (n : Fin 64) (s t : State) : Prop := State.AroundPoint n s t ∧ State.KeepsRecords n s t

section
variable {n : Fin 64} {s t u : State}

theorem State.OnlyPoint.trans (h : State.OnlyPoint n s t) (k : State.OnlyPoint n t u) : State.OnlyPoint n s u :=
  ⟨h.same.trans k.same, h.wdus.trans k.wdus, h.ports.trans k.ports, fun c hc => (k.chans c hc).trans (h.chans c hc)⟩

theorem State.AroundPoint.trans (h : State.AroundPoint n s t) (k : State.AroundPoint n t u) : State.AroundPoint n s u :=
  ⟨h.toOnlyPoint.trans k.toOnlyPoint, h.input.trans k.input⟩

theorem State.KeepsRecords.trans (h : State.KeepsRecords n s t) (k : State.KeepsRecords n t u) : State.KeepsRecords n s u :=
  ⟨k.emit.trans h.emit, h.wdu.trans k.wdu⟩

theorem State.Quietly.trans (h : State.Quietly n s t) (k : State.Quietly n t u) : State.Quietly n s u :=
  ⟨h.1.trans k.1, h.2.trans k.2⟩

theorem State.Quietly.refl (n : Fin 64) (s : State) : State.Quietly n s s :=
  ⟨⟨⟨rfl, .refl _ _, .refl _ _, fun _ _ => rfl⟩, .refl _⟩, rfl, .refl _⟩

theorem State.OnlyPoint.modWdu (n : Fin 64) (s : State) (f : Wdu → Wdu) : State.OnlyPoint n s (s.modWdu n f) :=
  ⟨rfl, upd_othersSame _ _ _, .refl _ _, fun _ _ => rfl⟩

theorem State.AroundPoint.modWdu (n : Fin 64) (s : State) {f : Wdu → Wdu} (h : (s.wdus[n]).KeepsInput (f s.wdus[n])) :
    State.AroundPoint n s (s.modWdu n f) := by
  refine ⟨.modWdu n s f, ?_⟩
  rw [State.modWdu_wdus, upd_get_same]
  exact h

theorem State.KeepsRecords.modWdu (n : Fin 64) (s : State) {f : Wdu → Wdu} (h : (s.wdus[n]).KeepsRecords (f s.wdus[n])) :
    State.KeepsRecords n s (s.modWdu n f) := by
  refine ⟨rfl, ?_⟩
  rw [State.modWdu_wdus, upd_get_same]
  exact h

theorem State.AroundPoint.modPort (n : Fin 64) (s : State) (f : Port → Port) : State.AroundPoint n s (s.modPort n f) :=
  ⟨⟨rfl, .refl _ _, upd_othersSame _ _ _, fun _ _ => rfl⟩, .refl _⟩

theorem State.AroundPoint.of_log (n : Fin 64) (h : s.SameButLog t) : State.AroundPoint n s t := by
  refine ⟨⟨.of_same h, ?_, ?_, fun c _ => ?_⟩, ?_⟩
  · rw [h.wdus]; exact .refl _ _
  · rw [h.ports]; exact .refl _ _
  · rw [h.chans]
  · rw [h.wdus]; exact .refl _

theorem State.KeepsRecords.of_wdus (hw : t.wdus = s.wdus) (he : t.mgt.axlEmit = s.mgt.axlEmit) : State.KeepsRecords n s t :=
  ⟨he, hw ▸ .refl _⟩

theorem State.Quietly.modPort (n : Fin 64) (s : State) (f : Port → Port) : State.Quietly n s (s.modPort n f) :=
  ⟨.modPort n s f, .of_wdus rfl rfl⟩

theorem State.Quietly.modChan (n : Fin 64) (s : State) {c : Fin 128} (hc : portOf c = n) (f : Chan → Chan) :
    State.Quietly n s (s.modChan c f) :=
  ⟨⟨⟨rfl, .refl _ _, .refl _ _, fun _ hd => upd_get_ne _ _ _ _ fun e => hd (e ▸ hc)⟩, .refl _⟩, .of_wdus rfl rfl⟩

theorem State.Quietly.setRt (n : Fin 64) (s : State) (r : Option RunTest) : State.Quietly n s { s with rt := r } :=
  ⟨⟨⟨rfl, .refl _ _, .refl _ _, fun _ _ => rfl⟩, .refl _⟩, .of_wdus rfl rfl⟩

/-- A point that fails with a fault of its port. -/
theorem State.Quietly.faulted {bit code : Nat} (h : s.PointFaulted t n bit code) : State.Quietly n s t := by
  have hf := h.frame
  refine ⟨⟨⟨.of_same hf, ?_, h.others, fun c _ => ?_⟩, ?_⟩, .of_wdus hf.wdus hf.mgt_axlEmit⟩
  · rw [hf.wdus]; exact .refl _ _
  · rw [hf.chans]
  · rw [hf.wdus]; exact .refl _

end

/-! ### A record is emitted (R118, R125, R320) -/

theorem State.emitRecord_around (s : State) (n : Fin 64) (r : AxleRec) (cnt : Nat) :
    State.AroundPoint n s (s.emitRecord n r cnt) := by
  have hemit (x : Nat) : State.AroundPoint n s { s with mgt := { s.mgt with axlEmit := x } } :=
    ⟨⟨rfl, .refl _ _, .refl _ _, fun _ _ => rfl⟩, .refl _⟩
  have hwdu {t : State} (ht : State.AroundPoint n s t) {f : Wdu → Wdu} (hf : (t.wdus[n]).KeepsInput (f t.wdus[n])) :
      State.AroundPoint n s (t.modWdu n f) := ht.trans (.modWdu n t hf)
  unfold State.emitRecord
  extract_lets str num m mgt s1 s2 s3 s4 s5
  have h2 : State.AroundPoint n s s2 := hwdu (t := s1) (hemit _) (by exact ⟨rfl, rfl, rfl, rfl⟩)
  have h4 : State.AroundPoint n s s4 := hwdu (t := s3) (h2.trans (.modPort n s2 _)) (by exact ⟨rfl, rfl, rfl, rfl⟩)
  split
  · exact h2
  split
  · exact (hwdu (t := s4) h4 (by exact ⟨rfl, rfl, rfl, rfl⟩)).trans (.of_log n (State.logD_same s5 _ _ _))
  · refine hwdu h4 ?_
    split <;> exact ⟨rfl, rfl, rfl, rfl⟩

/-- What an uncertain record leaves in its unit (R123, R125, R320). -/
def Wdu.takeUncertain (r : AxleRec) (num rate : Nat) (w : Wdu) : Wdu :=
  { w with
    outQ := w.outQ ++ [{ record := r, num := num }]
    snips := w.snips ++ [{ record := r, num := num, stride := 1, left := 24, rate := rate }]
    lastRec := some r, uncCnt := satInc w.uncCnt, lastCause := r.cause, fault := setBit w.fault 0 }

/-- An uncertain record of point `n` with this cause has been emitted. -/
structure State.EmitsUncertain (n : Fin 64) (c : BitVec 5) (s t : State) : Prop where
  frame : ({ s with wdus := t.wdus, ports := t.ports, mgt := { s.mgt with axlEmit := s.mgt.axlEmit + 1 } } : State).SameButLog t
  wdus : OthersSame s.wdus t.wdus n
  ports : OthersSame s.ports t.ports n
  wdu : ∃ r : AxleRec, r.uncertain = true ∧ r.cause = c ∧
    t.wdus[n] = (s.wdus[n]).takeUncertain r s.mgt.axlEmit (s.chanM (chanOf n .cs1))
  logged : t.lastFault 0x0501 n.val

/-- A fault with a detail shows in MOD_FAULT_LAST as one without (R340). -/
theorem State.logD_lastFault (s : State) {c o : Nat} (d : BitVec 48) (h5 : c ≠ 0x0605) (h3 : c ≠ 0x0703) (hc : c < 65536)
    (ho : o < 65536) : (s.logD (BitVec.ofNat 16 c) (BitVec.ofNat 16 o) d).lastFault c o := by
  have h := s.fault_lastFault c o h5 h3 hc ho
  rw [State.fault, if_neg (by simp [h5, h3])] at h
  exact h

theorem State.emitEvent_unc (s : State) (n : Fin 64) (c : BitVec 5) (inst : Nat) :
    State.EmitsUncertain n c s (s.emitEvent n (.unc c) inst) := by
  let r := uncRecord (s.wduCfg n false) c inst
  let u := ({ s with mgt := { s.mgt with axlEmit := s.mgt.axlEmit + 1 } }.modPort n
    (fun p => { p with quietSince := none, eligible := false })).modWdu n
      (Wdu.takeUncertain r s.mgt.axlEmit (s.chanM (chanOf n .cs1)))
  have he : s.emitEvent n (.unc c) inst = u.logD 0x0501 (BitVec.ofNat 16 n.val) (c.setWidth 48) := by
    refine congrArg (State.logD · 0x0501 (BitVec.ofNat 16 n.val) (c.setWidth 48)) ?_
    simp only [u, State.modWdu, State.modPort, upd_upd]
    rfl
  have hsame := u.logD_same 0x0501 (BitVec.ofNat 16 n.val) (c.setWidth 48)
  rw [he]
  refine ⟨?_, ?_, ?_, ⟨r, rfl, rfl, ?_⟩, u.logD_lastFault (c := 0x0501) _ (by decide) (by decide) (by decide) (by omega)⟩
  · rw [hsame.wdus, hsame.ports]
    exact hsame
  · rw [hsame.wdus]
    exact upd_othersSame _ _ _
  · rw [hsame.ports]
    exact upd_othersSame _ _ _
  · rw [hsame.wdus]
    exact upd_get_same _ _ _

/-! ### NEGATIVE_DAMPING_TIMEOUT (R113) -/

/-- The time below −150 ‰ of a system. -/
def Wdu.neg (y : Sys) (w : Wdu) : Option Nat :=
  match y with
  | .cs1 => w.neg1
  | .cs2 => w.neg2

/-- The baseline of a system has been repaired. -/
def Wdu.rebase (y : Sys) (w : Wdu) : Wdu :=
  match y with
  | .cs1 => { w with neg1 := none, baseDamped := false }
  | .cs2 => { w with neg2 := none, baseDamped := false }

/-- The baseline of a system is repaired, and 0503h says so. -/
def State.repairBase (s : State) (n : Fin 64) (y : Sys) : State :=
  ((s.modChan (chanOf n y) Chan.loadBase).modWdu n (Wdu.rebase y)).wduFault n 2 0x0503

/-- The trajectory is spent. -/
def State.spend (s : State) (n : Fin 64) : State := s.modWdu n (fun w => { w with ctx := { w.ctx with phase := .spent } })

theorem exec_negativeDampingTimeout {s : State} (dt : Nat) {n : Fin 64} {y : Sys} {b : Nat} (h : s.inReset = false)
    (ha : s.assigned n = true) (hb : (s.wdus[n]).neg y = some b) (hd : b + 50000000 ≤ s.now + dt) :
    exec (.negativeDampingTimeout dt n y) s = .next (if (s.wdus[n]).ctx.phase = .spent then (s.pass dt).repairBase n y
      else (((s.pass dt).repairBase n y).spend n).emitEvent n (.unc 9) (s.wdus[n]).ctx.inst) := by
  have he : exec (.negativeDampingTimeout dt n y) s = execNegativeDampingTimeout dt n y s := rfl
  have ha' : (s.pass dt).assigned n = true := ha
  rw [he]
  unfold execNegativeDampingTimeout
  cases y
  all_goals
    simp only [Wdu.neg] at hb
    simp only [State.pass_wdus, hb]
    exact State.when_true (by simp [h, ha', hd])

/-- What the repair of a baseline changes (R113). -/
theorem State.repairBase_spec (s : State) (n : Fin 64) (y : Sys) :
    OthersSame s.wdus (s.repairBase n y).wdus n ∧ OthersSame s.chans (s.repairBase n y).chans (chanOf n y) ∧
    ({ s with wdus := (s.repairBase n y).wdus, chans := (s.repairBase n y).chans } : State).SameButLog (s.repairBase n y) ∧
    (s.repairBase n y).wdus[n] = { (s.wdus[n]).rebase y with fault := setBit ((s.wdus[n]).rebase y).fault 2 } ∧
    (s.repairBase n y).chans[chanOf n y] = (s.chans[chanOf n y]).loadBase ∧ (s.repairBase n y).lastFault 0x0503 n.val := by
  let u := ((s.modChan (chanOf n y) Chan.loadBase).modWdu n (Wdu.rebase y)).modWdu n (fun w => { w with fault := setBit w.fault 2 })
  have hsame : u.SameButLog (s.repairBase n y) := u.fault_same 0x0503 n.val
  refine ⟨?_, ?_, ?_, ?_, ?_, State.fault_lastFault u 0x0503 n.val (by decide) (by decide) (by decide) (by omega)⟩
  · rw [hsame.wdus]
    exact (upd_othersSame _ _ _).trans (upd_othersSame _ _ _)
  · rw [hsame.chans]
    exact upd_othersSame _ _ _
  · rw [hsame.wdus, hsame.chans]
    exact hsame
  · rw [hsame.wdus]
    exact (upd_get_same _ _ _).trans (congrArg (fun w : Wdu => { w with fault := setBit w.fault 2 }) (upd_get_same _ _ _))
  · rw [hsame.chans]
    exact upd_get_same _ _ _

theorem exec_activeHoldEnd {s : State} (dt : Nat) {c : Fin 128} (h : s.inReset = false) (ha : (s.chans[c]).active = true)
    (h1 : (s.wdus[portOf c]).last1 < s.freezeOf c) (h2 : (s.wdus[portOf c]).last2 < s.freezeOf c)
    (hd : (s.chans[c]).aboveAt + 50000000 ≤ s.now + dt) :
    exec (.activeHoldEnd dt c) s = .next ((s.pass dt).modChan c (fun x => { x with active := false })) := by
  have he : exec (.activeHoldEnd dt c) s = execActiveHoldEnd dt c s := rfl
  have hf : (s.pass dt).freezeOf c = s.freezeOf c := rfl
  rw [he, execActiveHoldEnd]
  exact State.when_true (by simp [h, ha, h1, h2, hd, hf, -Fin.getElem_fin])

end Sys2Proof.Machine

open Sys2Proof Sys2Proof.Machine

/-- Settles O27: the repair of a baseline (`State.repairBase_spec`) and, unless the trajectory is spent already, the record that
follows it (`State.emitEvent_unc`). -/
theorem dampingTimeouts : Obligations.DampingTimeouts := by
  unfold Obligations.DampingTimeouts
  refine ⟨fun s dt n b h ha hb hd hp => ?_, fun s dt n b h ha hb hd hp => ?_, fun s dt c h ha h1 h2 hd => ?_⟩
  · rw [exec_negativeDampingTimeout (y := .cs1) dt h ha hb hd, if_pos hp]
    obtain ⟨hwdus, hchans, hsame, hwdu, hchan, hlog⟩ := (s.pass dt).repairBase_spec n .cs1
    exact ⟨_, rfl, hwdus, hchans, hsame, hwdu, hchan, hlog⟩
  · rw [exec_negativeDampingTimeout (y := .cs2) dt h ha hb hd, if_neg hp]
    obtain ⟨hwdus, hchans, hsame, hwdu, hchan, _⟩ := (s.pass dt).repairBase_spec n .cs2
    generalize (s.pass dt).repairBase n .cs2 = u at hwdus hchans hsame hwdu hchan ⊢
    obtain ⟨eframe, ewdus, eports, ⟨r, _, hcause, ewdu⟩, elog⟩ := (u.spend n).emitEvent_unc n 9 (s.wdus[n]).ctx.inst
    have hspent : (u.spend n).wdus[n] = { u.wdus[n] with ctx := { (u.wdus[n]).ctx with phase := .spent } } := upd_get_same _ _ _
    rw [hspent, hwdu] at ewdu
    have hports : u.ports = s.ports := hsame.ports
    have hc : ((u.spend n).emitEvent n (.unc 9) (s.wdus[n]).ctx.inst).chans = u.chans := eframe.chans
    refine ⟨_, rfl, (hwdus.trans (upd_othersSame _ _ _)).trans ewdus, hports ▸ eports, hc ▸ hchans, ?_,
      (congrArg (·[chanOf n .cs2]) hc).trans hchan, ewdu ▸ rfl, ewdu ▸ rfl, ewdu ▸ rfl, ewdu ▸ hcause, ewdu ▸ rfl, elog⟩
    generalize (u.spend n).emitEvent n (.unc 9) (s.wdus[n]).ctx.inst = t at eframe
    have htrans : ({ u with wdus := t.wdus, ports := t.ports, mgt := { u.mgt with axlEmit := u.mgt.axlEmit + 1 } } :
      State).SameButLog t := eframe
    unfold State.SameButLog at hsame htrans ⊢
    rw [htrans, hsame]
    rfl
  · rw [exec_activeHoldEnd dt h ha h1 h2 hd]
    exact ⟨_, rfl, upd_othersSame _ _ _, rfl, upd_get_same _ _ _⟩

end

section
/-! PROOFS. A paired sample of a point (R107, R108, R110 to R118, R124). -/

namespace Sys2Proof.Machine

/-! ### What a sample judges beside the trajectory (R61, R64, R116) -/

theorem State.judgeQuiet_quietly (s : State) (n : Fin 64) (h1 h2 : Half) : State.Quietly n s (s.judgeQuiet n h1 h2) :=
  .modPort n s _

theorem State.judgeActive_quietly (s : State) (n : Fin 64) (y : Sys) (h1 h2 : Half) :
    State.Quietly n s (s.judgeActive h1 h2 (chanOf n y)) := by
  unfold State.judgeActive
  extract_lets above
  split
  · exact .modChan n s (portOf_chanOf n y) _
  · exact .refl n s

/-- A test that does not wait between its systems stays where it is when it stops. -/
theorem State.stopTest_running {s : State} {r : RunTest} (hr : s.rt = some r) (hg : r.stage ≠ .gap) (cross : Bool) (late : Nat) :
    ∃ q, s.stopTest cross late = { s with rt := some q } := by
  obtain ⟨port, sys, stage, origin, mark⟩ := r
  unfold State.stopTest
  rw [hr]
  cases stage
  case gap => exact absurd rfl hg
  all_goals cases cross <;> exact ⟨_, rfl⟩

theorem State.otherSample_quietly (s : State) (n : Fin 64) (y : Sys) (d : Int) (m : Nat) :
    State.Quietly n s (s.otherSample n y d m) := by
  unfold State.otherSample
  split
  next r hr =>
    split
    next hrun =>
      obtain ⟨_, _, hgap, _⟩ := hrun
      extract_lets tap off fresh s1
      have h1 : State.Quietly n s s1 := .setRt n s _
      have hstop (cross : Bool) : State.Quietly n s (s1.stopTest cross (250000 / m)) := by
        obtain ⟨q, hq⟩ := State.stopTest_running (s := s1) (r := { r with off := off }) rfl hgap cross (250000 / m)
        rw [hq]
        exact h1.trans (.setRt n s1 _)
      split
      · exact (hstop true).trans (.faulted (State.prtFault_failPoint _ n 17 (by decide) (by decide) (by decide)))
      · split
        · exact hstop false
        · exact h1
    next => exact .refl n s
  next => exact .refl n s

/-- What a sample judges beside the trajectory: the quiet time, ACTIVE, and the other system of a run-time test. -/
def State.judgePair (s : State) (n : Fin 64) (h1 h2 : Half) : State :=
  let s := ((s.judgeQuiet n h1 h2).judgeActive h1 h2 (chanOf n .cs1)).judgeActive h1 h2 (chanOf n .cs2)
  let m := s.chanM (chanOf n .cs1)
  let s := if h1.valid then s.otherSample n .cs1 h1.d m else s
  if h2.valid then s.otherSample n .cs2 h2.d m else s

theorem State.judgePair_quietly (s : State) (n : Fin 64) (h1 h2 : Half) : State.Quietly n s (s.judgePair n h1 h2) := by
  unfold State.judgePair
  extract_lets s1 m s2
  have h0 : State.Quietly n s s1 :=
    ((s.judgeQuiet_quietly n h1 h2).trans (State.judgeActive_quietly _ n .cs1 h1 h2)).trans (State.judgeActive_quietly _ n .cs2 h1 h2)
  have hs : State.Quietly n s s2 := by
    unfold s2
    split
    · exact h0.trans (s1.otherSample_quietly n .cs1 h1.d m)
    · exact h0
  split
  · exact hs.trans (s2.otherSample_quietly n .cs2 h2.d m)
  · exact hs

/-! ### The parts of a paired sample (R107, R108) -/

/-- The unit enters the pair and the context that the rule leaves. -/
def State.observe (s : State) (n : Fin 64) (h1 h2 : Half) (y : Ctx) : State :=
  let susp := s.suspect n
  let neg (h : Half) (old : Option Nat) : Option Nat := if h.valid then since s.now (decide (h.d < -150)) old else none
  s.modWdu n (fun w => { w.history h1 h2 with
    ctx := y, suspect := susp
    neg1 := neg h1 w.neg1, neg2 := neg h2 w.neg2
    last1 := if h1.valid then h1.d else w.last1, last2 := if h2.valid then h2.d else w.last2
    realign := w.realign || !h1.valid || !h2.valid })

/-- ALIGN_N is set anew where that is due. -/
def State.realignDue (s : State) (n : Fin 64) (h1 h2 : Half) : State :=
  if (h1.valid && h2.valid && (s.wdus[n]).realign) = true ∨ (s.wdus[n]).realignNow = true then s.realignPoint n else s

theorem State.realignDue_quietly (s : State) (n : Fin 64) (h1 h2 : Half) :
    State.Quietly n s (s.realignDue n h1 h2) ∧ (s.realignDue n h1 h2).mdl = s.mdl := by
  unfold State.realignDue
  split
  · exact ⟨⟨.modWdu n s ⟨rfl, rfl, rfl, rfl⟩, .modWdu n s ⟨rfl, rfl, rfl, rfl, rfl⟩⟩, rfl⟩
  · exact ⟨.refl n s, rfl⟩

theorem State.evalPair_eq {s : State} {n : Fin 64} {x1 x2 : Sample} {inst : Nat} {y : Ctx} {ev : WduEv}
    (h : (s.wdus[n]).ctx.evaluate (s.wduCfg n false) (halfOf (s.spanOf n) x1) (halfOf (s.spanOf n) x2) inst (s.suspect n) = (y, ev)) :
    s.evalPair n x1 x2 inst =
      (((s.observe n (halfOf (s.spanOf n) x1) (halfOf (s.spanOf n) x2) y).judgePair n (halfOf (s.spanOf n) x1)
        (halfOf (s.spanOf n) x2)).emitEvent n ev inst).realignDue n (halfOf (s.spanOf n) x1) (halfOf (s.spanOf n) x2) := by
  unfold State.evalPair
  simp only [h]
  rfl

/-! ### PAIRED_SAMPLE (R107 to R125) -/

/-- The samples of an instant leave the inputs of the unit, and one enters the delay line. -/
def State.takeInputs (s : State) (n : Fin 64) (line : List Sample) : State :=
  s.modWdu n (fun w => { w with in1 := none, in2 := none, line := line })

/-- The state in which the rule has been run on the pair. -/
def State.enterPair (s : State) (n : Fin 64) (line : List Sample) (h1 h2 : Half) (y : Ctx) : State :=
  (s.takeInputs n line).observe n h1 h2 y

theorem State.enterPair_spec (s : State) (n : Fin 64) (line : List Sample) (h1 h2 : Half) (y : Ctx) :
    State.OnlyPoint n s (s.enterPair n line h1 h2 y) ∧ State.KeepsRecords n s (s.enterPair n line h1 h2 y) ∧
    ({ s.wdus[n] with ctx := y, in1 := none, in2 := none } : Wdu).KeepsInput (s.enterPair n line h1 h2 y).wdus[n] := by
  refine ⟨(State.OnlyPoint.modWdu n s _).trans (.modWdu n _ _),
    (State.KeepsRecords.modWdu n s ⟨rfl, rfl, rfl, rfl, rfl⟩).trans (.modWdu n (s.takeInputs n line) ⟨rfl, rfl, rfl, rfl, rfl⟩), ?_⟩
  rw [State.enterPair, State.observe, State.modWdu_wdus, upd_get_same, State.takeInputs, State.modWdu_wdus, upd_get_same]
  exact ⟨rfl, rfl, rfl, rfl⟩

/-- The sample that leaves a delay line. -/
theorem delayLine_fst (line : List Sample) (x : Sample) : (delayLine line x).1 = ((line ++ [x]).head?).getD {} := by
  cases line <;> rfl

/-- The instant of the pair that falls due: that of the samples that came, or one that passed without any (log 98). -/
def State.PairDue (s : State) (n : Fin 64) (inst : Nat) : Prop :=
  (((s.wdus[n]).in1.isSome = true ∨ (s.wdus[n]).in2.isSome = true) ∧ inst = (s.wdus[n]).inInst) ∨
    ((s.wdus[n]).in1 = none ∧ (s.wdus[n]).in2 = none ∧ (s.wdus[n]).ctx.inst < inst ∧ inst = s.pastInst n)

/-- The aligned samples of both systems (R108). -/
def Wdu.aligned (w : Wdu) : Sample × Sample :=
  if w.alignCh then (w.in1.getD {}, (delayLine w.line (w.in2.getD {})).1)
  else ((delayLine w.line (w.in1.getD {})).1, w.in2.getD {})

/-- The delay line after the sample of the delayed channel has entered it. -/
def Wdu.lineAfter (w : Wdu) : List Sample :=
  (delayLine w.line (if w.alignCh then w.in2.getD {} else w.in1.getD {})).2

theorem State.PairDue.cases {s : State} {n : Fin 64} {inst : Nat} (h : s.PairDue n inst) :
    (((s.wdus[n]).in1.isSome || (s.wdus[n]).in2.isSome) || decide ((s.wdus[n]).ctx.inst < s.pastInst n)) = true ∧
    (if ((s.wdus[n]).in1.isSome || (s.wdus[n]).in2.isSome) then (s.wdus[n]).inInst else s.pastInst n) = inst := by
  rcases h with ⟨hin, rfl⟩ | ⟨h1, h2, hlt, rfl⟩
  · rw [← Bool.or_eq_true] at hin
    rw [hin]
    exact ⟨rfl, rfl⟩
  · rw [h1, h2]
    exact ⟨decide_eq_true hlt, rfl⟩

theorem exec_pairedSample {s : State} {n : Fin 64} {inst : Nat} (h : s.inReset = false) (ha : s.assigned n = true)
    (hdue : s.PairDue n inst) : exec (.pairedSample n) s =
      .next (((s.takeInputs n (s.wdus[n]).lineAfter).evalPair n (s.wdus[n]).aligned.1 (s.wdus[n]).aligned.2 inst).feedLb3 n inst) := by
  obtain ⟨hcond, hinst⟩ := hdue.cases
  have he : exec (.pairedSample n) s = execPairedSample n s := rfl
  rw [he, execPairedSample]
  dsimp only
  rw [State.when_true (by rw [h, ha, hcond]; rfl), hinst]
  unfold Wdu.aligned Wdu.lineAfter State.takeInputs
  cases (s.wdus[n]).alignCh <;> rfl

theorem exec_pairedSample_unassigned {s : State} {n : Fin 64} (ha : s.assigned n = false) : exec (.pairedSample n) s = .next s := by
  have he : exec (.pairedSample n) s = execPairedSample n s := rfl
  rw [he, execPairedSample]
  exact State.when_false (by simp [ha])

theorem State.feedLb3_none {s : State} {n : Fin 64} (inst : Nat) (h : (s.wdus[n]).lb3 = none) : s.feedLb3 n inst = s := by
  unfold State.feedLb3
  rw [h]

theorem Wdu.aligned_eq (w : Wdu) : w.aligned =
    (if w.alignCh then w.in1.getD {} else ((w.line ++ [w.in1.getD {}]).head?).getD {},
      if w.alignCh then ((w.line ++ [w.in2.getD {}]).head?).getD {} else w.in2.getD {}) := by
  simp only [Wdu.aligned, delayLine_fst]
  split <;> rfl

theorem State.emitEvent_around (s : State) (n : Fin 64) (ev : WduEv) (inst : Nat) :
    State.AroundPoint n s (s.emitEvent n ev inst) := by
  cases ev with
  | none => exact (State.Quietly.refl n s).1
  | unc c => exact s.emitRecord_around n (uncRecord (s.wduCfg n false) c inst) 1
  | commit r k => exact s.emitRecord_around n r k

/-- What a paired sample with this outcome of the rule leaves (R107, R118, R123). -/
structure State.Paired (n : Fin 64) (y : Ctx) (ev : WduEv) (s t : State) : Prop where
  only : State.OnlyPoint n s t
  input : ({ s.wdus[n] with ctx := y, in1 := none, in2 := none } : Wdu).KeepsInput t.wdus[n]
  silent : ev = .none → State.KeepsRecords n s t
  uncertain : ∀ c, ev = .unc c → t.mgt.axlEmit = s.mgt.axlEmit + 1 ∧ t.lastFault 0x0501 n.val ∧
    ∃ r : AxleRec, r.uncertain = true ∧ r.cause = c ∧
      ((s.wdus[n]).takeUncertain r s.mgt.axlEmit (s.chanM (chanOf n .cs1))).KeepsRecords t.wdus[n]

/-- The records of a unit after an uncertain one depend on its records alone. -/
theorem Wdu.KeepsRecords.takeUncertain {w v : Wdu} (h : w.KeepsRecords v) (r : AxleRec) (num a b : Nat) :
    (w.takeUncertain r num a).KeepsRecords (v.takeUncertain r num b) :=
  ⟨congrArg (· ++ _) h.outQ, h.cntFwd, h.cntRev, congrArg satInc h.uncCnt, rfl⟩

theorem State.evalPair_paired {s : State} {n : Fin 64} {x1 x2 : Sample} {inst : Nat} {y : Ctx} {ev : WduEv} (line : List Sample)
    (h : (s.wdus[n]).ctx.evaluate (s.wduCfg n false) (halfOf (s.spanOf n) x1) (halfOf (s.spanOf n) x2) inst (s.suspect n) = (y, ev)) :
    State.Paired n y ev s ((s.takeInputs n line).evalPair n x1 x2 inst) := by
  have hctx : ((s.takeInputs n line).wdus[n]).ctx = (s.wdus[n]).ctx := by
    rw [State.takeInputs, State.modWdu_wdus, upd_get_same]
  rw [State.evalPair_eq (s := s.takeInputs n line) (y := y) (ev := ev) (by rw [hctx]; exact h)]
  change State.Paired n y ev s ((((s.enterPair n line (halfOf (s.spanOf n) x1) (halfOf (s.spanOf n) x2) y).judgePair n
    (halfOf (s.spanOf n) x1) (halfOf (s.spanOf n) x2)).emitEvent n ev inst).realignDue n (halfOf (s.spanOf n) x1)
    (halfOf (s.spanOf n) x2))
  generalize halfOf (s.spanOf n) x1 = h1
  generalize halfOf (s.spanOf n) x2 = h2
  obtain ⟨honly, hrec, hin⟩ := s.enterPair_spec n line h1 h2 y
  obtain ⟨haround, hkeep⟩ := (s.enterPair n line h1 h2 y).judgePair_quietly n h1 h2
  generalize (s.enterPair n line h1 h2 y).judgePair n h1 h2 = v at haround hkeep ⊢
  obtain ⟨⟨hend, hlast⟩, hmdl⟩ := (v.emitEvent n ev inst).realignDue_quietly n h1 h2
  have hall := (haround.trans (v.emitEvent_around n ev inst)).trans hend
  have hkept := hrec.trans hkeep
  refine ⟨honly.trans hall.toOnlyPoint, hin.trans hall.input, fun he => ?_, fun c he => ?_⟩
  · subst he
    exact hkept.trans hlast
  · subst he
    obtain ⟨hframe, _, _, ⟨r, hu, hcause, hwdu⟩, hlog⟩ := v.emitEvent_unc n c inst
    refine ⟨hlast.emit.trans (hframe.mgt_axlEmit.trans (congrArg (· + 1) hkept.emit)), hlog.congr hmdl, r, hu, hcause, ?_⟩
    rw [← hkept.emit]
    exact (hkept.wdu.takeUncertain r v.mgt.axlEmit _ _).trans (hwdu ▸ hlast.wdu)

end Sys2Proof.Machine

open Sys2Proof Sys2Proof.Machine

/-- Settles O26: the rule is run on the pair that leaves the delay line, and what follows it keeps the unit's records and its input
(`State.evalPair_paired`). That a pair without any output falls due with VALID=0 on both (log 98) is the model's choice. -/
theorem pairedSampleRunsTheRule : Obligations.PairedSampleRunsTheRule := by
  unfold Obligations.PairedSampleRunsTheRule
  refine ⟨fun s n x1 x2 inst y ev h ha hdue hlb3 hx1 hx2 hev => ?_, fun s n ha => exec_pairedSample_unassigned ha⟩
  obtain ⟨honly, hin, hsilent, hunc⟩ := State.evalPair_paired (s.wdus[n]).lineAfter hev
  rw [exec_pairedSample h ha hdue, Wdu.aligned_eq, ← hx1, ← hx2, State.feedLb3_none inst (hin.lb3.trans hlb3)]
  refine ⟨_, rfl, honly.wdus, honly.ports, honly.same.clk, honly.same, honly.chans, hin.in1, hin.in2, hin.ctx, fun he => ?_,
    fun c he => ?_⟩
  · obtain ⟨hemit, hrec⟩ := hsilent he
    exact ⟨hemit, hrec.outQ, hrec.cntFwd, hrec.cntRev, hrec.uncCnt⟩
  · obtain ⟨hemit, hlog, r, hu, hcause, hrec⟩ := hunc c he
    exact ⟨hemit, hrec.uncCnt, hrec.lastCause.trans hcause, hlog, ⟨_, hrec.outQ, hu, hcause, rfl⟩, hrec.cntFwd, hrec.cntRev⟩

end

section
/-! PROOFS. Delivery of axle records and entries (R126, R314, R320). -/

namespace Sys2Proof.Machine

/-! ### AXLE_RECORD_DELIVERED (R126, R314) -/

/-- The oldest record leaves the point's detection unit. -/
def State.popRecord (s : State) (n : Fin 64) (rest : List OutRec) : State := s.modWdu n (fun w => { w with outQ := rest })

theorem exec_axleRecordDelivered {s : State} {n : Fin 64} {o : OutRec} {rest : List OutRec} (h : s.inReset = false)
    (hq : (s.wdus[n]).outQ = o :: rest) : exec (.axleRecordDelivered n) s = .next
      ((if o.record.test then s.popRecord n rest
        else ((s.popRecord n rest).toJournals o.record).toStreams n o.record).toPewter n o) := by
  have he : exec (.axleRecordDelivered n) s = execAxleRecordDelivered n s := rfl
  rw [he, execAxleRecordDelivered, hq]
  exact State.when_true (by simp [h])

/-- An entry at the tail of Pewter's queue. -/
def State.queued (s : State) (q : QItem) : State := { s with mgt := { s.mgt with queue := s.mgt.queue ++ [q] } }

/-- With a free place the record stands at the tail of Pewter's queue, and its snippet is kept (R314). -/
theorem State.toPewter_room {s : State} (n : Fin 64) (o : OutRec) (h : s.hasRoom) :
    s.toPewter n o = s.queued (.axle { num := o.num, record := o.record }) := by
  obtain ⟨hdropped, hplace⟩ := h
  unfold State.toPewter
  rw [State.flushDropped_of_flushed (.inl hdropped)]
  refine Eq.trans ?_ (if_pos hplace : s.enqueue _ = _)
  exact if_neg (by simpa using hplace)

theorem State.toStreams_none {s : State} (n : Fin 64) (r : AxleRec) (h : s.cfg.streams = []) : s.toStreams n r = s := by
  rw [State.toStreams, h]
  rfl

/-- R126, R158: the journal of an engine that a record concerns gains it, and no other does. -/
theorem State.toJournals_engine (s : State) (r : AxleRec) (e : Fin 4) : (s.toJournals r).engines[e] =
    if s.routesTo e r then (s.engines[e]).post s.late (Journal.addRec r) else s.engines[e] :=
  Vector.getElem_ofFn ..

/-! ### AXLE_ENTRY_WRITTEN (R320) -/

/-- An entry enters the page buffer of the axle ring, which it opens where it is empty. -/
def State.bufferEntry (s : State) (x : AxleEntry) : State :=
  { s with mgt := { s.mgt with
      axlBufAt := if s.mgt.axlBuf.isEmpty then s.now else s.mgt.axlBufAt
      axlEpoch := if s.mgt.axlBuf.isEmpty then s.mgt.epoch.toNat else s.mgt.axlEpoch
      axlBuf := s.mgt.axlBuf ++ [x] } }

theorem exec_axleEntryWritten {s : State} {n : Fin 64} {x : Snip} {rest : List Snip} (h : s.pewterOn = true)
    (hs : (s.wdus[n]).snips = x :: rest) (hl : x.left = 0) (ht : x.taken = true) : exec (.axleEntryWritten n) s =
      .next ((s.modWdu n (fun w => { w with snips := w.snips.erase x })).bufferEntry x.entry) := by
  have hf : (s.wdus[n]).snips.find? (fun y => decide (y.left = 0) && y.taken) = some x := by
    rw [hs]
    exact List.find?_cons_of_pos (by simp [hl, ht])
  have he : exec (.axleEntryWritten n) s = execAxleEntryWritten n s := rfl
  rw [he, execAxleEntryWritten, hf]
  exact State.when_true h

end Sys2Proof.Machine

open Sys2Proof Sys2Proof.Machine

/-- Settles O28: a record goes to the journals (`State.toJournals_engine`) and to Pewter's queue (`State.toPewter_room`), or to the
queue alone; a complete entry is the first one that Pewter finds. -/
theorem axleRecordsDelivered : Obligations.AxleRecordsDelivered := by
  unfold Obligations.AxleRecordsDelivered
  refine ⟨fun s n o rest h hq htest hroom => ?_, fun s n o rest h hq htest hroom hstreams => ?_,
    fun s n x rest h hs hleft htaken => ?_⟩
  · rw [exec_axleRecordDelivered h hq, if_pos htest, State.toPewter_room (s := s.popRecord n rest) n o hroom]
    exact ⟨_, rfl, upd_othersSame _ _ _, rfl, upd_get_same _ _ _⟩
  · rw [exec_axleRecordDelivered h hq, if_neg (by simp [htest]),
      State.toStreams_none (s := (s.popRecord n rest).toJournals o.record) n _ hstreams,
      State.toPewter_room (s := (s.popRecord n rest).toJournals o.record) n o hroom]
    refine ⟨_, rfl, upd_othersSame _ _ _, rfl, upd_get_same _ _ _, fun e hroute => ?_, fun e hroute => ?_⟩
    · exact ((s.popRecord n rest).toJournals_engine o.record e).trans (if_pos hroute)
    · exact ((s.popRecord n rest).toJournals_engine o.record e).trans (if_neg (ne_true_of_eq_false hroute))
  · rw [exec_axleEntryWritten h hs hleft htaken]
    refine ⟨_, rfl, upd_othersSame _ _ _, rfl, (upd_get_same _ _ _).trans ?_⟩
    rw [hs, List.erase_cons_head]

end

section
/-! PROOFS. One axle record on the ledger of a section (R132, R135 to R139). -/

namespace Sys2Proof.Machine
open Sys2Proof

section
variable {d : SecDef} {own : BitVec 11} {n : Nat} {r : AxleRec} {x : Sec}

/-! ### Disturbances (R136) -/

theorem disturb_inService (c : BitVec 5) (hp : x.unproven = false) (hs : x.st ≠ .disturbed) :
    disturb c x = ({ x with st := .disturbed, cause := c, pend := [], mismatch := 0, sweep := 0 }, causeLog x.idx c) := by
  rw [disturb, if_neg (by simp [Sec.discarded, hp]), if_neg hs]

@[simp] theorem disturb_idx (c : BitVec 5) (x : Sec) : (disturb c x).1.idx = x.idx := by
  unfold disturb
  split
  · rfl
  · split <;> rfl

/-! ### Pairs and the balance (R139, R142) -/

/-- In COUNT mode a pair finds no mismatch. -/
theorem pairUp_mismatch_count (h : d.sequence = false) (e y : AxleRec) (k : PairKind) :
    (pairUp d e y k x).mismatch = x.mismatch := by
  simp [pairUp, h]

/-- An occupied section whose last pair leaves nothing open and no mismatch is clear. -/
theorem balance_clears (hl : x.ledger = []) (hp : x.pend = []) (hs : x.st = .occupied) (hm : x.mismatch = 0) :
    balance d x = ({ x with st := .clear, prev := none }, []) := by
  rw [balance, if_neg (by simp [hl, hp]), if_neg (by simp [hs]), if_pos hm]

@[simp] theorem balance_idx (d : SecDef) (x : Sec) : (balance d x).1.idx = x.idx := by
  unfold balance
  repeat' split
  all_goals simp

/-! ### Entries (R137, R139) -/

/-- A section whose ledger gains an entry. -/
def Sec.join (r : AxleRec) (x : Sec) : Sec :=
  let x := { x with ledger := insertRec r x.ledger }
  let x := if x.st = .clear then { x with st := .occupied } else x
  if x.st = .resetPending then { x with sweep := x.sweep + 1 } else x

theorem Sec.join_ledger (r : AxleRec) (x : Sec) : (x.join r).ledger = insertRec r x.ledger := by
  simp only [Sec.join, apply_ite Sec.ledger, ite_self]

theorem Sec.join_st (r : AxleRec) (x : Sec) : (x.join r).st = if x.st = .clear then .occupied else x.st := by
  cases h : x.st <;> simp [Sec.join, h]

/-- An entry that no pending exit waits for joins the ledger, or overflows a full one. -/
theorem entry_noPending (hp : x.pend = []) : ∃ m, entry d r x =
    if x.ledger.length = d.blocks * 16 then disturb 0x04 { x with misNow := m } else (({ x with misNow := m } : Sec).join r, []) := by
  have hm : ∃ m, (if x.ledger = [] ∧ x.pend = [] then { x with misNow := 0 } else x) = { x with misNow := m } := by
    split
    · exact ⟨0, rfl⟩
    · exact ⟨x.misNow, rfl⟩
  obtain ⟨m, hm⟩ := hm
  have hf : findPending r x.pend = none := by rw [hp]; rfl
  refine ⟨m, ?_⟩
  rw [entry]
  simp only [hm, hf]
  rfl

theorem entry_idx (d : SecDef) (r : AxleRec) (x : Sec) : (entry d r x).1.idx = x.idx := by
  unfold entry
  dsimp only
  split
  · simp only [balance_idx, pairUp, apply_ite Sec.idx, ite_self]
  · simp only [apply_ite Prod.fst, apply_ite Sec.idx, disturb_idx, ite_self]

/-! ### Exits (R139) -/

/-- An exit that finds no entry, and that no stream from another module can have overtaken, disturbs the section. -/
theorem exitRec_empty (hl : x.ledger = []) (hd : d.remote own = false) (hs : x.st ≠ .resetPending) :
    exitRec d own n r x = disturb 0x03 x := by
  simp [exitRec, hl, hd, hs]

/-- In COUNT mode an exit pairs with the one entry of a ledger, in reverse where both came through one point. -/
theorem exitRec_single {a : AxleRec} (hl : x.ledger = [a]) (hd : d.sequence = false) :
    exitRec d own n r x =
      balance d (pairUp d a r (if samePoint a r then .reverse else .through) { x with ledger := [] }) := by
  by_cases hp : samePoint a r <;> simp [exitRec, hl, hd, hp]

theorem exitRec_idx (d : SecDef) (own : BitVec 11) (n : Nat) (r : AxleRec) (x : Sec) : (exitRec d own n r x).1.idx = x.idx := by
  unfold exitRec
  dsimp only
  repeat' split
  all_goals simp [pairUp]

/-! ### A record in service (R132, R135) -/

theorem processRec_uncertain (hr : r.committed = false) : processRec d own n r x = disturb 0x01 x :=
  if_pos (by simp [hr])

/-- A committed record on a section in service is an entry or an exit. -/
theorem processRec_inService (hr : r.committed = true) (hp : x.unproven = false) (hs : x.st ≠ .disturbed) :
    processRec d own n r x = if isEntry d r then entry d r x else exitRec d own n r x := by
  rw [processRec, if_neg (by simp [hr]), if_neg (by simp [Sec.discarded, hp, hs])]

theorem processRec_entry (hr : r.committed = true) (hp : x.unproven = false) (hs : x.st ≠ .disturbed) (he : isEntry d r = true) :
    processRec d own n r x = entry d r x := by
  rw [processRec_inService hr hp hs, if_pos he]

theorem processRec_exit (hr : r.committed = true) (hp : x.unproven = false) (hs : x.st ≠ .disturbed) (he : isEntry d r = false) :
    processRec d own n r x = exitRec d own n r x := by
  rw [processRec_inService hr hp hs, if_neg (ne_true_of_eq_false he)]

theorem processRec_idx (d : SecDef) (own : BitVec 11) (n : Nat) (r : AxleRec) (x : Sec) :
    (processRec d own n r x).1.idx = x.idx := by
  unfold processRec
  split
  · exact disturb_idx _ _
  split
  · rfl
  split
  · exact entry_idx d r x
  · exact exitRec_idx d own n r x

end

end Sys2Proof.Machine

open Sys2Proof Sys2Proof.Machine

/-- Settles O51: what a record does to a section in service is what `disturb`, `entry` or `exitRec` does, by the record and its
direction; the last exit leaves a pair and nothing open, and `balance` clears the section. -/
theorem ledgerCountsAxles : Obligations.LedgerCountsAxles := by
  unfold Obligations.LedgerCountsAxles
  intro d own n r x hp hs
  refine ⟨fun hr => ?_, fun hr he hpend hlen => ?_, fun hr he hpend hlen => ?_, fun hr he hl hlocal hst => ?_,
    fun a hr he hl hpend hst hmis hcount => ?_, (processRec_idx d own n r x).symm⟩
  · rw [processRec_uncertain hr, disturb_inService _ hp hs]
    exact ⟨rfl, rfl⟩
  · obtain ⟨m, hm⟩ := entry_noPending (d := d) (r := r) hpend
    rw [processRec_entry hr hp hs he, hm, if_neg (Nat.ne_of_lt hlen)]
    refine ⟨Sec.join_ledger r _, ?_, ?_, rfl⟩ <;> rw [Sec.join_st]
    · split
      · decide
      next h => exact h
    · split
      · decide
      · exact hs
  · obtain ⟨m, hm⟩ := entry_noPending (d := d) (r := r) hpend
    rw [processRec_entry hr hp hs he, hm, if_pos hlen, disturb_inService (x := { x with misNow := m }) _ hp hs]
    exact ⟨rfl, rfl⟩
  · rw [processRec_exit hr hp hs he, exitRec_empty hl hlocal hst, disturb_inService _ hp hs]
    exact ⟨rfl, rfl⟩
  · rw [processRec_exit hr hp hs he, exitRec_single hl hcount,
      balance_clears (x := pairUp d a r _ { x with ledger := [] }) rfl hpend hst ((pairUp_mismatch_count hcount _ _ _).trans hmis)]
    exact ⟨rfl, rfl, rfl, rfl⟩

end

section
/-! PROOFS. The reset commands in the open frame of an engine (R143, R154, R159, R235, Table 5-6). -/

namespace Sys2Proof.Machine
open Sys2Proof

/-! ### Section slots of an image -/

theorem Img.sec_idx {m : Img} {i : Fin 256} {x : Sec} (h : m.sec i = some x) : x.idx = i := by
  simpa using List.find?_some h

/-- A rule applied to every slot acts on each section's own slot. -/
theorem Img.sec_map (m : Img) {f : Sec → Sec} (hf : ∀ x, (f x).idx = x.idx) (i : Fin 256) :
    ({ m with secs := m.secs.map f } : Img).sec i = (m.sec i).map f := by
  simp only [Img.sec, List.find?_map, Function.comp_def, hf]

/-- An image with the slot of one section replaced. -/
def Img.setSec (m : Img) (i : Fin 256) (y : Sec) : Img :=
  { m with secs := m.secs.map (fun z => if z.idx = i then y else z) }

section
variable {m : Img} {i : Fin 256} {y : Sec}

theorem Img.setSec_sec (hy : y.idx = i) (k : Fin 256) :
    (m.setSec i y).sec k = (m.sec k).map (fun z => if z.idx = i then y else z) := by
  refine m.sec_map (fun z => ?_) k
  split
  next h => exact hy.trans h.symm
  next => rfl

theorem Img.setSec_sec_same {x : Sec} (h : m.sec i = some x) (hy : y.idx = i) : (m.setSec i y).sec i = some y := by
  rw [Img.setSec_sec hy, h, Option.map_some, if_pos (Img.sec_idx h)]

theorem Img.setSec_sec_ne (hy : y.idx = i) {k : Fin 256} (hk : k ≠ i) : (m.setSec i y).sec k = m.sec k := by
  rw [Img.setSec_sec hy]
  cases h : m.sec k with
  | none => rfl
  | some z => rw [Option.map_some, if_neg (Img.sec_idx h ▸ hk)]

end

/-- Placing the ledgers in the pool changes the pool slots of a section and nothing else of it (R162). -/
theorem Sec.reslot_sec (cfg : Cfg) (old x : Sec) : ∃ l, (Sec.reslot cfg old x).1 = { x with slots := l } := by
  unfold Sec.reslot
  split <;> exact ⟨_, rfl⟩

theorem placeLedgers_sec (cfg : Cfg) (base m : Img) (i : Fin 256) :
    ∃ l, (placeLedgers cfg base m).1.sec i = (m.sec i).map (fun z => { z with slots := l }) := by
  have hidx (z : Sec) : (Sec.reslot cfg ((base.sec z.idx).getD { idx := z.idx }) z).1.idx = z.idx := by
    obtain ⟨l, hl⟩ := Sec.reslot_sec cfg ((base.sec z.idx).getD { idx := z.idx }) z
    rw [hl]
  have hsec : (placeLedgers cfg base m).1.sec i =
      (m.sec i).map (fun z => (Sec.reslot cfg ((base.sec z.idx).getD { idx := z.idx }) z).1) := by
    simp only [placeLedgers, List.map_map, Function.comp_def]
    exact m.sec_map hidx i
  rw [hsec]
  cases m.sec i with
  | none => exact ⟨[], rfl⟩
  | some z =>
    obtain ⟨l, hl⟩ := Sec.reslot_sec cfg ((base.sec z.idx).getD { idx := z.idx }) z
    exact ⟨l, congrArg some hl⟩

/-! ### A frame's image rests on the image that it starts from (R159) -/

/-- A step of a frame reads nothing but the image of what it works on, as far as the image that it leaves goes. -/
def Work.FromImg (f : Work → Work) : Prop := ∀ w v : Work, w.img = v.img → (f w).img = (f v).img

theorem Work.FromImg.foldl {α : Type} {f : Work → α → Work} (hf : ∀ a, Work.FromImg (fun w => f w a)) (l : List α) :
    Work.FromImg (fun w => l.foldl f w) :=
  fun _ _ h => List.foldl_rel (r := fun w v : Work => w.img = v.img) h fun a _ => hf a

theorem Work.eachSec_fromImg (cfg : Cfg) (p : SecDef → Bool) (f : SecDef → Sec → SecOut) :
    Work.FromImg (Work.eachSec cfg p f) := by
  intro w v h
  simp only [Work.eachSec, h]

theorem Work.linkEv_fromImg (cfg : Cfg) (a : LinkEv) : Work.FromImg (fun w => w.linkEv cfg a) := by
  cases a <;> exact Work.eachSec_fromImg cfg _ _

theorem Work.pointEv_fromImg (cfg : Cfg) (a : PointEv) : Work.FromImg (fun w => w.pointEv cfg a) := by
  cases a
  case failEnd => exact fun _ _ h => h
  all_goals exact Work.eachSec_fromImg cfg _ _

theorem Work.viEv_fromImg (cfg : Cfg) (a : ViEv) : Work.FromImg (fun w => w.viEv cfg a) := by
  cases a <;> exact Work.eachSec_fromImg cfg _ _

theorem Work.expiry_fromImg (cfg : Cfg) (t : Nat) : Work.FromImg (fun w => w.expiry cfg t) := by
  intro w v h
  simp only [Work.expiry, h]
  exact Work.FromImg.foldl (fun _ => Work.eachSec_fromImg cfg _ _) _ w v h

theorem Work.reset_fromImg (cfg : Cfg) (k : ResetKind) (gid : Word) : Work.FromImg (fun w => (w.reset cfg k gid).1) := by
  intro w v h
  simp only [Work.reset, h]
  repeat' split
  all_goals rfl

theorem Work.command_fromImg (cfg : Cfg) (snap : Snap) (image : Bool) (c : Cmd) :
    Work.FromImg (fun w => w.command cfg snap image c) := by
  intro w v h
  simp only [Work.command]
  split
  · split
    · exact Work.reset_fromImg cfg _ _ w v h
    · exact h
  · exact h

/-- What a sampled frame has done before the commands that the source of a hand-over executes too. -/
def Work.runOwn (cfg : Cfg) (image : Bool) (w : Work) (j : Journal) : Work :=
  let w := (sortBy LinkEv.rank j.links).foldl (Work.linkEv cfg) w
  let w := (sortBy PointEv.rank j.points).foldl (Work.pointEv cfg) w
  let w := w.expiry cfg j.at'
  let w := (sortBy ViEv.rank j.vis).foldl (Work.viEv cfg) w
  let w := ((sortBy (recRank j.tb) (j.recs.map JRec.r))).foldl (Work.axle cfg j.at') w
  j.cmds.foldl (Work.command cfg j.snap image) w

section
variable {cfg : Cfg} {image : Bool} {w : Work} {j : Journal}

/-- A frame whose source of a hand-over executes nothing has done all with its own commands. -/
theorem Work.run_img (hd : j.dual = []) : (w.run cfg image j).img = (w.runOwn cfg image j).img := by
  simp only [Work.run, hd, List.foldl_nil]
  rfl

theorem Work.runOwn_fromImg (cfg : Cfg) (image : Bool) (j : Journal) : Work.FromImg (fun w => w.runOwn cfg image j) := by
  intro w v h
  refine Work.FromImg.foldl (Work.command_fromImg cfg j.snap image) _ _ _ ?_
  refine Work.FromImg.foldl (fun _ => Work.eachSec_fromImg cfg _ _) _ _ _ ?_
  refine Work.FromImg.foldl (Work.viEv_fromImg cfg) _ _ _ ?_
  refine Work.expiry_fromImg cfg j.at' _ _ ?_
  refine Work.FromImg.foldl (Work.pointEv_fromImg cfg) _ _ _ ?_
  exact Work.FromImg.foldl (Work.linkEv_fromImg cfg) _ _ _ h

theorem Work.run_fromImg (cfg : Cfg) (image : Bool) (j : Journal) : Work.FromImg (fun w => w.run cfg image j) :=
  fun w v h => Work.FromImg.foldl (f := Work.dualCommand cfg j.snap image) (Work.command_fromImg cfg j.snap image) j.dual
    (w.runOwn cfg image j) (v.runOwn cfg image j) (Work.runOwn_fromImg cfg image j w v h)

/-- A command that joins a frame acts on what the frame has left (R159). -/
theorem Work.run_addCmd (hd : j.dual = []) (f : Nat) (c : Cmd) :
    w.run cfg image { j with frame := f, cmds := j.cmds ++ [c] } = { (w.runOwn cfg image j).command cfg j.snap image c with
      entries := (w.run cfg image { j with frame := f, cmds := j.cmds ++ [c] }).entries } := by
  simp only [Work.run, hd, List.foldl_nil, List.foldl_append, List.foldl_cons]
  rfl

end

/-! ### The frame opened anew (R154, R168) -/

/-- A fault of the section logic that an engine logs: the source of a hand-over logs those of the sections that it hands over. -/
def Engine.hears (g : Engine) (l : SecLog) : Bool :=
  match l.sx with
  | some (i, _) => !g.unheard.contains i
  | none => true

/-- `t` is `s` with the open frame of engine `e` run anew, as `v`; nothing is committed or published. -/
structure State.Reopens (s t : State) (e : Fin 4) (v : Work) : Prop where
  frame : t = { s with engines := t.engines, pool := t.pool }
  others : OthersSame s.engines t.engines e
  engine : t.engines[e] = { s.engines[e] with
    work := some v, sampled := (t.engines[e]).sampled, ring := (t.engines[e]).ring, ringAt := (t.engines[e]).ringAt
    delay := (t.engines[e]).delay, opened := true }

theorem State.Reopens.work {s t : State} {e : Fin 4} {v : Work} (h : s.Reopens t e v) : (t.engines[e]).work = some v := by
  rw [h.engine]

/-- The open frame `v` of an engine holds what its passes leave, `w`, with the ledgers placed in the pool, and logs what the engine
hears. -/
structure Engine.Holds (g : Engine) (w v : Work) : Prop where
  replies : v.replies = w.replies
  logs : v.logs = w.logs.filter g.hears
  secs : ∀ i, ∃ l, v.img.sec i = (w.img.sec i).map (fun z => { z with slots := l })

/-- The work with which the frame of an engine opens, on these journals and this ring (S2). -/
def Engine.openWork (g : Engine) (js : List Journal) (ring : List JEntry) : Work :=
  { img := g.committed, base := g.committed, js := js, fails := g.fails, ring := ring }

theorem Engine.openFrame_holds (cfg : Cfg) (image : Bool) (j : Journal) (g : Engine) :
    ∃ (v : Work) (js : List Journal) (ring : List JEntry) (at' : Nat) (delay : List DelayReg),
      js = g.sampled ++ [{ j with frame := g.frame }] ∧
      g.openFrame cfg image j = { g with
        work := some v, sampled := js, ring := ring, ringAt := at', delay := delay, opened := true } ∧
      g.Holds (js.foldl (Work.run cfg image) (g.openWork js ring)) v := by
  refine ⟨_, _, _, _, _, rfl, rfl, rfl, ?_, fun i => placeLedgers_sec cfg _ _ i⟩
  refine List.filter_congr fun l _ => ?_
  obtain ⟨code, obj, _ | ⟨i, bit⟩⟩ := l <;> rfl

/-- An engine without the last journal that it has sampled, whose entries leave the ring (R168). -/
def Engine.rewound (g : Engine) (j : Journal) : Engine :=
  { g with
    sampled := g.sampled.dropLast, ring := g.ring.take (g.ring.length - j.plain.length)
    ringAt := (g.ringAt + 2048 - j.plain.length) % 2048 }

theorem Engine.reopen_eq {g : Engine} {j : Journal} (cfg : Cfg) (image : Bool) (f : Journal → Journal) (hw : g.work.isSome = true)
    (hj : g.sampled.getLast? = some j) : g.reopen cfg image f = (g.rewound j).openFrame cfg image (f j) := by
  obtain ⟨w, hw⟩ := Option.isSome_iff_exists.1 hw
  rw [Engine.reopen, hw, hj]
  rfl

/-- The open frame of an engine with one more command: the command acts on the image as the frame has left it. -/
theorem Engine.reopen_addCmd {g : Engine} {j : Journal} (cfg : Cfg) (image : Bool) (c : Cmd) (hw : g.work.isSome = true)
    (hj : g.sampled.getLast? = some j) (hd : j.dual = []) :
    ∃ (v u : Work) (js : List Journal) (ring : List JEntry) (at' : Nat) (delay : List DelayReg),
      u.img = g.imageAfter cfg image g.sampled ∧
      g.reopen cfg image (fun j => { j with cmds := j.cmds ++ [c] }) = { g with
        work := some v, sampled := js, ring := ring, ringAt := at', delay := delay, opened := true } ∧
      g.Holds (u.command cfg j.snap image c) v := by
  obtain ⟨js, hjs⟩ := List.getLast?_eq_some_iff.1 hj
  obtain ⟨v, js', ring, at', delay, hjs', hopen, hv⟩ :=
    Engine.openFrame_holds cfg image { j with cmds := j.cmds ++ [c] } (g.rewound j)
  have hold : (g.rewound j).sampled = js := by rw [Engine.rewound, hjs, List.dropLast_concat]
  rw [hjs', hold, List.foldl_append, List.foldl_cons, List.foldl_nil, Work.run_addCmd hd] at hv
  refine ⟨v, _, js', ring, at', delay, ?_, (Engine.reopen_eq cfg image _ hw hj).trans hopen, ⟨hv.replies, hv.logs, hv.secs⟩⟩
  rw [Engine.imageAfter, hjs, List.foldl_append, List.foldl_cons, List.foldl_nil, Work.run_img hd]
  exact Work.runOwn_fromImg cfg image j _ _ (Work.FromImg.foldl (Work.run_fromImg cfg image) js _ _ rfl)

/-! ### A reset on a working image (R143, Table 5-6) -/

/-- Where R143 and Table 5-6 refuse a command, or the section is UNPROVEN. -/
theorem resetSec_refused {d : SecDef} {k : ResetKind} {x : Sec}
    (h : d.byCommand = false ∨ x.unproven = true ∨ (k = .direct ∧ d.directOk = false)) :
    resetSec d k 1 x = (refuseReset k 1 x, stNotPermitted) := by
  unfold resetSec
  rcases h with h | h | h
  · rw [if_pos rfl, if_pos (by simp [h])]
  · simp only [h, if_true, ite_self]
  · rw [if_pos h, ite_self]

theorem resetSec_permitted {d : SecDef} {k : ResetKind} {x : Sec} (hb : d.byCommand = true) (hk : k = .direct → d.directOk = true)
    (hx : x.unproven = false) : resetSec d k 1 x = (applyReset k 1 x, stOk) := by
  unfold resetSec
  rw [if_pos rfl, if_neg (by simp [hb]), if_neg (by rintro ⟨h, h'⟩; simp [hk h] at h'), if_neg (by simp [hx])]

@[simp] theorem applyReset_idx (k : ResetKind) (src : BitVec 2) (x : Sec) : (applyReset k src x).1.idx = x.idx := by
  cases k <;> simp only [applyReset] <;> split
  case cancel.isTrue => exact disturb_idx _ _
  all_goals rfl

theorem applyReset_direct (src : BitVec 2) {x : Sec} (hx : x.unproven = false) :
    (applyReset .direct src x).1.st = .clear ∧ (applyReset .direct src x).1.unproven = false ∧
    (x.st ≠ .clear → applyReset .direct src x = ({ applied .direct src x with
      st := .clear, ledger := [], pend := [], mismatch := 0, sweep := 0, through := false, prev := none }, [])) := by
  simp only [applyReset]
  split
  next hs => exact ⟨hs, hx, fun h => absurd hs h⟩
  next => exact ⟨rfl, hx, fun _ => rfl⟩

theorem applyReset_preparatory (src : BitVec 2) {x : Sec} (hs : x.st = .occupied ∨ x.st = .disturbed) :
    applyReset .preparatory src x = ({ applied .preparatory src x with
      st := .resetPending, ledger := [], pend := [], mismatch := 0, sweep := 0, through := true, prev := none }, []) :=
  if_neg (by rcases hs with h | h <;> simp [h])

theorem applyReset_preparatory_pending (src : BitVec 2) {x : Sec} (hs : x.st = .resetPending) :
    applyReset .preparatory src x = (noChange .preparatory src x, []) :=
  if_pos (.inr hs)

theorem applyReset_cancel (src : BitVec 2) {x : Sec} (hx : x.unproven = false) (hs : x.st = .resetPending) :
    (applyReset .cancel src x).1.st = .disturbed ∧ (applyReset .cancel src x).1.cause = 0x0B ∧
    (applyReset .cancel src x).1.ledger = [] := by
  have h : applyReset .cancel src x = disturb 0x0B { applied .cancel src x with ledger := [], prev := none } := if_pos hs
  rw [h, disturb_inService (x := { applied .cancel src x with ledger := [], prev := none }) _ hx (by simp [applied, hs])]
  exact ⟨rfl, rfl, rfl⟩

@[simp] theorem resetSec_idx (d : SecDef) (k : ResetKind) (src : BitVec 2) (x : Sec) : (resetSec d k src x).1.1.idx = x.idx := by
  simp only [resetSec, refuseReset]
  repeat' split
  all_goals simp

/-- A reset of a section of another module finds no slot. -/
theorem Work.reset_foreign {cfg : Cfg} {gid : Word} (k : ResetKind) (w : Work) (h : gid.toNat / 256 ≠ cfg.modAddr.toNat) :
    w.reset cfg k gid = ({ w with logs := w.logs ++ [{ code := 0x0709, obj := 0xFFFF, sx := none }] }, stBadParam) := by
  have hl : cfg.localSec gid = none := if_neg h
  rw [Work.reset, refusedLog, hl]

theorem Work.reset_slot {cfg : Cfg} {gid : Word} {i : Fin 256} {d : SecDef} {x : Sec} (k : ResetKind) {w : Work}
    (hl : cfg.localSec gid = some i) (hd : cfg.sec i = some d) (hx : w.img.sec i = some x) :
    w.reset cfg k gid = ({ w with
      img := w.img.setSec i (resetSec d k 1 x).1.1, logs := w.logs ++ (resetSec d k 1 x).1.2 }, (resetSec d k 1 x).2) := by
  rw [Work.reset, hl]
  simp only [hd, hx]
  rfl

/-! ### A reset command given by its row (R143, R235) -/

/-- What a reset of the section `gid` on the image of `u` leaves in the open frame `v` of an engine. -/
structure Engine.EndsInReset (g : Engine) (cfg : Cfg) (c : Cmd) (k : ResetKind) (gid : Word) (u v : Work) : Prop where
  reply : v.replies.getLast? = some (c, { status := (u.reset cfg k gid).2 })
  log : ∀ l, (u.reset cfg k gid).1.logs.getLast? = some l → g.hears l = true → v.logs.getLast? = some l
  secs : ∀ i, ∃ l, v.img.sec i = ((u.reset cfg k gid).1.img.sec i).map (fun z => { z with slots := l })

theorem Engine.Holds.endsInReset {g : Engine} {cfg : Cfg} {snap : Snap} {c : Cmd} {k : ResetKind} {gid : Word} {u v : Work}
    (h : g.Holds (u.command cfg snap true c) v) (hk : c.op.asReset = some (k, gid)) : g.EndsInReset cfg c k gid u v := by
  obtain ⟨hrep, hlog, hsec⟩ := h
  have hc : u.command cfg snap true c = { (u.reset cfg k gid).1 with
      replies := (u.reset cfg k gid).1.replies ++ [(c, { status := (u.reset cfg k gid).2 })] } := by
    rw [Work.command, hk]
    rfl
  rw [hc] at hrep hlog hsec
  refine ⟨?_, fun l hl hg => ?_, hsec⟩
  · rw [hrep, List.getLast?_concat]
  · obtain ⟨ls, hls⟩ := List.getLast?_eq_some_iff.1 hl
    rw [hlog, hls, List.filter_append, List.filter_cons_of_pos hg]
    simp

theorem State.admits_hasImage {s : State} {w : Who} {o : Op} {ps : List Byte} (h : s.admits w o ps) (ho : o.asReset.isSome = true) :
    s.hasImage = true := by
  obtain ⟨_, _, _, _, _, _, hpre⟩ := h
  have hneed : needsImage o.code = true := by cases o <;> simp [Op.asReset] at ho <;> rfl
  by_contra hno
  rw [State.precheck, if_pos ⟨hneed, by simpa using hno⟩] at hpre
  contradiction

theorem State.executor_reset {s : State} {o : Op} {k : ResetKind} {gid : Word} {i : Fin 256} {d : SecDef} {e : Fin 4}
    (ho : o.asReset = some (k, gid)) (hl : s.cfg.localSec gid = some i) (hd : s.cfg.sec i = some d) (hp : s.publisher i = some e)
    (he : (s.engines[e]).executes = true) : s.executor o = some e := by
  cases o <;> simp_all [Op.asReset, State.executor]

theorem State.writePool_frame (s : State) (e : Fin 4) : s.writePool e = { s with pool := (s.writePool e).pool } := by
  unfold State.writePool
  split <;> rfl

/-- A reset that the open frame of its engine takes. -/
theorem exec_reset_opened {c : Instr} {w : Who} {o : Op} {s : State} {e : Fin 4} {j : Journal} {k : ResetKind} {gid : Word}
    (hc : asOp c = some (w, o, [])) (hk : o.asReset = some (k, gid)) (h : s.admits w o []) (he : s.executor o = some e)
    (ht : (s.engines[e]).takesCommand = true) (hj : (s.engines[e]).sampled.getLast? = some j) (hd : j.dual = []) :
    ∃ t v u, exec c s = .next t ∧ s.Reopens t e v ∧
      u.img = (s.engines[e]).imageAfter s.cfg s.hasImage (s.engines[e]).sampled ∧
      (s.engines[e]).EndsInReset s.cfg { who := w, op := o, ref := .none } k gid u v := by
  have hsome : o.asReset.isSome = true := by rw [hk]; rfl
  have hw : (s.engines[e]).work.isSome = true := (Bool.and_eq_true_iff.1 ht).1
  obtain ⟨v, u, js, ring, at', delay, hu, hre, hv⟩ :=
    Engine.reopen_addCmd s.cfg s.hasImage { who := w, op := o, ref := .none } hw hj hd
  rw [State.admits_hasImage h hsome] at hv
  refine ⟨_, v, u, exec_reset hc h hsome he, ?_, hu, hv.endsInReset hk⟩
  rw [State.giveReset, if_pos ht, State.writePool_frame]
  refine ⟨rfl, upd_othersSame _ _ _, ?_⟩
  dsimp only
  rw [State.modEngine_engines, upd_get_same, hre]

/-- What a reset of a section with a slot leaves: the slot as `resetSec` leaves it, every other section, and the reply. -/
theorem Engine.EndsInReset.slot {g : Engine} {cfg : Cfg} {c : Cmd} {k : ResetKind} {gid : Word} {u v : Work} {i : Fin 256}
    {d : SecDef} {x : Sec} (h : g.EndsInReset cfg c k gid u v) (hl : cfg.localSec gid = some i) (hd : cfg.sec i = some d)
    (hx : u.img.sec i = some x) :
    v.replies.getLast? = some (c, { status := (resetSec d k 1 x).2 }) ∧
    (∃ l, v.img.sec i = some { (resetSec d k 1 x).1.1 with slots := l }) ∧
    ∀ m, m ≠ i → (v.img.sec m).map (fun z => { z with slots := [] }) = (u.img.sec m).map (fun z => { z with slots := [] }) := by
  obtain ⟨hreply, -, hsecs⟩ := h
  rw [Work.reset_slot k hl hd hx] at hreply hsecs
  have hidx : (resetSec d k 1 x).1.1.idx = i := (resetSec_idx d k 1 x).trans (Img.sec_idx hx)
  refine ⟨hreply, ?_, fun m hm => ?_⟩
  · obtain ⟨l, hy⟩ := hsecs i
    exact ⟨l, by rw [hy, Img.setSec_sec_same hx hidx, Option.map_some]⟩
  · obtain ⟨l, hy⟩ := hsecs m
    rw [hy, Img.setSec_sec_ne hidx hm, Option.map_map]
    rfl

end Sys2Proof.Machine

open Sys2Proof Sys2Proof.Machine

/-- Settles O36: the frame that is opened anew with the reset as its last command leaves what the reset leaves on the image of the
frame as it was (`exec_reset_opened`), and Table 5-6 says what that is (`applyReset_direct` and the rules after it). That a reset
given so joins the frame that its engine has open, and waits for the next one without it (log 14), is the model's choice. -/
theorem resetCommands : Obligations.ResetCommands := by
  unfold Obligations.ResetCommands
  refine ⟨fun c o s w gid i d e j x hc hadm hl hd hp hex hby ht hj hdual hx hproven k hk hdir => ?_,
    fun c o s w e hc hk hadm hex ht => ?_,
    fun c w o gid k s e j hc hk hadm hex ht hj hdual => ⟨fun hfar => ?_, fun i d x hl hd hheard hx hbar => ?_⟩⟩
  · obtain ⟨t, v, u, hrun, hopen, hu, hend⟩ := exec_reset_opened hc hk hadm (State.executor_reset hk hl hd hp hex) ht hj hdual
    rw [← hu] at hx ⊢
    obtain ⟨hreply, ⟨ls, hy⟩, hother⟩ := hend.slot hl hd hx
    rw [resetSec_permitted hby hdir hproven] at hreply hy
    refine ⟨t, v, _, hrun, hopen.frame, hopen.others, hopen.engine, hreply, hy, hother, ?_, ?_, ?_, ?_⟩
    · rintro rfl
      obtain ⟨hst, hun, hreset⟩ := applyReset_direct 1 hproven
      refine ⟨hst, hun, fun hs => ?_⟩
      rw [hreset hs]
      exact ⟨rfl, rfl, rfl, rfl, rfl, rfl⟩
    · rintro rfl hs
      rw [applyReset_preparatory 1 hs]
      exact ⟨rfl, rfl, rfl, rfl, rfl, rfl⟩
    · rintro rfl hs
      rw [applyReset_preparatory_pending 1 hs]
      exact ⟨hs, rfl, rfl⟩
    · rintro rfl hs
      exact applyReset_cancel 1 hproven hs
  · rw [exec_reset hc hadm hk hex, State.giveReset, if_neg (ne_true_of_eq_false ht)]
  · obtain ⟨t, v, u, hrun, hopen, -, hend⟩ := exec_reset_opened hc hk hadm hex ht hj hdual
    obtain ⟨hreply, hlog, -⟩ := hend
    rw [Work.reset_foreign k u hfar] at hreply hlog
    exact ⟨t, v, hrun, hopen.frame, hopen.others, hopen.work, hreply, hlog _ List.getLast?_concat rfl⟩
  · obtain ⟨t, v, u, hrun, hopen, hu, hend⟩ := exec_reset_opened hc hk hadm hex ht hj hdual
    rw [← hu] at hx
    obtain ⟨hreply, ⟨ls, hy⟩, -⟩ := hend.slot hl hd hx
    have hlog := hend.log (secLogOf i 0x0709 9)
    rw [Work.reset_slot k hl hd hx, resetSec_refused hbar, refuseReset, Img.sec_idx hx] at hlog
    rw [resetSec_refused hbar] at hreply hy
    exact ⟨t, v, _, hrun, hopen.frame, hopen.others, hopen.work, hreply,
      hlog List.getLast?_concat (by simpa [Engine.hears, secLogOf] using hheard), hy, rfl⟩

end

section
/-! PROOFS. The commands of the engines: splits, joins and debug attaches (R173, R174, R177, R179, R180). -/

namespace Sys2Proof.Machine
open Sys2Proof

/-! ### Faults of an engine, and the demands of the outputs -/

/-- A fault bit of CEN_FAULT. -/
def Engine.markFault (bit : Nat) (g : Engine) : Engine := { g with fault := setBit g.fault bit }

theorem State.cenFault_same (s : State) (e : Fin 4) (bit code : Nat) :
    (s.modEngine e (Engine.markFault bit)).SameButLog (s.cenFault e bit code) := State.fault_same _ _ _

theorem State.cenFault_engines (s : State) (e : Fin 4) (bit code : Nat) :
    (s.cenFault e bit code).engines = upd s.engines e (Engine.markFault bit) := (s.cenFault_same e bit code).engines

theorem State.cenFault_lastFault (s : State) (e : Fin 4) (bit : Nat) {code : Nat} (h5 : code ≠ 0x0605) (h3 : code ≠ 0x0703)
    (hc : code < 65536) : (s.cenFault e bit code).lastFault code e.val :=
  State.fault_lastFault _ _ _ h5 h3 hc (by omega)

/-- Judging the demands changes the outputs alone. -/
theorem State.updateVos_frame (s : State) : s.updateVos = { s with vos := s.updateVos.vos } := by
  have hfold (l : List (Fin 8)) : ∀ s : State, ∃ v, l.foldl (fun s j =>
      if s.clk.prodTest && (s.vos[j]).alone then s else s.updateVo j) s = { s with vos := v } := by
    induction l with
    | nil => exact fun s => ⟨s.vos, rfl⟩
    | cons j l ih =>
      intro s
      rw [List.foldl_cons]
      split
      · exact ih s
      · exact ih (s.updateVo j)
  obtain ⟨v, hv⟩ := hfold (allFin 8) s
  rw [State.updateVos, hv]

/-! ### A command that engines execute -/

/-- A command that changes engines alone and is answered. -/
theorem exec_answered_engines {c : Instr} {w : Who} {o : Op} {ps : List Byte} {s : State} {v : Vector Engine 4} {r : Result}
    (hc : asOp c = some (w, o, ps)) (h : s.admits w o ps) (hr : o.asReset = none)
    (hp : s.perform { who := w, op := o, ref := .none } s.snap = ({ s with engines := v }, some r)) :
    ∃ t, exec c s = .next t ∧ ({ s with engines := t.engines } : State).answered t r ∧ t.engines = v := by
  obtain ⟨t, ht, hans⟩ := exec_answered hc h hr hp
  have hv : t.engines = v := hans.same.engines
  exact ⟨t, ht, by rw [hv]; exact hans, hv⟩

/-- A command that is refused with 0611h against an engine. -/
theorem exec_refuseSplit {c : Instr} {w : Who} {o : Op} {ps : List Byte} {s : State} {e : Fin 4}
    (hc : asOp c = some (w, o, ps)) (h : s.admits w o ps) (hr : o.asReset = none)
    (hp : s.perform { who := w, op := o, ref := .none } s.snap = s.refuseSplit e) :
    ∃ t, exec c s = .next t ∧ OthersSame s.engines t.engines e ∧
      ({ s with engines := t.engines } : State).answered t { status := stNotPermitted } ∧
      t.engines[e] = (s.engines[e]).markFault 11 ∧ t.lastFault 0x0611 e.val := by
  have hans := (s.cenFault_same e 11 0x0611).answered (State.finish_answered _ w o { status := stNotPermitted })
  have hlast := State.finish_lastFault (State.fault_flushed _ (by decide) (by decide)) w o { status := stNotPermitted }
    (s.cenFault_lastFault e 11 (code := 0x0611) (by decide) (by decide) (by decide))
  have heng := hans.same.engines
  refine ⟨_, exec_finished hc h hr hp, ?_, ?_, ?_, hlast⟩
  · rw [heng]; exact upd_othersSame _ _ _
  · rw [heng]; exact hans
  · rw [heng]; exact upd_get_same _ _ _

theorem Engine.not_engaged {g : Engine} (hm : g.mode ≠ .debug) (hho : g.ho = []) : g.engaged = false := by
  rw [Engine.engaged, hho, decide_eq_false hm]
  rfl

/-! ### ENGINE_SPLIT (R173, R174) -/

/-- What bars a split (R173). -/
def State.splitBarred (s : State) (a b : Fin 4) : Prop :=
  (s.cfg.cenCfg[a]).getLsbD 31 = false ∨ (s.engines[a]).mode ≠ .run ∨ (s.engines[b]).mode ≠ .run ∨
    (s.engines[a]).engaged = true ∨ (s.engines[b]).engaged = true ∨
    64 < (s.engines[a]).committed.secs.length + (s.engines[b]).committed.secs.length ∨
    1024 < s.cfg.blocksOf (s.engines[a]).committed.secs + s.cfg.blocksOf (s.engines[b]).committed.secs ∨ s.img.stage = .staged

theorem State.opSplit_refuses {s : State} {a b : Fin 4} (hab : a ≠ b) (h : s.splitBarred a b) :
    s.opSplit a b = s.refuseSplit (s.splitExecutor a) := by
  rw [State.splitBarred, ← Bool.not_eq_true'] at h
  exact (if_neg hab).trans (if_pos h)

theorem State.opSplit_starts {s : State} {a b : Fin 4} (hab : a ≠ b) (h : ¬ s.splitBarred a b) :
    s.opSplit a b = (s.startHandover a b false ((s.engines[a]).committed.secs.map Sec.idx), ret stAccepted) := by
  rw [State.splitBarred, ← Bool.not_eq_true'] at h
  exact (if_neg hab).trans (if_neg h)

/-- The source and the target enter the hand-over at T0 (R174). -/
def Engine.startSource (b : Fin 4) (join : Bool) (secs : List (Fin 256)) (g : Engine) : Engine := { g with
  mode := .hoOut, ho := g.ho ++ [{ peer := b, join := join, source := true, t0 := g.frame, secs := secs }]
  hoReg := hoWord 3 join b 0 secs.length }

def Engine.startTarget (a : Fin 4) (join : Bool) (secs : List (Fin 256)) (g : Engine) : Engine := { g with
  mode := .hoIn, ho := g.ho ++ [{ peer := a, join := join, source := false, t0 := g.frame, secs := secs }]
  hoReg := hoWord 3 join a 0 secs.length }

theorem State.startHandover_eq (s : State) (a b : Fin 4) (join : Bool) (secs : List (Fin 256)) : s.startHandover a b join secs =
    { s with engines := upd (upd s.engines a (Engine.startSource b join secs)) b (Engine.startTarget a join secs) } := rfl

theorem State.startHandover_get (s : State) {a b : Fin 4} (hab : a ≠ b) (join : Bool) (secs : List (Fin 256)) :
    (s.startHandover a b join secs).engines[a] = (s.engines[a]).startSource b join secs ∧
    (s.startHandover a b join secs).engines[b] = (s.engines[b]).startTarget a join secs ∧
    ∀ k : Fin 4, k ≠ a → k ≠ b → (s.startHandover a b join secs).engines[k] = s.engines[k] := by
  rw [State.startHandover_eq]
  dsimp only
  refine ⟨?_, ?_, fun k hka hkb => ?_⟩
  · rw [upd_get_ne _ _ _ _ hab, upd_get_same]
  · rw [upd_get_same, upd_get_ne _ _ _ _ hab.symm]
  · rw [upd_get_ne _ _ _ _ hkb, upd_get_ne _ _ _ _ hka]

/-! ### ENGINE_JOIN (R177) -/

/-- The slots stop, and four proving frames begin with the next one. -/
def Engine.startJoin (g : Engine) : Engine := { g with
  mode := .proving, joining := true, aRun := false, bRun := false, from' := g.frame + 1, proveLeft := 4, fails := 0
  work := none, done := none, sampled := [], committed := {}, published := {} }

section
variable {s : State} {e : Fin 4}

theorem State.opJoin_notSplit (hm : (s.engines[e]).mode ≠ .split) : s.opJoin e = (s, ret stNotPermitted) := if_pos (.inl hm)

theorem State.opJoin_refuses (hm : (s.engines[e]).mode = .split) (hj : (s.engines[e]).joining = false)
    (hg : (s.engines[e]).engaged = true) : s.opJoin e = s.refuseSplit e :=
  (if_neg (by rw [hm, hj]; decide)).trans (if_pos (.inl hg))

theorem State.opJoin_starts (hm : (s.engines[e]).mode = .split) (hj : (s.engines[e]).joining = false)
    (hg : ∀ j : Fin 4, (s.engines[j]).engaged = false) : s.opJoin e = (s.modEngine e Engine.startJoin, ret stAccepted) := by
  have hany : (allFin 4).any (fun j => s.holdsHome e j && (s.engines[j]).engaged) = false :=
    List.any_eq_false.2 fun j _ => by rw [hg j, Bool.and_false]; decide
  refine (if_neg (by rw [hm, hj]; decide)).trans (if_neg ?_)
  rw [hg e, hany]
  decide

end

/-! ### DEBUG_ATTACH (R179) -/

/-- The coded pass stops, the token dies, and the sections are UNPROVEN. -/
def Engine.attach (cfg : Cfg) (e : Fin 4) (g : Engine) : Engine := { g.mapState cfg e (fun l => l.map (beginU .debug)) with
  mode := .debug, token := false, tokenNext := false, work := none, ring := [], delay := []
  fails := 0, dbgStop := false, dbgWork := none, dbgCnt := satInc g.dbgCnt }

theorem State.attachDebug_eq (s : State) (e : Fin 4) : s.attachDebug e =
    ((s.noteBegin .debug (some e)).modEngine e (Engine.attach s.cfg e)).cenFault e 10 0x0630 := rfl

@[simp] theorem Engine.modLoaded_fault (e : Fin 4) (f : Slot → Slot) (g : Engine) : (g.modLoaded e f).fault = g.fault := by
  unfold Engine.modLoaded
  split <;> rfl

theorem Engine.attach_fault (cfg : Cfg) (e : Fin 4) (g : Engine) : (g.attach cfg e).fault = g.fault := g.modLoaded_fault e _

theorem beginU_causes_mem (u : UCause) (x : Sec) : u ∈ (beginU u x).causes := by
  unfold beginU
  split
  next h => exact List.contains_iff_mem.1 h
  · split <;> exact List.mem_cons_self

/-- No section of an engine under debug is in service, in any image (R179). -/
theorem State.imposed_debug {s : State} {e : Fin 4} (h : (s.engines[e]).mode = .debug) (x : Sec) : (s.imposed e x).unproven = true := by
  unfold State.imposed
  dsimp only
  rw [if_pos h]
  have hdebug := beginU_unproven .debug
    ([UCause.start, UCause.image].foldl (fun (x : Sec) u => if s.causes.contains u then beginU u x else x) x)
  split <;> exact hdebug

theorem State.opAttach_attaches {s : State} {e : Fin 4} (hc : (s.cfg.cenCfg[e]).getLsbD 30 = true) (hh : (s.engines[e]).mode ≠ .halted)
    (hd : (s.engines[e]).mode ≠ .debug) (hho : (s.engines[e]).ho = []) :
    s.opAttach e = ((s.attachDebug e).updateVos, ret stAccepted) :=
  if_neg (by rw [hc, hho]; simpa using And.intro hh hd)

theorem debugAttach_spec (s : State) (w : Who) (e : Fin 4) (h : s.admits w (.debugAttach e) [])
    (hc : (s.cfg.cenCfg[e]).getLsbD 30 = true) (hh : (s.engines[e]).mode ≠ .halted) (hd : (s.engines[e]).mode ≠ .debug)
    (hho : (s.engines[e]).ho = []) :
    ∃ t, exec (.debugAttach w e) s = .next t ∧ OthersSame s.engines t.engines e ∧
      ({ s with engines := t.engines, vos := t.vos, begun := t.begun } : State).answered t { status := stAccepted } ∧
      t.engines[e] = ((s.engines[e]).attach s.cfg e).markFault 10 ∧ t.lastFault 0x0630 e.val := by
  have hfin := exec_finished (c := .debugAttach w e) rfl h rfl (State.opAttach_attaches hc hh hd hho)
  have hvos := (s.attachDebug e).updateVos_frame
  have hsame := ((s.noteBegin .debug (some e)).modEngine e (Engine.attach s.cfg e)).cenFault_same e 10 0x0630
  have hlast := ((s.noteBegin .debug (some e)).modEngine e (Engine.attach s.cfg e)).cenFault_lastFault e 10 (code := 0x0630)
    (by decide) (by decide) (by decide)
  have hflush : (s.attachDebug e).flushed := State.fault_flushed _ (by decide) (by decide)
  rw [← State.attachDebug_eq] at hsame hlast
  generalize s.attachDebug e = u at *
  generalize u.updateVos = v at *
  have hmgt : v.mgt = u.mgt := by rw [hvos]
  have hmdl : v.mdl = u.mdl := by rw [hvos]
  have hvflush : v.flushed := by unfold State.flushed at hflush ⊢; rwa [hmgt]
  have hvlast : v.lastFault 0x0630 e.val := hlast.congr hmdl
  have hans := State.finish_answered v w (.debugAttach e) { status := stAccepted }
  have hfinal := State.finish_lastFault hvflush w (.debugAttach e) { status := stAccepted } hvlast
  generalize v.finish _ _ = t at *
  have heng : t.engines = upd (upd s.engines e (Engine.attach s.cfg e)) e (Engine.markFault 10) := by
    rw [hans.same.engines, hvos]
    exact hsame.engines
  refine ⟨t, hfin, ?_, ?_, ?_, hfinal⟩
  · rw [heng]
    exact (upd_othersSame _ _ _).trans (upd_othersSame _ _ _)
  · refine State.SameButLog.answered ?_ hans
    have hb : t.begun = u.begun := hans.same.begun.trans (by rw [hvos])
    have hv : t.vos = v.vos := hans.same.vos
    have he : t.engines = u.engines := heng.trans hsame.engines.symm
    rw [hb, hv, he, hvos]
    unfold State.SameButLog at hsame ⊢
    rw [hsame]
    rfl
  · rw [heng, upd_get_same, upd_get_same]

end Sys2Proof.Machine

open Sys2Proof Sys2Proof.Machine

/-- Settles O41: each command reaches its operation, which changes engines alone, but for the outputs that the death of a token
opens; a refusal with 0611h is `exec_refuseSplit`. -/
theorem engineCommands : Obligations.EngineCommands := by
  unfold Obligations.EngineCommands
  refine ⟨fun s w a b h hab hc ha hb hha hhb hst hlen hblk => ?_, fun s w a b h hab hbar => ?_, fun s w e h hm hj hho hg => ?_,
    fun s w e h hm => ?_, fun s w e h hm hj hg => ?_, fun s w e h hc hh hd hho => ?_, fun s w e h hm => ?_, fun s w e h hm => ?_⟩
  · have hbar : ¬ s.splitBarred a b := by
      have hga := Engine.not_engaged (g := s.engines[a]) (by rw [ha]; decide) hha
      have hgb := Engine.not_engaged (g := s.engines[b]) (by rw [hb]; decide) hhb
      rw [State.splitBarred, hc, ha, hb, hga, hgb]
      simpa [hst] using And.intro hlen hblk
    obtain ⟨t, ht, hans, heng⟩ := exec_answered_engines (c := .engineSplit w a b) rfl h rfl (State.opSplit_starts hab hbar)
    obtain ⟨hsrc, htgt, hrest⟩ := s.startHandover_get hab false ((s.engines[a]).committed.secs.map Sec.idx)
    have hsrc : t.engines[a] = _ := (congrArg (·[a]) heng).trans hsrc
    have htgt : t.engines[b] = _ := (congrArg (·[b]) heng).trans htgt
    refine ⟨t, ht, hans, ?_, ?_, ?_, ?_, ?_, fun k hka hkb => (congrArg (·[k]) heng).trans (hrest k hka hkb)⟩
    · rw [hsrc]; rfl
    · rw [htgt]; rfl
    · rw [hsrc, Engine.startSource, hha]; rfl
    · rw [hsrc]; rfl
    · rw [hsrc]; rfl
  · refine exec_refuseSplit (c := .engineSplit w a b) rfl h rfl (State.opSplit_refuses hab ?_)
    unfold State.splitBarred
    tauto
  · obtain ⟨t, ht, hans, heng⟩ := exec_answered_engines (c := .engineJoin w e) rfl h rfl (State.opJoin_starts hm hj hg)
    have hjoin : t.engines[e] = (s.engines[e]).startJoin := by rw [heng, upd_get_same]
    refine ⟨t, ht, heng ▸ upd_othersSame _ _ _, hans, ?_⟩
    rw [hjoin]
    exact ⟨rfl, rfl, rfl, rfl, rfl, rfl⟩
  · exact exec_answered (c := .engineJoin w e) rfl h rfl (State.opJoin_notSplit hm)
  · exact exec_refuseSplit (c := .engineJoin w e) rfl h rfl (State.opJoin_refuses hm hj hg)
  · obtain ⟨t, ht, hoth, hans, heng, hlast⟩ := debugAttach_spec s w e h hc hh hd hho
    have hmode : (t.engines[e]).mode = .debug := by rw [heng]; rfl
    refine ⟨t, ht, hoth, hans, hmode, ?_, ?_, ?_, hlast, fun x hx => ?_, State.imposed_debug hmode⟩
    · rw [heng]; rfl
    · rw [heng, Engine.markFault, Engine.attach_fault]
    · rw [heng]; rfl
    · have hsecs : (t.engines[e]).committed.secs = (s.engines[e]).committed.secs.map (beginU .debug) := by rw [heng]; rfl
      obtain ⟨y, -, rfl⟩ := List.mem_map.1 (hsecs ▸ hx)
      exact ⟨beginU_causes_mem .debug y, beginU_unproven .debug y⟩
  · obtain ⟨t, ht, hans, heng⟩ := exec_answered_engines (c := .debugDetach w e) rfl h rfl
      (v := upd s.engines e (fun g => { g with detaching := true })) (r := { status := stOk }) (by
        show s.opDetach e = _
        rw [State.opDetach, if_pos hm]
        rfl)
    exact ⟨t, ht, heng ▸ upd_othersSame _ _ _, hans, by rw [heng, upd_get_same]⟩
  · exact exec_answered (c := .debugDetach w e) rfl h rfl (by
      show s.opDetach e = _
      rw [State.opDetach, if_neg hm]
      rfl)

end

section
/-! O49: an engine's halt is a fault that opens a hold (R169, R321). Where all sixteen slots are taken the hold is refused with
0B33h, which is logged behind 0605h, so the last fault that MOD_FAULT_LAST shows after the halt is not the halt's. -/

namespace Sys2Proof.Machine
open Sys2Proof

/-- A module in service whose engines have failed twice in a row and have a frame open, and whose recorder has all sixteen hold
slots taken by windows of the first fifteen minutes. -/
def holdsTaken : State := { State.reset with
  clk := { elapsed := 100000000000000, tickTb := 100000000000000, tickAt := 100000000000000 }
  mdl := { phase := .service }
  causes := []
  engines := Vector.replicate 4 { mode := .run, frame := 100, token := true, tokenUntil := 102, fails := 2, work := some { img := {} } }
  mgt := { pw := .running, recOk := true
           holds := Vector.replicate 16 (some
             { first := 0, last := 900000000000, epoch := 0, until' := 900000000000, copied := true }) } }

/-- MOD_FAULT_LAST when a command completes. -/
def faultLastAfter : Out → Option Word
  | .next t => some t.mdl.faultLast
  | _ => none

/-- The first word of checkpoint slot A of engine 0, which its frame loads, is uncorrectable: the third failure in a row. -/
theorem faultLastAfter_halt_holdsTaken : faultLastAfter (exec (.frameFailure 0 .ecc 262144 0) holdsTaken) = some 0x0B33FFFF := by
  decide +kernel

end Sys2Proof.Machine

open Sys2Proof Sys2Proof.Machine

/-- Refutes O49: an ECC error of the open frame halts engine 0 of `holdsTaken`, and the hold that the halt asks for is refused with
0B33h, while the sixth clause says that the last fault is 0605h (`State.frameHalts`). -/
theorem not_framesScrubAndPendingExits : ¬ Obligations.FramesScrubAndPendingExits := by
  unfold Obligations.FramesScrubAndPendingExits
  rintro ⟨-, -, -, -, -, hecc, -⟩
  obtain ⟨t, ht, -, hhalts⟩ :=
    hecc holdsTaken 0 262144 0 (by decide +kernel) (by decide +kernel) (by decide +kernel) (by decide +kernel)
  obtain ⟨-, -, -, -, -, -, -, -, -, hlast, -⟩ := hhalts (by decide +kernel)
  have hshown := faultLastAfter_halt_holdsTaken
  have hrun : exec (.frameFailure 0 .ecc 262144 0) holdsTaken = .next t := ht
  rw [hrun] at hshown
  have h0B33 : t.mdl.faultLast = 0x0B33FFFF := Option.some.inj hshown
  rw [State.lastFault, h0B33] at hlast
  contradiction
end

section
/-! PROOFS. The frames and the switch of a hand-over, the slots of a split engine, and the end of a debug attach (R174 to R176,
R180, R255). -/

namespace Sys2Proof.Machine
open Sys2Proof

/-! ### What a publication tick refreshes (R181, R314, R340) -/

/-- `t` is `s` but for the log and what shows the state of the last publication: registers, change lists and the snapshot due. -/
def State.SameButShown (s t : State) : Prop :=
  ({ s with engines := t.engines, vos := t.vos, sup := t.sup, mdl := { s.mdl with pub := t.mdl.pub }
            mgt := { s.mgt with posted := t.mgt.posted } } : State).SameButLog t

section
variable {s t u : State}

theorem State.SameButLog.shown (h : s.SameButLog t) : s.SameButShown t := by
  unfold State.SameButShown State.SameButLog at *
  rw [h]

theorem State.SameButShown.trans (h : s.SameButShown t) (k : t.SameButShown u) : s.SameButShown u := by
  unfold State.SameButShown State.SameButLog at *
  rw [k, h]

theorem State.SameButShown.foldl {α : Type} {f : State → α → State} (h : ∀ (s : State) a, s.SameButShown (f s a)) (l : List α) :
    ∀ s : State, s.SameButShown (l.foldl f s) := by
  induction l with
  | nil => exact fun s => (State.SameButLog.refl s).shown
  | cons a l ih => exact fun s => (h s a).trans (ih _)

end

section
variable (s : State)

theorem State.changeList_shown : s.SameButShown s.changeList := by
  unfold State.changeList
  refine State.SameButShown.trans (.foldl (fun s p => ?_) _ s) (State.SameButShown.trans (by rfl) (.foldl (fun s j => ?_) _ _))
  · dsimp only
    split
    · exact (State.SameButLog.refl s).shown
    · exact (State.event_same _ _ _ _).shown
  · dsimp only
    split
    · exact (State.SameButLog.refl s).shown
    · exact State.SameButShown.trans (by rfl) (State.event_same _ _ _ _).shown

theorem State.changeList_engines : s.changeList.engines = s.engines := by
  unfold State.changeList
  refine (foldl_keeps State.engines (fun s j => ?_) _ _).trans (foldl_keeps State.engines (fun s p => ?_) _ s)
  · dsimp only
    split
    · rfl
    · exact State.event_engines _ _ _ _
  · dsimp only
    split
    · rfl
    · exact State.event_engines _ _ _ _

theorem State.enqueue_images_same (l : List Img) : s.SameButLog (s.enqueue (.images l)) := by
  unfold State.enqueue
  split <;> rfl

theorem State.takeSnapshot_shown : s.SameButShown s.takeSnapshot := by
  unfold State.takeSnapshot
  split
  · exact State.SameButShown.trans (by rfl) (State.enqueue_images_same _ _).shown
  · exact (State.SameButLog.refl s).shown

theorem State.takeSnapshot_engines : s.takeSnapshot.engines = s.engines := by
  unfold State.takeSnapshot
  split
  · exact (State.enqueue_images_same _ _).engines
  · rfl

theorem State.setShown_shown (v : Vector Engine 4) (x : Word) :
    s.SameButShown { s with engines := v, mdl := { s.mdl with pub := x } } := rfl

theorem State.showPublished_shown : s.SameButShown s.showPublished :=
  (s.setShown_shown _ _).trans ((State.changeList_shown _).trans (State.takeSnapshot_shown _))

theorem State.showPublished_engine (e : Fin 4) :
    s.showPublished.engines[e] = { s.engines[e] with pub := (s.showPublished.engines[e]).pub } := by
  unfold State.showPublished
  rw [State.takeSnapshot_engines, State.changeList_engines]
  simp

end

/-! ### HANDOVER_FRAME (R174) -/

/-- The frames of the hand-overs of an engine count on, up to H3. -/
def Engine.stepHo (g : Engine) : Engine := { g with ho := g.ho.map (fun h => { h with step := min 3 (h.at' g + 1) }) }

def State.stepHos (s : State) : State := { s with engines := s.engines.map Engine.stepHo }

theorem State.anyHo_iff (s : State) : (allFin 4).any (fun e => !(s.engines[e]).ho.isEmpty) = true ↔ ∃ e : Fin 4, (s.engines[e]).ho ≠ [] := by
  simp

theorem exec_handoverFrame {s : State} (h : s.inReset = false) (hn : s.now = s.clk.tickAt) (ho : ∃ e : Fin 4, (s.engines[e]).ho ≠ []) :
    exec .handoverFrame s = .next s.stepHos.showPublished := by
  have he : exec .handoverFrame s = execHandoverFrame s := rfl
  rw [he, execHandoverFrame]
  exact State.when_true (by rw [h, State.atTick, decide_eq_true hn, s.anyHo_iff.2 ho]; rfl)

theorem exec_handoverFrame_none {s : State} (h : s.now ≠ s.clk.tickAt ∨ ∀ e : Fin 4, (s.engines[e]).ho = []) :
    exec .handoverFrame s = .next s := by
  have he : exec .handoverFrame s = execHandoverFrame s := rfl
  rw [he, execHandoverFrame]
  refine State.when_false ?_
  rcases h with hn | ho
  · rw [State.atTick, decide_eq_false hn, Bool.and_false, Bool.false_and]
  · rw [Bool.eq_false_iff.2 (mt s.anyHo_iff.1 (by simpa using ho)), Bool.and_false]

theorem handoverFrame_spec (s : State) (h : s.inReset = false) (hn : s.now = s.clk.tickAt) (ho : ∃ e : Fin 4, (s.engines[e]).ho ≠ []) :
    ∃ t, exec .handoverFrame s = .next t ∧ s.SameButShown t ∧
      ∀ e : Fin 4, t.engines[e] = { (s.engines[e]).stepHo with pub := (t.engines[e]).pub } := by
  refine ⟨_, exec_handoverFrame h hn ho, State.SameButShown.trans (by rfl) s.stepHos.showPublished_shown, fun e => ?_⟩
  rw [State.showPublished_engine]
  simp [State.stepHos]

/-! ### The commits of a hand-over's frames (R174) -/

section
variable {s : State} {a b : Fin 4} {h : HandOver}

/-- H1: the source writes the sections into the buffer. -/
theorem State.commitHandover_h1 (hf : (s.engines[a]).frame = h.t0) (hs : h.source = true) : s.commitHandover a h =
    { s with hoBuf := s.hoBuf.filter (fun b => decide (b.src ≠ a ∨ b.tgt ≠ h.peer)) ++
      [bufferOf s.cfg a h.peer h.t0 ((s.engines[a]).committed.secs.filter (fun x => h.secs.contains x.idx))] } := by
  have hat : h.at' (s.engines[a]) = 0 := by rw [HandOver.at', hf, Nat.sub_self]
  unfold State.commitHandover
  dsimp only
  rw [hat, hs, hf]
  rfl

/-- H3: the target has compared its sum and its digest with those of the buffer. -/
theorem State.commitHandover_h3 {buf : HoBuf} {d : BitVec 64} (hf : (s.engines[b]).frame = h.t0 + 2) (hs : h.source = false)
    (hb : s.bufOf h.peer b = some buf) (hd : buf.digest = some d) (hsum : h.sum.isSome = true) (hdig : h.digest.isSome = true)
    (hsumEq : h.sum = decode buf.sum sumSig (frameTerm buf.frame))
    (hdigEq : h.digest = decode d digestSig (frameTerm (h.t0 + 2))) :
    s.commitHandover b h = s.modEngine b (Engine.modHo h.peer (fun h => { h with confirmed := true })) := by
  have hat : h.at' (s.engines[b]) = 2 := by rw [HandOver.at', hf, Nat.add_sub_cancel_left]
  unfold State.commitHandover
  dsimp only
  rw [hat, hs, hf, hb]
  dsimp only
  rw [hd]
  exact if_pos (by rw [decide_eq_true (And.intro hsum hsumEq)]; exact decide_eq_true (And.intro hdig hdigEq))

end

theorem Engine.modHo_confirms {peer : Fin 4} {g : Engine} {x : HandOver}
    (hx : x ∈ (g.modHo peer (fun h => { h with confirmed := true })).ho) (hp : x.peer = peer) : x.confirmed = true := by
  obtain ⟨y, -, rfl⟩ := List.mem_map.1 hx
  by_cases hy : y.peer = peer
  · rw [if_pos hy]
  · rw [if_neg hy] at hp
    exact absurd hp hy

/-! ### The switch of one hand-over (R174, R176) -/

/-- The sections of a list that a hand-over transfers, and the others. -/
def HandOver.mine (h : HandOver) (l : List Sec) : List Sec := l.filter (fun x => h.secs.contains x.idx)
def HandOver.rest (h : HandOver) (l : List Sec) : List Sec := l.filter (fun x => !h.secs.contains x.idx)

/-- The target publishes the sections from its own image. -/
def Engine.takeOver (a : Fin 4) (h : HandOver) (g : Engine) : Engine := { g.leaveHo a with
  published := { g.published with secs := addSecs (h.rest g.published.secs) (h.mine g.committed.secs) }
  hoReg := hoWord 1 h.join a 0 h.secs.length }

/-- The source has the sections no more. -/
def Engine.release (cfg : Cfg) (a : Fin 4) (h : HandOver) (g : Engine) : Engine :=
  { (g.mapAll cfg a h.rest).leaveHo h.peer with hoReg := hoWord 1 h.join h.peer 0 h.secs.length }

/-- A log of a frame that is not of a section transferred. -/
def HandOver.keepsLog (h : HandOver) (l : SecLog) : Bool :=
  match l.sx with
  | some (i, _) => !h.secs.contains i
  | none => true

/-- A source that has released its sections enters MODE SPLIT; one that has taken part in a join drops its logs of them. -/
def Engine.afterSwitch (h : HandOver) (g : Engine) : Engine :=
  if h.join then { g with work := g.work.map (fun w => { w with logs := w.logs.filter h.keepsLog }) }
  else { g with mode := .split, token := false, tokenNext := false, work := none, done := none, sampled := [], ring := [],
                delay := [], from' := g.frame + 1, aRun := false, bRun := false }

theorem State.switchHandover_eq (s : State) (a : Fin 4) (h : HandOver) : s.switchHandover a h =
    ((s.modEngine h.peer (Engine.takeOver a h)).dropBuf a h.peer).modEngine a (fun g => (g.release s.cfg a h).afterSwitch h) := rfl

theorem State.switchHandover_frame (s : State) (a : Fin 4) (h : HandOver) : s.switchHandover a h =
    { s with engines := (s.switchHandover a h).engines, hoBuf := (s.dropBuf a h.peer).hoBuf } := rfl

section
variable (s : State) {a : Fin 4} {h : HandOver}

theorem State.switchHandover_source (hp : h.peer ≠ a) :
    (s.switchHandover a h).engines[a] = ((s.engines[a]).release s.cfg a h).afterSwitch h := by
  rw [State.switchHandover_eq, State.modEngine_engines, upd_get_same]
  change Engine.afterSwitch h (Engine.release s.cfg a h (upd s.engines h.peer (Engine.takeOver a h))[a]) = _
  rw [upd_get_ne _ _ _ _ hp.symm]

theorem State.switchHandover_target (hp : h.peer ≠ a) :
    (s.switchHandover a h).engines[h.peer] = (s.engines[h.peer]).takeOver a h := by
  rw [State.switchHandover_eq, State.modEngine_engines, upd_get_ne _ _ _ _ hp]
  exact upd_get_same _ _ _

theorem State.switchHandover_other {e : Fin 4} (ha : e ≠ a) (hp : e ≠ h.peer) : (s.switchHandover a h).engines[e] = s.engines[e] := by
  rw [State.switchHandover_eq, State.modEngine_engines, upd_get_ne _ _ _ _ ha]
  exact upd_get_ne _ _ _ _ hp

end

/-! ### HANDOVER_SWITCH (R174, R176) -/

theorem Engine.switches_nil {g : Engine} (h : ∀ x ∈ g.ho, x.source = false) : g.switches = [] :=
  List.filter_eq_nil_iff.2 fun x hx => by rw [h x hx, Bool.false_and]; decide

theorem foldl_fixed_of_mem {α β : Type} {f : β → α → β} {u : β} {l : List α} (h : ∀ e ∈ l, f u e = u) : l.foldl f u = u := by
  induction l with
  | nil => rfl
  | cons b l ih => rw [List.foldl_cons, h b List.mem_cons_self, ih fun e he => h e (List.mem_cons_of_mem b he)]

/-- A fold of which one element alone does anything. -/
theorem foldl_single {α β : Type} {f : β → α → β} {a : α} {s u : β} (ha : f s a = u) (hs : ∀ e, e ≠ a → f s e = s)
    (hu : ∀ e, e ≠ a → f u e = u) {l : List α} (hm : a ∈ l) (hl : l.Nodup) : l.foldl f s = u := by
  obtain ⟨l₁, l₂, rfl⟩ := List.append_of_mem hm
  obtain ⟨-, hl₂, hd⟩ := List.nodup_append.1 hl
  have h₁ : l₁.foldl f s = s := foldl_fixed_of_mem fun e he => hs e (hd e he a List.mem_cons_self)
  have h₂ : l₂.foldl f u = u := foldl_fixed_of_mem fun e he => hu e fun hea => (List.nodup_cons.1 hl₂).1 (hea ▸ he)
  rw [List.foldl_append, h₁, List.foldl_cons, ha, h₂]

/-- The switches of a tick. -/
def State.switchAll (s : State) : State :=
  (allFin 4).foldl (fun s e => ((s.engines[e]).switches).foldl (fun s h => s.switchHandover e h) s) s

section
variable {s : State} {a : Fin 4} {h : HandOver}

/-- Where one hand-over alone is over, it alone is switched. -/
theorem State.switchAll_single (ho : (s.engines[a]).ho = [h]) (hs : h.source = true) (hp : h.peer ≠ a)
    (hf : 3 ≤ (s.engines[a]).frame - h.t0) (hoth : ∀ e : Fin 4, e ≠ a → ∀ x ∈ (s.engines[e]).ho, x.source = false) :
    s.switchAll = s.switchHandover a h := by
  refine foldl_single (a := a) ?_ (fun e he => ?_) (fun e he => ?_) (mem_allFin a) (allFin_nodup 4)
  · rw [Engine.switches, ho, List.filter_cons_of_pos (by rw [hs]; exact decide_eq_true hf)]
    rfl
  · rw [Engine.switches_nil (hoth e he)]
    rfl
  · have hnil : ((s.switchHandover a h).engines[e]).switches = [] := by
      refine Engine.switches_nil fun x hx => ?_
      by_cases hep : e = h.peer
      · subst hep
        rw [s.switchHandover_target hp] at hx
        exact hoth _ he x (List.mem_of_mem_filter hx)
      · rw [s.switchHandover_other he hep] at hx
        exact hoth e he x hx
    rw [hnil]
    rfl

/-- What follows the switches at their tick: who signs, the outputs, what the registers show, and the frames to be sent. -/
def State.afterSwitches (s : State) : State :=
  State.rearmAll (State.showPublished { s with clk := { s.clk with signed := s.signer.isSome } }.updateVos)

theorem execHandoverSwitch_eq (s : State) : execHandoverSwitch s =
    s.when (!s.inReset && s.atTick && (allFin 4).any (fun e => !(s.engines[e]).switches.isEmpty))
      (fun s => s.switchAll.afterSwitches) := by
  unfold execHandoverSwitch
  refine congrArg (State.when s _) (funext fun u => ?_)
  unfold State.switchAll State.afterSwitches
  dsimp only

theorem exec_handoverSwitch (hr : s.inReset = false) (hn : s.now = s.clk.tickAt) (ho : (s.engines[a]).ho = [h])
    (hs : h.source = true) (hp : h.peer ≠ a) (hf : 3 ≤ (s.engines[a]).frame - h.t0)
    (hoth : ∀ e : Fin 4, e ≠ a → ∀ x ∈ (s.engines[e]).ho, x.source = false) :
    exec .handoverSwitch s = .next (s.switchHandover a h).afterSwitches := by
  have he : exec .handoverSwitch s = execHandoverSwitch s := rfl
  have hany : (allFin 4).any (fun e => !(s.engines[e]).switches.isEmpty) = true := by
    refine List.any_eq_true.2 ⟨a, mem_allFin a, ?_⟩
    rw [Engine.switches, ho, List.filter_cons_of_pos (by rw [hs]; exact decide_eq_true hf)]
    rfl
  rw [he, execHandoverSwitch_eq, State.when_true (by rw [hr, State.atTick, decide_eq_true hn, hany]; rfl), State.switchAll_single ho hs hp hf hoth]

/-- `t` is `s` but for the log, what shows the state of the last publication, the frames to be sent, the hand-over buffer, and
whether an engine signs. -/
def State.SameButSwitched (s t : State) : Prop :=
  ({ s with engines := t.engines, vos := t.vos, links := t.links, areas := t.areas, cmd := t.cmd, hoBuf := t.hoBuf
            sup := t.sup, clk := { s.clk with signed := t.clk.signed }, mdl := { s.mdl with pub := t.mdl.pub }
            mgt := { s.mgt with posted := t.mgt.posted } } : State).SameButLog t

theorem State.SameButSwitched.trans {s t u : State} (h : s.SameButSwitched t) (k : t.SameButSwitched u) : s.SameButSwitched u := by
  unfold State.SameButSwitched State.SameButLog at *
  rw [k, h]

theorem State.SameButShown.switched {s t : State} (h : s.SameButShown t) : s.SameButSwitched t := by
  unfold State.SameButShown State.SameButSwitched State.SameButLog at *
  rw [h]

theorem State.updateVos_switched (s : State) : s.SameButSwitched s.updateVos := by
  have hframe := s.updateVos_frame
  generalize s.updateVos = t at hframe ⊢
  rw [hframe]
  rfl

theorem State.rearmAll_switched (s : State) : s.SameButSwitched s.rearmAll := by
  have hframe := s.rearmAll_frame
  generalize s.rearmAll = t at hframe ⊢
  rw [hframe]
  rfl

theorem State.afterSwitches_switched (s : State) : s.SameButSwitched s.afterSwitches := by
  unfold State.afterSwitches
  have hsigned : s.SameButSwitched { s with clk := { s.clk with signed := s.signer.isSome } } := rfl
  exact hsigned.trans ((State.updateVos_switched _).trans ((State.showPublished_shown _).switched.trans (State.rearmAll_switched _)))

theorem State.afterSwitches_engine (s : State) (e : Fin 4) :
    s.afterSwitches.engines[e] = { s.engines[e] with pub := (s.afterSwitches.engines[e]).pub, work := (s.afterSwitches.engines[e]).work } ∧
    ((s.engines[e]).work = none → (s.afterSwitches.engines[e]).work = none) := by
  have hvos := State.updateVos_frame { s with clk := { s.clk with signed := s.signer.isSome } }
  unfold State.afterSwitches
  generalize State.updateVos { s with clk := { s.clk with signed := s.signer.isSome } } = v at *
  have hshown := v.showPublished_engine e
  obtain ⟨hrearm, hwork⟩ := v.showPublished.rearmAll_engine e
  have heng : v.engines = s.engines := by rw [hvos]
  rw [heng] at hshown
  rw [hshown] at hrearm hwork
  refine ⟨?_, fun hn => ?_⟩
  · rw [hrearm]
  · rw [hn] at hwork
    exact Option.map_eq_none_iff.1 hwork

theorem State.SameButShown.hoBuf {s t : State} (h : s.SameButShown t) : t.hoBuf = s.hoBuf := by
  unfold State.SameButShown State.SameButLog at h
  rw [h]

theorem State.rearmAll_hoBuf (s : State) : s.rearmAll.hoBuf = s.hoBuf := by rw [s.rearmAll_frame]

theorem State.updateVos_hoBuf (s : State) : s.updateVos.hoBuf = s.hoBuf := by rw [s.updateVos_frame]

theorem State.afterSwitches_hoBuf (s : State) : s.afterSwitches.hoBuf = s.hoBuf :=
  (State.rearmAll_hoBuf _).trans ((State.showPublished_shown _).hoBuf.trans (State.updateVos_hoBuf _))

end


/-! ### What a switch leaves (R174, R176) -/

section
variable {h : HandOver}

/-- The source keeps its other sections, its token and its frame. -/
theorem Engine.release_spec (cfg : Cfg) (a : Fin 4) (h : HandOver) (g : Engine) :
    (g.release cfg a h).published.secs = h.rest g.published.secs ∧ (g.release cfg a h).committed.secs = h.rest g.committed.secs ∧
    (g.release cfg a h).ho = g.ho.filter (fun x => decide (x.peer ≠ h.peer)) ∧ (g.release cfg a h).token = g.token ∧
    (g.release cfg a h).frame = g.frame := by
  unfold Engine.release Engine.mapAll Engine.mapState Engine.leaveHo Engine.modLoaded
  dsimp only
  split <;> exact ⟨rfl, rfl, rfl, rfl, rfl⟩

/-- The images and the hand-overs are those that the release has left. -/
theorem Engine.afterSwitch_keeps (h : HandOver) (g : Engine) : (g.afterSwitch h).published = g.published ∧
    (g.afterSwitch h).committed = g.committed ∧ (g.afterSwitch h).ho = g.ho := by
  unfold Engine.afterSwitch
  split <;> exact ⟨rfl, rfl, rfl⟩

/-- A split source is in MODE SPLIT without a token, and its working stores are cleared (R176). -/
theorem Engine.afterSwitch_split (hj : h.join = false) (g : Engine) : (g.afterSwitch h).mode = .split ∧
    (g.afterSwitch h).token = false ∧ (g.afterSwitch h).work = none ∧ (g.afterSwitch h).delay = [] ∧
    (g.afterSwitch h).from' = g.frame + 1 := by
  unfold Engine.afterSwitch
  rw [hj]
  exact ⟨rfl, rfl, rfl, rfl, rfl⟩

theorem Engine.afterSwitch_join (hj : h.join = true) (g : Engine) : (g.afterSwitch h).token = g.token := by
  unfold Engine.afterSwitch
  rw [hj]
  rfl

end

theorem State.mem_dropBuf {s : State} {a p : Fin 4} {b : HoBuf} (hb : b ∈ (s.dropBuf a p).hoBuf) : b.src ≠ a ∨ b.tgt ≠ p :=
  of_decide_eq_true (List.mem_filter.1 hb).2

/-! ### The slots of a split engine, and the end of a debug attach (R176, R180, R255) -/

theorem exec_splitSlotsStart {s : State} {e : Fin 4} (h : s.inReset = false) (hm : (s.engines[e]).mode = .split)
    (hf : (s.engines[e]).from' ≤ (s.engines[e]).frame) (hr : (s.engines[e]).aRun = false ∨ (s.engines[e]).bRun = false) :
    exec (.splitSlotsStart e) s = .next (s.modEngine e (fun g => { g with
      aRun := true, bRun := true, slotNew := false, slotAt := (s.engines[e]).frame
      slotA := slotProgram g.progA, slotB := slotProgram g.progB })) := by
  have he : exec (.splitSlotsStart e) s = execSplitSlotsStart e s := rfl
  rw [he, execSplitSlotsStart]
  refine State.when_true ?_
  rw [h, decide_eq_true (And.intro hm hf)]
  rcases hr with hr | hr
  · rw [hr, Bool.false_and]
    rfl
  · rw [hr, Bool.and_false]
    rfl

/-- The debug attaches of all engines are to end. -/
def State.detachAll (s : State) : State :=
  { s with engines := s.engines.map (fun g => if g.mode = .debug then { g with detaching := true } else g) }

theorem exec_debugKeyEnd {s : State} (h : s.inReset = false) (ha : s.accepted 6 = false) : exec .debugKeyEnd s = .next s.detachAll := by
  have he : exec .debugKeyEnd s = execDebugKeyEnd s := rfl
  rw [he, execDebugKeyEnd]
  exact State.when_true (by rw [h, ha]; rfl)

theorem exec_debugKeyEnd_accepted {s : State} (ha : s.accepted 6 = true) : exec .debugKeyEnd s = .next s := by
  have he : exec .debugKeyEnd s = execDebugKeyEnd s := rfl
  rw [he, execDebugKeyEnd]
  exact State.when_false (by rw [ha, Bool.not_true, Bool.and_false])

theorem State.detachAll_engine (s : State) (e : Fin 4) :
    s.detachAll.engines[e] = if (s.engines[e]).mode = .debug then { s.engines[e] with detaching := true } else s.engines[e] := by
  simp [State.detachAll]

end Sys2Proof.Machine

open Sys2Proof Sys2Proof.Machine

/-- Settles O50: at the switch one hand-over alone is over (`State.switchAll_single`), and what follows it at its tick leaves of the
engines all but what they show and sign (`State.afterSwitches_engine`). The sum and the digest of the buffer are the model's
choice (log 96). -/
theorem handOverAndDebug : Obligations.HandOverAndDebug := by
  unfold Obligations.HandOverAndDebug
  refine ⟨handoverFrame_spec, fun s h => exec_handoverFrame_none h, fun s a h hf hs => ?_,
    fun s b h buf d hf hs hb hd hsum hdig hsumEq hdigEq => ?_, fun s a h hr hn ho hs hp hf hoth => ?_,
    fun s e h hm hf hr => ?_, fun s h ha => ?_, fun s ha => exec_debugKeyEnd_accepted ha⟩
  · rw [State.commitHandover_h1 hf hs]
    exact ⟨rfl, rfl⟩
  · rw [State.commitHandover_h3 hf hs hb hd hsum hdig hsumEq hdigEq]
    refine ⟨upd_othersSame _ _ _, rfl, fun x hx => ?_⟩
    rw [State.modEngine_engines, upd_get_same] at hx
    exact Engine.modHo_confirms hx
  · have hrun := exec_handoverSwitch hr hn ho hs hp hf hoth
    have hframe := s.switchHandover_frame a h
    have hsrc := s.switchHandover_source hp
    have htgt := s.switchHandover_target hp
    have hother := fun e (hea : e ≠ a) (hep : e ≠ h.peer) => s.switchHandover_other (h := h) hea hep
    generalize s.switchHandover a h = u at *
    have hswitched := u.afterSwitches_switched
    have heng := fun e => u.afterSwitches_engine e
    have hbuf := u.afterSwitches_hoBuf
    generalize u.afterSwitches = t at *
    obtain ⟨hpub, hcom, hho, htok, hframeNo⟩ := (s.engines[a]).release_spec s.cfg a h
    rw [ho, List.filter_cons_of_neg (by simp)] at hho
    obtain ⟨kpub, kcom, kho⟩ := ((s.engines[a]).release s.cfg a h).afterSwitch_keeps h
    have ha := (heng a).1
    have hta := (heng h.peer).1
    rw [htgt] at hta
    refine ⟨t, hrun, ?_, fun e hea hep => ?_, ?_, ?_, ?_, ?_, ?_, fun b hb => ?_, fun hj => ?_, fun hj => ?_⟩
    · have hu : s.SameButSwitched u := by rw [hframe]; rfl
      exact hu.trans hswitched
    · rw [← hother e hea hep]
      exact (heng e).1
    · rw [hta]; rfl
    · rw [hta]; rfl
    · rw [ha, hsrc]; exact (congrArg Img.secs kpub).trans hpub
    · rw [ha, hsrc]; exact (congrArg Img.secs kcom).trans hcom
    · rw [ha, hsrc]; exact kho.trans hho
    · rw [hbuf, hframe] at hb
      exact State.mem_dropBuf hb
    · obtain ⟨jmode, jtok, jwork, jdelay, jfrom⟩ := Engine.afterSwitch_split hj ((s.engines[a]).release s.cfg a h)
      have hw := (heng a).2 (by rw [hsrc]; exact jwork)
      rw [ha, hsrc]
      exact ⟨jmode, jtok, hw, jdelay, jfrom.trans (congrArg (· + 1) hframeNo)⟩
    · rw [ha, hsrc]
      exact (Engine.afterSwitch_join hj _).trans htok
  · refine ⟨_, exec_splitSlotsStart h hm hf hr, upd_othersSame _ _ _, rfl, ?_⟩
    rw [State.modEngine_engines, upd_get_same]
  · refine ⟨_, exec_debugKeyEnd h ha, rfl, fun e => ⟨fun hm => ?_, fun hm => ?_⟩⟩
    · rw [State.detachAll_engine, if_pos hm]
    · rw [State.detachAll_engine, if_neg hm]

end

section
/-! PROOFS. The checks of a received frame that come before its content (R189, R191, R192, Table 7-6). -/

namespace Sys2Proof.Machine

/-! ### Faults of a link -/

/-- LNK_FAULT takes a bit. -/
def Link.markFault (bit : Nat) (l : Link) : Link := { l with fault := setBit l.fault bit }

theorem State.lnkFault_same (s : State) (k : Fin 8) (bit code : Nat) :
    (s.modLink k (Link.markFault bit)).SameButLog (s.lnkFault k bit code) := State.fault_same _ _ _

theorem State.lnkFault_lastFault (s : State) (k : Fin 8) (bit : Nat) {code : Nat} (h5 : code ≠ 0x0605) (h3 : code ≠ 0x0703)
    (hc : code < 65536) : (s.lnkFault k bit code).lastFault code k.val :=
  State.fault_lastFault _ _ _ h5 h3 hc (by omega)

/-- A change of one link and a fault of that link. -/
theorem State.modLink_fault_onlyLink (s : State) (k : Fin 8) (f : Link → Link) {code : Nat} (h5 : code ≠ 0x0605) (h3 : code ≠ 0x0703)
    (hc : code < 65536) : s.onlyLink ((s.modLink k f).fault code k.val) k (f s.links[k]) code := by
  have hf := (s.modLink k f).fault_same code k.val
  have hl : ((s.modLink k f).fault code k.val).links = upd s.links k f := hf.links
  refine ⟨?_, ?_, ?_, State.fault_lastFault _ _ _ h5 h3 hc (by omega)⟩ <;> rw [hl]
  · exact upd_othersSame _ _ _
  · exact hf
  · exact upd_get_same _ _ _

theorem State.modLink_modLink (s : State) (k : Fin 8) (f g : Link → Link) :
    (s.modLink k f).modLink k g = s.modLink k (fun l => g (f l)) :=
  congrArg (fun v => ({ s with links := v } : State)) (upd_upd s.links k f g)

theorem State.modLink_self {s : State} {k : Fin 8} {f : Link → Link} (h : f s.links[k] = s.links[k]) : s.modLink k f = s :=
  congrArg (fun v => ({ s with links := v } : State)) (upd_self h)

/-- A dropped frame changes its link and is logged (R191). -/
theorem State.dropFrame_onlyLink (s : State) (k : Fin 8) (f : Link → Link) (bit : Nat) {code : Nat} (h5 : code ≠ 0x0605)
    (h3 : code ≠ 0x0703) (hc : code < 65536) :
    s.onlyLink (s.dropFrame k f bit code) k (Link.markFault bit (f s.links[k])) code := by
  have h : s.dropFrame k f bit code = (s.modLink k (fun l => Link.markFault bit (f l))).fault code k.val :=
    congrArg (fun t => State.fault t code k.val) (s.modLink_modLink k f (Link.markFault bit))
  rw [h]
  exact s.modLink_fault_onlyLink k _ h5 h3 hc

/-! ### A second segment that fails (R189) -/

/-- Dropping a packet's second segment changes the segment held alone. -/
theorem State.dropSecond_eq (s : State) (k : Fin 8) (b : List Byte) :
    s.dropSecond k b = s.modLink k (fun l => { l with seg := ((s.dropSecond k b).links[k]).seg }) := by
  suffices h : ∃ x, s.dropSecond k b = s.modLink k (fun l => { l with seg := x }) by
    obtain ⟨x, h⟩ := h
    have hx : ((s.dropSecond k b).links[k]).seg = x := by rw [h, State.modLink_links, upd_get_same]
    rw [hx, h]
  have hself : s = s.modLink k (fun l => { l with seg := (s.links[k]).seg }) := (State.modLink_self rfl).symm
  unfold State.dropSecond
  split
  · split
    · exact ⟨none, rfl⟩
    · exact ⟨_, hself⟩
  · exact ⟨_, hself⟩

theorem State.dropSecond_pass (s : State) (dt : Nat) (k : Fin 8) (b : List Byte) :
    ((s.pass dt).dropSecond k b).links = (s.dropSecond k b).links := by
  unfold State.dropSecond
  rw [State.pass_links]
  split
  · split <;> rfl
  · rfl

theorem State.modLink_dropFrame (s : State) (k : Fin 8) (f g : Link → Link) (bit code : Nat) :
    (s.modLink k f).dropFrame k g bit code = s.dropFrame k (fun l => g (f l)) bit code :=
  congrArg (fun t => State.lnkFault t k bit code) (s.modLink_modLink k f g)

/-- A frame dropped with the first segment held before it. -/
theorem State.dropSecond_dropFrame_onlyLink (s : State) (k : Fin 8) (b : List Byte) (g : Link → Link) (bit : Nat) {code : Nat}
    (h5 : code ≠ 0x0605) (h3 : code ≠ 0x0703) (hc : code < 65536) :
    s.onlyLink ((s.dropSecond k b).dropFrame k g bit code) k
      (Link.markFault bit (g { s.links[k] with seg := ((s.dropSecond k b).links[k]).seg })) code := by
  generalize hx : ((s.dropSecond k b).links[k]).seg = x
  rw [s.dropSecond_eq, hx, State.modLink_dropFrame]
  exact s.dropFrame_onlyLink k _ bit h5 h3 hc

/-! ### FRAME_RECEIVED (Table 7-6) -/

/-- A frame reaches the checks: its link is in service, in sync and not looped back. -/
structure State.Receives (s : State) (k : Fin 8) (b : List Byte) : Prop where
  length : b.length = 256
  inReset : s.inReset = false
  used : s.linkUsed k = true
  sync : (s.links[k]).sync = true
  looped : (s.links[k]).looped = false

theorem exec_frameReceived_length (s : State) (dt : Nat) (k : Fin 8) (ok : Bool) (sof : Stamp) {b : List Byte} (h : b.length ≠ 256) :
    exec (.frameReceived dt k ok sof b) s = .fault .notAnEvent := if_pos h

section
variable {s : State} {k : Fin 8} {b : List Byte} (dt : Nat) (sof : Stamp)

theorem State.Receives.listens (h : s.Receives k b) :
    (!(s.pass dt).inReset && (s.pass dt).linkUsed k && ((s.pass dt).links[k]).sync && !((s.pass dt).links[k]).looped) = true := by
  have hu : (s.pass dt).linkUsed k = true := h.used
  rw [hu, State.pass_inReset, State.pass_links, h.inReset, h.sync, h.looped]
  rfl

/-- Check 1. -/
theorem exec_frameReceived_badLine (h : s.Receives k b) : exec (.frameReceived dt k false sof b) s =
    .next ((s.pass dt).dropFrame k (fun l => { l with errSync := satInc l.errSync }) 7 0x0809) := by
  have hx : exec (.frameReceived dt k false sof b) s = execFrameReceived dt k false sof b s := rfl
  rw [hx, execFrameReceived, if_neg (not_not.2 h.length), State.when_true (h.listens dt)]
  rfl

/-- Check 2. -/
theorem exec_frameReceived_badCrc (h : s.Receives k b) (hc : bytesAt b 252 4 ≠ (crc32c (b.take 252)).toNat) :
    exec (.frameReceived dt k true sof b) s = .next
      (let t := (s.pass dt).dropFrame k (fun l => { l with errCrc := satInc l.errCrc }) 0 0x0801
       { t with mdl := { t.mdl with irqCrc := t.mdl.irqCrc ||| (1 <<< k.val) } }) := by
  have hx : exec (.frameReceived dt k true sof b) s = execFrameReceived dt k true sof b s := rfl
  rw [hx, execFrameReceived, if_neg (not_not.2 h.length), State.when_true (h.listens dt)]
  exact congrArg _ (if_pos hc)


/-- Check 3. -/
theorem exec_frameReceived_badHops (h : s.Receives k b) (hc : bytesAt b 252 4 = (crc32c (b.take 252)).toNat)
    (hh : 31 < (byteAt b 248).toNat) : exec (.frameReceived dt k true sof b) s =
      .next ((s.pass dt).dropFrame k (fun l => { l with errAddr := satInc l.errAddr }) 10 0x080C) := by
  have hx : exec (.frameReceived dt k true sof b) s = execFrameReceived dt k true sof b s := rfl
  rw [hx, execFrameReceived, if_neg (not_not.2 h.length), State.when_true (h.listens dt)]
  exact congrArg _ ((if_neg (not_not.2 hc)).trans (if_pos hh))

end

/-- A frame passes checks 1 to 3. -/
structure State.Passes3 (s : State) (k : Fin 8) (b : List Byte) : Prop extends s.Receives k b where
  crc : bytesAt b 252 4 = (crc32c (b.take 252)).toNat
  hops : (byteAt b 248).toNat ≤ 31

section
variable {s : State} {k : Fin 8} {b : List Byte} (dt : Nat) (sof : Stamp)

/-- R193: a frame of the module's own comes back. -/
theorem exec_frameReceived_back (h : s.Passes3 k b) (hd : frDst b ≠ moduleWord s.addr) (hk : 3 ≤ k.val) (hs : s.fromSelf b = true) :
    exec (.frameReceived dt k true sof b) s = .next ((s.pass dt).beginConflict k) := by
  have hx : exec (.frameReceived dt k true sof b) s = execFrameReceived dt k true sof b s := rfl
  rw [hx, execFrameReceived, if_neg (not_not.2 h.length), State.when_true (h.listens dt)]
  exact congrArg _ ((if_neg (not_not.2 h.crc)).trans ((if_neg (Nat.not_lt.2 h.hops)).trans (if_pos ⟨decide_eq_false hd, hk, hs⟩)))

/-- Check 4. -/
theorem exec_frameReceived_badAddr (h : s.Passes3 k b) (hown : frDst b = moduleWord s.addr ∨ k.val < 3 ∨ s.fromSelf b = false)
    (ha : laneOk k b = false ∨ (frDst b ≠ moduleWord s.addr ∧ (k.val < 3 ∨ s.relayFor k b = none))) :
    exec (.frameReceived dt k true sof b) s =
      .next ((s.pass dt).dropFrame k (fun l => { l with errAddr := satInc l.errAddr }) 2 0x0804) := by
  have hx : exec (.frameReceived dt k true sof b) s = execFrameReceived dt k true sof b s := rfl
  have hback : ¬ (decide (frDst b = moduleWord s.addr) = false ∧ 3 ≤ k.val ∧ s.fromSelf b = true) := by
    rintro ⟨hd, hk, hs⟩
    rcases hown with hown | hown | hown
    · exact of_decide_eq_false hd hown
    · omega
    · rw [hown] at hs
      exact Bool.false_ne_true hs
  have hbad : laneOk k b = false ∨ (decide (frDst b = moduleWord s.addr) = false ∧ (k.val < 3 ∨ (s.relayFor k b).isNone)) :=
    ha.imp_right fun ⟨hd, hr⟩ => ⟨decide_eq_false hd, hr.imp_right Option.isNone_iff_eq_none.2⟩
  rw [hx, execFrameReceived, if_neg (not_not.2 h.length), State.when_true (h.listens dt)]
  exact congrArg _ ((if_neg (not_not.2 h.crc)).trans ((if_neg (Nat.not_lt.2 h.hops)).trans ((if_neg hback).trans (if_pos hbad))))

end

/-- A frame to the module passes checks 1 to 4. -/
structure State.Passes4 (s : State) (k : Fin 8) (b : List Byte) : Prop extends s.Passes3 k b where
  lane : laneOk k b = true
  dst : frDst b = moduleWord s.addr

section
variable {s : State} {k : Fin 8} {b : List Byte} (dt : Nat) (sof : Stamp)

/-- What the checks of a frame to the module come to from the fifth on. -/
theorem State.Passes4.exec_eq (h : s.Passes4 k b) : exec (.frameReceived dt k true sof b) s = .next
    (if scPrime ≤ bytesAt b 244 4 ∨ bytesAt b 244 4 ≠ (safetyCode s.cfg.seed b).toNat then
       ((s.pass dt).dropSecond k b).dropFrame k (fun l => { l with errSc := satInc l.errSc }) 1 0x0802
     else if formatOk (decide (k.val < 3)) b = false then
       (((s.pass dt).dropSecond k b).modLink k (fun l => { l with errFormat := satInc l.errFormat })).fault 0x0803 k.val
     else (s.pass dt).acceptFrame k sof b) := by
  have hx : exec (.frameReceived dt k true sof b) s = execFrameReceived dt k true sof b s := rfl
  have hown : ¬ decide (frDst b = moduleWord s.addr) = false := fun hd => of_decide_eq_false hd h.dst
  have hback : ¬ (decide (frDst b = moduleWord s.addr) = false ∧ 3 ≤ k.val ∧ s.fromSelf b = true) := fun hb => hown hb.1
  have hbad : ¬ (laneOk k b = false ∨ (decide (frDst b = moduleWord s.addr) = false ∧ (k.val < 3 ∨ (s.relayFor k b).isNone))) := by
    rintro (hl | ⟨hd, -⟩)
    · rw [h.lane] at hl
      exact Bool.false_ne_true hl.symm
    · exact hown hd
  rw [hx, execFrameReceived, if_neg (not_not.2 h.length), State.when_true (h.listens dt)]
  exact congrArg _ ((if_neg (not_not.2 h.crc)).trans ((if_neg (Nat.not_lt.2 h.hops)).trans ((if_neg hback).trans
    ((if_neg hbad).trans (if_neg hown)))))

/-- Check 5. -/
theorem exec_frameReceived_badSc (h : s.Passes4 k b)
    (hc : scPrime ≤ bytesAt b 244 4 ∨ bytesAt b 244 4 ≠ (safetyCode s.cfg.seed b).toNat) :
    exec (.frameReceived dt k true sof b) s =
      .next (((s.pass dt).dropSecond k b).dropFrame k (fun l => { l with errSc := satInc l.errSc }) 1 0x0802) := by
  rw [h.exec_eq, if_pos hc]

/-- Check 6. -/
theorem exec_frameReceived_badFormat (h : s.Passes4 k b) (hlt : bytesAt b 244 4 < scPrime)
    (hc : bytesAt b 244 4 = (safetyCode s.cfg.seed b).toNat) (hf : formatOk (decide (k.val < 3)) b = false) :
    exec (.frameReceived dt k true sof b) s =
      .next ((((s.pass dt).dropSecond k b).modLink k (fun l => { l with errFormat := satInc l.errFormat })).fault 0x0803 k.val) := by
  rw [h.exec_eq, if_neg (not_or.2 ⟨Nat.not_le.2 hlt, not_not.2 hc⟩), if_pos hf]

/-- A frame that passes checks 1 to 6. -/
theorem exec_frameReceived_good (h : s.Passes4 k b) (hlt : bytesAt b 244 4 < scPrime)
    (hc : bytesAt b 244 4 = (safetyCode s.cfg.seed b).toNat) (hf : formatOk (decide (k.val < 3)) b = true) :
    exec (.frameReceived dt k true sof b) s = .next ((s.pass dt).acceptFrame k sof b) := by
  rw [h.exec_eq, if_neg (not_or.2 ⟨Nat.not_le.2 hlt, not_not.2 hc⟩), if_neg (Bool.not_eq_false _ ▸ hf)]

end

/-- A frame whose CRC is wrong also raises the interrupt to Pewter. -/
theorem State.onlyLink.withIrqCrc {s t : State} {k : Fin 8} {l : Link} {code : Nat} (h : s.onlyLink t k l code) (i : Byte) :
    OthersSame s.links t.links k ∧
    ({ s with links := t.links, mdl := { s.mdl with irqCrc := i } } : State).SameButLog { t with mdl := { t.mdl with irqCrc := i } } ∧
    t.links[k] = l ∧ ({ t with mdl := { t.mdl with irqCrc := i } } : State).lastFault code k.val := by
  obtain ⟨hoth, hsame, hlink, hlast⟩ := h
  refine ⟨hoth, ?_, hlink, hlast⟩
  unfold State.SameButLog at hsame ⊢
  rw [hsame]

end Sys2Proof.Machine

open Sys2Proof Sys2Proof.Machine

/-- Settles O29: one lemma gives what each check does with a frame that passes those before it; a dropped frame changes its link
and is logged (`State.dropFrame_onlyLink`). -/
theorem frameChecksOneToSix : Obligations.FrameChecksOneToSix := by
  unfold Obligations.FrameChecksOneToSix
  refine ⟨fun s dt k ok sof b h => exec_frameReceived_length s dt k ok sof h, fun s dt k sof b hlen hr hu hy hl => ?_⟩
  have hrx : s.Receives k b := ⟨hlen, hr, hu, hy, hl⟩
  refine ⟨?_, fun hc => ?_, fun hc hh => ?_, fun hc hh hown ha => ?_, fun hc hh ha hd hsc => ?_, fun hc hh ha hd hlt hsc hf => ?_⟩
  · exact ⟨_, exec_frameReceived_badLine dt sof hrx,
      (s.pass dt).dropFrame_onlyLink k _ 7 (by decide) (by decide) (by decide)⟩
  · have hd := (s.pass dt).dropFrame_onlyLink k (fun l => { l with errCrc := satInc l.errCrc }) 0 (code := 0x0801)
      (by decide) (by decide) (by decide)
    have hi := hd.2.1.mdl_irqCrc
    refine ⟨_, exec_frameReceived_badCrc dt sof hrx hc, ?_⟩
    generalize (s.pass dt).dropFrame k (fun l => { l with errCrc := satInc l.errCrc }) 0 0x0801 = t at hd hi
    dsimp only
    rw [hi]
    exact State.onlyLink.withIrqCrc hd _
  · exact ⟨_, exec_frameReceived_badHops dt sof hrx hc hh,
      (s.pass dt).dropFrame_onlyLink k _ 10 (by decide) (by decide) (by decide)⟩
  · exact ⟨_, exec_frameReceived_badAddr dt sof ⟨hrx, hc, hh⟩ hown ha,
      (s.pass dt).dropFrame_onlyLink k _ 2 (by decide) (by decide) (by decide)⟩
  · refine ⟨_, exec_frameReceived_badSc dt sof ⟨⟨hrx, hc, hh⟩, ha, hd⟩ hsc, ?_⟩
    rw [← s.dropSecond_pass dt]
    exact (s.pass dt).dropSecond_dropFrame_onlyLink k b _ 1 (by decide) (by decide) (by decide)
  · refine ⟨_, exec_frameReceived_badFormat dt sof ⟨⟨hrx, hc, hh⟩, ha, hd⟩ hlt hsc hf, ?_⟩
    rw [← s.dropSecond_pass dt]
    generalize hx : (((s.pass dt).dropSecond k b).links[k]).seg = x
    rw [(s.pass dt).dropSecond_eq, hx, State.modLink_modLink]
    exact (s.pass dt).modLink_fault_onlyLink k _ (by decide) (by decide) (by decide)

end

section
/-! PROOFS. The content of accepted frames (R187, R189, R197, R198, R200, R201, R208, R213, R218). -/

namespace Sys2Proof.Machine

/-! ### What accepted content changes -/

/-- `t` is `s` but for what the content of a frame changes: links, streams, the time base, the interpreter's queue, the engines'
journals, and the log. -/
def State.SameButContent (s t : State) : Prop :=
  ({ s with links := t.links, areas := t.areas, tbs := t.tbs, cmd := t.cmd, engines := t.engines, rxQueue := t.rxQueue, begun := t.begun,
            clk := { s.clk with stepDue := t.clk.stepDue, extDue := t.clk.extDue } } : State).SameButLog t

/-- What a link keeps of the frames it has accepted. -/
def Link.receipt (l : Link) : Rx × Word × Bool × Bool × BitVec 16 := (l.rx, l.rxOk, l.up, l.loopDown, l.errMissing)

/-- `t` is `s` after content that leaves the receive sides of all streams, and what the links count of accepted frames. -/
structure State.Takes (s t : State) : Prop where
  frame : s.SameButContent t
  receipt : ∀ k : Fin 8, (t.links[k]).receipt = (s.links[k]).receipt
  rxs : t.areas.map Area.rx = s.areas.map Area.rx

section
variable {s t u : State}

theorem State.SameButLog.content (h : s.SameButLog t) : s.SameButContent t := by
  unfold State.SameButContent State.SameButLog at *
  rw [h]

theorem State.SameButContent.trans (h : s.SameButContent t) (k : t.SameButContent u) : s.SameButContent u := by
  unfold State.SameButContent State.SameButLog at *
  rw [k, h]

theorem State.SameButLog.takes (h : s.SameButLog t) : s.Takes t :=
  ⟨h.content, fun k => by rw [h.links], by rw [h.areas]⟩

theorem State.Takes.refl (s : State) : s.Takes s := ⟨rfl, fun _ => rfl, rfl⟩

theorem State.Takes.trans (h : s.Takes t) (k : t.Takes u) : s.Takes u :=
  ⟨h.frame.trans k.frame, fun i => (k.receipt i).trans (h.receipt i), k.rxs.trans h.rxs⟩

theorem State.Takes.foldl {α : Type} {f : State → α → State} (h : ∀ (s : State) a, s.Takes (f s a)) (l : List α) :
    ∀ s : State, s.Takes (l.foldl f s) := by
  induction l with
  | nil => exact State.Takes.refl
  | cons a l ih => exact fun s => (h s a).trans (ih _)

theorem State.Takes.ite {c : Prop} [Decidable c] (h : s.Takes t) : s.Takes (if c then t else s) := by
  split
  · exact h
  · exact .refl s

theorem State.Takes.ite_not {c : Prop} [Decidable c] (h : s.Takes t) : s.Takes (if c then s else t) := by
  split
  · exact .refl s
  · exact h

/-- Content that leaves links and streams alone. -/
theorem State.Takes.of_frame (h : s.SameButContent t) (hl : t.links = s.links) (ha : t.areas = s.areas) : s.Takes t :=
  ⟨h, fun k => by rw [hl], by rw [ha]⟩

end

section
variable (s : State) (k : Fin 8)

theorem State.modLink_takes {f : Link → Link} (h : ∀ l : Link, (f l).receipt = l.receipt) : s.Takes (s.modLink k f) := by
  refine ⟨rfl, fun j => ?_, rfl⟩
  rw [State.modLink_links, upd_get]
  split
  · exact h _
  · rfl

theorem State.modArea_getElem? (i j : Nat) (f : Area → Area) :
    (s.modArea i f).areas[j]? = s.areas[j]?.map (fun a => if j = i then f a else a) := List.getElem?_mapIdx

theorem State.modArea_takes (i : Nat) {f : Area → Area} (h : ∀ a : Area, (f a).rx = a.rx) : s.Takes (s.modArea i f) := by
  refine ⟨rfl, fun _ => rfl, List.ext_getElem? fun j => ?_⟩
  rw [List.getElem?_map, List.getElem?_map, State.modArea_getElem?, Option.map_map]
  refine congrArg (fun g => Option.map g s.areas[j]?) (funext fun a => ?_)
  by_cases hj : j = i
  · exact (congrArg Area.rx (if_pos hj)).trans (h a)
  · exact congrArg Area.rx (if_neg hj)

theorem State.lnkFault_takes (bit code : Nat) : s.Takes (s.lnkFault k bit code) :=
  (s.modLink_takes k (f := Link.markFault bit) fun _ => rfl).trans (s.lnkFault_same k bit code).takes

theorem State.postLink_takes (ev : LinkEv) : s.Takes (s.postLink ev) := .of_frame rfl rfl rfl

/-! ### The time base (R208 to R213) -/

theorem State.withTbs_takes (x : Tbs) : s.Takes { s with tbs := x } := .of_frame rfl rfl rfl

theorem State.tbEnter_takes (st : TbState) : s.Takes (s.tbEnter st) := by
  unfold State.tbEnter
  dsimp only
  split
  · exact .of_frame rfl rfl rfl
  · exact .of_frame rfl rfl rfl

theorem State.tbsFault_takes (bit code : Nat) : s.Takes (s.tbsFault bit code) :=
  (s.withTbs_takes _).trans (s.tbsFault_same bit code).takes

theorem State.judgeSource_takes : s.Takes s.judgeSource :=
  (s.withTbs_takes _).trans s.judgeSource_same.takes

theorem State.measure_takes (theta2 : Int) : s.Takes (s.measure k theta2) := by
  unfold State.measure
  extract_lets b s1 s2 _ s3 s4
  have h1 : s.Takes s1 := .of_frame rfl rfl rfl
  have h2 : s1.Takes s2 := by
    unfold s2
    split
    · split <;> exact State.tbEnter_takes _ _
    · exact State.tbEnter_takes _ _
    · exact .refl _
  have h3 : s2.Takes s3 := .of_frame rfl rfl rfl
  have h4 : s3.Takes s4 := by
    unfold s4
    split
    · exact .ite (s3.tbEnter_takes _)
    · exact .ite (s3.tbEnter_takes _)
    · exact .refl _
  have h : s.Takes s4 := ((h1.trans h2).trans h3).trans h4
  split
  · exact h.trans (.of_frame rfl rfl rfl)
  · exact h

theorem State.extCheck_takes (tb64 : Nat) : s.Takes (s.extCheck tb64) := by
  unfold State.extCheck
  split
  · exact .refl s
  · dsimp only
    split
    · exact .refl s
    · exact .of_frame rfl rfl rfl

theorem State.sourceStatus_takes (m : Option (Int × Nat)) : s.Takes (s.sourceStatus k m) := by
  unfold State.sourceStatus
  split
  · exact .refl s
  · extract_lets bad was s1 s2 _ s3 s4 s5
    have h1 : s.Takes s1 := s.modLink_takes k fun _ => rfl
    have h2 : s1.Takes s2 := .ite (s1.tbsFault_takes 3 0x0813)
    have h3 : s2.Takes s3 := .ite (s2.withTbs_takes _)
    have h4 : s.Takes s4 := ((h1.trans h2).trans h3).trans s3.judgeSource_takes
    split
    · have h5 : s4.Takes s5 := by
        unfold s5
        split
        · exact s4.measure_takes k _
        · exact .refl _
      exact (h4.trans h5).trans (State.extCheck_takes _ _)
    · exact h4

/-! ### STATUS, COMMAND and AREA frames (R189, R200, R201, R218) -/

theorem State.lbrMessage_takes (req no : Byte) : s.Takes (s.lbrMessage k req no) := by
  unfold State.lbrMessage
  extract_lets l mine
  split
  · split
    · exact s.modLink_takes k fun _ => rfl
    · split
      · exact .refl s
      · exact s.modLink_takes k fun _ => rfl
  · exact .ite (s.modLink_takes k (by intro; rfl))
  · exact .ite (s.modLink_takes k (by intro; rfl))
  · exact .refl s

theorem State.takeStatus_takes (sof : Stamp) (b : List Byte) : s.Takes (s.takeStatus k sof b) := by
  unfold State.takeStatus
  extract_lets p sofAt l tC3 tP4 a c fresh theta2 delta2 s1 s2 s3
  have h1 : s.Takes s1 := s.modLink_takes k fun _ => rfl
  have h2 : s1.Takes s2 := .ite (s1.modLink_takes k (by intro; rfl))
  exact ((h1.trans h2).trans (s2.lbrMessage_takes k _ _)).trans (State.sourceStatus_takes _ k _)

theorem State.takeSegment_takes (b : List Byte) (exempt : Bool) : s.Takes (s.takeSegment k b exempt) := by
  unfold State.takeSegment
  split
  · extract_lets held s1
    have h1 : s.Takes s1 := s.modLink_takes k fun _ => rfl
    split
    · exact h1.trans (.of_frame rfl rfl rfl)
    · exact h1.trans (s1.modLink_takes k fun _ => rfl)
    · unfold held
      split
      · exact h1.trans (.ite (.of_frame rfl rfl rfl))
      · exact h1
  · exact .refl s

theorem State.takeRemote_takes (r : AxleRec) : s.Takes (s.takeRemote k r) := by
  unfold State.takeRemote
  split
  · exact .of_frame rfl rfl rfl
  · exact (s.lnkFault_takes k 8 0x080A).trans (State.postLink_takes _ _)

theorem State.takeArea_takes (i : Nat) (peer : BitVec 11) (gap : Nat) (first : Bool) (b : List Byte) :
    s.Takes (s.takeArea k i peer gap first b) := by
  unfold State.takeArea
  split
  · exact .refl s
  · extract_lets cond ok loops bad lost recs new rep s1 s2 newly s3 s4
    have h1 : s.Takes s1 := s.modArea_takes i fun _ => rfl
    have h2 : s1.Takes s2 :=
      .ite (((s1.modLink_takes k (by intro; rfl)).trans (State.lnkFault_takes _ k 6 0x0808)).trans (State.postLink_takes _ _))
    have h3 : s2.Takes s3 := .ite_not (s2.postLink_takes _)
    have h4 : s3.Takes s4 := .foldl (fun u _ => .ite_not (u.postLink_takes _)) _ s3
    have h : s.Takes s4 := ((h1.trans h2).trans h3).trans h4
    exact h.trans (.ite (.foldl (fun u r => u.takeRemote_takes k r) _ s4))

end
end Sys2Proof.Machine
end

section
/-! PROOFS. Streams and the acceptance of a frame (R191, R193, R196 to R198). -/

namespace Sys2Proof.Machine

/-! ### The receive side of a stream (R196) -/

section
variable {s t : State}

theorem State.SameButContent.img (h : s.SameButContent t) : t.img = s.img := by
  unfold State.SameButContent at h
  rw [h]

theorem State.SameButContent.tb (h : s.SameButContent t) : t.tb = s.tb := by
  unfold State.SameButContent at h
  rw [h]
  rfl

theorem State.SameButContent.inReset (h : s.SameButContent t) : t.inReset = s.inReset := by
  unfold State.SameButContent at h
  rw [h]
  rfl

theorem State.SameButContent.cfg (h : s.SameButContent t) : t.cfg = s.cfg := by rw [State.cfg, h.img, State.cfg]

end

section
variable (s : State)

theorem State.rxOf_status (k : Fin 8) : s.rxOf (.status k) = if 3 ≤ k.val then some ((s.links[k]).rx, k) else none := rfl

theorem State.rxOf_command (i : Fin 3) : s.rxOf (.command i) = some ((s.links[laneLink i]).rx, laneLink i) := rfl

theorem State.rxOf_area (i : Nat) : s.rxOf (.area i) = (s.areas[i]?.map Area.rx).bind (fun r =>
    s.cfg.streams[i]?.bind (fun d => if d.recv then some (r, d.link) else none)) := by
  unfold State.rxOf
  dsimp only
  cases s.areas[i]? with
  | none => rfl
  | some a => cases s.cfg.streams[i]? <;> rfl

theorem State.rxOf_area_iff (i : Nat) (rx : Rx) (j : Fin 8) : s.rxOf (.area i) = some (rx, j) ↔
    ∃ a, s.areas[i]? = some a ∧ ∃ d, s.cfg.streams[i]? = some d ∧ d.recv = true ∧ a.rx = rx ∧ d.link = j := by
  simp [State.rxOf_area, Option.bind_eq_some_iff]

theorem State.rxOf_congr {s t : State} (hcfg : t.cfg = s.cfg) (hl : ∀ k : Fin 8, (t.links[k]).rx = (s.links[k]).rx)
    (ha : t.areas.map Area.rx = s.areas.map Area.rx) (st : StreamRef) : t.rxOf st = s.rxOf st := by
  cases st with
  | status k => rw [State.rxOf_status, State.rxOf_status, hl]
  | command i => rw [State.rxOf_command, State.rxOf_command, hl]
  | area i => rw [State.rxOf_area, State.rxOf_area, hcfg, ← List.getElem?_map, ha, List.getElem?_map]

theorem State.Takes.rxOf {s t : State} (h : s.Takes t) (st : StreamRef) : t.rxOf st = s.rxOf st :=
  State.rxOf_congr h.frame.cfg (fun k => congrArg Prod.fst (h.receipt k)) h.rxs st

theorem State.modRx_content (st : StreamRef) (f : Rx → Rx) : s.SameButContent (s.modRx st f) := by cases st <;> rfl

theorem State.modRx_rxOf {s : State} {st : StreamRef} {rx : Rx} {j : Fin 8} (h : s.rxOf st = some (rx, j)) (f : Rx → Rx) :
    (s.modRx st f).rxOf st = some (f rx, j) := by
  cases st with
  | status k =>
    rw [State.rxOf_status] at h ⊢
    obtain ⟨hk, he⟩ := Option.ite_none_right_eq_some.1 h
    cases he
    rw [if_pos hk]
    exact congrArg (fun l => some (Link.rx l, _)) (upd_get_same _ _ _)
  | command i =>
    cases h
    exact congrArg (fun l => some (Link.rx l, laneLink i)) (upd_get_same _ _ _)
  | area i =>
    obtain ⟨a, ha, d, hd, hrecv, rfl, hlink⟩ := (s.rxOf_area_iff i rx j).1 h
    refine (State.rxOf_area_iff _ i _ j).2 ⟨{ a with rx := f a.rx }, ?_, d, hd, hrecv, rfl, hlink⟩
    exact (s.modArea_getElem? i i _).trans (by rw [ha, Option.map_some, if_pos rfl])

/-- Beside its stream's receive side a link stands. -/
theorem State.modRx_link (st : StreamRef) (f : Rx → Rx) (k : Fin 8) :
    (s.modRx st f).links[k] = { s.links[k] with rx := ((s.modRx st f).links[k]).rx } := by
  have hlink (j : Fin 8) : (s.modLink j (fun l => { l with rx := f l.rx })).links[k] =
      { s.links[k] with rx := ((s.modLink j (fun l => { l with rx := f l.rx })).links[k]).rx } := by
    rw [State.modLink_links, upd_get]
    split <;> rfl
  cases st with
  | status j => exact hlink j
  | command i => exact hlink (laneLink i)
  | area i => rfl

theorem State.modRx_congr {s : State} {st : StreamRef} {rx : Rx} {j : Fin 8} (h : s.rxOf st = some (rx, j)) {f g : Rx → Rx}
    (hfg : f rx = g rx) : s.modRx st f = s.modRx st g := by
  have hlink (k : Fin 8) (hk : (s.links[k]).rx = rx) :
      s.modLink k (fun l => { l with rx := f l.rx }) = s.modLink k (fun l => { l with rx := g l.rx }) :=
    congrArg (fun v => ({ s with links := v } : State)) (upd_congr (by rw [hk, hfg]))
  cases st with
  | status k =>
    rw [State.rxOf_status] at h
    obtain ⟨hk, he⟩ := Option.ite_none_right_eq_some.1 h
    exact hlink k (congrArg Prod.fst (Option.some.inj he))
  | command i => exact hlink _ (congrArg Prod.fst (Option.some.inj h))
  | area i =>
    obtain ⟨a, ha, d, hd, hrecv, rfl, hj⟩ := (s.rxOf_area_iff i rx j).1 h
    refine congrArg (fun v => ({ s with areas := v } : State)) (List.ext_getElem? fun n => ?_)
    rw [List.getElem?_mapIdx, List.getElem?_mapIdx]
    by_cases hn : n = i
    · rw [hn, ha, Option.map_some, Option.map_some, if_pos rfl, if_pos rfl]
      exact congrArg (fun x => some { a with rx := x }) hfg
    · simp only [if_neg hn]

/-! ### Ends of periods (R198, Table 7-7) -/

/-- Periods in a row without a frame, at the end of the one that runs. -/
def Rx.nextMissed (r : Rx) : Nat := if r.got then 0 else r.missed + 1

/-- The stream times out at the end of the period that runs. -/
def Rx.expires (r : Rx) : Bool := decide (3 ≤ r.nextMissed) && !r.timedOut

/-- The period that runs ends, and the next one of length `p` begins. -/
def Rx.close (p : Nat) (r : Rx) : Rx :=
  { r with periodEnd := r.periodEnd + p, got := false, missed := r.nextMissed, timedOut := r.timedOut || r.expires }

/-- A link counts a timeout. -/
def Link.countTimeout (l : Link) : Link := { l with timeouts := satInc l.timeouts }

theorem State.endPeriod_eq {s : State} {st : StreamRef} {rx : Rx} {k : Fin 8} (h : s.rxOf st = some (rx, k)) : s.endPeriod st =
    if rx.expires = true then
      (((s.modRx st (Rx.close (s.periodOf st))).modLink k Link.countTimeout).lnkFault k 6 0x0808).streamLost st
    else s.modRx st (Rx.close (s.periodOf st)) := by
  have hc := State.modRx_congr h (f := Rx.close (s.periodOf st)) (g := fun r => { r with
    periodEnd := r.periodEnd + s.periodOf st, got := false, missed := rx.nextMissed, timedOut := r.timedOut || rx.expires }) rfl
  rw [hc, State.endPeriod, h]
  rfl

theorem State.streamLost_takes (st : StreamRef) : s.Takes (s.streamLost st) := by
  unfold State.streamLost
  split
  · exact s.judgeSource_takes
  · exact .refl s
  · split
    · exact (s.modArea_takes _ (by intro; rfl)).trans (State.postLink_takes _ _)
    · exact .refl s

theorem State.streamLost_links (st : StreamRef) : (s.streamLost st).links = s.links := by
  unfold State.streamLost
  split
  · exact s.judgeSource_same.links
  · rfl
  · split <;> rfl

/-- `u` is `s` after `n` periods of a stream have ended, whose receive side was `rx`. -/
structure State.Closes (s u : State) (st : StreamRef) (rx : Rx) (j : Fin 8) (n : Nat) : Prop where
  content : s.SameButContent u
  sync : ∀ k : Fin 8, (u.links[k]).sync = (s.links[k]).sync
  loop : ∀ k : Fin 8, (u.links[k]).loop = (s.links[k]).loop
  rxOf : ∃ r : Rx, u.rxOf st = some (r, j) ∧ r.periodEnd = rx.periodEnd + n * s.periodOf st

theorem State.periodOf_congr {s u : State} (h : u.cfg = s.cfg) (st : StreamRef) : u.periodOf st = s.periodOf st := by
  unfold State.periodOf State.linkCycle State.linkSlow
  rw [h]

theorem State.periodOf_pos (st : StreamRef) : 0 < s.periodOf st := by
  have hc (k : Fin 8) : 0 < s.linkCycle k := by
    unfold State.linkCycle
    split <;> decide
  unfold State.periodOf
  split
  · exact hc _
  · exact hc _
  · split
    · split <;> decide
    · decide

theorem State.modRx_closes {s : State} {st : StreamRef} {rx : Rx} {j : Fin 8} (h : s.rxOf st = some (rx, j)) {f : Rx → Rx} {n : Nat}
    (hf : (f rx).periodEnd = rx.periodEnd + n * s.periodOf st) : s.Closes (s.modRx st f) st rx j n :=
  ⟨s.modRx_content st f, fun k => by rw [s.modRx_link st f k], fun k => by rw [s.modRx_link st f k], _, State.modRx_rxOf h f, hf⟩

theorem State.endPeriod_closes {s : State} {st : StreamRef} {rx : Rx} {j : Fin 8} (h : s.rxOf st = some (rx, j)) :
    s.Closes (s.endPeriod st) st rx j 1 := by
  have hm := State.modRx_closes h (f := Rx.close (s.periodOf st)) (n := 1) (by rw [Nat.one_mul]; rfl)
  rw [State.endPeriod_eq h]
  split
  · generalize s.modRx st (Rx.close (s.periodOf st)) = u at hm ⊢
    have ht := (u.modLink_takes j (f := Link.countTimeout) fun _ => rfl).trans (State.lnkFault_takes _ j 6 0x0808)
    have hl : ((u.modLink j Link.countTimeout).lnkFault j 6 0x0808).links =
        upd u.links j (fun l => Link.markFault 6 l.countTimeout) :=
      (State.lnkFault_same _ j 6 0x0808).links.trans (upd_upd u.links j Link.countTimeout (Link.markFault 6))
    generalize (u.modLink j Link.countTimeout).lnkFault j 6 0x0808 = v at ht hl ⊢
    have hall := ht.trans (v.streamLost_takes st)
    obtain ⟨r, hr, hend⟩ := hm.rxOf
    refine ⟨hm.content.trans hall.frame, fun k => ?_, fun k => ?_, r, (hall.rxOf st).trans hr, hend⟩
    · rw [State.streamLost_links, hl, upd_get, ← hm.sync k]
      split <;> rfl
    · rw [State.streamLost_links, hl, upd_get, ← hm.loop k]
      split <;> rfl
  · exact hm

theorem State.Closes.trans {s u v : State} {st : StreamRef} {rx r : Rx} {j : Fin 8} {m n : Nat} (h : s.Closes u st rx j m)
    (hr : u.rxOf st = some (r, j)) (k : u.Closes v st r j n) : s.Closes v st rx j (m + n) := by
  obtain ⟨r', hr', hend'⟩ := h.rxOf
  obtain ⟨x, hx, hend⟩ := k.rxOf
  rw [hr] at hr'
  cases hr'
  refine ⟨h.content.trans k.content, fun i => (k.sync i).trans (h.sync i), fun i => (k.loop i).trans (h.loop i), x, hx, ?_⟩
  rw [hend, hend', State.periodOf_congr h.content.cfg, Nat.add_assoc, Nat.add_mul]

theorem foldl_endPeriod_closes {s : State} {st : StreamRef} {rx : Rx} {j : Fin 8} (h : s.rxOf st = some (rx, j)) (n : Nat) :
    s.Closes ((List.range n).foldl (fun s _ => s.endPeriod st) s) st rx j n := by
  induction n with
  | zero => exact ⟨rfl, fun _ => rfl, fun _ => rfl, rx, h, by rw [Nat.zero_mul]; rfl⟩
  | succ n ih =>
    rw [List.range_succ, List.foldl_append]
    obtain ⟨r, hr, _⟩ := ih.rxOf
    exact ih.trans hr (State.endPeriod_closes hr)

theorem State.closePeriods_closes {s : State} {st : StreamRef} {rx : Rx} {j : Fin 8} (h : s.rxOf st = some (rx, j)) :
    s.Closes (s.closePeriods st) st rx j ((s.tb - rx.periodEnd) / s.periodOf st) := by
  unfold State.closePeriods
  rw [h]
  dsimp only
  generalize (s.tb - rx.periodEnd) / s.periodOf st = n
  split
  next hn =>
    rw [Nat.min_eq_left hn]
    exact foldl_endPeriod_closes h n
  next hn =>
    have hm := State.modRx_closes h (n := n - 4)
      (f := fun r => { r with periodEnd := r.periodEnd + (n - 4) * s.periodOf st, got := false }) rfl
    obtain ⟨r, hr, _⟩ := hm.rxOf
    have hall := hm.trans hr (foldl_endPeriod_closes hr 4)
    rw [Nat.min_eq_right (by omega)]
    rwa [Nat.sub_add_cancel (by omega)] at hall

/-- Without a period that has ended there is nothing to close. -/
theorem State.closePeriods_of_open {s : State} {st : StreamRef} {rx : Rx} {j : Fin 8} (h : s.rxOf st = some (rx, j))
    (hp : s.tb < rx.periodEnd + s.periodOf st) : s.closePeriods st = s := by
  have hn : (s.tb - rx.periodEnd) / s.periodOf st = 0 := by
    rcases Nat.eq_zero_or_pos (s.periodOf st) with h0 | h0
    · rw [h0, Nat.div_zero]
    · exact Nat.div_eq_of_lt (by omega)
  unfold State.closePeriods
  rw [h]
  dsimp only
  rw [hn]
  rfl

/-- After the periods that have ended are closed none has. -/
theorem State.closePeriods_idem {s : State} {st : StreamRef} {rx : Rx} {j : Fin 8} (h : s.rxOf st = some (rx, j)) :
    (s.closePeriods st).closePeriods st = s.closePeriods st := by
  have hc := State.closePeriods_closes h
  obtain ⟨r, hr, hend⟩ := hc.rxOf
  refine State.closePeriods_of_open hr ?_
  have hlt := Nat.lt_div_mul_add (a := s.tb - rx.periodEnd) (s.periodOf_pos st)
  rw [hc.content.tb, State.periodOf_congr hc.content.cfg, hend]
  omega

/-! ### Address conflicts (R193) -/

theorem State.beginConflict_spec (k : Fin 8) :
    OthersSame s.links (s.beginConflict k).links k ∧ (s.beginConflict k).conflict = true ∧
    UCause.conflict ∈ (s.beginConflict k).causes ∧ (s.beginConflict k).lastFault 0x080E k.val ∧
    ({ s with links := (s.beginConflict k).links, conflict := true, causes := (s.beginConflict k).causes,
              begun := (s.beginConflict k).begun, engines := (s.beginConflict k).engines } : State).SameButLog (s.beginConflict k) := by
  have hd := s.dropFrame_onlyLink k (fun l => { l with errAddr := satInc l.errAddr }) 11 (code := 0x080E)
    (by decide) (by decide) (by decide)
  have heq : s.beginConflict k = State.beginCause { (s.dropFrame k (fun l => { l with errAddr := satInc l.errAddr }) 11 0x080E) with
    conflict := true } .conflict := rfl
  generalize s.dropFrame k (fun l => { l with errAddr := satInc l.errAddr }) 11 0x080E = u at hd heq
  have hf := State.beginCause_frame { u with conflict := true } .conflict
  have hmem := State.beginCause_mem { u with conflict := true } .conflict
  rw [← heq] at hf hmem
  generalize s.beginConflict k = t at hf hmem
  obtain ⟨hoth, hsame, -, hlast⟩ := hd
  refine ⟨?_, ?_, hmem, ?_, ?_⟩
  · rw [hf]
    exact hoth
  · rw [hf]
  · rw [hf]
    exact hlast
  · unfold State.SameButLog at hsame ⊢
    rw [hf, hsame]

/-! ### Checks 7 to 9 and acceptance (Table 7-6) -/

/-- The next frame sets a fresh reference of its stream (R196). -/
def Rx.first (r : Rx) : Bool := r.last.isNone || r.timedOut

/-- How far a SEQ lies ahead of the stream's reference. -/
def Rx.ahead (seq : Word) (r : Rx) : Nat := (seq - r.last.getD 0).toNat

/-- Frames that are missing before this SEQ. -/
def Rx.gap (seq : Word) (r : Rx) : Nat := if r.first then 0 else r.ahead seq - 1

theorem Rx.first_eq_false_iff (r : Rx) : r.first = false ↔ ∃ q, r.last = some q ∧ r.timedOut = false := by
  unfold Rx.first
  cases r.last <;> simp

theorem Rx.first_eq_true {r : Rx} (h : r.last = none ∨ r.timedOut = true) : r.first = true := by
  unfold Rx.first
  rcases h with h | h
  · rw [h]
    rfl
  · rw [h, Bool.or_true]

theorem Rx.ahead_of_last {r : Rx} {q : Word} (seq : Word) (h : r.last = some q) : r.ahead seq = (seq - q).toNat := by
  rw [Rx.ahead, h, Option.getD_some]

theorem Rx.gap_of_last {r : Rx} {q : Word} (seq : Word) (h : r.last = some q) (ht : r.timedOut = false) :
    r.gap seq = (seq - q).toNat - 1 := by
  rw [Rx.gap, (r.first_eq_false_iff).2 ⟨q, h, ht⟩, Rx.ahead_of_last seq h]
  rfl

/-- A frame is accepted in the running period. -/
def Rx.accept (seq : Word) (r : Rx) : Rx := { r with last := some seq, got := true, timedOut := false }

/-- A link counts an accepted frame and those missing before it. -/
def Link.count (gap : Nat) (l : Link) : Link :=
  { l with rxOk := l.rxOk + 1, up := true, loopDown := false, errMissing := satAdd l.errMissing gap }

/-- The link counts an accepted frame, and logs missing ones with 0806h. -/
def State.countLink (k : Fin 8) (gap : Nat) (s : State) : State :=
  if gap = 0 then s.modLink k (Link.count gap) else (s.modLink k (Link.count gap)).lnkFault k 4 0x0806

/-- An accepted frame before its content: it is counted, and is the reference of its stream. -/
def State.countFrame (k : Fin 8) (st : StreamRef) (gap : Nat) (seq : Word) (s : State) : State :=
  (s.countLink k gap).modRx st (Rx.accept seq)

/-- The content of a frame of a stream. -/
def State.takeContent (k : Fin 8) (sof : Stamp) (b : List Byte) (st : StreamRef) (gap : Nat) (first exempt : Bool) (s : State) : State :=
  match st with
  | .status k => s.takeStatus k sof b
  | .command _ => if byteAt b 2 = 3 then s.takeSegment k b exempt else s
  | .area i =>
    match s.cfg.streams[i]? with
    | some d => s.takeArea k i d.peer gap first b
    | none => s

theorem State.takeContent_takes (k : Fin 8) (sof : Stamp) (b : List Byte) (st : StreamRef) (gap : Nat) (first exempt : Bool) :
    s.Takes (s.takeContent k sof b st gap first exempt) := by
  unfold State.takeContent
  split
  · exact s.takeStatus_takes _ sof b
  · exact .ite (s.takeSegment_takes k b exempt)
  · split
    · exact s.takeArea_takes k _ _ gap first b
    · exact .refl s

section
variable {s : State} {k : Fin 8} {b : List Byte} {st : StreamRef} {rx : Rx} {j : Fin 8} (sof : Stamp)

theorem State.acceptFrame_own (h : s.fromSelf b = true) : s.acceptFrame k sof b = s.beginConflict k := if_pos h

/-- Check 7. -/
theorem State.acceptFrame_noStream (h : s.fromSelf b = false) (hs : s.streamOf k b = none) : s.acceptFrame k sof b =
    s.dropFrame k (fun l => { l with errAddr := satInc l.errAddr }) 2 0x0804 := by
  rw [State.acceptFrame, if_neg (ne_true_of_eq_false h), hs]

/-- Checks 8 and 9 and the acceptance of a frame in the running period of its stream. -/
theorem State.acceptFrame_open (h : s.fromSelf b = false) (hs : s.streamOf k b = some st) (hr : s.rxOf st = some (rx, j))
    (hp : s.tb < rx.periodEnd + s.periodOf st) : s.acceptFrame k sof b =
      if rx.first = false ∧ (rx.ahead (frSeq b) = 0 ∨ 65536 < rx.ahead (frSeq b)) then
        s.dropFrame k (fun l => { l with errOld := satInc l.errOld }) 3 0x0805
      else if (s.ageOk k b).1 = false then
        (s.dropSecond k b).dropFrame k (fun l => { l with errAge := satInc l.errAge }) 5 0x0807
      else (s.countFrame k st (rx.gap (frSeq b)) (frSeq b)).takeContent k sof b st (rx.gap (frSeq b)) rx.first (s.ageOk k b).2 := by
  rw [State.acceptFrame, if_neg (ne_true_of_eq_false h), hs]
  dsimp only
  rw [hr]
  dsimp only
  rw [State.closePeriods_of_open hr hp, hr]
  rcases hage : (s.ageOk k b).1 <;> rfl

/-- Acceptance closes the periods that have ended first (R198). -/
theorem State.acceptFrame_close (h : s.fromSelf b = false) (hs : s.streamOf k b = some st) (hr : s.rxOf st = some (rx, j)) :
    s.acceptFrame k sof b = (s.closePeriods st).acceptFrame k sof b := by
  have hc := State.closePeriods_closes hr
  have hi := State.closePeriods_idem hr
  obtain ⟨r, hr', _⟩ := hc.rxOf
  have hcfg := hc.content.cfg
  generalize hu : s.closePeriods st = u at hcfg hi hr'
  have h' : u.fromSelf b = false := by rw [← h, State.fromSelf, State.fromSelf, State.addr, State.addr, hcfg]
  have hs' : u.streamOf k b = some st := by
    rw [← hs, State.streamOf, State.streamOf, State.addr, State.addr, State.linkPeer, State.linkPeer, State.areaFrom, State.areaFrom,
      hcfg]
  unfold State.acceptFrame
  rw [if_neg (ne_true_of_eq_false h), if_neg (ne_true_of_eq_false h'), hs, hs']
  dsimp only
  rw [hr, hr', hu, hi]

end

theorem State.countLink_same (k : Fin 8) (gap : Nat) : ∃ g : Link → Link,
    (∀ l, g l = { l.count gap with fault := (g l).fault }) ∧ (s.modLink k g).SameButLog (s.countLink k gap) := by
  unfold State.countLink
  split
  · exact ⟨Link.count gap, fun _ => rfl, .refl _⟩
  · have hf := (s.modLink k (Link.count gap)).lnkFault_same k 4 0x0806
    rw [State.modLink_modLink] at hf
    exact ⟨fun l => Link.markFault 4 (l.count gap), fun _ => rfl, hf⟩

/-- An accepted frame before its content. -/
theorem State.countFrame_spec {s : State} {st : StreamRef} {rx : Rx} {j : Fin 8} (h : s.rxOf st = some (rx, j)) (k : Fin 8) (gap : Nat)
    (seq : Word) : s.SameButContent (s.countFrame k st gap seq) ∧ (s.countFrame k st gap seq).rxOf st = some (rx.accept seq, j) ∧
    ∃ r f, (s.countFrame k st gap seq).links[k] = { (s.links[k]).count gap with rx := r, fault := f } := by
  obtain ⟨g, hg, hsame⟩ := s.countLink_same k gap
  have hcont : s.SameButContent (s.countLink k gap) := State.SameButContent.trans (t := s.modLink k g) rfl hsame.content
  have hrx : (s.countLink k gap).rxOf st = s.rxOf st := by
    refine State.rxOf_congr hcont.cfg (fun i => ?_) (by rw [hsame.areas]; rfl) st
    rw [hsame.links, State.modLink_links, upd_get]
    split
    · rw [hg]
      rfl
    · rfl
  refine ⟨hcont.trans (State.modRx_content _ st _), State.modRx_rxOf (hrx.trans h) _, ?_⟩
  have hlink : (s.countLink k gap).links[k] = { (s.links[k]).count gap with fault := (g s.links[k]).fault } := by
    rw [hsame.links, State.modLink_links, upd_get_same]
    exact hg _
  have hmod := (s.countLink k gap).modRx_link st (Rx.accept seq) k
  rw [hlink] at hmod
  exact ⟨_, _, hmod⟩

/-- What the checks before acceptance look at stands when periods are closed. -/
theorem State.Passes4.closed {s u : State} {k j : Fin 8} {b : List Byte} {st : StreamRef} {rx : Rx} {n : Nat} (h : s.Passes4 k b)
    (hc : s.Closes u st rx j n) : u.Passes4 k b := by
  have himg := hc.content.img
  have hcfg := hc.content.cfg
  refine ⟨⟨⟨h.length, hc.content.inReset.trans h.inReset, ?_, (hc.sync k).trans h.sync, ?_⟩, h.crc, h.hops⟩, h.lane, ?_⟩
  · rw [← h.used, State.linkUsed, State.linkUsed, State.hasImage, State.hasImage, himg, hcfg]
  · rw [← h.looped, Link.looped, Link.looped, hc.loop k]
  · rw [h.dst, State.addr, State.addr, hcfg]

theorem Link.eq_of_receipt {l m : Link} (h : l.receipt = m.receipt) :
    l.rx = m.rx ∧ l.rxOk = m.rxOk ∧ l.up = m.up ∧ l.loopDown = m.loopDown ∧ l.errMissing = m.errMissing := by
  simpa only [Link.receipt, Prod.mk.injEq] using h

/-- A frame that is accepted: it is counted and is the reference of its stream, and its content takes effect. -/
theorem State.takeContent_spec {s : State} {st : StreamRef} {rx : Rx} {j : Fin 8} (h : s.rxOf st = some (rx, j)) (k : Fin 8) (sof : Stamp)
    (b : List Byte) (gap : Nat) (seq : Word) (first exempt : Bool) {t : State}
    (ht : (s.countFrame k st gap seq).takeContent k sof b st gap first exempt = t) :
    s.SameButContent t ∧ (t.links[k]).rxOk = (s.links[k]).rxOk + 1 ∧ (t.links[k]).up = true ∧ (t.links[k]).loopDown = false ∧
    t.rxOf st = some (rx.accept seq, j) ∧ (t.links[k]).errMissing = satAdd (s.links[k]).errMissing gap := by
  obtain ⟨hcont, hrx, r, f, hlink⟩ := State.countFrame_spec h k gap seq
  have htake := (s.countFrame k st gap seq).takeContent_takes k sof b st gap first exempt
  rw [ht] at htake
  have hrec := htake.receipt k
  rw [hlink] at hrec
  obtain ⟨-, hok, hup, hdown, hmiss⟩ := Link.eq_of_receipt hrec
  exact ⟨hcont.trans htake.frame, hok, hup, hdown, (htake.rxOf st).trans hrx, hmiss⟩

end
end Sys2Proof.Machine

open Sys2Proof Sys2Proof.Machine

/-- Settles O30: a frame that passes checks 1 to 6 is `State.acceptFrame`. That an own frame which a relay table brings back begins the
conflict by its CRC and addresses alone is the model's choice (log 98). -/
theorem frameChecksSevenToNine : Obligations.FrameChecksSevenToNine := by
  unfold Obligations.FrameChecksSevenToNine
  refine ⟨fun s dt k sof b hlen hr hu hy hl hk hc hh hd hsrc hty => ?_, fun s dt k sof b hlen hr hu hy hl hc hh ha hd hlt hsc hf => ?_⟩
  · have hself : s.fromSelf b = true := decide_eq_true ⟨hsrc, hty⟩
    obtain ⟨hoth, hcon, hmem, hlast, -⟩ := (s.pass dt).beginConflict_spec k
    exact ⟨_, exec_frameReceived_back dt sof ⟨⟨hlen, hr, hu, hy, hl⟩, hc, hh⟩ hd hk hself, hoth, hcon, hmem, hlast⟩
  have hp : s.Passes4 k b := ⟨⟨⟨hlen, hr, hu, hy, hl⟩, hc, hh⟩, ha, hd⟩
  have hother (hsrc : frSrc b ≠ moduleWord s.addr) : (s.pass dt).fromSelf b = false := decide_eq_false fun h => hsrc h.1
  rw [exec_frameReceived_good dt sof hp hlt hsc hf]
  refine ⟨fun hsrc hty => ?_, fun hsrc hst => ?_, fun st hsrc hst hrx => ?_, fun st rx j q hsrc hst hrx hopen hq hto hold => ?_,
    fun st rx j hsrc hst hrx hopen hfirst hage => ?_, fun st rx j hsrc hst hrx hopen hage hahead => ?_⟩
  · rw [State.acceptFrame_own sof (s := s.pass dt) (decide_eq_true ⟨hsrc, hty⟩)]
    exact ⟨_, rfl, (s.pass dt).beginConflict_spec k⟩
  · rw [State.acceptFrame_noStream sof (hother hsrc) hst]
    exact ⟨_, rfl, (s.pass dt).dropFrame_onlyLink k _ 2 (by decide) (by decide) (by decide)⟩
  · obtain ⟨⟨rx, j⟩, hrx⟩ := Option.isSome_iff_exists.1 hrx
    have hrx' : (s.pass dt).rxOf st = some (rx, j) := hrx
    have hc' := State.closePeriods_closes hrx'
    have hp' : (s.pass dt).Passes4 k b := ⟨⟨⟨hlen, hr, hu, hy, hl⟩, hc, hh⟩, ha, hd⟩
    rw [State.acceptFrame_close sof (hother hsrc) hst hrx',
      exec_frameReceived_good 0 sof (hp'.closed hc') hlt (by rwa [hc'.content.cfg]) hf]
    rfl
  · rw [State.acceptFrame_open sof (hother hsrc) hst (s := s.pass dt) hrx hopen, if_pos]
    · exact ⟨_, rfl, (s.pass dt).dropFrame_onlyLink k _ 3 (by decide) (by decide) (by decide)⟩
    · rw [Rx.ahead_of_last _ hq]
      exact ⟨rx.first_eq_false_iff.2 ⟨q, hq, hto⟩, hold⟩
  · rw [State.acceptFrame_open sof (hother hsrc) hst (s := s.pass dt) hrx hopen, if_neg, if_pos hage, ← s.dropSecond_pass dt]
    · exact ⟨_, rfl, (s.pass dt).dropSecond_dropFrame_onlyLink k b _ 5 (by decide) (by decide) (by decide)⟩
    · rw [Rx.first_eq_true hfirst]
      exact fun h => Bool.noConfusion h.1
  · rw [State.acceptFrame_open sof (hother hsrc) hst (s := s.pass dt) hrx hopen, if_neg, if_neg (ne_false_of_eq_true hage)]
    · obtain ⟨hcont, hok, hup, hdown, hrx', hmiss⟩ :=
        State.takeContent_spec (s := s.pass dt) hrx k sof b (rx.gap (frSeq b)) (frSeq b) rx.first _ rfl
      refine ⟨_, rfl, hcont, hok, hup, hdown, hrx', fun q hq hto => ?_⟩
      rw [hmiss, Rx.gap_of_last _ hq hto]
      rfl
    · rintro ⟨hfirst, hn⟩
      obtain ⟨q, hq, hto⟩ := rx.first_eq_false_iff.1 hfirst
      have := hahead q hq hto
      rw [Rx.ahead_of_last _ hq] at hn
      omega

end

section
/-! PROOFS. Sync, slots and stream periods of a link (R184, R185, R198, R202, Table 7-7). -/

namespace Sys2Proof.Machine

/-! ### Sync (R184) -/

theorem countTrue_map {α : Type} (p : α → Bool) (l : List α) : countTrue (l.map p) = l.countP p := by
  unfold countTrue
  rw [List.filter_map, List.length_map, List.countP_eq_length_filter]
  rfl

section
variable {s : State} {k : Fin 8} (dt : Nat)

theorem exec_linkSyncAcquired {p : Nat} (h : s.inReset = false) (hu : s.linkUsed k = true) (hy : (s.links[k]).sync = false) (hp : 3 ≤ p) :
    exec (.linkSyncAcquired dt k p) s = .next ((s.pass dt).modLink k (fun l => { l with sync := true, up := false })) := by
  have hx : exec (.linkSyncAcquired dt k p) s = execLinkSyncAcquired dt k p s := rfl
  have hu' : (s.pass dt).linkUsed k = true := hu
  rw [hx, execLinkSyncAcquired, State.when_true]
  rw [hu', State.pass_inReset, h, State.pass_links, hy, decide_eq_true hp]
  rfl

theorem exec_linkSyncAcquired_few {p : Nat} (hp : p < 3) : exec (.linkSyncAcquired dt k p) s = .next (s.pass dt) := by
  have hx : exec (.linkSyncAcquired dt k p) s = execLinkSyncAcquired dt k p s := rfl
  rw [hx, execLinkSyncAcquired, State.when_false]
  rw [decide_eq_false (Nat.not_le.2 hp), Bool.and_false]

theorem exec_linkSyncLoss {bad : BitVec 16} (h : s.inReset = false) (hu : s.linkUsed k = true) (hy : (s.links[k]).sync = true)
    (hb : 4 ≤ (List.range 16).countP (fun i => bad.getLsbD i)) : exec (.linkSyncLoss dt k bad) s =
      .next ((s.pass dt).dropFrame k (fun l => { l with sync := false, up := false, errSync := satInc l.errSync }) 7 0x0809) := by
  have hx : exec (.linkSyncLoss dt k bad) s = execLinkSyncLoss dt k bad s := rfl
  have hu' : (s.pass dt).linkUsed k = true := hu
  rw [hx, execLinkSyncLoss, State.when_true]
  · rfl
  rw [hu', State.pass_inReset, h, State.pass_links, hy, countTrue_map, decide_eq_true hb]
  rfl

/-! ### Slots (R185, R202) -/

/-- A slot of the link starts, and nothing is on the line yet. -/
def Link.startSlot (n : Nat) (l : Link) : Link := { l with txTick := some n, tx := none }

/-- A STATUS frame that was sent leaves the line and the slot alone. -/
theorem Link.statusSent_keeps (l : Link) : l.statusSent.tx = l.tx ∧ l.statusSent.ready = l.ready ∧ l.statusSent.txTick = l.txTick := by
  unfold Link.statusSent
  split
  · split
    · exact ⟨rfl, rfl, rfl⟩
    · split
      · split <;> exact ⟨rfl, rfl, rfl⟩
      · exact ⟨rfl, rfl, rfl⟩
  · split <;> exact ⟨rfl, rfl, rfl⟩

/-- The link in the slot that starts now, where a frame is fixed for a tick. -/
def State.sendReady (s : State) (k : Fin 8) (i : Nat) (a : Armed) (l : Link) : Link :=
  if a.tick = s.tickNo then
    if s.slotZero k i then
      ({ l with txTick := some s.tickNo, ready := none, tx := some a.bytes
                sent := ((s.stamp, s.now) :: l.sent).take 256 } : Link).statusSent
    else { l with txTick := some s.tickNo, ready := none, tx := some a.bytes }
  else { l with txTick := some s.tickNo, ready := none, tx := none }

theorem State.sendReady_spec (s : State) (k : Fin 8) (i : Nat) (a : Armed) (l : Link) : (s.sendReady k i a l).txTick = some s.tickNo ∧
    (a.tick = s.tickNo → (s.sendReady k i a l).tx = some a.bytes ∧ (s.sendReady k i a l).ready = none) := by
  unfold State.sendReady
  split
  · split
    · obtain ⟨htx, hready, htick⟩ := Link.statusSent_keeps ({ l with
        txTick := some s.tickNo, ready := none, tx := some a.bytes, sent := ((s.stamp, s.now) :: l.sent).take 256 } : Link)
      exact ⟨htick, fun _ => ⟨htx, hready⟩⟩
    · exact ⟨rfl, fun _ => ⟨rfl, rfl⟩⟩
  next h => exact ⟨rfl, fun ht => absurd ht h⟩

end

section
variable {s : State} {k : Fin 8} {i : Nat} (h : s.inReset = false) (hu : s.linkUsed k = true) (hi : s.slotAt k s.clk.tickTb = some i)
  (ht : (s.links[k]).txTick ≠ some s.tickNo)
include h hu hi ht

/-- A slot on a link that is looped back: the TEST frame of its loopback. -/
theorem exec_linkSlotStart_looped (hl : (s.links[k]).looped = true) : exec (.linkSlotStart k) s =
    .next (s.modLink k (fun l => { l with txTick := some s.tickNo, tx := s.testTx k })) := by
  have hx : exec (.linkSlotStart k) s = execLinkSlotStart k s := rfl
  have htest : (s.modLink k (Link.startSlot s.tickNo)).testTx k = s.testTx k := by
    unfold State.testTx
    rw [State.modLink_links, upd_get_same]
    rfl
  rw [hx, execLinkSlotStart, hi]
  dsimp only
  rw [State.when_true (by rw [h, hu, decide_eq_true ht]; rfl), if_pos hl, State.modLink_modLink]
  exact congrArg (fun x => Host.Outcome.next (s.modLink k (fun l => { l with txTick := some s.tickNo, tx := x }))) htest

/-- The frame fixed for the slot. -/
theorem exec_linkSlotStart_ready (hl : (s.links[k]).looped = false) {a : Armed} (ha : (s.links[k]).ready = some a) :
    exec (.linkSlotStart k) s = .next (s.modLink k (s.sendReady k i a)) := by
  have hx : exec (.linkSlotStart k) s = execLinkSlotStart k s := rfl
  rw [hx, execLinkSlotStart, hi]
  dsimp only
  rw [State.when_true (by rw [h, hu, decide_eq_true ht]; rfl), if_neg (ne_true_of_eq_false hl), ha]
  dsimp only
  unfold State.sendReady
  split
  next htick =>
    have htick' : a.tick = s.tickNo := htick
    simp only [if_pos htick']
    split
    next hz =>
      have hz' : s.slotZero k i = true := hz
      simp only [if_pos hz', State.modLink_modLink]
      rfl
    next hz =>
      have hz' : ¬ s.slotZero k i = true := hz
      simp only [if_neg hz', State.modLink_modLink]
  next htick =>
    have htick' : ¬ a.tick = s.tickNo := htick
    simp only [if_neg htick', State.modLink_modLink]

/-- A relayed frame. -/
theorem exec_linkSlotStart_relay (hl : (s.links[k]).looped = false) (ha : (s.links[k]).ready = none) {j : Nat} {f : RelayFrame}
    (hd : s.relayDue k i = some (j, f)) : exec (.linkSlotStart k) s = .next
      ({ s with relays := s.relays.mapIdx (fun n (b : List RelayFrame) => if n = j then b.drop 1 else b) }.modLink k (fun l =>
        { l with txTick := some s.tickNo, tx := some (s.relayedFrame k i f.bytes), relaySent := l.relaySent + 1 })) := by
  have hx : exec (.linkSlotStart k) s = execLinkSlotStart k s := rfl
  have hd' : (s.modLink k (Link.startSlot s.tickNo)).relayDue k i = some (j, f) := hd
  rw [hx, execLinkSlotStart, hi]
  dsimp only
  rw [State.when_true (by rw [h, hu, decide_eq_true ht]; rfl), if_neg (ne_true_of_eq_false hl), ha]
  unfold Link.startSlot at hd'
  dsimp only
  rw [hd']
  exact congrArg Host.Outcome.next (State.modLink_modLink
    { s with relays := s.relays.mapIdx (fun n (b : List RelayFrame) => if n = j then b.drop 1 else b) } k (Link.startSlot s.tickNo)
    (fun l => { l with tx := some (s.relayedFrame k i f.bytes), relaySent := l.relaySent + 1 }))

/-- Idle. -/
theorem exec_linkSlotStart_idle (hl : (s.links[k]).looped = false) (ha : (s.links[k]).ready = none) (hd : s.relayDue k i = none) :
    exec (.linkSlotStart k) s = .next (s.modLink k (Link.startSlot s.tickNo)) := by
  have hx : exec (.linkSlotStart k) s = execLinkSlotStart k s := rfl
  have hd' : (s.modLink k (Link.startSlot s.tickNo)).relayDue k i = none := hd
  rw [hx, execLinkSlotStart, hi]
  dsimp only
  rw [State.when_true (by rw [h, hu, decide_eq_true ht]; rfl), if_neg (ne_true_of_eq_false hl), ha]
  unfold Link.startSlot at hd' ⊢
  dsimp only
  rw [hd']

end
/-! ### Ends of stream periods (R198, Table 7-7) -/

theorem Rx.expires_of_got {rx : Rx} (h : rx.got = true) : rx.expires = false := by simp [Rx.expires, Rx.nextMissed, h]

theorem Rx.close_of_got {rx : Rx} (h : rx.got = true) (p : Nat) :
    rx.close p = { rx with periodEnd := rx.periodEnd + p, got := false, missed := 0 } := by
  simp [Rx.close, Rx.expires_of_got h, Rx.nextMissed, h]

/-- The third period in a row without a frame. -/
structure Rx.Third (rx : Rx) : Prop where
  got : rx.got = false
  missed : rx.missed = 2
  timedOut : rx.timedOut = false

theorem Rx.Third.expires {rx : Rx} (h : rx.Third) : rx.expires = true := by simp [Rx.expires, Rx.nextMissed, h.got, h.missed, h.timedOut]

theorem Rx.Third.close {rx : Rx} (h : rx.Third) (p : Nat) :
    rx.close p = { rx with periodEnd := rx.periodEnd + p, missed := 3, timedOut := true } := by
  simp [Rx.close, h.expires, Rx.nextMissed, h.got, h.missed, h.timedOut]

section
variable {s : State} {st : StreamRef} {rx : Rx} {k : Fin 8} (dt : Nat)

theorem exec_streamPeriodEnd (h : s.inReset = false) (hrx : s.rxOf st = some (rx, k)) (hu : s.linkUsed k = true)
    (hp : rx.periodEnd + s.periodOf st ≤ (s.pass dt).tb) : exec (.streamPeriodEnd dt st) s = .next ((s.pass dt).endPeriod st) := by
  have hx : exec (.streamPeriodEnd dt st) s = execStreamPeriodEnd dt st s := rfl
  have hrx' : (s.pass dt).rxOf st = some (rx, k) := hrx
  have hu' : (s.pass dt).linkUsed k = true := hu
  have hp' : rx.periodEnd + (s.pass dt).periodOf st ≤ (s.pass dt).tb := hp
  rw [hx, execStreamPeriodEnd, hrx']
  dsimp only
  rw [State.when_true]
  rw [hu', State.pass_inReset, h, decide_eq_true hp']
  rfl

end

/-- What the end of the third missed period leaves, before the timeout's consequence. -/
def State.timeOut (s : State) (st : StreamRef) (k : Fin 8) : State :=
  ((s.modRx st (Rx.close (s.periodOf st))).modLink k Link.countTimeout).lnkFault k 6 0x0808

section
variable {s : State} {st : StreamRef} {rx : Rx} {k : Fin 8} {i : Fin 3}

theorem State.endPeriod_of_got (h : s.rxOf st = some (rx, k)) (hg : rx.got = true) :
    s.endPeriod st = s.modRx st (Rx.close (s.periodOf st)) := by
  rw [State.endPeriod_eq h, Rx.expires_of_got hg]
  rfl

theorem State.endPeriod_third (h : s.rxOf st = some (rx, k)) (ht : rx.Third) : s.endPeriod st = (s.timeOut st k).streamLost st := by
  rw [State.endPeriod_eq h, if_pos ht.expires]
  rfl

theorem State.timeOut_rxOf (h : s.rxOf st = some (rx, k)) : (s.timeOut st k).rxOf st = some (rx.close (s.periodOf st), k) := by
  have hm := State.modRx_rxOf h (Rx.close (s.periodOf st))
  rw [← hm]
  exact ((State.modLink_takes _ k (f := Link.countTimeout) fun _ => rfl).trans (State.lnkFault_takes _ k 6 0x0808)).rxOf st

theorem State.endPeriod_rxOf (h : s.rxOf st = some (rx, k)) (ht : rx.Third) : (s.endPeriod st).rxOf st =
    some ({ rx with periodEnd := rx.periodEnd + s.periodOf st, missed := 3, timedOut := true }, k) := by
  rw [State.endPeriod_third h ht, (State.streamLost_takes _ st).rxOf, State.timeOut_rxOf h, ht.close]

theorem State.timeOut_lastFault (s : State) (st : StreamRef) (k : Fin 8) : (s.timeOut st k).lastFault 0x0808 k.val :=
  State.lnkFault_lastFault _ k 6 (by decide) (by decide) (by decide)

theorem State.timeOut_links (s : State) (st : StreamRef) (k : Fin 8) : (s.timeOut st k).links =
    upd (s.modRx st (Rx.close (s.periodOf st))).links k (fun l => Link.markFault 6 l.countTimeout) :=
  (State.lnkFault_same _ k 6 0x0808).links.trans (upd_upd _ k Link.countTimeout (Link.markFault 6))

theorem State.timeOut_same (s : State) (st : StreamRef) (k : Fin 8) :
    ({ s with links := (s.timeOut st k).links, areas := (s.timeOut st k).areas } : State).SameButLog (s.timeOut st k) := by
  have hf := State.lnkFault_same ((s.modRx st (Rx.close (s.periodOf st))).modLink k Link.countTimeout) k 6 0x0808
  have hl : (s.timeOut st k).links = _ := hf.links
  have ha : (s.timeOut st k).areas = _ := hf.areas
  rw [hl, ha]
  cases st <;> exact hf

/-- A stream whose receive side is its link's own times out: only the link changes. -/
theorem State.timeOut_onlyLink (hm : ∀ f, s.modRx st f = s.modLink k (fun l => { l with rx := f l.rx })) (hl : (s.links[k]).rx = rx)
    (ht : rx.Third) : s.onlyLink (s.timeOut st k) k { s.links[k] with
      rx := { rx with periodEnd := rx.periodEnd + s.periodOf st, missed := 3, timedOut := true }
      timeouts := satInc (s.links[k]).timeouts, fault := setBit (s.links[k]).fault 6 } 0x0808 := by
  have hd := s.dropFrame_onlyLink k (fun l => Link.countTimeout { l with rx := l.rx.close (s.periodOf st) }) 6
    (code := 0x0808) (by decide) (by decide) (by decide)
  rw [← State.modLink_dropFrame s k (fun l => { l with rx := l.rx.close (s.periodOf st) }) Link.countTimeout, ← hm] at hd
  rw [← ht.close, ← hl]
  exact hd

theorem State.rxOf_command_own {i : Fin 3} (h : s.rxOf (.command i) = some (rx, k)) : k = laneLink i ∧ (s.links[k]).rx = rx := by
  cases h
  exact ⟨rfl, rfl⟩

theorem State.rxOf_status_own {j : Fin 8} (h : s.rxOf (.status j) = some (rx, k)) : k = j ∧ (s.links[k]).rx = rx := by
  rw [State.rxOf_status] at h
  obtain ⟨-, he⟩ := Option.ite_none_right_eq_some.1 h
  cases he
  exact ⟨rfl, rfl⟩

/-- A neighbour's status stream that times out: a source is chosen again. -/
theorem State.endPeriod_status {j : Fin 8} (h : s.rxOf (.status j) = some (rx, k)) (ht : rx.Third) :
    OthersSame s.links (s.endPeriod (.status j)).links k ∧
    ({ s with links := (s.endPeriod (.status j)).links, tbs := (s.endPeriod (.status j)).tbs
              engines := (s.endPeriod (.status j)).engines } : State).SameButLog (s.endPeriod (.status j)) ∧
    ((s.endPeriod (.status j)).links[k]).timeouts = satInc (s.links[k]).timeouts := by
  obtain ⟨rfl, hl⟩ := State.rxOf_status_own h
  obtain ⟨hoth, hsame, hlink, -⟩ := State.timeOut_onlyLink (st := .status k) (fun _ => rfl) hl ht
  rw [State.endPeriod_third h ht]
  have hj := (s.timeOut (.status k) k).judgeSource_same
  change ({ s.timeOut (.status k) k with tbs := ((s.timeOut (.status k) k).streamLost (.status k)).tbs } : State).SameButLog
    ((s.timeOut (.status k) k).streamLost (.status k)) at hj
  generalize s.timeOut (.status k) k = u at hoth hsame hlink hj ⊢
  generalize u.streamLost (.status k) = t at hj ⊢
  have hlinks : t.links = u.links := hj.links
  refine ⟨hlinks ▸ hoth, ?_, by rw [hlinks, hlink]⟩
  have he : t.engines = s.engines := hj.engines.trans hsame.engines
  rw [he, hlinks]
  unfold State.SameButLog at *
  rw [hj, hsame]

/-- A stream to an area that times out: every point of the area is lost. -/
theorem State.endPeriod_area {i : Nat} {d : StreamDef} (h : s.rxOf (.area i) = some (rx, k)) (hd : s.cfg.streams[i]? = some d)
    (ht : rx.Third) : OthersSame s.links (s.endPeriod (.area i)).links k ∧
    ({ s with links := (s.endPeriod (.area i)).links, areas := (s.endPeriod (.area i)).areas
              engines := (s.endPeriod (.area i)).engines } : State).SameButLog (s.endPeriod (.area i)) ∧
    (s.endPeriod (.area i)).lastFault 0x0808 k.val ∧ s.linkPosted (s.endPeriod (.area i)) (.lost d.link d.peer (BitVec.allOnes 64)) := by
  have hsame := s.timeOut_same (.area i) k
  have hlast := s.timeOut_lastFault (.area i) k
  have hoth : OthersSame s.links (s.timeOut (.area i) k).links k := by
    rw [State.timeOut_links]
    exact upd_othersSame _ _ _
  rw [State.endPeriod_third h ht]
  generalize s.timeOut (.area i) k = u at hsame hlast hoth ⊢
  have hlost : u.streamLost (.area i) = (u.modArea i (fun a => { a with lostPts := BitVec.allOnes 64 })).postLink
      (.lost d.link d.peer (BitVec.allOnes 64)) := by
    have hdu : u.cfg.streams[i]? = some d := hsame.content.cfg ▸ hd
    rw [State.streamLost]
    rw [hdu]
  have hpost := u.postLink_linkPosted (.lost d.link d.peer (BitVec.allOnes 64))
  rw [hlost]
  refine ⟨hoth, ?_, hlast, fun e => ?_⟩
  · rw [State.postLink_frame rfl]
    unfold State.SameButLog at hsame ⊢
    rw [hsame]
    rfl
  · have he := hpost e
    rw [hsame.engines, State.late, hsame.clk] at he
    exact he

end
end Sys2Proof.Machine

open Sys2Proof Sys2Proof.Machine

/-- Settles O31: a slot has one of four outcomes, and the end of a stream period is `State.endPeriod`. -/
theorem linkSyncSlotsAndTimeouts : Obligations.LinkSyncSlotsAndTimeouts := by
  unfold Obligations.LinkSyncSlotsAndTimeouts
  refine ⟨fun s dt k p h hu hy hp => ?_, fun s dt k bad h hu hy hb => ?_, fun s dt k p hp => exec_linkSyncAcquired_few dt hp,
    fun s k i h hu hi ht => ?_, fun s dt st rx k h hrx hu hp hg => ?_, fun s dt i rx k h hrx hu hp hg hm ht => ?_,
    fun s dt i d rx k h hrx hd hu hp hg hm ht => ?_, fun s dt j rx k h hrx hu hp hg hm ht => ?_⟩
  · exact ⟨_, exec_linkSyncAcquired dt h hu hy hp, upd_othersSame _ _ _, rfl, upd_get_same _ _ _⟩
  · exact ⟨_, exec_linkSyncLoss dt h hu hy hb, (s.pass dt).dropFrame_onlyLink k _ 7 (by decide) (by decide) (by decide)⟩
  · rcases hl : (s.links[k]).looped with - | -
    · rcases ha : (s.links[k]).ready with - | a
      · rcases hd : s.relayDue k i with - | ⟨j, f⟩
        · refine ⟨_, exec_linkSlotStart_idle h hu hi ht hl ha hd, upd_othersSame _ _ _, rfl, ?_, nofun, fun _ _ => nofun,
            fun _ _ _ => ?_, fun _ _ _ _ => nofun⟩ <;> rw [State.modLink_links, upd_get_same]
          · rfl
          · exact ⟨rfl, rfl⟩
        · refine ⟨_, exec_linkSlotStart_relay h hu hi ht hl ha hd, upd_othersSame _ _ _, rfl, ?_, nofun, fun _ _ => nofun,
            fun _ _ => nofun, fun _ _ _ _ he => ?_⟩ <;> rw [State.modLink_links, upd_get_same]
          cases he
          exact ⟨rfl, rfl, rfl⟩
      · obtain ⟨htick, hsend⟩ := s.sendReady_spec k i a (s.links[k])
        refine ⟨_, exec_linkSlotStart_ready h hu hi ht hl ha, upd_othersSame _ _ _, rfl, ?_, nofun, fun _ _ he hnow => ?_, fun _ => nofun,
          fun _ _ _ => nofun⟩ <;> rw [State.modLink_links, upd_get_same]
        · exact htick
        · cases he
          obtain ⟨htx, hready⟩ := hsend hnow
          exact ⟨htx, hready, rfl⟩
    · refine ⟨_, exec_linkSlotStart_looped h hu hi ht hl, upd_othersSame _ _ _, rfl, ?_, fun _ => ?_, fun _ => nofun, nofun,
        fun _ _ => nofun⟩ <;> rw [State.modLink_links, upd_get_same]
      exact ⟨rfl, rfl⟩
  · have hrx' : (s.pass dt).rxOf st = some (rx, k) := hrx
    rw [exec_streamPeriodEnd dt h hrx hu hp, State.endPeriod_of_got hrx' hg]
    refine ⟨_, rfl, by cases st <;> rfl, ?_⟩
    rw [State.modRx_rxOf hrx', Rx.close_of_got hg]
    rfl
  · have hrx' : (s.pass dt).rxOf (.command i) = some (rx, k) := hrx
    obtain ⟨rfl, hl⟩ := State.rxOf_command_own hrx
    rw [exec_streamPeriodEnd dt h hrx hu hp, State.endPeriod_third hrx' ⟨hg, hm, ht⟩]
    exact ⟨_, rfl, State.timeOut_onlyLink (s := s.pass dt) (fun _ => rfl) hl ⟨hg, hm, ht⟩⟩
  · have hrx' : (s.pass dt).rxOf (.area i) = some (rx, k) := hrx
    obtain ⟨hoth, hsame, hlast, hpost⟩ := State.endPeriod_area hrx' hd ⟨hg, hm, ht⟩
    rw [exec_streamPeriodEnd dt h hrx hu hp]
    exact ⟨_, rfl, hoth, hsame, State.endPeriod_rxOf hrx' ⟨hg, hm, ht⟩, hlast, hpost⟩
  · have hrx' : (s.pass dt).rxOf (.status j) = some (rx, k) := hrx
    obtain ⟨hoth, hsame, hcount⟩ := State.endPeriod_status hrx' ⟨hg, hm, ht⟩
    rw [exec_streamPeriodEnd dt h hrx hu hp]
    exact ⟨_, rfl, hoth, hsame, State.endPeriod_rxOf hrx' ⟨hg, hm, ht⟩, hcount⟩

end

section
/-! PROOFS. Packets and votes of the interlocking lanes (R206, R229, R230, R233). -/

namespace Sys2Proof.Machine

/-! ### Replies and votes (R172, R229) -/

/-- `t` is `s` but for what replies change: links, and of the interpreter all but its votes and their counters. -/
def State.SameButReplies (s t : State) : Prop :=
  t = { s with links := t.links
               cmd := { t.cmd with votes := s.cmd.votes, voteExpired := s.cmd.voteExpired, voteNoThird := s.cmd.voteNoThird } }

section
variable {s t u : State}

theorem State.SameButReplies.refl (s : State) : s.SameButReplies s := rfl

theorem State.SameButReplies.trans (h : s.SameButReplies t) (k : t.SameButReplies u) : s.SameButReplies u := by
  unfold State.SameButReplies at *
  rw [k, h]

theorem State.SameButReplies.foldl {α : Type} {f : State → α → State} (h : ∀ (s : State) (a : α), s.SameButReplies (f s a))
    (l : List α) (s : State) : s.SameButReplies (l.foldl f s) := by
  induction l generalizing s with
  | nil => exact .refl s
  | cons a l ih => exact (h s a).trans (ih (f s a))

theorem State.SameButReplies.votes (h : s.SameButReplies t) : t.cmd.votes = s.cmd.votes := by
  unfold State.SameButReplies at h
  rw [h]

theorem State.SameButReplies.voteExpired (h : s.SameButReplies t) : t.cmd.voteExpired = s.cmd.voteExpired := by
  unfold State.SameButReplies at h
  rw [h]

theorem State.SameButReplies.mdl (h : s.SameButReplies t) : t.mdl = s.mdl := by
  unfold State.SameButReplies at h
  rw [h]

end

theorem State.sendPacket_replies (s : State) (path : Path) (bytes : List Byte) (tag : Option Nat) :
    s.SameButReplies (s.sendPacket path bytes tag) := by
  unfold State.sendPacket
  split
  · exact .refl _
  · split <;> exact .refl _

theorem State.releaseTag_replies (s : State) (id : Nat) : s.SameButReplies (s.releaseTag id) := by
  unfold State.releaseTag
  split
  · exact .refl s
  · dsimp only
    split
    · exact .trans (t := s.discardTag id) rfl (State.sendPacket_replies _ _ _ _)
    · rfl

theorem State.replyTag_replies (s : State) (id : Nat) (r : Result) : s.SameButReplies (s.replyTag id r) := by
  unfold State.replyTag
  split
  · exact .refl s
  next t _ =>
    split
    · exact .refl s
    · refine .trans (t := { s with cmd := { s.cmd with
        tags := s.cmd.tags.map (fun (x : TagEntry) => if x.id = id then { x with reply := some r } else x)
        dup := keepReply (hdrSource t.header) (hdrSeq t.header) r s.cmd.dup } }) rfl ?_
      dsimp only
      split
      · exact State.sendPacket_replies _ _ _ _
      · split
        · exact (State.sendPacket_replies _ _ _ _).trans (State.releaseTag_replies _ _)
        · exact .refl _

/-! ### Packets of a lane (R206, R229, R233) -/

theorem classOf_laneSource (i : Fin 3) : classOf (laneSource i) = some .v ∧ quotaOf (laneSource i) = 32 := by
  revert i
  decide

/-- The checks of a lane's packet, up to the decoding of its command. -/
structure Interp.Admits (c : Interp) (p : Packet) (i : Fin 3) (o : Op) : Prop where
  path : p.path = .lane i
  trailer : trailerOk p.bytes = true
  format : packetFormatOk p.bytes = true
  source : hdrSource p.bytes = laneSource i
  fresh : ∀ d ∈ c.dup, d.src ≠ hdrSource p.bytes ∨ d.seq ≠ hdrSeq p.bytes
  untagged : ∀ x ∈ c.tags, hdrSource x.header ≠ hdrSource p.bytes ∨ hdrTag x.header ≠ hdrTag p.bytes
  quota : c.inFlight (hdrSource p.bytes) < 32
  decoded : decodeOp (hdrOp p.bytes) (packetParams p.bytes) = some o
  defined : hdrOp p.bytes ∈ definedOpcodes
  admitted : classAdmits .v (hdrOp p.bytes) (packetParams p.bytes) = true

/-- A packet takes a tag and a place in the duplicate window. -/
def Interp.take (c : Interp) (p : Packet) : Interp :=
  { c with rxCnt := c.rxCnt + 1, nextId := c.nextId + 1
           tags := c.tags ++ [{ id := c.nextId, header := p.bytes.take 16, path := p.path }]
           dup := recordSeq (hdrSource p.bytes) (hdrSeq p.bytes) c.dup }

theorem State.taggedPacket_lane {c : Interp} {p : Packet} {i : Fin 3} {o : Op} (h : c.Admits p i o) (s : State) (tag : Nat) :
    s.taggedPacket p tag (hdrSource p.bytes) = s.votePacket i p tag o := by
  obtain ⟨hclass, -⟩ := classOf_laneSource i
  rw [State.taggedPacket, h.source, hclass, h.path, h.decoded]
  dsimp only
  have hdefined : definedOpcodes.contains (hdrOp p.bytes) = true := List.contains_iff_mem.2 h.defined
  exact (if_neg (by rw [hdefined]; decide)).trans (if_neg (by rw [h.admitted]; decide))

theorem State.packet_lane {s : State} {p : Packet} {i : Fin 3} {o : Op} (h : s.cmd.Admits p i o) :
    s.packet p = { s with cmd := s.cmd.take p }.votePacket i p s.cmd.nextId o := by
  obtain ⟨-, hquota⟩ := classOf_laneSource i
  have hdup : s.cmd.dup.find? (fun d => decide (d.src = hdrSource p.bytes ∧ d.seq = hdrSeq p.bytes)) = none :=
    List.find?_eq_none.2 fun d hd => by
      rw [decide_eq_true_eq, not_and_or]
      exact h.fresh d hd
  have htag : s.cmd.tags.any (fun t => decide (hdrSource t.header = hdrSource p.bytes ∧ hdrTag t.header = hdrTag p.bytes)) = false :=
    List.any_eq_false.2 fun x hx => by
      rw [decide_eq_true_eq, not_and_or]
      exact h.untagged x hx
  have hsrc : sourceOk p.path (hdrSource p.bytes) = true := by
    rw [h.path, sourceOk]
    exact decide_eq_true h.source
  have hq : ¬ quotaOf (hdrSource p.bytes) ≤ s.cmd.inFlight (hdrSource p.bytes) := by
    rw [Nat.not_le, h.source, hquota, ← h.source]
    exact h.quota
  have htagged : State.packet s p = { s with cmd := s.cmd.take p }.taggedPacket p s.cmd.nextId (hdrSource p.bytes) := by
    rw [State.packet, h.trailer]
    dsimp only
    rw [h.format, hsrc, hdup, htag]
    exact if_neg hq
  rw [htagged, State.taggedPacket_lane h]

/-- A lane's packet opens a vote where none waits for it. -/
theorem State.votePacket_opens {s : State} {i : Fin 3} {p : Packet} (h : s.cmd.openVote (voteKey p.bytes) i p.at' = none)
    (hint : hdrInterim p.bytes = false) (tag : Nat) (o : Op) : s.votePacket i p tag o = { s with cmd := { s.cmd with
      nextId := s.cmd.nextId + 1
      votes := s.cmd.votes ++
        [{ id := s.cmd.nextId, key := voteKey p.bytes, t0 := p.at', lanes := [i], tags := [tag], exempt := p.exempt }] } } := by
  rw [State.votePacket, h]
  dsimp only
  rw [hint]
  rfl

/-- A vote with the lane and the tag of the packet that admits it. -/
def Vote.withSecond (v : Vote) (i : Fin 3) (tag : Nat) (exempt : Bool) : Vote :=
  { v with lanes := v.lanes ++ [i], tags := v.tags ++ [tag], admitted := true, confirmed := false, exempt := exempt }

/-- A second lane's packet admits the vote that waits for it. -/
theorem State.votePacket_admits {s : State} {i : Fin 3} {p : Packet} {v : Vote}
    (h : s.cmd.openVote (voteKey p.bytes) i p.at' = some v) (hv : v.admitted = false) (tag : Nat) (o : Op) :
    s.votePacket i p tag o = (s.modVote v.id (fun _ => v.withSecond i tag (v.exempt || p.exempt))).admitVote
      (v.withSecond i tag (v.exempt || p.exempt)) o p.bytes := by
  rw [State.votePacket, h]
  dsimp only
  rw [hv, Bool.not_false, Bool.and_true]
  rfl

/-- A command of an engine waits for it. -/
def Interp.wait (c : Interp) (e : Fin 4) (x : Cmd) (t : Nat) : Interp :=
  { c with waiting := c.waiting ++ [{ eng := e, cmd := x, at' := t }] }

theorem State.passOn_waits {s : State} {c : Cmd} {e : Fin 4} (hon : c.op.onAdmission = false) (he : s.executor c.op = some e) :
    s.passOn c = { s with cmd := s.cmd.wait e c s.now } := by
  rw [State.passOn, if_neg (ne_true_of_eq_false hon), he]
  rfl

/-- The interpreter counts an admission and keeps what it shows of it. -/
def Interp.countAdmission (c : Interp) (v : Vote) (o : Op) (hdr : List Byte) : Interp :=
  { c with
    admitCnt := c.admitCnt + 1, lastOp := o.code, lastVote := some v.id, lastCycle := hdrCycle hdr
    lastLanes := v.lanes.foldl (fun (w : BitVec 3) (i : Fin 3) => w ||| (1#3 <<< i.val)) 0 }

/-- An admitted command that is not exempt waits for its engine. -/
theorem State.admitVote_waits {s : State} {v : Vote} {o : Op} {e : Fin 4} (ht : s.testing = false) (hv : v.exempt = false)
    (hon : o.onAdmission = false) (he : s.executor o = some e) (hdr : List Byte) : s.admitVote v o hdr =
      { s with cmd := (s.cmd.countAdmission v o hdr).wait e { who := .lanes false, op := o, ref := .vote v.id } s.now } := by
  have hwait := State.passOn_waits (s := { s with cmd := s.cmd.countAdmission v o hdr })
    (c := { who := .lanes false, op := o, ref := .vote v.id }) (e := e) hon he
  rw [State.admitVote, hv]
  dsimp only
  split
  · exact hwait
  · exact (if_neg (ne_true_of_eq_false ht)).trans ((if_neg Bool.false_ne_true).trans hwait)

theorem exec_commandPacket_waiting {s : State} {p : Packet} {rest : List Packet} (dt : Nat) (h : s.inReset = false)
    (hin : s.cmd.inbox = p :: rest) :
    exec (.commandPacket dt .waiting) s = .next ({ s.pass dt with cmd := { s.cmd with inbox := rest } }.packet p) := by
  have hx : exec (.commandPacket dt .waiting) s = execCommandPacket dt .waiting s := rfl
  rw [hx, execCommandPacket, State.when_true (by rw [h]; rfl)]
  dsimp only
  rw [State.pass_cmd, hin]

/-- The state at `dt` in which the first packet that waited takes effect. -/
def State.takeNext (s : State) (dt : Nat) (p : Packet) (rest : List Packet) : State :=
  { s.pass dt with cmd := { s.cmd with inbox := rest }.take p }

theorem exec_commandPacket_lane {s : State} {p : Packet} {rest : List Packet} {i : Fin 3} {o : Op} (dt : Nat) (h : s.inReset = false)
    (hin : s.cmd.inbox = p :: rest) (ha : s.cmd.Admits p i o) : exec (.commandPacket dt .waiting) s =
      .next ((s.takeNext dt p rest).votePacket i p s.cmd.nextId o) := by
  have ha' : ({ s.cmd with inbox := rest } : Interp).Admits p i o :=
    ⟨ha.path, ha.trailer, ha.format, ha.source, ha.fresh, ha.untagged, ha.quota, ha.decoded, ha.defined, ha.admitted⟩
  exact (exec_commandPacket_waiting dt h hin).trans
    (congrArg _ (State.packet_lane (s := { s.pass dt with cmd := { s.cmd with inbox := rest } }) ha'))

/-- The packet that arrives at `dt` with its path. -/
def State.arriving (s : State) (dt : Nat) (path : Path) (bytes : List Byte) : Packet :=
  { path := path, bytes := bytes, exempt := decide (path ≠ .mailbox) && !s.clk.signed, at' := s.now + dt }

theorem exec_commandPacket_direct {s : State} {path : Path} (dt : Nat) (bytes : List Byte) (h : s.inReset = false)
    (hon : path ≠ .mailbox ∨ s.pewterOn = true) :
    exec (.commandPacket dt (.direct path bytes)) s = .next ((s.pass dt).packet (s.arriving dt path bytes)) := by
  have hx : exec (.commandPacket dt (.direct path bytes)) s = execCommandPacket dt (.direct path bytes) s := rfl
  have hopen : ¬ (decide (path ≠ .mailbox) = false ∧ (s.pass dt).pewterOn = false) := by
    rintro ⟨hpath, hoff⟩
    rcases hon with hon | hon
    · exact of_decide_eq_false hpath hon
    · exact Bool.false_ne_true (hoff.symm.trans hon)
  rw [hx, execCommandPacket, State.when_true (by rw [h]; rfl)]
  exact congrArg _ (if_neg hopen)

/-- A packet given with its path is one that waited alone. -/
theorem exec_commandPacket_direct_eq_waiting {s : State} {path : Path} (dt : Nat) (bytes : List Byte) (h : s.inReset = false)
    (hin : s.cmd.inbox = []) (hon : path ≠ .mailbox ∨ s.pewterOn = true) : exec (.commandPacket dt (.direct path bytes)) s =
      exec (.commandPacket dt .waiting) { s with cmd := { s.cmd with inbox := [s.arriving dt path bytes] } } := by
  have hsame : ({ s.cmd with inbox := [] } : Interp) = s.cmd := by rw [← hin]
  rw [exec_commandPacket_direct dt bytes h hon]
  exact (congrArg (fun c => Host.Outcome.next (({ s.pass dt with cmd := c } : State).packet (s.arriving dt path bytes))) hsame).symm.trans
    (exec_commandPacket_waiting (s := { s with cmd := { s.cmd with inbox := [s.arriving dt path bytes] } }) dt h rfl).symm

/-! ### The end of a vote's window (R230) -/

/-- `t` is `s` but for links, the interpreter and the log. -/
def State.SameButVoting (s t : State) : Prop := ({ s with cmd := t.cmd, links := t.links } : State).SameButLog t

theorem State.SameButVoting.trans {s t u : State} (h : s.SameButVoting t) (k : t.SameButVoting u) : s.SameButVoting u := by
  unfold State.SameButVoting State.SameButLog at *
  rw [k, h]

theorem State.SameButReplies.voting {s t : State} (h : s.SameButReplies t) : s.SameButVoting t := by
  unfold State.SameButReplies State.SameButVoting State.SameButLog at *
  rw [h]

theorem State.modVote_voting (s : State) (id : Nat) (f : Vote → Vote) : s.SameButVoting (s.modVote id f) := rfl

theorem State.dropVotes_voting (s : State) : s.SameButVoting s.dropVotes := rfl

/-- The state in which a vote is answered, before the votes that are done are dropped. -/
def State.answerTags (s : State) (v : Vote) (id : Nat) (r : Result) : State :=
  v.tags.foldl (fun s t => s.replyTag t r) (s.modVote id (fun v => { v with reply := some r }))

theorem State.answerTags_replies (s : State) (v : Vote) (id : Nat) (r : Result) :
    (s.modVote id (fun v => { v with reply := some r })).SameButReplies (s.answerTags v id r) :=
  .foldl (fun s t => s.replyTag_replies t r) _ _

theorem State.answer_vote {s : State} {id : Nat} {v : Vote} (h : s.cmd.vote id = some v) (r : Result) :
    s.answer (.vote id) r = (s.answerTags v id r).dropVotes := by
  rw [State.answer]
  simp only [h]
  rfl

theorem State.dropVotes_mem {s : State} {w : Vote} (h : w ∈ s.dropVotes.cmd.votes) : w ∈ s.cmd.votes := List.mem_of_mem_filter h

/-- The answer to a vote changes its own entry, and no window of any. -/
theorem State.answer_vote_spec (s : State) (id : Nat) (r : Result) : s.SameButVoting (s.answer (.vote id) r) ∧
    ∀ w ∈ (s.answer (.vote id) r).cmd.votes, ∃ x ∈ s.cmd.votes, x.id = w.id ∧ x.closed = w.closed ∧
      (w.id ≠ id → w = x) := by
  rcases h : s.cmd.vote id with - | v
  · have he : s.answer (.vote id) r = s := by
      rw [State.answer]
      simp only [h]
    rw [he]
    exact ⟨rfl, fun w hw => ⟨w, hw, rfl, rfl, fun _ => rfl⟩⟩
  · rw [State.answer_vote h]
    have hr := s.answerTags_replies v id r
    refine ⟨((s.modVote_voting id _).trans hr.voting).trans (State.dropVotes_voting _), fun w hw => ?_⟩
    have hw' := State.dropVotes_mem hw
    rw [hr.votes] at hw'
    obtain ⟨x, hx, rfl⟩ := List.mem_map.1 hw'
    refine ⟨x, hx, ?_⟩
    split
    next hid => exact ⟨rfl, rfl, fun hne => absurd hid hne⟩
    · exact ⟨rfl, rfl, fun _ => rfl⟩

/-- A vote without a second lane is logged and counted. -/
def State.countExpired (s : State) : State :=
  { (s.cmdFault 7 0x0A10) with cmd := { (s.cmdFault 7 0x0A10).cmd with voteExpired := satInc (s.cmdFault 7 0x0A10).cmd.voteExpired } }

theorem State.countExpired_spec (s : State) : s.SameButVoting s.countExpired ∧ s.countExpired.cmd.votes = s.cmd.votes ∧
    s.countExpired.cmd.voteExpired = satInc s.cmd.voteExpired ∧ s.countExpired.lastFault 0x0A10 0xFFFF := by
  have hf := State.fault_same { s with cmd := { s.cmd with fault := setBit s.cmd.fault 7 } } 0x0A10 0xFFFF
  have hl : (s.cmdFault 7 0x0A10).lastFault 0x0A10 0xFFFF :=
    State.fault_lastFault _ 0x0A10 0xFFFF (by decide) (by decide) (by decide) (by decide)
  change ({ s with cmd := { s.cmd with fault := setBit s.cmd.fault 7 } } : State).SameButLog (s.cmdFault 7 0x0A10) at hf
  have hc : (s.cmdFault 7 0x0A10).cmd = { s.cmd with fault := setBit s.cmd.fault 7 } := hf.cmd
  refine ⟨?_, ?_, ?_, ?_⟩
  · unfold State.SameButVoting State.SameButLog State.countExpired at *
    rw [hf]
  · rw [State.countExpired]
    dsimp only
    rw [hc]
  · rw [State.countExpired]
    dsimp only
    rw [hc]
  · rw [State.lastFault, State.countExpired]
    exact hl

/-- The window of a vote is marked as over. -/
def State.markClosed (s : State) (id : Nat) : State := s.modVote id (fun v => { v with closed := true })

theorem State.closeVote_admitted {s : State} {v : Vote} (h : v.admitted = true) : s.closeVote v =
    (if v.confirmed then s.markClosed v.id
     else { s.markClosed v.id with cmd := { (s.markClosed v.id).cmd with voteNoThird := satInc s.cmd.voteNoThird } }).dropVotes := by
  rw [State.closeVote]
  exact if_pos h

theorem State.closeVote_expired {s : State} {v : Vote} (h : v.admitted = false) :
    s.closeVote v = (s.markClosed v.id).countExpired.answer (.vote v.id) { status := stVoteExpired } := by
  rw [State.closeVote]
  exact if_neg (ne_true_of_eq_false h)

/-- What the end of one window leaves. -/
theorem State.closeVote_spec (s : State) (v : Vote) : s.SameButVoting (s.closeVote v) ∧
    ∀ w ∈ (s.closeVote v).cmd.votes, w.closed = true ∨ (w ∈ s.cmd.votes ∧ w.id ≠ v.id) := by
  have hclosed : ∀ x ∈ (s.markClosed v.id).cmd.votes, x.closed = true ∨ (x ∈ s.cmd.votes ∧ x.id ≠ v.id) := by
    intro x hx
    obtain ⟨y, hy, rfl⟩ := List.mem_map.1 hx
    split
    · exact .inl rfl
    next hid => exact .inr ⟨hy, hid⟩
  rcases h : v.admitted with - | -
  · obtain ⟨hcount, hvotes, -, -⟩ := (s.markClosed v.id).countExpired_spec
    obtain ⟨hans, hmem⟩ := (s.markClosed v.id).countExpired.answer_vote_spec v.id { status := stVoteExpired }
    rw [State.closeVote_expired h]
    refine ⟨((s.modVote_voting v.id _).trans hcount).trans hans, fun w hw => ?_⟩
    obtain ⟨x, hx, hid, hcl, heq⟩ := hmem w hw
    rcases hclosed x (hvotes ▸ hx) with hxc | ⟨hxs, hxid⟩
    · exact .inl (hcl ▸ hxc)
    · exact .inr ⟨(heq (hid ▸ hxid)).symm ▸ hxs, hid ▸ hxid⟩
  · rw [State.closeVote_admitted h]
    refine ⟨.trans ?_ (State.dropVotes_voting _), fun w hw => hclosed w ?_⟩
    · split <;> rfl
    · have hw' := State.dropVotes_mem hw
      split at hw' <;> exact hw'

theorem foldl_closeVote_spec (l : List Vote) (s : State) : s.SameButVoting (l.foldl State.closeVote s) ∧
    ∀ w ∈ (l.foldl State.closeVote s).cmd.votes, w.closed = true ∨ (w ∈ s.cmd.votes ∧ w ∉ l) := by
  induction l generalizing s with
  | nil => exact ⟨rfl, fun w hw => .inr ⟨hw, List.not_mem_nil⟩⟩
  | cons v l ih =>
    obtain ⟨hframe, hmem⟩ := s.closeVote_spec v
    obtain ⟨hframe', hmem'⟩ := ih (s.closeVote v)
    refine ⟨hframe.trans hframe', fun w hw => ?_⟩
    rcases hmem' w hw with hc | ⟨hw', hl⟩
    · exact .inl hc
    · rcases hmem w hw' with hc | ⟨hs, hid⟩
      · exact .inl hc
      · exact .inr ⟨hs, List.not_mem_cons_of_ne_of_not_mem (fun he => hid (congrArg Vote.id he)) hl⟩

/-- Windows that are open and over. -/
def State.lateVotes (s : State) : List Vote := s.cmd.votes.filter (fun v => !v.closed && decide (v.t0 + 20000000 ≤ s.now))

theorem State.mem_lateVotes {s : State} {v : Vote} :
    v ∈ s.lateVotes ↔ v ∈ s.cmd.votes ∧ v.closed = false ∧ v.t0 + 20000000 ≤ s.now := by
  simp [State.lateVotes]

theorem State.lateVotes_single {s : State} {v : Vote} (h : s.cmd.votes = [v]) (hc : v.closed = false) (hl : v.t0 + 20000000 ≤ s.now) :
    s.lateVotes = [v] := by
  simp [State.lateVotes, h, hc, hl]

theorem State.not_late {s : State} {v : Vote} (h : v ∈ s.cmd.votes) (hl : v ∉ s.lateVotes) :
    v.closed = true ∨ s.now < v.t0 + 20000000 := by
  rw [State.mem_lateVotes] at hl
  by_contra hc
  rw [not_or, Nat.not_lt, Bool.not_eq_true] at hc
  exact hl ⟨h, hc⟩

theorem State.lateVotes_nil {s : State} (h : ∀ v ∈ s.cmd.votes, v.closed = true ∨ s.now < v.t0 + 20000000) : s.lateVotes = [] := by
  refine List.eq_nil_iff_forall_not_mem.2 fun v hv => ?_
  obtain ⟨hmem, hclosed, hlate⟩ := State.mem_lateVotes.1 hv
  rcases h v hmem with hc | hl
  · exact Bool.false_ne_true (hclosed.symm.trans hc)
  · exact Nat.not_le.2 hl hlate

theorem exec_voteWindowEnd {s : State} (dt : Nat) (h : s.inReset = false) :
    exec (.voteWindowEnd dt) s = .next ((s.pass dt).lateVotes.foldl State.closeVote (s.pass dt)) := by
  have hx : exec (.voteWindowEnd dt) s = execVoteWindowEnd dt s := rfl
  rw [hx, execVoteWindowEnd, State.when_true (by rw [h]; rfl)]
  rfl

theorem State.closeVote_single_expired {s : State} {v : Vote} (hv : s.cmd.votes = [v]) (h : v.admitted = false) :
    (s.closeVote v).cmd.voteExpired = satInc s.cmd.voteExpired ∧ (s.closeVote v).lastFault 0x0A10 0xFFFF ∧
    (s.closeVote v).cmd.votes = [] := by
  obtain ⟨-, hvotes, hexp, hlast⟩ := (s.markClosed v.id).countExpired_spec
  have hmark : (s.markClosed v.id).cmd.votes = [{ v with closed := true }] := by
    simp [State.markClosed, State.modVote, hv]
  rw [State.closeVote_expired h]
  rw [hmark] at hvotes
  generalize (s.markClosed v.id).countExpired = u at hvotes hexp hlast
  have hvote : u.cmd.vote v.id = some { v with closed := true } := by simp [Interp.vote, hvotes]
  have hr := u.answerTags_replies { v with closed := true } v.id { status := stVoteExpired }
  rw [State.answer_vote hvote]
  refine ⟨hr.voteExpired.trans hexp, ?_, ?_⟩
  · exact (congrArg Mdl.faultLast hr.mdl).trans hlast
  · simp [State.dropVotes, hr.votes, State.modVote, hvotes]

end Sys2Proof.Machine

open Sys2Proof Sys2Proof.Machine

/-- Settles O48: a lane's packet is one step of its vote, and a window's end closes the vote. That a packet given with its lane's path is
exempt at an instant without a signing engine, and that the mailbox is closed while Pewter is out of service, are the model's choices
(log 32). -/
theorem votesOfTheLanes : Obligations.VotesOfTheLanes := by
  unfold Obligations.VotesOfTheLanes
  refine ⟨fun s dt p rest i o h hin hpath htr hf hsrc hdup htag hq ho hdef hadm hopen hint => ?_,
    fun s dt p rest i o v h hin hpath htr hf hsrc hdup htag hq ho hdef hadm hopen hv ht hp hve e hon he => ?_,
    fun s dt path bytes h hin hon => exec_commandPacket_direct_eq_waiting dt bytes h hin hon,
    fun s dt h => ⟨_, exec_voteWindowEnd dt h, ?_⟩⟩
  · rw [exec_commandPacket_lane dt h hin ⟨hpath, htr, hf, hsrc, hdup, htag, hq, ho, hdef, hadm⟩,
      State.votePacket_opens (s := s.takeNext dt p rest) hopen hint]
    exact ⟨_, rfl, rfl, rfl, rfl, rfl, rfl, rfl⟩
  · rw [exec_commandPacket_lane dt h hin ⟨hpath, htr, hf, hsrc, hdup, htag, hq, ho, hdef, hadm⟩,
      State.votePacket_admits (s := s.takeNext dt p rest) hopen hv]
    have hwait := State.admitVote_waits (v := v.withSecond i s.cmd.nextId (v.exempt || p.exempt))
      (s := (s.takeNext dt p rest).modVote v.id (fun _ => v.withSecond i s.cmd.nextId (v.exempt || p.exempt)))
      ht (by rw [Vote.withSecond, hve, hp]; rfl) hon he p.bytes
    rw [hwait]
    exact ⟨_, rfl, rfl, rfl, rfl, rfl, rfl⟩
  · obtain ⟨hframe, hmem⟩ := foldl_closeVote_spec (s.pass dt).lateVotes (s.pass dt)
    refine ⟨hframe, fun v hv => ?_, fun hall => ?_, fun v hv hc ha hlate => ?_, fun v hv hc ha hcf hlate => ?_⟩
    · rcases hmem v hv with hc | ⟨hvs, hl⟩
      · exact .inl hc
      · exact State.not_late hvs hl
    · rw [State.lateVotes_nil hall]
      rfl
    · rw [State.lateVotes_single (s := s.pass dt) hv hc hlate]
      exact State.closeVote_single_expired hv ha
    · rw [State.lateVotes_single (s := s.pass dt) hv hc hlate, List.foldl_cons, List.foldl_nil, State.closeVote_admitted ha, hcf]
      exact ⟨rfl, rfl, rfl⟩

end

section
/-! PROOFS. Byte strings and TEST frames (R10, R187, R190, R216, R217). -/

namespace Sys2Proof.Machine

/-! ### Numbers in byte strings (R10) -/

theorem toBytes_length (n v : Nat) : (toBytes n v).length = n := by
  induction n with
  | zero => rfl
  | succ n ih => rw [toBytes, List.length_cons, ih]

/-- The bytes after those that make `a`. -/
theorem foldl_toBytes (n v a : Nat) : (toBytes n v).foldl (fun a b => a * 256 + b.toNat) a = a * 256 ^ n + v % 256 ^ n := by
  induction n generalizing a with
  | zero => simp [toBytes, Nat.mod_one]
  | succ n ih =>
    rw [toBytes, List.foldl_cons, ih, BitVec.toNat_ofNat, Nat.mod_pow_succ (b := 256)]
    ring

theorem ofBytes_toBytes (n v : Nat) : ofBytes (toBytes n v) = v % 256 ^ n := by
  rw [ofBytes, foldl_toBytes, Nat.zero_mul, Nat.zero_add]

theorem ofBytes_toBytes_word (w : Word) : ofBytes (toBytes 4 w.toNat) = w.toNat := by
  rw [ofBytes_toBytes]
  exact Nat.mod_eq_of_lt w.isLt

theorem bytesAt_append_left {a : List Byte} {i n : Nat} (h : i + n ≤ a.length) (b : List Byte) :
    bytesAt (a ++ b) i n = bytesAt a i n := by
  rw [bytesAt, bytesAt, List.drop_append_of_le_length (by omega), List.take_append_of_le_length (by rw [List.length_drop]; omega)]

theorem bytesAt_append_right {a : List Byte} {i : Nat} (h : a.length = i) (b : List Byte) (n : Nat) :
    bytesAt (a ++ b) i n = ofBytes (b.take n) := by
  rw [bytesAt, List.drop_left' h]

/-- The number that stands in a string between two parts. -/
theorem bytesAt_middle {a b : List Byte} {i n : Nat} (ha : a.length = i) (hb : b.length = n) (c : List Byte) :
    bytesAt (a ++ (b ++ c)) i n = ofBytes b := by
  rw [bytesAt_append_right ha, List.take_left' hb]

theorem byteAt_append_left {a : List Byte} {i : Nat} (h : i < a.length) (b : List Byte) : byteAt (a ++ b) i = byteAt a i := by
  rw [byteAt, byteAt, List.getD_append _ _ _ _ h]

/-! ### Inverted bits -/

theorem flipBit_length (l : List Byte) (b : Nat) : (flipBit l b).length = l.length := List.length_mapIdx

/-- A bit of the second part. -/
theorem flipBit_append_right (a l : List Byte) (b : Nat) : flipBit (a ++ l) (8 * a.length + b) = a ++ flipBit l b := by
  have hdiv : (8 * a.length + b) / 8 = a.length + b / 8 := by omega
  have hmod : (8 * a.length + b) % 8 = b % 8 := by omega
  rw [flipBit, flipBit, List.mapIdx_append, hdiv, hmod]
  congr 1
  · refine List.ext_getElem (by simp) fun i hi hi' => ?_
    have : i ≠ a.length + b / 8 := by rw [List.length_mapIdx] at hi; omega
    simp [this]
  · simp only [Nat.add_comm _ a.length, Nat.add_left_cancel_iff]

/-- A bit of the first part. -/
theorem flipBit_append_left {a : List Byte} {b : Nat} (h : b < 8 * a.length) (l : List Byte) : flipBit (a ++ l) b = flipBit a b ++ l := by
  rw [flipBit, flipBit, List.mapIdx_append]
  congr 1
  refine List.ext_getElem (by simp) fun i hi hi' => ?_
  have : i + a.length ≠ b / 8 := by omega
  simp [this]

/-- The last bit of four bytes makes another number. -/
theorem ofBytes_flipBit {l : List Byte} (h : l.length = 4) : ofBytes (flipBit l 31) ≠ ofBytes l := by
  obtain ⟨x, y, z, w, rfl⟩ := List.length_eq_four.1 h
  have hf : flipBit [x, y, z, w] 31 = [x, y, z, w ^^^ 1#8] := rfl
  rw [hf]
  simp [ofBytes]

/-! ### Check values of a frame (R187, R190) -/

theorem word_toNat_eq_xor_iff (w x : Word) : w.toNat = (w ^^^ x).toNat ↔ x = 0 := by
  rw [BitVec.toNat_inj, eq_comm]
  exact xor_left_eq_self_iff

theorem safetyCode_append {b : List Byte} (h : b.length = 244) (seed : Word) (c : List Byte) :
    safetyCode seed (b ++ c) = safetyCode seed b := by
  rw [safetyCode, safetyCode, List.take_left' h, ← h, List.take_length]

/-- The check of the CRC of a frame, by the bytes that carry it. -/
theorem crcFits_append {l c : List Byte} (h : l.length = 252) (hc : c.length = 4) (bad : Word) :
    crcFits bad (l ++ c) = decide (ofBytes c = (crc32c l ^^^ bad).toNat) := by
  rw [crcFits, bytesAt_append_right h, List.take_left' h, ← hc, List.take_length]

/-- The check of the safety code of a frame, by the bytes that carry it. -/
theorem scFits_append {l c : List Byte} (h : l.length = 244) (hc : c.length = 4) (seed bad : Word) (d : List Byte) :
    scFits seed bad (l ++ (c ++ d)) = decide (ofBytes c = (safetyCode seed l ^^^ bad).toNat) := by
  rw [scFits, bytesAt_middle h hc, safetyCode_append h]

/-- A frame with its own CRC fits a checker that computes right, and no other. -/
theorem crcFits_framed {l : List Byte} (h : l.length = 252) (bad : Word) :
    crcFits bad (l ++ toBytes 4 (crc32c l).toNat) = decide (bad = 0) := by
  rw [crcFits_append h (toBytes_length 4 _), ofBytes_toBytes_word, decide_eq_decide]
  exact word_toNat_eq_xor_iff _ _

/-- The same for the safety code. -/
theorem scFits_framed {l : List Byte} (h : l.length = 244) (seed bad : Word) (d : List Byte) :
    scFits seed bad (l ++ (toBytes 4 (safetyCode seed l).toNat ++ d)) = decide (bad = 0) := by
  rw [scFits_append h (toBytes_length 4 _), ofBytes_toBytes_word, decide_eq_decide]
  exact word_toNat_eq_xor_iff _ _

/-- The number that four bytes with the last bit inverted carry is not the word that they carried. -/
theorem ofBytes_flipBit_toBytes (w : Word) : ofBytes (flipBit (toBytes 4 w.toNat) 31) ≠ (w ^^^ 0).toNat := by
  have hflip := ofBytes_flipBit (toBytes_length 4 w.toNat)
  rw [ofBytes_toBytes_word] at hflip
  exact hflip.trans_eq (congrArg BitVec.toNat BitVec.xor_zero.symm)

/-- The last bit of the CRC inverted. -/
theorem crcFits_flipBit {l : List Byte} (h : l.length = 252) :
    crcFits 0 (flipBit (l ++ toBytes 4 (crc32c l).toNat) 2047) = false := by
  have hflip := flipBit_append_right l (toBytes 4 (crc32c l).toNat) 31
  rw [h] at hflip
  rw [hflip, crcFits_append h (by rw [flipBit_length, toBytes_length])]
  exact decide_eq_false (ofBytes_flipBit_toBytes _)

/-- The last bit of the safety code inverted. -/
theorem scFits_flipBit {l : List Byte} (h : l.length = 244) (seed : Word) (c d : List Byte) :
    scFits seed 0 (flipBit (l ++ (toBytes 4 (safetyCode seed l).toNat ++ c)) 1983 ++ d) = false := by
  have hflip := flipBit_append_right l (toBytes 4 (safetyCode seed l).toNat ++ c) 31
  rw [h, flipBit_append_left (a := toBytes 4 _) (by rw [toBytes_length]; decide)] at hflip
  rw [hflip, List.append_assoc, List.append_assoc, scFits_append h (by rw [flipBit_length, toBytes_length])]
  exact decide_eq_false (ofBytes_flipBit_toBytes _)

/-! ### Frames that the module sources (R187) -/

section
variable (s : State) (k : Fin 8) (slot : Nat) (h : FrameHdr) (p : List Byte)

/-- FLAGS of a sourced frame. -/
def State.frameFlags : Nat := h.segs * 64 + b2n s.debugging * 32 + b2n s.wideWhy.isSome * 16 + b2n s.tbs.valid * 8

/-- Bytes 0 to 31 of a sourced frame. -/
def State.frameHead : List Byte :=
  [0xFB, 0x01, h.ty, BitVec.ofNat 8 (s.frameFlags h)] ++ toBytes 2 (moduleWord s.addr).toNat ++ toBytes 2 h.dst.toNat ++
    toBytes 4 h.seq.toNat ++ toBytes 6 h.txTs.toNat ++ toBytes 6 h.echoTx.toNat ++ toBytes 6 h.echoRx.toNat ++ toBytes 2 h.len

/-- Bytes 0 to 243: head and payload. -/
def State.frameBody : List Byte := s.frameHead h ++ padTo 212 p

/-- Bytes 248 to 251: HOPS, LINKINFO and two that are 0. -/
def State.frameTail : List Byte := [0, BitVec.ofNat 8 (k.val * 32 + b2n (s.linkSlow k) * 16 + slot), 0, 0]

/-- Bytes 0 to 251. -/
def State.frameSigned : List Byte :=
  s.frameBody h p ++ (toBytes 4 (safetyCode s.seed (s.frameBody h p)).toNat ++ s.frameTail k slot)

theorem State.buildFrame_eq :
    s.buildFrame k slot h p = s.frameSigned k slot h p ++ toBytes 4 (crc32c (s.frameSigned k slot h p)).toNat := by
  rw [State.frameSigned, ← List.append_assoc]
  rfl

theorem State.frameHead_length : (s.frameHead h).length = 32 := by simp [State.frameHead, toBytes_length]

theorem padTo_length (n : Nat) (l : List Byte) : (padTo n l).length = n := by
  rw [padTo, List.length_append, List.length_take, List.length_replicate]
  omega

theorem State.frameBody_length : (s.frameBody h p).length = 244 := by
  rw [State.frameBody, List.length_append, s.frameHead_length, padTo_length]

theorem State.frameSigned_length : (s.frameSigned k slot h p).length = 252 := by
  rw [State.frameSigned, List.length_append, s.frameBody_length, List.length_append, toBytes_length]
  rfl

theorem State.crcFits_buildFrame (bad : Word) : crcFits bad (s.buildFrame k slot h p) = decide (bad = 0) := by
  rw [State.buildFrame_eq, crcFits_framed (s.frameSigned_length k slot h p)]

theorem State.scFits_buildFrame (bad : Word) : scFits s.seed bad (s.buildFrame k slot h p) = decide (bad = 0) := by
  rw [State.buildFrame_eq, State.frameSigned, List.append_assoc, List.append_assoc, scFits_framed (s.frameBody_length h p)]

theorem State.bytesAt_frameHead {i n : Nat} (hi : i + n ≤ 32) : bytesAt (s.buildFrame k slot h p) i n = bytesAt (s.frameHead h) i n := by
  have hle : i + n ≤ (s.frameHead h).length := by rw [s.frameHead_length]; exact hi
  rw [State.buildFrame_eq, State.frameSigned, State.frameBody, List.append_assoc, List.append_assoc, bytesAt_append_left hle]

theorem State.byteAt_frameHead {i : Nat} (hi : i < 32) : byteAt (s.buildFrame k slot h p) i = byteAt (s.frameHead h) i := by
  rw [State.buildFrame_eq, State.frameSigned, State.frameBody, List.append_assoc, List.append_assoc,
    byteAt_append_left (by rw [s.frameHead_length]; exact hi)]

/-- A TEST frame has the format that check 6 asks for. -/
theorem State.formatOk_test {h : FrameHdr} (hty : h.ty = 6) (hseg : h.segs = 0) (hlen : h.len = 212) (htx : h.echoTx = 0)
    (hrx : h.echoRx = 0) (lane : Bool) : formatOk lane (s.buildFrame k slot h p) = true := by
  have hver : byteAt (s.buildFrame k slot h p) 1 = 1 := s.byteAt_frameHead k slot h p (by decide)
  have hbty : byteAt (s.buildFrame k slot h p) 2 = 6 := (s.byteAt_frameHead k slot h p (by decide)).trans hty
  have hfl : byteAt (s.buildFrame k slot h p) 3 = BitVec.ofNat 8 (s.frameFlags h) := s.byteAt_frameHead k slot h p (by decide)
  have hblen : bytesAt (s.buildFrame k slot h p) 30 2 = 212 := by
    rw [s.bytesAt_frameHead k slot h p (by decide)]
    simp [State.frameHead, toBytes, bytesAt, ofBytes, hlen]
  have hsrc : bytesAt (s.buildFrame k slot h p) 4 2 / 2048 % 4 = 0 := by
    rw [s.bytesAt_frameHead k slot h p (by decide), State.frameHead]
    simp only [List.append_assoc]
    rw [bytesAt_middle (a := [0xFB, 0x01, h.ty, BitVec.ofNat 8 (s.frameFlags h)]) (i := 4) rfl (toBytes_length 2 _), ofBytes_toBytes,
      moduleWord, BitVec.toNat_setWidth]
    omega
  have hecho : bytesAt (s.buildFrame k slot h p) 18 12 = 0 := by
    rw [s.bytesAt_frameHead k slot h p (by decide)]
    simp [State.frameHead, toBytes, bytesAt, ofBytes, htx, hrx]
  have hzero : bytesAt (s.buildFrame k slot h p) 250 2 = 0 := by
    have htail : s.frameTail k slot = [0, BitVec.ofNat 8 (k.val * 32 + b2n (s.linkSlow k) * 16 + slot)] ++ [0, 0] := rfl
    rw [State.buildFrame_eq, State.frameSigned, htail, ← List.append_assoc, ← List.append_assoc, List.append_assoc (_ ++ _),
      bytesAt_middle (b := [0, 0]) (n := 2) _ rfl]
    · rfl
    · rw [List.length_append, List.length_append, s.frameBody_length, toBytes_length]
      rfl
  have hflag : (BitVec.ofNat 8 (s.frameFlags h)).toNat % 8 = 0 ∧ (BitVec.ofNat 8 (s.frameFlags h)).toNat / 64 = 0 := by
    rw [State.frameFlags, hseg]
    cases s.debugging <;> cases s.wideWhy.isSome <;> cases s.tbs.valid <;> decide
  obtain ⟨hflow, hseg'⟩ := hflag
  unfold formatOk zeroAt
  simp only [hver, hbty, hfl, hblen, hsrc, hecho, hzero, hflow, hseg']
  rfl

end

end Sys2Proof.Machine
end

section
/-! PROOFS. Loopbacks of a link (R216 to R218, R242). -/

namespace Sys2Proof.Machine

/-! ### The end of a loopback -/

/-- The link after a loopback. -/
def Link.endLoop (kind : BitVec 2) (res : BitVec 3) (delay : BitVec 24) (l : Link) : Link :=
  { l with loop := none, testReq := 0, testNo := 0, loopKind := kind, loopRes := res, loopDelay := delay
           loopDown := l.loopDown || decide (res = 2) }

theorem Link.endLoop_pass {res : BitVec 3} (h : res ≠ 2) (kind : BitVec 2) (delay : BitVec 24) (l : Link) : l.endLoop kind res delay =
    { l with loop := none, testReq := 0, testNo := 0, loopKind := kind, loopRes := res, loopDelay := delay } := by
  rw [Link.endLoop, decide_eq_false h, Bool.or_false]

theorem Link.endLoop_fail (kind : BitVec 2) (delay : BitVec 24) (l : Link) : l.endLoop kind 2 delay =
    { l with loop := none, testReq := 0, testNo := 0, loopKind := kind, loopRes := 2, loopDelay := delay, loopDown := true } := by
  rw [Link.endLoop, decide_eq_true rfl, Bool.or_true]

/-- The link has left a loopback, and the engines know of it where it took the link from its traffic. -/
def State.leaveLoop (s : State) (k : Fin 8) (f : Link → Link) : State :=
  if (s.links[k]).looped then (s.modLink k f).postLink (.linkLoop k false) else s.modLink k f

section
variable (s : State) (k : Fin 8) (f : Link → Link) (kind : BitVec 2) (res : BitVec 3) (delay : BitVec 24)

theorem State.leaveLoop_links : (s.leaveLoop k f).links = upd s.links k f := by
  unfold State.leaveLoop
  split <;> rfl

theorem State.leaveLoop_frame : s.leaveLoop k f = { s with links := upd s.links k f, engines := (s.leaveLoop k f).engines } := by
  unfold State.leaveLoop
  split <;> rfl

theorem State.leaveLoop_engines {s : State} {k : Fin 8} (h : (s.links[k]).looped = false) (f : Link → Link) :
    s.leaveLoop k f = s.modLink k f := if_neg (ne_true_of_eq_false h)

theorem State.leaveLoop_posted {s : State} {k : Fin 8} (h : (s.links[k]).looped = true) (f : Link → Link) :
    s.linkPosted (s.leaveLoop k f) (.linkLoop k false) := by
  rw [State.leaveLoop, if_pos h]
  exact (s.modLink k f).postLink_linkPosted _

/-- A loopback that does not fail. -/
theorem State.endLinkLoop_pass {res : BitVec 3} (h : res ≠ 2) :
    s.endLinkLoop k kind res delay = s.leaveLoop k (Link.endLoop kind res delay) := by
  unfold State.endLinkLoop
  exact if_neg h

/-- A loopback that fails. -/
theorem State.endLinkLoop_fail : s.endLinkLoop k kind 2 delay =
    (s.leaveLoop k (Link.endLoop kind 2 delay)).lnkFault k 12 0x080D := by
  unfold State.endLinkLoop
  exact if_pos rfl

/-- `t` is `s` after the end of a loopback of link `k`. -/
structure State.EndsLoop (t : State) : Prop where
  others : OthersSame s.links t.links k
  frame : ({ s with links := t.links, engines := t.engines } : State).SameButLog t
  engines : t.engines = (s.leaveLoop k (Link.endLoop kind res delay)).engines
  passed : res ≠ 2 → t = { s with links := t.links, engines := t.engines } ∧ t.links[k] = (s.links[k]).endLoop kind res delay
  failed : res = 2 → t.lastFault 0x080D k.val ∧ t.links[k] = Link.markFault 12 ((s.links[k]).endLoop kind res delay)

theorem State.endLinkLoop_ends : s.EndsLoop k kind res delay (s.endLinkLoop k kind res delay) := by
  by_cases h : res = 2
  · subst h
    rw [State.endLinkLoop_fail]
    have hleave := s.leaveLoop_frame k (Link.endLoop kind 2 delay)
    have hlinks := s.leaveLoop_links k (Link.endLoop kind 2 delay)
    generalize hu : s.leaveLoop k (Link.endLoop kind 2 delay) = u at hleave hlinks
    have hf := u.lnkFault_same k 12 0x080D
    have hl := u.lnkFault_lastFault k 12 (code := 0x080D) (by decide) (by decide) (by decide)
    generalize u.lnkFault k 12 0x080D = t at hf hl
    have htl : t.links = upd s.links k (fun l => Link.markFault 12 (l.endLoop kind 2 delay)) := by
      rw [hf.links, State.modLink_links, hlinks, upd_upd]
    have hte : t.engines = u.engines := hf.engines
    refine ⟨?_, ?_, hte.trans (by rw [hu]), fun hne => absurd rfl hne, fun _ => ⟨hl, ?_⟩⟩
    · rw [htl]
      exact upd_othersSame _ _ _
    · rw [hf.links, hte]
      unfold State.SameButLog at hf ⊢
      rw [hf, hleave]
      rfl
    · rw [htl, upd_get_same]
  · rw [State.endLinkLoop_pass s k kind delay h]
    have hlinks := s.leaveLoop_links k (Link.endLoop kind res delay)
    have hleave := s.leaveLoop_frame k (Link.endLoop kind res delay)
    rw [← hlinks] at hleave
    refine ⟨?_, ?_, rfl, fun _ => ⟨hleave, ?_⟩, fun he => absurd he h⟩
    · rw [hlinks]
      exact upd_othersSame _ _ _
    · rw [← hleave]
      exact .refl _
    · rw [hlinks, upd_get_same]

variable {s k kind res delay}

theorem State.EndsLoop.posted {t : State} (h : s.EndsLoop k kind res delay t) (hl : (s.links[k]).looped = true) :
    s.linkPosted t (.linkLoop k false) := fun e => by
  rw [h.engines]
  exact State.leaveLoop_posted hl _ e

/-- The link after the loopback, but for its fault bits. -/
theorem State.EndsLoop.link {t : State} (h : s.EndsLoop k kind res delay t) : (t.links[k]).loop = none ∧ (t.links[k]).loopKind = kind ∧
    (t.links[k]).loopRes = res ∧ (t.links[k]).loopDelay = delay := by
  by_cases hr : res = 2
  · obtain ⟨-, hl⟩ := h.failed hr
    rw [hl]
    exact ⟨rfl, rfl, rfl, rfl⟩
  · obtain ⟨-, hl⟩ := h.passed hr
    rw [hl]
    exact ⟨rfl, rfl, rfl, rfl⟩

theorem State.EndsLoop.keeps {t : State} (h : s.EndsLoop k kind res delay t) (hr : res ≠ 2) :
    t.mgt = s.mgt ∧ t.mdl = s.mdl ∧ t.crc = s.crc := by
  obtain ⟨ht, -⟩ := h.passed hr
  rw [ht]
  exact ⟨rfl, rfl, rfl⟩

theorem State.EndsLoop.quiet {t : State} (h : s.EndsLoop k kind res delay t) (hl : (s.links[k]).looped = false) :
    t.engines = s.engines := by
  rw [h.engines, State.leaveLoop_engines hl]
  rfl

end

/-! ### The reference CRC of unit 0 (R242) -/

/-- `t` is `s` but for unit 0, its interrupt bit and the log. -/
structure State.SameButUnit (s t : State) : Prop where
  others : OthersSame s.crc t.crc 0
  frame : ({ s with crc := t.crc, mdl := { s.mdl with irqCheck := t.mdl.irqCheck } } : State).SameButLog t

theorem State.SameButUnit.refl (s : State) : s.SameButUnit s := ⟨fun _ _ => rfl, .refl s⟩

theorem State.SameButUnit.trans {s t u : State} (h : s.SameButUnit t) (k : t.SameButUnit u) : s.SameButUnit u := by
  refine ⟨fun j hj => (k.others j hj).trans (h.others j hj), ?_⟩
  have hf := h.frame
  have kf := k.frame
  unfold State.SameButLog at hf kf ⊢
  rw [kf, hf]

/-- A change of unit 0 and its interrupt bit that is logged. -/
theorem State.fault_unit {s u : State} (h : u = { s with crc := u.crc, mdl := { s.mdl with irqCheck := u.mdl.irqCheck } })
    (ho : OthersSame s.crc u.crc 0) (code obj : Nat) : s.SameButUnit (u.fault code obj) := by
  have hf := u.fault_same code obj
  have hc : (u.fault code obj).crc = u.crc := hf.crc
  refine ⟨hc ▸ ho, ?_⟩
  rw [hc, hf.mdl_irqCheck, ← h]
  exact hf

/-- A unit after a byte string. -/
def CrcUnit.used (algo : BitVec 2) (bs : List Byte) (expect : BitVec 64) (u : CrcUnit) : CrcUnit :=
  (({ u with algo := algo, expect := expect }.start).feed bs).finish

/-- A unit after a byte string with the check value that it was given. -/
def CrcUnit.matched (algo : BitVec 2) (bs : List Byte) (expect : BitVec 64) (u : CrcUnit) : CrcUnit :=
  { u.used algo bs expect with outcome := 1 }

/-- A unit after a byte string with another one. -/
def CrcUnit.mismatched (algo : BitVec 2) (bs : List Byte) (expect : BitVec 64) (u : CrcUnit) : CrcUnit :=
  { u.used algo bs expect with outcome := 2, fault := true, mismatchCnt := satInc (u.used algo bs expect).mismatchCnt }

/-- The interrupt of unit 0 to Pewter. -/
def State.raiseUnit0 (s : State) : State := { s with mdl := { s.mdl with irqCheck := s.mdl.irqCheck ||| (1 <<< (0 : Fin 4).val) } }

theorem State.useUnit_zero (s : State) (algo : BitVec 2) (bs : List Byte) (expect : BitVec 64) : s.useUnit 0 algo bs expect =
    if ((s.crc[(0 : Fin 4)]).used algo bs expect).result = expect then (true, s.modCrc 0 (CrcUnit.matched algo bs expect))
    else (false, ((s.modCrc 0 (CrcUnit.mismatched algo bs expect)).raiseUnit0).fault 0x0A20 0) := rfl

theorem State.useUnit_unit (s : State) (algo : BitVec 2) (bs : List Byte) (expect : BitVec 64) :
    s.SameButUnit (s.useUnit 0 algo bs expect).2 := by
  rw [State.useUnit_zero]
  split
  · exact ⟨upd_othersSame _ _ _, .refl _⟩
  · exact State.fault_unit (s := s) (u := (s.modCrc 0 (CrcUnit.mismatched algo bs expect)).raiseUnit0) rfl (upd_othersSame _ _ _) 0x0A20 0

theorem State.refCrc_unit (s : State) (fs : List (List Byte × List Byte)) : s.SameButUnit (s.refCrc fs) := by
  unfold State.refCrc
  induction fs generalizing s with
  | nil => exact .refl s
  | cons p fs ih => exact (s.useUnit_unit 2 _ _).trans (ih _)

/-- A frame with its own CRC. -/
def ownCrc (p : List Byte × List Byte) : Prop := bytesAt p.2 252 4 = (crc32c (p.1.take 252)).toNat

theorem State.refCrc_single {p : List Byte × List Byte} (h : ownCrc p) (s : State) :
    s.refCrc [p] = s.modCrc 0 (CrcUnit.matched 2 (p.1.take 252) (BitVec.ofNat 64 (bytesAt p.2 252 4))) := by
  have he : BitVec.ofNat 64 (bytesAt p.2 252 4) = (crc32c (p.1.take 252)).setWidth 64 := by
    rw [h, ← BitVec.toNat_inj, BitVec.toNat_ofNat, BitVec.toNat_setWidth]
  have hu : s.refCrc [p] = (s.useUnit 0 2 (p.1.take 252) (BitVec.ofNat 64 (bytesAt p.2 252 4))).2 := rfl
  rw [hu, State.useUnit_zero]
  exact congrArg Prod.snd (if_pos ((crcDone_crc32c _).trans he.symm))

theorem State.refCrc_own {fs : List (List Byte × List Byte)} (h : ∀ p ∈ fs, ownCrc p) (s : State) :
    s.refCrc fs = { s with crc := (s.refCrc fs).crc } := by
  induction fs generalizing s with
  | nil => rfl
  | cons p fs ih =>
    have hp : s.refCrc (p :: fs) = (s.refCrc [p]).refCrc fs := rfl
    have hs := ih (fun q hq => h q (List.mem_cons_of_mem _ hq)) (s.refCrc [p])
    rw [hp, hs, State.refCrc_single (h p List.mem_cons_self)]
    rfl

/-- What the end of a loopback leaves after unit 0 computed the reference CRC. -/
theorem State.SameButUnit.thenEndsLoop {s u t : State} {k : Fin 8} {kind : BitVec 2} {res : BitVec 3} {d : BitVec 24}
    (h : s.SameButUnit u) (he : u.EndsLoop k kind res d t) : OthersSame s.links t.links k ∧ OthersSame s.crc t.crc 0 ∧
      ({ s with links := t.links, engines := t.engines, crc := t.crc, mdl := { s.mdl with irqCheck := t.mdl.irqCheck } } : State).SameButLog
        t := by
  have hf := h.frame
  have ef := he.frame
  have hl : u.links = s.links := hf.links
  have hc : t.crc = u.crc := ef.crc
  refine ⟨hl ▸ he.others, hc ▸ h.others, ?_⟩
  unfold State.SameButLog at hf ef ⊢
  rw [ef, hf]

theorem State.SameButUnit.posted {s u t : State} {k : Fin 8} {kind : BitVec 2} {res : BitVec 3} {d : BitVec 24}
    (h : s.SameButUnit u) (he : u.EndsLoop k kind res d t) (hl : (s.links[k]).looped = true) : s.linkPosted t (.linkLoop k false) := by
  have hf := h.frame
  have hlinks : u.links = s.links := hf.links
  have hpost := he.posted (by rw [hlinks]; exact hl)
  intro e
  have hpe := hpost e
  rw [hf.engines, State.late, hf.clk] at hpe
  exact hpe

/-! ### TEST frames (R216, R217) -/

section
variable (s : State) (k : Fin 8) (tb seq : Nat)

/-- Header of a TEST frame. -/
def State.testHdr : FrameHdr :=
  { ty := 6, dst := moduleWord s.addr, seq := BitVec.ofNat 32 seq, txTs := BitVec.ofNat 48 tb, len := 212 }

theorem State.testFrame_eq : s.testFrame k tb seq = s.buildFrame k ((s.slotAt k tb).getD 0) (s.testHdr tb seq) (prbs7 212 1) := rfl

theorem ownCrc_of_crcFits {b : List Byte} (h : crcFits 0 b = true) : ownCrc (b, b) := by
  rw [ownCrc, of_decide_eq_true h]
  exact congrArg BitVec.toNat BitVec.xor_zero

theorem State.testFrame_own : ownCrc (s.testFrame k tb seq, s.testFrame k tb seq) := ownCrc_of_crcFits (s.crcFits_buildFrame k _ _ _ 0)

end

/-! ### LBA (R216) -/

section
variable {s : State} {k : Fin 8} {x : LinkLoop} (dt : Nat)

theorem State.linkLoopDue_of {s : State} {k : Fin 8} {x : LinkLoop} {kind : LinkLb} {ns : Nat} (hx : (s.links[k]).loop = some x)
    (hk : x.kind = kind) (hd : x.begin + ns ≤ s.now) : s.linkLoopDue k kind ns = true := by
  rw [State.linkLoopDue, hx]
  exact decide_eq_true ⟨hk, hd⟩

theorem Link.looped_lba {l : Link} (hx : l.loop = some x) (hk : x.kind = .lba) : l.looped = true := by
  rw [Link.looped, hx]
  dsimp only
  rw [hk]
  rfl

theorem Link.looped_lbf {l : Link} (hx : l.loop = some x) (hk : x.kind = .lbf) : l.looped = false := by
  rw [Link.looped, hx]
  dsimp only
  rw [hk]
  rfl

theorem Link.looped_lbr {l : Link} (hx : l.loop = some x) (hk : x.kind = .lbr) : l.looped = decide (2 ≤ x.stage) := by
  rw [Link.looped, hx]
  dsimp only
  rw [hk]
  rfl

/-- TEST frames of LBA that came back with bits inverted. -/
def State.lbaErrs (s : State) (k : Fin 8) (x : LinkLoop) (errs : List (Fin 80 × Fin 2048)) : List (List Byte × List Byte) :=
  s.testErrs k x.begin (s.testCount k 20) (errs.map (fun q => (q.1.val, q.2.val)))

/-- The last TEST frame of LBA. -/
def State.lbaLast (s : State) (k : Fin 8) (x : LinkLoop) : List Byte := s.testFrameNo k x.begin (s.testCount k 20 - 1)

/-- LBA has passed. -/
def State.lbaPass (s : State) (k : Fin 8) (x : LinkLoop) (errs : List (Fin 80 × Fin 2048)) (d r : BitVec 24) : Bool :=
  (s.lbaErrs k x errs).all (fun p => testIntact s.seed (decide (k.val < 3)) p.1 p.2) && decide (absDiff d.toNat r.toNat ≤ 16)

theorem exec_lbaEnd (h : s.inReset = false) (hx : (s.links[k]).loop = some x) (hk : x.kind = .lba)
    (hd : x.begin + 20000000 ≤ s.now + dt) (errs : List (Fin 80 × Fin 2048)) (d r : BitVec 24) :
    exec (.lbaEnd dt k errs d r) s = .next
      (((s.pass dt).refCrc ((s.pass dt).lbaErrs k x errs ++ [((s.pass dt).lbaLast k x, (s.pass dt).lbaLast k x)])).endLinkLoop k 1
        (if (s.pass dt).lbaPass k x errs d r then 1 else 2) d) := by
  have he : exec (.lbaEnd dt k errs d r) s = execLbaEnd dt k errs d r s := rfl
  have hdue : (s.pass dt).linkLoopDue k .lba 20000000 = true := State.linkLoopDue_of hx hk hd
  have hb : (s.pass dt).loopBegin k = x.begin := by rw [State.loopBegin, State.pass_links, hx]; rfl
  rw [he, execLbaEnd, State.when_true (by rw [hdue, State.pass_inReset, h]; rfl), hb]
  rfl

end

theorem absDiff_le_iff (a b n : Nat) : absDiff a b ≤ n ↔ a ≤ b + n ∧ b ≤ a + n := by
  unfold absDiff
  split <;> omega

theorem State.testErrs_nil (s : State) (k : Fin 8) (t n : Nat) : s.testErrs k t n [] = [] := rfl

/-- LBA passes only the last TEST frame, which carries its own CRC, where none came back amiss. -/
theorem State.refCrc_lbaLast (s : State) (k : Fin 8) (x : LinkLoop) :
    ∃ u, s.refCrc [(s.lbaLast k x, s.lbaLast k x)] = { s with crc := upd s.crc 0 (CrcUnit.matched 2 ((s.lbaLast k x).take 252) u) } :=
  ⟨_, State.refCrc_single (s.testFrame_own k _ _) s⟩

end Sys2Proof.Machine
end

section
/-! PROOFS. The ends of link loopbacks (R216 to R218). -/

namespace Sys2Proof.Machine

section
variable {s : State} {k : Fin 8} {x : LinkLoop}

theorem State.lbaPass_iff {errs : List (Fin 80 × Fin 2048)} {d r : BitVec 24} : s.lbaPass k x errs d r = true ↔
    (∀ p ∈ s.lbaErrs k x errs, testIntact s.seed (decide (k.val < 3)) p.1 p.2 = true) ∧
    d.toNat ≤ r.toNat + 16 ∧ r.toNat ≤ d.toNat + 16 := by
  rw [State.lbaPass, Bool.and_eq_true, List.all_eq_true, decide_eq_true_eq, absDiff_le_iff]

theorem State.lbaErrs_nil (s : State) (k : Fin 8) (x : LinkLoop) : s.lbaErrs k x [] = [] := rfl

theorem State.lbaPass_clean {d r : BitVec 24} (hdr : d.toNat ≤ r.toNat + 16) (hrd : r.toNat ≤ d.toNat + 16) :
    s.lbaPass k x [] d r = true :=
  State.lbaPass_iff.2 ⟨fun _ hp => absurd hp List.not_mem_nil, hdr, hrd⟩

theorem State.lbaPass_fails {errs : List (Fin 80 × Fin 2048)} {d r : BitVec 24}
    (h : (∃ p ∈ s.lbaErrs k x errs, testIntact s.seed (decide (k.val < 3)) p.1 p.2 = false) ∨
      r.toNat + 16 < d.toNat ∨ d.toNat + 16 < r.toNat) : s.lbaPass k x errs d r = false := by
  rw [Bool.eq_false_iff, Ne, State.lbaPass_iff]
  rintro ⟨hall, hdr, hrd⟩
  rcases h with ⟨p, hp, hbad⟩ | hlt | hlt
  · exact Bool.false_ne_true (hbad.symm.trans (hall p hp))
  · exact Nat.not_lt.2 hdr hlt
  · exact Nat.not_lt.2 hrd hlt

/-- What the end of LBA leaves, whatever its result. -/
theorem exec_lbaEnd_spec (dt : Nat) (h : s.inReset = false) (hx : (s.links[k]).loop = some x) (hk : x.kind = .lba)
    (hd : x.begin + 20000000 ≤ s.now + dt) (errs : List (Fin 80 × Fin 2048)) (d r : BitVec 24) :
    ∃ t u, exec (.lbaEnd dt k errs d r) s = .next t ∧ (s.pass dt).SameButUnit u ∧
      u.EndsLoop k 1 (if (s.pass dt).lbaPass k x errs d r then 1 else 2) d t ∧
      u = (s.pass dt).refCrc ((s.pass dt).lbaErrs k x errs ++ [((s.pass dt).lbaLast k x, (s.pass dt).lbaLast k x)]) :=
  ⟨_, _, exec_lbaEnd dt h hx hk hd errs d r, State.refCrc_unit _ _, State.endLinkLoop_ends _ k 1 _ d, rfl⟩

/-! ### LBF (R217) -/

/-- The TEST frame of LBF. -/
def State.lbfFrame (s : State) (k : Fin 8) : List Byte := s.testFrame k s.clk.tickTb 0

/-- The one whose safety code is wrong, and its CRC right. -/
def State.lbfWrong (s : State) (k : Fin 8) : List Byte :=
  flipBit ((s.lbfFrame k).take 252) 1983 ++ toBytes 4 (crc32c (flipBit ((s.lbfFrame k).take 252) 1983)).toNat

/-- LBF has passed. -/
def State.lbfPass (s : State) (k : Fin 8) (crc a b : Word) : Bool :=
  crcFits crc (s.lbfFrame k) && scFits s.seed a (s.lbfFrame k) && scFits s.seed b (s.lbfFrame k) &&
    formatOk (decide (k.val < 3)) (s.lbfFrame k) && !crcFits crc (flipBit (s.lbfFrame k) 2047) && crcFits crc (s.lbfWrong k) &&
    !scFits s.seed a (s.lbfWrong k) && !scFits s.seed b (s.lbfWrong k)

theorem State.crcFits_lbfFrame (s : State) (k : Fin 8) (bad : Word) : crcFits bad (s.lbfFrame k) = decide (bad = 0) :=
  s.crcFits_buildFrame k _ _ _ bad

theorem State.scFits_lbfFrame (s : State) (k : Fin 8) (bad : Word) : scFits s.seed bad (s.lbfFrame k) = decide (bad = 0) :=
  s.scFits_buildFrame k _ _ _ bad

theorem State.formatOk_lbfFrame (s : State) (k : Fin 8) (lane : Bool) : formatOk lane (s.lbfFrame k) = true :=
  s.formatOk_test k _ _ rfl rfl rfl rfl rfl lane

theorem State.lbfFrame_eq (s : State) (k : Fin 8) : ∃ l h p, l = s.frameSigned k ((s.slotAt k s.clk.tickTb).getD 0) h p ∧
    s.lbfFrame k = l ++ toBytes 4 (crc32c l).toNat := ⟨_, _, _, rfl, s.buildFrame_eq k _ _ _⟩

theorem State.crcFits_lbfFrame_flipped (s : State) (k : Fin 8) : crcFits 0 (flipBit (s.lbfFrame k) 2047) = false := by
  obtain ⟨l, h, p, hl, hf⟩ := s.lbfFrame_eq k
  rw [hf]
  exact crcFits_flipBit (hl ▸ s.frameSigned_length k _ h p)

theorem State.crcFits_lbfWrong (s : State) (k : Fin 8) : crcFits 0 (s.lbfWrong k) = true := by
  obtain ⟨l, h, p, hl, hf⟩ := s.lbfFrame_eq k
  have hlen : l.length = 252 := hl ▸ s.frameSigned_length k _ h p
  rw [State.lbfWrong, hf, List.take_left' hlen, crcFits_framed ((flipBit_length l 1983).trans hlen)]
  rfl

theorem State.scFits_lbfWrong (s : State) (k : Fin 8) : scFits s.seed 0 (s.lbfWrong k) = false := by
  obtain ⟨l, h, p, hl, hf⟩ := s.lbfFrame_eq k
  have hlen : l.length = 252 := hl ▸ s.frameSigned_length k _ h p
  rw [State.lbfWrong, hf, List.take_left' hlen, hl, State.frameSigned]
  exact scFits_flipBit (s.frameBody_length h p) s.seed _ _

theorem State.lbfPass_iff {crc a b : Word} : s.lbfPass k crc a b = true ↔ crc = 0 ∧ a = 0 ∧ b = 0 := by
  unfold State.lbfPass
  rw [State.crcFits_lbfFrame, State.scFits_lbfFrame, State.scFits_lbfFrame, State.formatOk_lbfFrame]
  constructor
  · intro h
    simp only [Bool.and_eq_true, decide_eq_true_eq] at h
    obtain ⟨⟨⟨⟨⟨⟨⟨hcrc, ha⟩, hb⟩, -⟩, -⟩, -⟩, -⟩, -⟩ := h
    exact ⟨hcrc, ha, hb⟩
  · rintro ⟨rfl, rfl, rfl⟩
    rw [State.crcFits_lbfFrame_flipped, State.crcFits_lbfWrong, State.scFits_lbfWrong]
    rfl

theorem State.lbfPass_fails {crc a b : Word} (h : crc ≠ 0 ∨ a ≠ 0 ∨ b ≠ 0) : s.lbfPass k crc a b = false := by
  rw [Bool.eq_false_iff, Ne, State.lbfPass_iff]
  rintro ⟨hcrc, ha, hb⟩
  rcases h with h | h | h
  · exact h hcrc
  · exact h ha
  · exact h hb

/-- The frames of LBF that unit 0 is given. -/
def State.lbfSent (s : State) (k : Fin 8) : List (List Byte × List Byte) :=
  [(s.lbfFrame k, s.lbfFrame k), (s.lbfFrame k, s.lbfFrame k), (s.lbfWrong k, s.lbfWrong k)]

theorem State.lbfSent_own (s : State) (k : Fin 8) : ∀ p ∈ s.lbfSent k, ownCrc p := by
  have hframe : ownCrc (s.lbfFrame k, s.lbfFrame k) := s.testFrame_own k _ _
  have hwrong : ownCrc (s.lbfWrong k, s.lbfWrong k) := ownCrc_of_crcFits (s.crcFits_lbfWrong k)
  simp [State.lbfSent, hframe, hwrong]

theorem exec_lbfRun (dt : Nat) (h : s.inReset = false) (hx : (s.links[k]).loop = some x) (hk : x.kind = .lbf)
    (hd : x.begin ≤ s.now + dt) (hslot : (s.slotAt k s.clk.tickTb).isSome = true) (htick : (s.links[k]).txTick = some s.tickNo)
    (htx : (s.links[k]).tx = none) (crc a b : Word) : exec (.lbfRun dt k crc (a, b)) s = .next
      (((s.pass dt).refCrc ((s.pass dt).lbfSent k)).endLinkLoop k 2 (if (s.pass dt).lbfPass k crc a b then 1 else 2) 0) := by
  have he : exec (.lbfRun dt k crc (a, b)) s = execLbfRun dt k crc (a, b) s := rfl
  have hdue : (s.pass dt).linkLoopDue k .lbf 0 = true := State.linkLoopDue_of hx hk hd
  have hslot' : ((s.pass dt).slotAt k (s.pass dt).clk.tickTb).isSome = true := hslot
  have htick' : ((s.pass dt).links[k]).txTick = some (s.pass dt).tickNo := htick
  rw [he, execLbfRun]
  dsimp only
  rw [State.when_true (by rw [hdue, State.pass_inReset, h, hslot', decide_eq_true htick', State.pass_links, htx]; rfl)]
  rfl

/-- What LBF leaves, whatever its result. -/
theorem exec_lbfRun_spec (dt : Nat) (h : s.inReset = false) (hx : (s.links[k]).loop = some x) (hk : x.kind = .lbf)
    (hd : x.begin ≤ s.now + dt) (hslot : (s.slotAt k s.clk.tickTb).isSome = true) (htick : (s.links[k]).txTick = some s.tickNo)
    (htx : (s.links[k]).tx = none) (crc a b : Word) : ∃ t u, exec (.lbfRun dt k crc (a, b)) s = .next t ∧ (s.pass dt).SameButUnit u ∧
      u.EndsLoop k 2 (if (s.pass dt).lbfPass k crc a b then 1 else 2) 0 t ∧ u = { s.pass dt with crc := u.crc } :=
  ⟨_, _, exec_lbfRun dt h hx hk hd hslot htick htx crc a b, State.refCrc_unit _ _, State.endLinkLoop_ends _ k 2 _ 0,
    State.refCrc_own ((s.pass dt).lbfSent_own k) _⟩

theorem exec_lbfNoSlot (dt : Nat) (h : s.inReset = false) (hx : (s.links[k]).loop = some x) (hk : x.kind = .lbf)
    (hd : x.begin + 100000000 ≤ s.now + dt) : exec (.lbfNoSlot dt k) s = .next ((s.pass dt).endLinkLoop k 2 3 0) := by
  have he : exec (.lbfNoSlot dt k) s = execLbfNoSlot dt k s := rfl
  have hdue : (s.pass dt).linkLoopDue k .lbf 100000000 = true := State.linkLoopDue_of hx hk hd
  rw [he, execLbfNoSlot, State.when_true (by rw [hdue, State.pass_inReset, h]; rfl)]

/-! ### LBR (R218) -/

theorem exec_lbrRequestTimeout (dt : Nat) (h : s.inReset = false) (hx : (s.links[k]).loop = some x) (hk : x.kind = .lbr)
    (hp : x.peer = false) (hst : x.stage = 0) (hd : x.begin + 8 * s.linkCycle k ≤ s.now + dt) :
    exec (.lbrRequestTimeout dt k) s = .next ((s.pass dt).endLinkLoop k 3 2 0) := by
  have he : exec (.lbrRequestTimeout dt k) s = execLbrRequestTimeout dt k s := rfl
  have hdue : (s.pass dt).linkLoopDue k .lbr (8 * (s.pass dt).linkCycle k) = true := State.linkLoopDue_of hx hk hd
  rw [he, execLbrRequestTimeout, State.when_true]
  rw [hdue, State.pass_inReset, h, State.pass_links, hx]
  dsimp only
  rw [hp, hst]
  rfl

/-- The link at the start of the loop. -/
def Link.startLoop (t : Nat) (l : Link) : Link :=
  { l with loop := l.loop.map (fun x => { x with stage := 2, begin := t }), testReq := 0, testNo := 0, armed := none, ready := none }

theorem exec_lbrLoopStart (dt : Nat) (h : s.inReset = false) (hx : (s.links[k]).loop = some x) (hk : x.kind = .lbr)
    (hst : x.stage = 1) (hcyc : s.clk.tickTb % s.linkCycle k = 0) (hnow : s.now + dt = s.clk.tickAt)
    (htick : (s.links[k]).txTick ≠ some s.tickNo) : exec (.lbrLoopStart dt k) s =
      .next ((((s.pass dt).modLink k (Link.startLoop (s.now + dt))).postLink (.linkLoop k true)).judgeSource) := by
  have he : exec (.lbrLoopStart dt k) s = execLbrLoopStart dt k s := rfl
  have hcyc' : (s.pass dt).clk.tickTb % (s.pass dt).linkCycle k = 0 := hcyc
  have hnow' : (s.pass dt).now = (s.pass dt).clk.tickAt := hnow
  have htick' : ((s.pass dt).links[k]).txTick ≠ some (s.pass dt).tickNo := htick
  rw [he, execLbrLoopStart, State.when_true]
  · rfl
  rw [decide_eq_true hcyc', decide_eq_true hnow', decide_eq_true htick', State.pass_inReset, h, State.pass_links, hx]
  dsimp only
  rw [hk, hst]
  rfl

/-- What the start of the loop leaves. -/
theorem State.lbrStarted_spec (s : State) (k : Fin 8) (f : Link → Link) :
    let t := ((s.modLink k f).postLink (.linkLoop k true)).judgeSource
    OthersSame s.links t.links k ∧
    ({ s with links := t.links, engines := t.engines, tbs := t.tbs, begun := t.begun } : State).SameButLog t ∧
    t.links[k] = f s.links[k] ∧ s.linkPosted t (.linkLoop k true) := by
  have hpost := (s.modLink k f).postLink_linkPosted (.linkLoop k true)
  have hj := ((s.modLink k f).postLink (.linkLoop k true)).judgeSource_same
  intro t
  change ({ (s.modLink k f).postLink (.linkLoop k true) with tbs := t.tbs } : State).SameButLog t at hj
  generalize t = t at hj
  have hl : t.links = upd s.links k f := hj.links
  have he : t.engines = ((s.modLink k f).postLink (.linkLoop k true)).engines := hj.engines
  have hb : t.begun = ((s.modLink k f).postLink (.linkLoop k true)).begun := hj.begun
  refine ⟨?_, ?_, ?_, fun e => ?_⟩
  · rw [hl]
    exact upd_othersSame _ _ _
  · rw [hl, he, hb]
    exact hj
  · rw [hl, upd_get_same]
  · rw [he]
    exact hpost e

theorem exec_lbrEnd_peer (dt : Nat) (h : s.inReset = false) (hx : (s.links[k]).loop = some x) (hk : x.kind = .lbr) (hst : x.stage = 2)
    (hd : x.begin + 50000000 ≤ s.now + dt) (hp : x.peer = true) (hnow : s.now + dt = s.clk.tickAt)
    (hcyc : s.clk.tickTb % s.linkCycle k = 0) (errs : List (Fin 200 × Fin 2048)) (d : BitVec 24) : exec (.lbrEnd dt k errs d) s =
      .next (((s.pass dt).modLink k (fun l => { l with loop := none })).postLink (.linkLoop k false)) := by
  have he : exec (.lbrEnd dt k errs d) s = execLbrEnd dt k errs d s := rfl
  have hdue : (s.pass dt).linkLoopDue k .lbr 50000000 = true := State.linkLoopDue_of hx hk hd
  have hx' : ((s.pass dt).links[k]).loop = some x := hx
  have hat : (s.pass dt).atTick = true := decide_eq_true hnow
  have hcyc' : (s.pass dt).clk.tickTb % (s.pass dt).linkCycle k = 0 := hcyc
  rw [he, execLbrEnd, hx']
  dsimp only
  rw [State.when_true (by rw [hdue, hat, decide_eq_true hcyc', State.pass_inReset, h, hst, hp]; rfl), if_pos hp]

/-- TEST frames of LBR that came back with bits inverted. -/
def State.lbrErrs (s : State) (k : Fin 8) (x : LinkLoop) (errs : List (Fin 200 × Fin 2048)) : List (List Byte × List Byte) :=
  s.testErrs k x.begin (s.testCount k 50) (errs.map (fun p => (p.1.val, p.2.val)))

/-- LBR has passed. -/
def State.lbrPass (s : State) (k : Fin 8) (x : LinkLoop) (errs : List (Fin 200 × Fin 2048)) (d : BitVec 24) : Bool :=
  (s.lbrErrs k x errs).all (fun p => testIntact s.seed false p.1 p.2) && decide (absDiff d.toNat (s.links[k]).delta2 ≤ 50)

theorem State.lbrPass_iff {errs : List (Fin 200 × Fin 2048)} {d : BitVec 24} : s.lbrPass k x errs d = true ↔
    (∀ p ∈ s.lbrErrs k x errs, testIntact s.seed false p.1 p.2 = true) ∧
    d.toNat ≤ (s.links[k]).delta2 + 50 ∧ (s.links[k]).delta2 ≤ d.toNat + 50 := by
  rw [State.lbrPass, Bool.and_eq_true, List.all_eq_true, decide_eq_true_eq, absDiff_le_iff]

/-- The result of a loopback is PASS where it passed. -/
theorem loopRes_eq_one_iff (p : Bool) : (if p then 1 else 2 : BitVec 3) = 1 ↔ p = true := by
  cases p <;> decide

theorem loopRes_of_ne_one {p : Bool} (h : (if p then 1 else 2 : BitVec 3) ≠ 1) : (if p then 1 else 2 : BitVec 3) = 2 :=
  if_neg fun hp => h (if_pos hp)

theorem exec_lbrEnd_own (dt : Nat) (h : s.inReset = false) (hx : (s.links[k]).loop = some x) (hk : x.kind = .lbr) (hst : x.stage = 2)
    (hd : x.begin + 50000000 ≤ s.now + dt) (hp : x.peer = false) (errs : List (Fin 200 × Fin 2048)) (d : BitVec 24) :
    exec (.lbrEnd dt k errs d) s =
      .next ((s.pass dt).endLinkLoop k 3 (if (s.pass dt).lbrPass k x errs d then 1 else 2) d) := by
  have he : exec (.lbrEnd dt k errs d) s = execLbrEnd dt k errs d s := rfl
  have hdue : (s.pass dt).linkLoopDue k .lbr 50000000 = true := State.linkLoopDue_of hx hk hd
  have hx' : ((s.pass dt).links[k]).loop = some x := hx
  rw [he, execLbrEnd, hx']
  dsimp only
  rw [State.when_true (by rw [hdue, State.pass_inReset, h, hst, hp]; rfl), if_neg (ne_true_of_eq_false hp)]
  rfl

end

end Sys2Proof.Machine

open Sys2Proof Sys2Proof.Machine

/-- Settles O32: each loopback of a link ends in `State.endLinkLoop`. What the line and the checkers did are operands (log 62); that unit 0
is given the TEST frames with inverted bits and the last one is the model's choice (log 94). -/
theorem loopbacksOfALink : Obligations.LoopbacksOfALink := by
  unfold Obligations.LoopbacksOfALink
  refine ⟨fun s dt k x errs d r h hx hk hd => ?_, fun s dt k x crc a b h hx hk hd hslot htick htx => ?_, fun s dt k x h hx hk hd => ?_,
    fun s dt k x h hx hk hp hst hd => ?_, fun s dt k x h hx hk hst hcyc hnow htick => ?_,
    fun s dt k x errs d h hx hk hst hd hp hnow hcyc => ?_, fun s dt k x errs d h hx hk hst hd hp => ?_⟩
  · obtain ⟨t, u, hexec, hunit, hend, hu⟩ := exec_lbaEnd_spec dt h hx hk hd errs d r
    obtain ⟨hlinks, hcrc, hframe⟩ := hunit.thenEndsLoop hend
    have hul : u.links = s.links := hunit.frame.links
    refine ⟨t, hexec, hlinks, hcrc, hframe, hunit.posted hend (Link.looped_lba hx hk), fun he hdr hrd => ?_, fun hbad => ?_⟩
    · subst he
      rw [State.lbaPass_clean hdr hrd, if_pos rfl] at hend
      obtain ⟨-, hl⟩ := hend.passed (by decide)
      obtain ⟨hmgt, hmdl, hc⟩ := hend.keeps (by decide)
      obtain ⟨v, hv⟩ := (s.pass dt).refCrc_lbaLast k x
      rw [State.lbaErrs_nil, List.nil_append, hv] at hu
      rw [hul, Link.endLoop_pass (by decide)] at hl
      rw [hmgt, hmdl, hc, hu]
      exact ⟨rfl, rfl, congrArg CrcUnit.outcome (upd_get_same _ _ _), hl⟩
    · rw [State.lbaPass_fails hbad, if_neg Bool.false_ne_true] at hend
      obtain ⟨hlast, hl⟩ := hend.failed rfl
      rw [hl, hul, Link.endLoop_fail]
      exact ⟨hlast, rfl⟩
  · obtain ⟨t, u, hexec, hunit, hend, hu⟩ := exec_lbfRun_spec dt h hx hk hd hslot htick htx crc a b
    obtain ⟨hlinks, hcrc, hframe⟩ := hunit.thenEndsLoop hend
    have hul : u.links = s.links := hunit.frame.links
    have hue : t.engines = s.engines := (hend.quiet (hul ▸ Link.looped_lbf hx hk)).trans hunit.frame.engines
    rw [hue] at hframe
    obtain ⟨hloop, hkind, hres, -⟩ := hend.link
    refine ⟨t, hexec, hlinks, hcrc, hframe, hloop, hkind, fun hgood => ?_, fun hbad => ?_⟩
    · rw [State.lbfPass_iff.2 hgood, if_pos rfl] at hend hres
      obtain ⟨hmgt, -, -⟩ := hend.keeps (by decide)
      rw [hmgt, hu]
      exact ⟨hres, rfl⟩
    · rw [State.lbfPass_fails hbad, if_neg Bool.false_ne_true] at hend hres
      exact ⟨hres, (hend.failed rfl).1⟩
  · have hend := State.endLinkLoop_ends (s.pass dt) k 2 3 0
    obtain ⟨ht, hl⟩ := hend.passed (by decide)
    rw [hend.quiet (Link.looped_lbf hx hk)] at ht
    exact ⟨_, exec_lbfNoSlot dt h hx hk hd, hend.others, ht, hl.trans (Link.endLoop_pass (by decide) _ _ _)⟩
  · have hend := State.endLinkLoop_ends (s.pass dt) k 3 2 0
    have hframe := hend.frame
    obtain ⟨hlast, hl⟩ := hend.failed rfl
    rw [hend.quiet ((Link.looped_lbr hx hk).trans (by rw [hst]; rfl))] at hframe
    rw [Link.endLoop_fail] at hl
    exact ⟨_, exec_lbrRequestTimeout dt h hx hk hp hst hd, hend.others, hframe, hl, hlast⟩
  · obtain ⟨hlinks, hframe, hl, hpost⟩ := (s.pass dt).lbrStarted_spec k (Link.startLoop (s.now + dt))
    refine ⟨_, exec_lbrLoopStart dt h hx hk hst hcyc hnow htick, hlinks, hframe, hl.trans ?_, hpost⟩
    rw [Link.startLoop, State.pass_links, hx]
    rfl
  · exact ⟨_, exec_lbrEnd_peer dt h hx hk hst hd hp hnow hcyc errs d, upd_othersSame _ _ _, rfl, upd_get_same _ _ _,
      State.postLink_linkPosted _ _⟩
  · have hend := State.endLinkLoop_ends (s.pass dt) k 3 (if (s.pass dt).lbrPass k x errs d then 1 else 2) d
    obtain ⟨hloop, hkind, hres, hdelay⟩ := hend.link
    have hpass := State.lbrPass_iff (s := s.pass dt) (k := k) (x := x) (errs := errs) (d := d)
    refine ⟨_, exec_lbrEnd_own dt h hx hk hst hd hp errs d, hend.others, hend.frame,
      hend.posted ((Link.looped_lbr hx hk).trans (by rw [hst]; rfl)), hloop, hkind, hdelay, ?_, fun hne => ?_⟩
    · rw [hres]
      exact (loopRes_eq_one_iff _).trans hpass
    · rw [hres] at hne
      have hfail := loopRes_of_ne_one hne
      exact ⟨hres.trans hfail, (hend.failed hfail).1⟩

end

section
/-! PROOFS. Pewter's writes to the check-value units (R242, R243). -/

namespace Sys2Proof.Machine
open Sys2Proof

/-! ### One write -/

/-- The unit to which Pewter writes by a command. -/
def writtenUnit : Instr → Option (Fin 4)
  | .crcStart u => some u
  | .crcData u _ => some u
  | .crcDataB u _ => some u
  | .crcFinish u => some u
  | _ => none

/-- What Pewter's write does to a unit that admits it (R243). -/
def unitWrite : Instr → CrcUnit → CrcUnit
  | .crcStart _, x => x.start
  | .crcData _ w, x => x.feed (toBytes 4 w.toNat)
  | .crcDataB _ b, x => x.feed [b]
  | .crcFinish _, x => x.finish
  | _, x => x

theorem exec_unitWrite {c : Instr} {u : Fin 4} {s : State} (hc : writtenUnit c = some u) (h : s.pewterOn = true) :
    ∃ off, exec c s = .next (s.pewterUnit u off (unitWrite c)) := by
  have hwhen : ∃ off, exec c s = s.when s.pewterOn (fun s => s.pewterUnit u off (unitWrite c)) := by
    cases c <;> simp only [writtenUnit, Option.some.injEq, reduceCtorEq] at hc <;> subst hc
    case crcStart => exact ⟨0x04, rfl⟩
    case crcData => exact ⟨0x08, rfl⟩
    case crcDataB => exact ⟨0x0C, rfl⟩
    case crcFinish => exact ⟨0x04, rfl⟩
  obtain ⟨off, he⟩ := hwhen
  exact ⟨off, he.trans (State.when_true h)⟩

theorem exec_unitWrite_acts {c : Instr} {u : Fin 4} {s : State} (hc : writtenUnit c = some u) (h : s.pewterOn = true)
    (hu : 2 ≤ u.val) : exec c s = .next (s.modCrc u (unitWrite c)) := by
  obtain ⟨off, he⟩ := exec_unitWrite hc h
  rw [he, State.pewterUnit, if_neg (Nat.not_lt.2 hu)]

/-- The filter's report of a write that it discards. -/
theorem State.blocked_spec (s : State) (addr : Nat) : s.SameButLog (s.blocked addr) ∧ (s.blocked addr).lastFault 0x0B01 0xFFFF :=
  ⟨(s.logD_same _ _ _).trans (State.mgtFault_same _ _), rfl⟩

theorem exec_unitWrite_blocked {c : Instr} {u : Fin 4} {s : State} (hc : writtenUnit c = some u) (h : s.pewterOn = true)
    (hu : u.val < 2) : ∃ t, exec c s = .next t ∧ s.SameButLog t ∧ t.lastFault 0x0B01 0xFFFF := by
  obtain ⟨off, he⟩ := exec_unitWrite hc h
  rw [State.pewterUnit, if_pos hu] at he
  exact ⟨_, he, s.blocked_spec _⟩

/-- A write that acts changes its unit alone. -/
theorem exec_unitWrite_spec {c : Instr} {u : Fin 4} {s : State} (hc : writtenUnit c = some u) (h : s.pewterOn = true)
    (hu : 2 ≤ u.val) : ∃ t, exec c s = .next t ∧ t = { s with crc := t.crc } ∧ OthersSame s.crc t.crc u ∧
      t.crc[u] = unitWrite c s.crc[u] :=
  ⟨_, exec_unitWrite_acts hc h hu, rfl, upd_othersSame _ _ _, upd_get_same _ _ _⟩

/-! ### Several writes to one unit, from the queue -/

theorem run_succ {M : Host.Core} {s t : M.State} (h : M.step s = .next t) (k : Nat) : M.run (k + 1) s = M.run k t := by
  rw [Host.Core.run, h]

theorem run_unitWrites {u : Fin 4} (hu : 2 ≤ u.val) (rest : List Instr) : ∀ (cs : List Instr) (s : State), s.pewterOn = true →
    (∀ c ∈ cs, writtenUnit c = some u) → s.pending = cs ++ rest → Host.Core.run core cs.length s =
      .next { s with crc := upd s.crc u (fun x => cs.foldl (fun x c => unitWrite c x) x), pending := rest } := by
  intro cs
  induction cs with
  | nil =>
    intro s _ _ hp
    simp only [List.foldl_nil, List.nil_append] at hp ⊢
    rw [upd_self rfl, ← hp]
    rfl
  | cons c cs ih =>
    intro s hon hcs hp
    let t : State := { s with pending := cs ++ rest }.modCrc u (unitWrite c)
    have hstep : step s = .next t := by
      rw [step, hp]
      exact exec_unitWrite_acts (s := { s with pending := cs ++ rest }) (hcs c List.mem_cons_self) hon hu
    refine (run_succ (M := core) hstep cs.length).trans ((ih t hon (fun d hd => hcs d (List.mem_cons_of_mem c hd)) rfl).trans ?_)
    simp only [t, State.modCrc, upd_upd, List.foldl_cons]

/-- Bytes that are fed one by one. -/
theorem foldl_feed (bs : List Byte) : ∀ x : CrcUnit, (bs.foldl (fun x b => x.feed [b]) x).algo = x.algo ∧
    (bs.foldl (fun x b => x.feed [b]) x).acc = bs.foldl (crcFeed x.algo) x.acc := by
  induction bs with
  | nil => exact fun _ => ⟨rfl, rfl⟩
  | cons b bs ih => exact fun x => ih (x.feed [b])

/-- START, the bytes and FINISH give the CRC-32C in a unit set to it. -/
theorem foldl_feed_crc32c {x : CrcUnit} (h : x.algo = 2) (bs : List Byte) :
    (bs.foldl (fun x b => x.feed [b]) x.start).finish.result = (crc32c bs).setWidth 64 := by
  obtain ⟨halgo, hacc⟩ := foldl_feed bs x.start
  have hstart : x.start.algo = 2 ∧ x.start.acc = crcInit 2 := ⟨h, congrArg crcInit h⟩
  rw [CrcUnit.finish, halgo, hacc, hstart.1, hstart.2, crcDone_crc32c]

end Sys2Proof.Machine

open Sys2Proof Sys2Proof.Machine

/-- Settles O6: on units 2 and 3 each write is a function of its unit; on units 0 and 1 the filter reports it. -/
theorem checkUnitWritesByPewter : Obligations.CheckUnitWritesByPewter := by
  unfold Obligations.CheckUnitWritesByPewter
  refine ⟨fun s u h hu => ⟨?_, fun w => ?_, fun b => ?_, ?_⟩, fun s u w b h hu c hc => ?_⟩
  · exact exec_unitWrite_spec (c := .crcStart u) rfl h hu
  · exact exec_unitWrite_spec (c := .crcData u w) rfl h hu
  · exact exec_unitWrite_spec (c := .crcDataB u b) rfl h hu
  · exact exec_unitWrite_spec (c := .crcFinish u) rfl h hu
  · refine exec_unitWrite_blocked (u := u) ?_ h hu
    simp only [List.mem_cons, List.not_mem_nil, or_false] at hc
    rcases hc with rfl | rfl | rfl | rfl <;> rfl

/-- Settles O7: the commands are writes to one unit, run one after the other (`run_unitWrites`), and what they do to it is the
fold of the algorithm over the bytes. -/
theorem checkUnitGivesCrc32cOfBytes : Obligations.CheckUnitGivesCrc32cOfBytes := by
  unfold Obligations.CheckUnitGivesCrc32cOfBytes
  intro s u bs rest hon hu halgo hp
  have hwrites : ∀ c ∈ Instr.crcStart u :: (bs.map (Instr.crcDataB u) ++ [.crcFinish u]), writtenUnit c = some u := by
    simp only [List.mem_cons, List.mem_append, List.mem_map, List.not_mem_nil, or_false]
    rintro c (rfl | ⟨b, -, rfl⟩ | rfl) <;> rfl
  have hrun := run_unitWrites hu rest _ s hon hwrites (by simpa using hp)
  rw [List.length_cons, List.length_append, List.length_map] at hrun
  refine ⟨_, hrun, rfl, ?_, rfl, upd_othersSame _ _ _⟩
  rw [upd_get_same, List.foldl_cons, List.foldl_append, List.foldl_map]
  exact foldl_feed_crc32c halgo bs

end

section
/-! PROOFS. The commands that rows give: what bars them, and what runs (R197, R227, R233 to R238, R323, R366). -/

namespace Sys2Proof.Machine
open Sys2Proof

/-! ### Logging with a fault bit of the interpreter (R228, R340) -/

/-- A fault of the interpreter is logged, and `f` then changes the interpreter. -/
theorem State.cmdFault_spec (s : State) (f : Interp → Interp) (bit : Nat) {code : Nat} (h5 : code ≠ 0x0605) (h3 : code ≠ 0x0703)
    (hc : code < 65536) : ({ s with cmd := f { s.cmd with fault := setBit s.cmd.fault bit } } : State).SameButLog
        { s.cmdFault bit code with cmd := f (s.cmdFault bit code).cmd } ∧
      ({ s.cmdFault bit code with cmd := f (s.cmdFault bit code).cmd } : State).lastFault code 0xFFFF := by
  have hsame : ({ s with cmd := { s.cmd with fault := setBit s.cmd.fault bit } } : State).SameButLog (s.cmdFault bit code) :=
    State.fault_same _ _ _
  have hlast : (s.cmdFault bit code).lastFault code 0xFFFF := State.fault_lastFault _ code 0xFFFF h5 h3 hc (by decide)
  refine ⟨?_, hlast⟩
  unfold State.SameButLog at hsame ⊢
  rw [hsame]

/-- NOT_PERMITTED with 0A06h (R227). -/
theorem State.notPermitted_answered (s : State) :
    ({ s with cmd := { s.cmd with fault := setBit s.cmd.fault 5 } } : State).answered
      ((s.cmdFault 5 0x0A06).answerSt .none stNotPermitted) { status := stNotPermitted } ∧
    ((s.cmdFault 5 0x0A06).answerSt .none stNotPermitted).lastFault 0x0A06 0xFFFF :=
  s.cmdFault_spec (fun c => { c with lastReply := some { status := stNotPermitted } }) 5 (by decide) (by decide) (by decide)

/-! ### The checks of Table 8-6 -/

section
variable {s : State} {c : Cmd} {k : Snap}

theorem State.precheck_noImage (himg : s.hasImage = false) (hn : needsImage c.op.code = true) :
    s.precheck c k = some stUnconfirmed := if_pos ⟨hn, himg⟩

theorem State.precheck_noKey {key : Nat} (himg : s.hasImage = true ∨ needsImage c.op.code = false) (hc : c.who.class = .t)
    (hk : keyOf c.op.code = some key) (hacc : (if key = 6 then k.vi6 else k.vi7) = false) :
    s.precheck c k = some stNotPermitted := by
  have hopen : ¬ (needsImage c.op.code = true ∧ s.hasImage = false) := by
    rintro ⟨hn, hi⟩
    rcases himg with h | h
    · exact Bool.false_ne_true (hi.symm.trans h)
    · exact Bool.false_ne_true (h.symm.trans hn)
  rw [State.precheck, if_neg hopen, hc, hk]
  exact if_neg (ne_true_of_eq_false hacc)

/-- UNCONFIRMED, which a reset also logs. -/
theorem State.runOp_unconfirmed (hpre : s.precheck c k = some stUnconfirmed) (hr : c.op.asReset = none) :
    s.runOp c k = s.answerSt c.ref stUnconfirmed := by
  rw [State.runOp, hpre, hr]
  rfl

theorem State.runOp_notPermitted (hpre : s.precheck c k = some stNotPermitted) (hr : c.op.asReset = none) :
    s.runOp c k = (s.cmdFault 5 0x0A06).answerSt c.ref stNotPermitted := by
  rw [State.runOp, hpre, hr]
  rfl

theorem State.haltedAnswer_refused {st : Byte} (hpre : s.precheck c k = some st) : s.haltedAnswer c k = s.runOp c k := by
  rw [State.haltedAnswer, hpre]
  rfl

theorem State.haltedAnswer_halted (hpre : s.precheck c k = none) (hr : c.op.asReset = none) :
    s.haltedAnswer c k = s.answerSt c.ref stEngineHalted := by
  rw [State.haltedAnswer, hpre, hr]
  rfl

theorem State.haltedAnswer_reset {x : ResetKind} {g : Word} (hpre : s.precheck c k = none) (hr : c.op.asReset = some (x, g)) :
    s.haltedAnswer c k = (s.secLog (refusedLog s.cfg g)).answerSt c.ref stEngineHalted := by
  rw [State.haltedAnswer, hpre, hr]
  rfl

end

/-! ### A reset that no engine executes (R143) -/

theorem refusedLog_code (cfg : Cfg) (g : Word) : (refusedLog cfg g).code = 0x0709 := by
  unfold refusedLog
  split <;> rfl

/-- SEC_FAULT and the log are all that a section's log changes. -/
theorem State.secLog_same (s : State) (l : SecLog) :
    ({ s with secFault := (s.secLog l).secFault } : State).SameButLog (s.secLog l) := by
  unfold State.secLog
  rcases l.sx with - | ⟨i, b⟩
  · exact (State.fault_secFault s _ _).symm ▸ State.fault_same s _ _
  · rw [State.fault_secFault]
    exact State.fault_same _ _ _

theorem State.secLog_lastFault (s : State) {l : SecLog} (h5 : l.code ≠ 0x0605) (h3 : l.code ≠ 0x0703) :
    (s.secLog l).lastFault l.code.toNat l.obj.toNat :=
  State.fault_lastFault _ _ _ (fun h => h5 (BitVec.eq_of_toNat_eq h)) (fun h => h3 (BitVec.eq_of_toNat_eq h)) l.code.isLt l.obj.isLt

/-- ENGINE_HALTED with 0709h. -/
theorem State.resetRefused_answered (s : State) (g : Word) : ∃ t, (s.secLog (refusedLog s.cfg g)).answerSt .none stEngineHalted = t ∧
    ({ s with secFault := t.secFault } : State).answered t { status := stEngineHalted } ∧ ∃ obj, t.lastFault 0x0709 obj := by
  have hlast := s.secLog_lastFault (l := refusedLog s.cfg g) (by rw [refusedLog_code]; decide) (by rw [refusedLog_code]; decide)
  rw [refusedLog_code] at hlast
  exact ⟨_, rfl, (s.secLog_same _).answered (State.SameButLog.refl _), _, hlast⟩

/-! ### The way of a command that its row gives (R197, R227, R235, R238) -/

/-- The command of a row. -/
abbrev rowCmd (w : Who) (o : Op) : Cmd := { who := w, op := o, ref := .none }

/-- The executor of a command takes it: the interpreter or Pewter on admission, or an engine; where none can, it is answered
ENGINE_HALTED (R234, R235). The last branch of `State.giveOp`. -/
def State.handOn (s : State) (c : Cmd) : State :=
  if c.op.onAdmission then
    (if s.pewterOn ∨ c.op.code.toNat ∈ [0x01, 0x02, 0x03, 0x60] then s.runOp c s.snap else s)
  else
    match s.executor c.op with
    | none => s.haltedAnswer c s.snap
    | some e => if c.op.asReset.isSome = true ∧ (s.precheck c s.snap).isNone = true then s.giveReset c e else s.runOp c s.snap

theorem State.handOn_noEngine {s : State} {c : Cmd} (hon : c.op.onAdmission = false) (he : s.executor c.op = none) :
    s.handOn c = s.haltedAnswer c s.snap := by
  rw [State.handOn, if_neg (ne_true_of_eq_false hon), he]

/-- What the checks of Table 8-6 refuse is refused whoever executes it. -/
theorem State.handOn_refused {s : State} {c : Cmd} {st : Byte}
    (hon : c.op.onAdmission = true → s.pewterOn = true ∨ c.op.code.toNat ∈ [0x01, 0x02, 0x03, 0x60])
    (hpre : s.precheck c s.snap = some st) : s.handOn c = s.runOp c s.snap := by
  unfold State.handOn
  split
  next h => exact if_pos (hon h)
  next =>
    split
    next => exact State.haltedAnswer_refused hpre
    next => exact if_neg fun h => by simp [hpre] at h

section
variable {s : State} {w : Who} {o : Op} {ps : List Byte} (htap : ¬ (s.clk.prodTest = true ∧ o.isLoopback = true))
include htap

theorem State.giveOp_badClass (hc : classAdmits w.class o.code ps = false) :
    s.giveOp w o ps = (s.cmdFault 5 0x0A06).answerSt .none stNotPermitted := by
  unfold State.giveOp
  exact (if_neg htap).trans (if_pos hc)

variable (hc : classAdmits w.class o.code ps = true)
include hc

theorem State.giveOp_testing (ht : s.testing = true) (hrd : isRead o.code = false) (hv : w.class ≠ .v) :
    s.giveOp w o ps = s.answerSt .none stBusyTesting := by
  unfold State.giveOp
  refine (if_neg htap).trans ((if_neg ?_).trans ((if_pos ⟨ht, hrd⟩).trans (if_neg hv)))
  rw [hc]
  decide

/-- An exempt vote passes no command but a read (R197). -/
theorem State.giveOp_exempt (ht : s.testing = false) (hrd : isRead o.code = false) (hw : w = .lanes true) :
    s.giveOp w o ps = s.haltedAnswer (rowCmd w o) s.snap := by
  subst hw
  unfold State.giveOp
  refine (if_neg htap).trans ((if_neg ?_).trans ((if_neg ?_).trans (if_pos ⟨rfl, hrd⟩)))
  · rw [hc]
    decide
  · rintro ⟨h, -⟩
    exact Bool.false_ne_true (ht.symm.trans h)

variable (ht : s.testing = false ∨ isRead o.code = true) (hx : w ≠ .lanes true ∨ isRead o.code = true)
include ht hx

/-- What passes the class, the self-test and the vote is handed to its executor. -/
theorem State.giveOp_handOn : s.giveOp w o ps = s.handOn (rowCmd w o) := by
  unfold State.giveOp
  refine (if_neg htap).trans ((if_neg ?_).trans ((if_neg ?_).trans ((if_neg ?_).trans rfl)))
  · rw [hc]
    decide
  · rintro ⟨h, hrd⟩
    rcases ht with ht | ht
    · exact Bool.false_ne_true (ht.symm.trans h)
    · exact Bool.false_ne_true (hrd.symm.trans ht)
  · rintro ⟨h, hrd⟩
    rcases hx with hx | hx
    · cases w with
      | lanes x => exact hx (congrArg Who.lanes h)
      | mgt _ => exact Bool.false_ne_true h
      | tool _ => exact Bool.false_ne_true h
    · exact Bool.false_ne_true (hrd.symm.trans hx)

end

/-! ### What a row answers -/

theorem exec_giveOp {c : Instr} {w : Who} {o : Op} {ps : List Byte} {s : State} (hc : asOp c = some (w, o, ps))
    (h : s.inReset = false) : exec c s = .next (s.giveOp w o ps) := by
  rw [exec_opRow c w o ps s hc, opRow, State.when_true (by rw [h]; rfl)]

/-- The interpreter and Pewter execute no reset. -/
theorem Op.onAdmission_reset {o : Op} (h : o.asReset.isSome = true) : o.onAdmission = false ∧ isRead o.code = false := by
  cases o <;> simp_all [Op.asReset, Op.onAdmission, Op.code, isRead]

/-- No command with a key is a read or is executed on admission, and none is a reset. -/
theorem Op.keyOf_some {o : Op} {k : Nat} (h : keyOf o.code = some k) :
    o.onAdmission = false ∧ isRead o.code = false ∧ o.asReset = none := by
  cases o <;> simp_all [Op.asReset, Op.onAdmission, Op.code, isRead, keyOf]

/-- A command of Pewter itself alone has source ID 2000h (R323). -/
theorem State.sourceOf_row (s : State) {w : Who} (o : Op) (h : w ≠ .mgt 0) : (s.sourceOf (rowCmd w o)).1 ≠ 0x2000 := by
  cases w with
  | lanes _ => exact (by decide : (0x1000 : BitVec 16) ≠ 0x2000)
  | mgt id =>
    have hid : ∀ id : BitVec 4, id ≠ 0 → (0x2000 : BitVec 16) + id.setWidth 16 ≠ 0x2000 := by decide
    exact hid id fun h0 => h (congrArg Who.mgt h0)
  | tool id =>
    have hid : ∀ id : BitVec 3, (0x3000 : BitVec 16) + id.setWidth 16 ≠ 0x2000 := by decide
    exact hid id

/-- Event 0002h of a command that has run. -/
theorem State.finish_event {u : State} {w : Who} (o : Op) (r : Result) (hw : w ≠ .mgt 0) (h : u.hasRoom) :
    ∃ e : Event, (u.finish (rowCmd w o) r).mgt.queue = u.mgt.queue ++ [.event e] ∧ e.code = 0x0002 ∧ e.obj = 0xFFFF := by
  rw [State.finish, if_neg (u.sourceOf_row o hw)]
  exact ⟨_, u.event_queue _ _ _ h, rfl, rfl⟩

end Sys2Proof.Machine

open Sys2Proof Sys2Proof.Machine

/-- Settles O33: each clause is one branch of `State.giveOp`, which the row runs, and of the checks of Table 8-6 behind it. That
ENGINE_HALTED comes after the first two of these checks, and logs 0709h for a reset, is the model's choice (log 34). -/
theorem commandsBarred : Obligations.CommandsBarred := by
  unfold Obligations.CommandsBarred
  intro c w o ps s hop h hprod
  have htap : ¬ (s.clk.prodTest = true ∧ o.isLoopback = true) := by
    rintro ⟨hp, hl⟩
    rcases hprod with hn | hn
    · exact Bool.false_ne_true (hn.symm.trans hp)
    · exact Bool.false_ne_true (hn.symm.trans hl)
  rw [exec_giveOp hop h]
  refine ⟨fun hc => ?_, fun hc hrd ht hv => ?_, fun hc hrd ht hw hr hpre => ?_, fun hc ht hx hon he hpre hr => ?_,
    fun hc ht hwe hpre hr => ?_, fun hc ht hx hon hr himg hn => ?_, fun id k hw hk ht hacc hc himg => ?_⟩
  · rw [State.giveOp_badClass htap hc]
    exact ⟨_, rfl, s.notPermitted_answered⟩
  · rw [State.giveOp_testing htap hc ht hrd hv]
    rfl
  · rw [State.giveOp_exempt htap hc ht hrd hw, State.haltedAnswer_halted hpre hr]
    rfl
  · rw [State.giveOp_handOn htap hc ht hx, State.handOn_noEngine hon he,
      State.haltedAnswer_halted hpre hr]
    rfl
  · obtain ⟨⟨x, g⟩, hg⟩ := Option.isSome_iff_exists.1 hr
    obtain ⟨hon, hrd⟩ := Op.onAdmission_reset hr
    have hgive : s.giveOp w o ps = s.haltedAnswer (rowCmd w o) s.snap := by
      by_cases hw : w = .lanes true
      · exact State.giveOp_exempt htap hc ht hrd hw
      · exact (State.giveOp_handOn htap hc (.inl ht) (.inl hw)).trans (State.handOn_noEngine hon (hwe.resolve_left hw))
    rw [hgive, State.haltedAnswer_reset hpre hg]
    obtain ⟨t, ht', hspec⟩ := s.resetRefused_answered g
    exact ⟨t, congrArg _ ht', hspec⟩
  · have hpre := State.precheck_noImage (c := rowCmd w o) (k := s.snap) himg hn
    rw [State.giveOp_handOn htap hc ht hx, State.handOn_refused hon hpre, State.runOp_unconfirmed hpre hr]
    rfl
  · subst hw
    obtain ⟨hon, -, hr⟩ := Op.keyOf_some hk
    have hpre := State.precheck_noKey (c := rowCmd (.tool id) o) (k := s.snap) himg rfl hk hacc
    have hnot : o.onAdmission = true → s.pewterOn = true ∨ o.code.toNat ∈ [0x01, 0x02, 0x03, 0x60] :=
      fun h => absurd h (ne_true_of_eq_false hon)
    rw [State.giveOp_handOn (w := .tool id) htap hc (.inl ht) (.inl (by simp)), State.handOn_refused hnot hpre,
      State.runOp_notPermitted hpre hr]
    exact ⟨_, rfl, s.notPermitted_answered⟩

/-- Settles O34: such a row leaves its operation's state, finished (`exec_finished`). That it runs at once on the present state and
that reads enter 0002h too are the model's choices (log 14, log 31). -/
theorem commandsRun : Obligations.CommandsRun := by
  unfold Obligations.CommandsRun
  intro c w o ps s u hop h hr
  refine ⟨fun r hp => ⟨_, exec_finished hop h hr hp, State.finish_answered u w o r, fun hw hroom => ?_⟩,
    fun hp => exec_unanswered hop h hr hp⟩
  exact State.finish_event o r hw hroom

end

section
/-! PROOFS. The admission checks of a command packet (R228, R230, Table 8-4). -/

namespace Sys2Proof.Machine
open Sys2Proof

/-! ### A packet sent on top of a log -/

theorem State.SameButLog.pewterOn {s t : State} (h : s.SameButLog t) : t.pewterOn = s.pewterOn := by
  rw [State.pewterOn, State.pewterOn, State.inReset, State.inReset, h.mdl_phase, h.mgt_pw]

/-- What is logged does not show in what is sent. -/
theorem State.SameButLog.sendPacket {s t : State} (h : s.SameButLog t) (path : Path) (bytes : List Byte) (tag : Option Nat) :
    (s.sendPacket path bytes tag).SameButLog (t.sendPacket path bytes tag) := by
  have hon := h.pewterOn
  unfold State.sendPacket
  cases path with
  | lane i =>
    unfold State.SameButLog at h ⊢
    rw [h]
    rfl
  | mailbox =>
    dsimp only
    rw [hon]
    split
    · unfold State.SameButLog at h ⊢
      rw [h]
    · exact h

theorem State.lastFault.sendPacket {t : State} {code obj : Nat} (h : t.lastFault code obj) (path : Path) (bytes : List Byte)
    (tag : Option Nat) : (t.sendPacket path bytes tag).lastFault code obj :=
  h.congr (t.sendPacket_replies path bytes tag).mdl

/-- A fault that refuses a packet is logged and counted. -/
theorem State.refusePacket_spec (s : State) (bit : Nat) {code : Nat} (h5 : code ≠ 0x0605) (h3 : code ≠ 0x0703) (hc : code < 65536) :
    ({ s with cmd := { s.cmd with fault := setBit s.cmd.fault bit, errRefused := satInc s.cmd.errRefused } } : State).SameButLog
      (s.refusePacket bit code) ∧ (s.refusePacket bit code).lastFault code 0xFFFF :=
  s.cmdFault_spec (fun c => { c with errRefused := satInc c.errRefused }) bit h5 h3 hc

/-! ### The checks, one after the other (Table 8-4) -/

/-- The state at `dt` in which the oldest packet has been taken and `rest` waits on. -/
def State.taken (s : State) (dt : Nat) (rest : List Packet) : State := { s.pass dt with cmd := { s.cmd with inbox := rest } }

/-- A packet whose trailer matches is counted. -/
def State.received (s : State) : State := { s with cmd := { s.cmd with rxCnt := s.cmd.rxCnt + 1 } }

section
variable {s : State} {p : Packet}

theorem State.packet_badTrailer (ht : trailerOk p.bytes = false) : s.packet p =
    { s.cmdFault 0 0x0A01 with cmd := { (s.cmdFault 0 0x0A01).cmd with errTrailer := satInc (s.cmdFault 0 0x0A01).cmd.errTrailer } } := by
  rw [State.packet, ht]
  rfl

variable (ht : trailerOk p.bytes = true)
include ht

theorem State.packet_badFormat (hf : packetFormatOk p.bytes = false) :
    s.packet p = (s.received.refusePacket 1 0x0A02).bounce p.path p.bytes stBadParam := by
  rw [State.packet, ht]
  dsimp only
  rw [hf]
  rfl

variable (hf : packetFormatOk p.bytes = true)
include hf

theorem State.packet_badSource (hs : sourceOk p.path (hdrSource p.bytes) = false) :
    s.packet p = s.received.refusePacket 2 0x0A03 := by
  rw [State.packet, ht]
  dsimp only
  rw [hf, hs]
  rfl

variable (hs : sourceOk p.path (hdrSource p.bytes) = true)
include hs

theorem State.packet_duplicate {d : DupEntry}
    (hd : s.cmd.dup.find? (fun x => decide (x.src = hdrSource p.bytes ∧ x.seq = hdrSeq p.bytes)) = some d) :
    s.packet p = s.received.duplicate p d := by
  rw [State.packet, ht]
  dsimp only
  rw [hf, hs, hd]
  rfl

variable (hd : s.cmd.dup.find? (fun x => decide (x.src = hdrSource p.bytes ∧ x.seq = hdrSeq p.bytes)) = none)
include hd

theorem State.packet_tagInUse (hx : ∃ x ∈ s.cmd.tags, hdrSource x.header = hdrSource p.bytes ∧ hdrTag x.header = hdrTag p.bytes) :
    s.packet p = (s.received.refusePacket 4 0x0A05).bounce p.path p.bytes stBadParam := by
  have hany : s.cmd.tags.any (fun t => decide (hdrSource t.header = hdrSource p.bytes ∧ hdrTag t.header = hdrTag p.bytes)) = true := by
    simpa only [List.any_eq_true, decide_eq_true_eq] using hx
  rw [State.packet, ht]
  dsimp only
  rw [hf, hs, hd, hany]
  rfl

/-- The quota is exceeded: 0A04h, counted in REPEAT.FULL and not in REFUSED. -/
theorem State.packet_overQuota
    (hx : ∀ x ∈ s.cmd.tags, hdrSource x.header ≠ hdrSource p.bytes ∨ hdrTag x.header ≠ hdrTag p.bytes)
    (hq : quotaOf (hdrSource p.bytes) ≤ s.cmd.inFlight (hdrSource p.bytes)) : s.packet p =
    ({ s.received.cmdFault 3 0x0A04 with cmd := { (s.received.cmdFault 3 0x0A04).cmd with
        repeatFull := satInc (s.received.cmdFault 3 0x0A04).cmd.repeatFull } } : State).bounce p.path p.bytes stQueueFull := by
  have hany : s.cmd.tags.any (fun t => decide (hdrSource t.header = hdrSource p.bytes ∧ hdrTag t.header = hdrTag p.bytes)) = false :=
    List.any_eq_false.2 fun x hxm => by
      rw [decide_eq_true_eq, not_and_or]
      exact hx x hxm
  rw [State.packet, ht]
  dsimp only
  rw [hf, hs, hd, hany]
  exact if_pos hq

end

/-- A duplicate of a packet that is no longer in flight is answered with what its first reply said (R230). -/
theorem State.duplicate_answered {s : State} {d : DupEntry} {r : Result} (p : Packet)
    (hx : ∀ x ∈ s.cmd.tags, hdrSource x.header ≠ d.src ∨ hdrSeq x.header ≠ d.seq) (hr : d.reply = some r) :
    s.duplicate p d = ({ s with cmd := { s.cmd with repeatDup := satInc s.cmd.repeatDup } } : State).sendPacket p.path
      (replyPacket p.bytes false r.duplicate) none := by
  have hnone : s.cmd.tags.find? (fun t => decide (hdrSource t.header = d.src ∧ hdrSeq t.header = d.seq)) = none :=
    List.find?_eq_none.2 fun x hxm => by
      rw [decide_eq_true_eq, not_and_or]
      exact hx x hxm
  rw [State.duplicate]
  dsimp only
  rw [hnone, hr]

end Sys2Proof.Machine

open Sys2Proof Sys2Proof.Machine

/-- Settles O47: the row takes the first packet that waits (`exec_commandPacket_waiting`) and runs `State.packet`, of which each
check is one branch; what it logs, it logs before it answers. -/
theorem packetAdmission : Obligations.PacketAdmission := by
  unfold Obligations.PacketAdmission
  intro s u dt p rest h hin hu
  rw [exec_commandPacket_waiting dt h hin]
  subst hu
  refine ⟨fun ht => ?_, fun ht hf => ?_, fun ht hf hs => ?_, fun ht hf hs => ⟨fun d r hd hx hr => ?_, fun hd => ⟨fun hx => ?_,
    fun hx hq => ?_⟩⟩⟩
  · obtain ⟨hsame, hlast⟩ := (s.taken dt rest).cmdFault_spec (fun c => { c with errTrailer := satInc c.errTrailer }) 0
      (code := 0x0A01) (by decide) (by decide) (by decide)
    exact ⟨_, congrArg _ (State.packet_badTrailer ht), hlast, hsame⟩
  · obtain ⟨hsame, hlast⟩ := (s.taken dt rest).received.refusePacket_spec 1 (code := 0x0A02) (by decide) (by decide) (by decide)
    exact ⟨_, congrArg _ (State.packet_badFormat ht hf), hlast.sendPacket _ _ _, hsame.sendPacket _ _ _⟩
  · obtain ⟨hsame, hlast⟩ := (s.taken dt rest).received.refusePacket_spec 2 (code := 0x0A03) (by decide) (by decide) (by decide)
    exact ⟨_, congrArg _ (State.packet_badSource ht hf hs), hlast, hsame⟩
  · exact congrArg _ ((State.packet_duplicate (s := s.taken dt rest) ht hf hs hd).trans
      (State.duplicate_answered (s := (s.taken dt rest).received) p hx hr))
  · obtain ⟨hsame, hlast⟩ := (s.taken dt rest).received.refusePacket_spec 4 (code := 0x0A05) (by decide) (by decide) (by decide)
    exact ⟨_, congrArg _ (State.packet_tagInUse ht hf hs hd hx), hlast.sendPacket _ _ _, hsame.sendPacket _ _ _⟩
  · obtain ⟨hsame, hlast⟩ := (s.taken dt rest).received.cmdFault_spec (fun c => { c with repeatFull := satInc c.repeatFull }) 3
      (code := 0x0A04) (by decide) (by decide) (by decide)
    exact ⟨_, congrArg _ (State.packet_overQuota ht hf hs hd hx hq), hlast.sendPacket _ _ _, hsame.sendPacket _ _ _⟩

end

section
/-! PROOFS. Faults of the vital inputs: how they begin and end (R247, R248, R250, R251, R253). -/

namespace Sys2Proof.Machine

variable {s t u : State}

/-! ### Operations on one input -/

/-- A bit of VI_FAULT is set. -/
def Vi.markFault (bit : Nat) (v : Vi) : Vi := { v with fault := setBit v.fault bit }

theorem State.viFault_same (s : State) (i : Fin 8) (bit code : Nat) :
    (s.modVi i (Vi.markFault bit)).SameButLog (s.viFault i bit code) := State.fault_same _ _ _

theorem State.viFault_lastFault (s : State) (i : Fin 8) (bit : Nat) {code : Nat} (h5 : code ≠ 0x0605) (h3 : code ≠ 0x0703)
    (hc : code < 65536) : (s.viFault i bit code).lastFault code i.val :=
  State.fault_lastFault _ _ _ h5 h3 hc (by omega)

theorem State.viUse_congr (h : t.img = s.img) (i : Fin 8) : t.viUse i = s.viUse i := by
  unfold State.viUse State.cfg
  rw [h]

theorem State.SameButLog.withInputs (h : s.SameButLog t) (v : Vector Vi 8) (w : Vector Engine 4) :
    ({ s with vis := v, engines := w } : State).SameButLog { t with vis := v, engines := w } := by
  unfold State.SameButLog at h ⊢
  rw [h]

/-- An input of this use enters reset fault if it is a press input (R253). -/
def Vi.enterResetFault (use : ViUse) (v : Vi) : Vi := { v with resetFault := v.resetFault || decide (use = .press) }

theorem Vi.enterResetFault_press (v : Vi) : v.enterResetFault .press = { v with resetFault := true } := by
  simp [Vi.enterResetFault]

theorem Vi.enterResetFault_idle {use : ViUse} {v : Vi} (h : use ≠ .press ∨ v.resetFault = true) : v.enterResetFault use = v := by
  have hflag : (v.resetFault || decide (use = .press)) = v.resetFault := by
    rcases h with h | h <;> simp [h]
  rw [Vi.enterResetFault, hflag]

/-- A press input that enters reset fault is heard by the engines; nothing else of the module changes (R253). -/
theorem State.enterResetFault_spec (s : State) (i : Fin 8) :
    (s.enterResetFault i).vis = upd s.vis i (Vi.enterResetFault (s.viUse i)) ∧
    s.enterResetFault i = { s with vis := (s.enterResetFault i).vis, engines := (s.enterResetFault i).engines } ∧
    (s.viUse i = .press ∧ (s.vis[i]).resetFault = false → s.viPosted (s.enterResetFault i) (.stuck i)) ∧
    (s.viUse i ≠ .press ∨ (s.vis[i]).resetFault = true → (s.enterResetFault i).engines = s.engines) := by
  unfold State.enterResetFault
  split
  next h =>
    refine ⟨?_, rfl, fun _ => State.postVi_viPosted _ _, fun k => absurd h ?_⟩
    · rw [h.1]
      exact congrArg (upd s.vis i) (funext fun v => v.enterResetFault_press.symm)
    · rw [not_and_or, Bool.not_eq_false]
      exact k
  next h =>
    refine ⟨?_, rfl, fun k => absurd k h, fun _ => rfl⟩
    rw [not_and_or, Bool.not_eq_false] at h
    rw [upd_congr (g := id) (Vi.enterResetFault_idle h)]
    simp [upd]

/-! ### A fault that begins -/

/-- An input changes, logs a fault and enters reset fault if it is a press input. -/
def State.declareVi (s : State) (i : Fin 8) (f : Vi → Vi) (bit code : Nat) : State :=
  ((s.modVi i f).viFault i bit code).enterResetFault i

theorem State.declareVi_spec (s : State) (i : Fin 8) {f : Vi → Vi} (hf : ∀ v, (f v).resetFault = v.resetFault) (bit : Nat) {code : Nat}
    (h5 : code ≠ 0x0605) (h3 : code ≠ 0x0703) (hc : code < 65536) :
    OthersSame s.vis (s.declareVi i f bit code).vis i ∧
    ({ s with vis := (s.declareVi i f bit code).vis, engines := (s.declareVi i f bit code).engines } : State).SameButLog
      (s.declareVi i f bit code) ∧
    (s.declareVi i f bit code).vis[i] = ((f s.vis[i]).markFault bit).enterResetFault (s.viUse i) ∧
    (s.declareVi i f bit code).lastFault code i.val ∧
    (s.viUse i = .press ∧ (s.vis[i]).resetFault = false → s.viPosted (s.declareVi i f bit code) (.stuck i)) ∧
    (s.viUse i ≠ .press ∨ (s.vis[i]).resetFault = true → (s.declareVi i f bit code).engines = s.engines) := by
  let u := (s.modVi i f).viFault i bit code
  have hsame : ((s.modVi i f).modVi i (Vi.markFault bit)).SameButLog u := State.viFault_same _ i bit code
  have huse : u.viUse i = s.viUse i := State.viUse_congr hsame.img i
  have huvis : u.vis = upd s.vis i (fun v => (f v).markFault bit) := hsame.vis.trans (upd_upd _ _ _ _)
  have hreset : (u.vis[i]).resetFault = (s.vis[i]).resetFault := by
    rw [huvis, upd_get_same]
    exact hf _
  have hlate : u.late = s.late := State.late_congr hsame.clk
  have hueng : u.engines = s.engines := hsame.engines
  obtain ⟨hvis, hframe, hpost, hquiet⟩ := u.enterResetFault_spec i
  have hdecl : s.declareVi i f bit code = u.enterResetFault i := rfl
  rw [huse, hreset] at hpost hquiet
  have htvis : (s.declareVi i f bit code).vis = upd s.vis i (fun v => ((f v).markFault bit).enterResetFault (s.viUse i)) := by
    rw [← huse]
    exact hvis.trans ((congrArg (fun v => upd v i _) huvis).trans (upd_upd _ _ _ _))
  refine ⟨?_, ?_, ?_, ?_, fun h e => ?_, fun h => (hquiet h).trans hueng⟩
  · rw [htvis]
    exact upd_othersSame _ _ _
  · have hlog := hsame.withInputs (s.declareVi i f bit code).vis (s.declareVi i f bit code).engines
    rw [hdecl] at hlog ⊢
    rw [← hframe] at hlog
    exact hlog
  · rw [htvis]
    exact upd_get_same _ _ _
  · exact State.lastFault.congr (t := u) (State.viFault_lastFault _ i bit h5 h3 hc) (by rw [hdecl, hframe])
  · rw [← hlate, ← hueng]
    exact hpost h e

/-! ### A fault that ends -/

/-- An input changes, and the engines hear of the end of a fault of a level input. -/
def State.endViFault (s : State) (i : Fin 8) (f : Vi → Vi) : State :=
  if s.viUse i = .level then (s.modVi i f).postVi (.faultEnd i) else s.modVi i f

theorem State.endViFault_spec (s : State) (i : Fin 8) (f : Vi → Vi) :
    OthersSame s.vis (s.endViFault i f).vis i ∧
    s.endViFault i f = { s with vis := (s.endViFault i f).vis, engines := (s.endViFault i f).engines } ∧
    (s.endViFault i f).vis[i] = f s.vis[i] ∧
    (s.viUse i = .level → s.viPosted (s.endViFault i f) (.faultEnd i)) ∧
    (s.viUse i ≠ .level → (s.endViFault i f).engines = s.engines) := by
  unfold State.endViFault
  split
  next h =>
    exact ⟨upd_othersSame _ _ _, rfl, upd_get_same _ _ _, fun _ => (s.modVi i f).postVi_viPosted _, fun k => absurd h k⟩
  next h => exact ⟨upd_othersSame _ _ _, rfl, upd_get_same _ _ _, fun k => absurd k h, fun _ => rfl⟩

/-! ### The commands -/

@[simp] theorem State.pass_viUse (s : State) (dt : Nat) (i : Fin 8) : (s.pass dt).viUse i = s.viUse i := rfl
@[simp] theorem State.pass_viDisc (s : State) (dt : Nat) (i : Fin 8) : (s.pass dt).viDisc i = s.viDisc i := rfl
@[simp] theorem State.pass_readSince (s : State) (dt t : Nat) : (s.pass dt).readSince t = s.readSince t := rfl

/-- What DISCREPANCY_TIMEOUT makes of an input (R250). -/
def Vi.discrepantAt (t : Nat) (v : Vi) : Vi :=
  { v with state := .discrepant, since := t, restSince := if v.combo = .inactive then some t else none, relSince := none }

/-- The same with the fault of a used input (R253). -/
def Vi.timedOut (use : ViUse) (t : Nat) (v : Vi) : Vi :=
  { v with
    state := .discrepant, since := t, relSince := none
    restSince := if v.combo = .inactive then some t else none
    fault := if use = .unused then v.fault else setBit v.fault 0
    resetFault := v.resetFault || decide (use = .press) }

theorem Vi.timedOut_unused (t : Nat) (v : Vi) : v.timedOut .unused t = v.discrepantAt t := by
  simp [Vi.timedOut, Vi.discrepantAt]

theorem Vi.timedOut_used {use : ViUse} (h : use ≠ .unused) (t : Nat) (v : Vi) :
    v.timedOut use t = ((v.discrepantAt t).markFault 0).enterResetFault use := by
  simp [Vi.timedOut, Vi.discrepantAt, Vi.markFault, Vi.enterResetFault, h]

theorem exec_discrepancyTimeout {dt : Nat} {i : Fin 8} (hr : s.inReset = false) (hst : (s.vis[i]).state = .transition)
    (hread : s.readSince ((s.vis[i]).since + s.viDisc i) = true) : exec (.discrepancyTimeout dt i) s = .next
      (if s.viUse i = .unused then (s.pass dt).modVi i (Vi.discrepantAt (s.now + dt))
        else (s.pass dt).declareVi i (Vi.discrepantAt (s.now + dt)) 0 0x0901) := by
  rw [show exec (.discrepancyTimeout dt i) s = execDiscrepancyTimeout dt i s from rfl, execDiscrepancyTimeout]
  refine State.when_true ?_
  rw [State.pass_inReset, State.pass_vis, State.pass_viDisc, State.pass_readSince, hr, hst, hread]
  rfl

theorem exec_stuckDeclaration {dt : Nat} {i : Fin 8} (hr : s.inReset = false) (hst : (s.vis[i]).state = .active)
    (hstuck : (s.vis[i]).stuck = false) (huse : s.viUse i = .press) (hread : s.readSince ((s.vis[i]).since + 10000000000) = true) :
    exec (.stuckDeclaration dt i) s = .next ((s.pass dt).declareVi i (fun v => { v with stuck := true }) 1 0x0902) := by
  rw [show exec (.stuckDeclaration dt i) s = execStuckDeclaration dt i s from rfl, execStuckDeclaration]
  refine State.when_true ?_
  rw [State.pass_inReset, State.pass_vis, State.pass_viUse, State.pass_readSince, hr, hst, hstuck, huse, hread]
  rfl

theorem exec_discrepantEnd {dt : Nat} {i : Fin 8} {r : Nat} (hr : s.inReset = false) (hst : (s.vis[i]).state = .discrepant)
    (hrest : (s.vis[i]).restSince = some r) (hdue : r + 1000000000 ≤ s.now + dt) : exec (.discrepantEnd dt i) s = .next
      ((s.pass dt).endViFault i (fun v =>
        ({ v with state := .inactive, since := s.now + dt, restSince := none } : Vi).release (s.now + dt))) := by
  rw [show exec (.discrepantEnd dt i) s = execDiscrepantEnd dt i s from rfl, execDiscrepantEnd]
  refine State.when_true ?_
  rw [State.pass_inReset, State.pass_vis, hr, hst, hrest]
  dsimp only
  rw [decide_eq_true (p := _ ≤ (s.pass dt).now) hdue]
  rfl

theorem exec_evaluatorFault {i : Fin 8} (hr : s.inReset = false) (hbad : 3 ≤ (s.vis[i]).evalBad)
    (hnone : (s.vis[i]).evalFault = false) (huse : s.viUse i ≠ .unused) : exec (.evaluatorFault i) s = .next
      (s.declareVi i (fun v => { v with evalFault := true, relSince := none }) 3 0x0904) := by
  rw [show exec (.evaluatorFault i) s = execEvaluatorFault i s from rfl, execEvaluatorFault]
  refine State.when_true ?_
  rw [hr, hnone, decide_eq_true hbad]
  exact decide_eq_true huse

theorem exec_evaluatorFaultEnd {dt : Nat} {i : Fin 8} {r : Nat} (hr : s.inReset = false) (hev : (s.vis[i]).evalFault = true)
    (hok : (s.vis[i]).evalOkSince = some r) (hdue : r + 1000000000 ≤ s.now + dt) : exec (.evaluatorFaultEnd dt i) s = .next
      ((s.pass dt).endViFault i (fun v => { v with evalFault := false })) := by
  rw [show exec (.evaluatorFaultEnd dt i) s = execEvaluatorFaultEnd dt i s from rfl, execEvaluatorFaultEnd]
  refine State.when_true ?_
  rw [State.pass_inReset, State.pass_vis, hr, hev, hok]
  dsimp only
  rw [decide_eq_true (p := _ ≤ (s.pass dt).now) hdue]
  rfl

theorem exec_feedFaultEnd {i : Fin 8} (hr : s.inReset = false) (hfeed : (s.vis[i]).feedFault = true)
    (ha : 10 ≤ (s.vis[i]).a.gapsOk) (hb : 10 ≤ (s.vis[i]).b.gapsOk) : exec (.feedFaultEnd i) s = .next
      (s.endViFault i (fun v => { v with feedFault := false })) := by
  rw [show exec (.feedFaultEnd i) s = execFeedFaultEnd i s from rfl, execFeedFaultEnd]
  refine State.when_true ?_
  rw [hr, hfeed]
  exact decide_eq_true ⟨ha, hb⟩

theorem exec_pressReportEnd {dt : Nat} {i : Fin 8} {r : Nat} (hr : s.inReset = false) (hrep : (s.vis[i]).report = true)
    (hu : (s.vis[i]).reportUntil = some r) (hdue : r ≤ s.now + dt) : exec (.pressReportEnd dt i) s = .next
      ((s.pass dt).modVi i (fun v => { v with report := false, reportUntil := none })) := by
  rw [show exec (.pressReportEnd dt i) s = execPressReportEnd dt i s from rfl, execPressReportEnd]
  refine State.when_true ?_
  rw [State.pass_inReset, State.pass_vis, hr, hrep, hu]
  dsimp only
  rw [decide_eq_true (p := _ ≤ (s.pass dt).now) hdue]
  rfl

/-- A release judged on an input at rest (R254). -/
theorem Vi.release_inactive {v : Vi} (h : v.state = .inactive) (t : Nat) :
    v.release t = { v with relSince := if v.faulty then none else some (v.relSince.getD t) } := by
  cases hf : v.faulty <;> simp [Vi.release, h, hf]

end Sys2Proof.Machine

open Sys2Proof Sys2Proof.Machine

/-- Settles O9: a fault that begins is one declaration (`State.declareVi_spec`) and one that ends one change of the input that the
engines hear for a level input (`State.endViFault_spec`). -/
theorem inputFaultsBeginAndEnd : Obligations.InputFaultsBeginAndEnd := by
  unfold Obligations.InputFaultsBeginAndEnd
  refine ⟨fun s dt i hr hst hread => ?_, fun s dt i hr hst hstuck huse hread => ?_, fun s dt i r hr hst hrest hdue => ?_,
    fun s i hr hbad hnone huse => ?_, fun s dt i r hr hev hok hdue => ?_, fun s i hr hfeed ha hb => ?_,
    fun s dt i r hr hrep hu hdue => ?_⟩
  · have hex := exec_discrepancyTimeout (dt := dt) hr hst hread
    by_cases huse : s.viUse i = .unused
    · rw [if_pos huse] at hex
      have hvi := (s.vis[i]).timedOut_unused (s.now + dt)
      rw [← huse] at hvi
      exact ⟨_, hex, upd_othersSame _ _ _, State.SameButLog.refl _, (upd_get_same _ _ _).trans hvi.symm, fun k => absurd huse k,
        fun k => absurd (huse.symm.trans k.1) (by decide), fun _ => rfl⟩
    · rw [if_neg huse] at hex
      obtain ⟨hoth, hsame, hvi, hlast, hpost, hquiet⟩ := (s.pass dt).declareVi_spec i (f := Vi.discrepantAt (s.now + dt))
        (fun _ => rfl) 0 (code := 0x0901) (by decide) (by decide) (by decide)
      exact ⟨_, hex, hoth, hsame, hvi.trans (Vi.timedOut_used huse (s.now + dt) s.vis[i]).symm, fun _ => hlast, hpost, hquiet⟩
  · obtain ⟨hoth, hsame, hvi, hlast, hpost, _⟩ := (s.pass dt).declareVi_spec i (f := fun v => { v with stuck := true })
      (fun _ => rfl) 1 (code := 0x0902) (by decide) (by decide) (by decide)
    refine ⟨_, exec_stuckDeclaration hr hst hstuck huse hread, hoth, hsame, hvi.trans ?_, hlast, fun k => hpost ⟨huse, k⟩⟩
    rw [State.pass_viUse, huse]
    exact Vi.enterResetFault_press _
  · obtain ⟨hoth, hframe, hvi, hpost, hquiet⟩ := (s.pass dt).endViFault_spec i
      (fun v => ({ v with state := .inactive, since := s.now + dt, restSince := none } : Vi).release (s.now + dt))
    exact ⟨_, exec_discrepantEnd hr hst hrest hdue, hoth, hframe, hvi.trans (Vi.release_inactive rfl _), hpost, hquiet⟩
  · obtain ⟨hoth, hsame, hvi, hlast, hpost, _⟩ := s.declareVi_spec i
      (f := fun v => { v with evalFault := true, relSince := none }) (fun _ => rfl) 3 (code := 0x0904) (by decide) (by decide) (by decide)
    exact ⟨_, exec_evaluatorFault hr hbad hnone huse, hoth, hsame, hvi, hlast, hpost⟩
  · exact ⟨_, exec_evaluatorFaultEnd hr hev hok hdue, (s.pass dt).endViFault_spec i _⟩
  · exact ⟨_, exec_feedFaultEnd hr hfeed ha hb, s.endViFault_spec i _⟩
  · exact ⟨_, exec_pressReportEnd hr hrep hu hdue, upd_othersSame _ _ _, rfl, upd_get_same _ _ _⟩

end

section
/-! PROOFS. The input read and the feed gaps (R247 to R249). -/

namespace Sys2Proof.Machine

variable {s t u : State}

/-! ### One contact (R249) -/

theorem Contact.read_readRule (c : Contact) (gap : Bool) (r : ContactRead) : Contact.ReadRule c (c.read gap r) gap r := by
  refine ⟨fun x hk hg hA hB => ?_, fun h => ?_⟩
  · have hsees : c.sees (if x then .closed else .opened) = some x := by cases x <;> rfl
    have hread : c.read gap r = c.debounce (some x) := by simp [Contact.read, Contact.agrees, hg, hB, hA, hsees]
    rw [hread, Contact.debounce]
    by_cases hx : x = c.closed
    · rw [if_pos ⟨hk, hx⟩]
      exact ⟨fun k => absurd hx k, fun _ => rfl, fun _ => rfl⟩
    · rw [if_neg fun k => hx k.2]
      dsimp only
      refine ⟨fun _ hrun hval => ?_, fun h => ?_, fun k => absurd k hx⟩
      · rw [if_pos (show c.run > 0 ∧ c.runVal = x from ⟨by omega, hval⟩), if_pos (by omega)]
      · have hfew : ¬ (if c.run > 0 ∧ c.runVal = x then c.run + 1 else 1) ≥ 4 := by
          split
          next k =>
            have hrun := (h.resolve_left hx).resolve_right fun e => e k.2
            omega
          next => omega
        rw [if_neg hfew]
  · have hread : c.read gap r = c := by
      rcases h with rfl | ⟨hA, hB⟩ | ⟨hA, hB⟩
      · rfl
      · simp [Contact.read, Contact.agrees, Contact.sees, hA, hB]
      · simp [Contact.read, Contact.agrees, Contact.sees, hA, hB]
    rw [hread]
    exact ⟨rfl, rfl, rfl⟩

/-- Two values of a contact differ in the count of the gap reads passed at most. -/
def Contact.SameDebounced (c d : Contact) : Prop := d = { c with gapsOk := d.gapsOk }

theorem Contact.SameDebounced.trans {c d e : Contact} (h : c.SameDebounced d) (k : d.SameDebounced e) : c.SameDebounced e := by
  unfold Contact.SameDebounced at *
  rw [k, h]

theorem Contact.ReadRule.congr {c d e : Contact} {gap : Bool} {r : ContactRead} (h : Contact.ReadRule c d gap r)
    (k : d.SameDebounced e) : Contact.ReadRule c e gap r := by
  unfold Contact.SameDebounced at k
  rw [k]
  exact h

/-- Both contacts of an input are the same but for the gap reads passed. -/
def Vi.SameContacts (v w : Vi) : Prop := v.a.SameDebounced w.a ∧ v.b.SameDebounced w.b

theorem Vi.SameContacts.trans {v w x : Vi} (h : v.SameContacts w) (k : w.SameContacts x) : v.SameContacts x :=
  ⟨h.1.trans k.1, h.2.trans k.2⟩

/-! ### What an input read reaches (R247) -/

/-- The inputs, the engines' journals of input events and the log alone change. -/
def State.HearsInputs (s t : State) : Prop :=
  ({ s with vis := t.vis, engines := t.engines } : State).SameButLog t ∧
  ∃ evs : List ViEv, t.engines = s.engines.map (Engine.post s.late (fun j => { j with vis := j.vis ++ evs }))

theorem Engine.map_post_nil (late : Bool) (v : Vector Engine 4) :
    v.map (Engine.post late (fun j => { j with vis := j.vis ++ [] })) = v := by
  have h : Engine.post late (fun j : Journal => { j with vis := j.vis ++ [] }) = id := by
    funext g
    cases late <;> simp only [Engine.post, List.append_nil, if_true, Bool.false_eq_true, if_false] <;> rfl
  rw [h, Vector.map_id]

/-- Nothing is heard. -/
theorem State.HearsInputs.of_same (h : ({ s with vis := t.vis } : State).SameButLog t) : s.HearsInputs t := by
  have he : t.engines = s.engines := h.engines
  refine ⟨?_, [], ?_⟩
  · rw [he]
    exact h
  · rw [he, Engine.map_post_nil]

/-- One event is heard. -/
theorem State.HearsInputs.of_posted {ev : ViEv} (h : ({ s with vis := t.vis, engines := t.engines } : State).SameButLog t)
    (hp : s.viPosted t ev) : s.HearsInputs t := by
  refine ⟨h, [ev], Vector.ext fun e he => ?_⟩
  rw [Vector.getElem_map]
  exact hp ⟨e, he⟩

theorem State.HearsInputs.clk (h : s.HearsInputs t) : t.clk = s.clk := h.1.clk

theorem State.HearsInputs.trans (h : s.HearsInputs t) (k : t.HearsInputs u) : s.HearsInputs u := by
  obtain ⟨hsame, evs, hevs⟩ := h
  obtain ⟨ksame, evs', kevs⟩ := k
  have hlate : t.late = s.late := State.late_congr hsame.clk
  refine ⟨State.SameButLog.trans (hsame.withInputs u.vis u.engines) ksame, evs ++ evs', ?_⟩
  rw [kevs, hevs, hlate, Vector.map_map]
  refine congrArg (fun f => Vector.map f s.engines) (funext fun g => ?_)
  rw [Function.comp_apply, Engine.post_post]
  simp only [List.append_assoc]

/-! ### A step on one input -/

/-- A step that changes input `i` alone, by `P`. -/
def State.InputStep (i : Fin 8) (P : Vi → Vi → Prop) (s t : State) : Prop :=
  s.HearsInputs t ∧ OthersSame s.vis t.vis i ∧ P s.vis[i] t.vis[i]

theorem State.InputStep.trans {i : Fin 8} {P Q R : Vi → Vi → Prop} (hPQ : ∀ v w x, P v w → Q w x → R v x)
    (h : s.InputStep i P t) (k : t.InputStep i Q u) : s.InputStep i R u :=
  ⟨h.1.trans k.1, h.2.1.trans k.2.1, hPQ _ _ _ h.2.2 k.2.2⟩

theorem State.modVi_inputStep (s : State) (i : Fin 8) {P : Vi → Vi → Prop} {f : Vi → Vi} (h : P s.vis[i] (f s.vis[i])) :
    s.InputStep i P (s.modVi i f) := by
  refine ⟨.of_same (State.SameButLog.refl _), upd_othersSame _ _ _, ?_⟩
  rw [show (s.modVi i f).vis[i] = f s.vis[i] from upd_get_same _ _ _]
  exact h

/-- Several inputs one after the other, each by its own rule. -/
theorem foldl_inputStep {step : State → Fin 8 → State} {P : Fin 8 → Vi → Vi → Prop}
    (h : ∀ (s : State) (i : Fin 8), s.InputStep i (P i) (step s i)) (l : List (Fin 8)) : l.Nodup → ∀ s : State, s.HearsInputs (l.foldl step s) ∧
      ∀ i, (i ∈ l → P i s.vis[i] (l.foldl step s).vis[i]) ∧ (i ∉ l → (l.foldl step s).vis[i] = s.vis[i]) := by
  induction l with
  | nil => exact fun _ s => ⟨.of_same (State.SameButLog.refl s), fun i => ⟨fun k => absurd k List.not_mem_nil, fun _ => rfl⟩⟩
  | cons a l ih =>
    intro hnodup s
    obtain ⟨ha, hl⟩ := List.nodup_cons.1 hnodup
    obtain ⟨hhears, hoth, hP⟩ := h s a
    obtain ⟨ihhears, ihP⟩ := ih hl (step s a)
    refine ⟨hhears.trans ihhears, fun i => ⟨fun hi => ?_, fun hi => ?_⟩⟩
    · by_cases hia : i = a
      · subst hia
        rw [List.foldl_cons, (ihP i).2 ha]
        exact hP
      · rw [← hoth i hia]
        exact (ihP i).1 ((List.mem_cons.1 hi).resolve_left hia)
    · obtain ⟨hia, hil⟩ := not_or.1 (mt List.mem_cons.2 hi)
      rw [List.foldl_cons, (ihP i).2 hil]
      exact hoth i hia

/-! ### The parts of one read -/

/-- A step on one input that leaves its debounced contacts. -/
def State.KeepsContacts (i : Fin 8) (s t : State) : Prop := s.InputStep i Vi.SameContacts t

theorem State.KeepsContacts.refl (s : State) (i : Fin 8) : State.KeepsContacts i s s :=
  ⟨.of_same (State.SameButLog.refl _), OthersSame.refl _ _, rfl, rfl⟩

theorem State.KeepsContacts.trans {i : Fin 8} (h : State.KeepsContacts i s t) (k : State.KeepsContacts i t u) :
    State.KeepsContacts i s u :=
  State.InputStep.trans (fun _ _ _ => Vi.SameContacts.trans) h k

theorem State.modVi_keepsContacts (s : State) (i : Fin 8) {f : Vi → Vi} (h : (s.vis[i]).SameContacts (f s.vis[i])) :
    State.KeepsContacts i s (s.modVi i f) := s.modVi_inputStep i h

theorem State.postVi_keepsContacts (s : State) (i : Fin 8) (ev : ViEv) : State.KeepsContacts i s (s.postVi ev) :=
  ⟨.of_posted (State.SameButLog.refl _) (s.postVi_viPosted ev), OthersSame.refl _ _, rfl, rfl⟩

theorem State.declareVi_keepsContacts (s : State) (i : Fin 8) {f : Vi → Vi} (hf : ∀ v, (f v).resetFault = v.resetFault)
    (hc : ∀ v : Vi, v.SameContacts (f v)) (bit : Nat) {code : Nat} (h5 : code ≠ 0x0605) (h3 : code ≠ 0x0703) (h : code < 65536) :
    State.KeepsContacts i s (s.declareVi i f bit code) := by
  obtain ⟨hoth, hsame, hvi, _, hpost, hquiet⟩ := s.declareVi_spec i hf bit h5 h3 h
  refine ⟨?_, hoth, ?_⟩
  · by_cases hp : s.viUse i = .press ∧ (s.vis[i]).resetFault = false
    · exact .of_posted hsame (hpost hp)
    · have he := hquiet ((not_and_or.1 hp).imp_right Bool.eq_true_of_not_eq_false)
      rw [he] at hsame
      exact .of_same hsame
  · rw [hvi]
    exact hc _

/-- A gap read that finds voltage leaves the debounced contacts (R248). -/
theorem State.feedFails_keepsContacts (s : State) (i : Fin 8) : State.KeepsContacts i s (s.feedFails i) := by
  unfold State.feedFails
  dsimp only
  refine (s.modVi_keepsContacts i (f := fun v =>
    { v with a := { v.a with gapsOk := 0 }, b := { v.b with gapsOk := 0 }, relSince := none }) ⟨rfl, rfl⟩).trans ?_
  split
  · exact State.KeepsContacts.refl _ i
  · exact State.declareVi_keepsContacts _ i (f := fun v => { v with feedFault := true }) (fun _ => rfl) (fun _ => ⟨rfl, rfl⟩) 2
      (code := 0x0903) (by decide) (by decide) (by decide)

/-- What a gap read of one contact does, `f` where it passes (R248). -/
def State.gapRead (s : State) (gap : Bool) (r : ContactRead) (i : Fin 8) (f : Vi → Vi) : State :=
  if gap then if gapPasses r then s.modVi i f else s.feedFails i else s

theorem State.gapRead_keepsContacts (s : State) (gap : Bool) (r : ContactRead) (i : Fin 8) {f : Vi → Vi}
    (h : ∀ v : Vi, v.SameContacts (f v)) : State.KeepsContacts i s (s.gapRead gap r i f) := by
  unfold State.gapRead
  split
  · split
    · exact s.modVi_keepsContacts i (h _)
    · exact s.feedFails_keepsContacts i
  · exact State.KeepsContacts.refl s i

theorem State.press_keepsContacts (s : State) (i : Fin 8) : State.KeepsContacts i s (s.press i) := by
  unfold State.press
  split
  · split
    · exact (s.modVi_keepsContacts i (f := fun v => { v with refused := v.refused + 1 }) ⟨rfl, rfl⟩).trans
        (State.postVi_keepsContacts _ i _)
    · exact (s.modVi_keepsContacts i (f := fun v =>
        { v with presses := v.presses + 1, report := true, reportUntil := none, reportWait := 2 }) ⟨rfl, rfl⟩).trans
        (State.postVi_keepsContacts _ i _)
  · exact State.KeepsContacts.refl s i

/-- The input state advances by the debounced contacts and leaves them (R250). -/
theorem Vi.advance_contacts (v : Vi) (disc t : Nat) : (v.advance disc t).1.a = v.a ∧ (v.advance disc t).1.b = v.b := by
  unfold Vi.advance
  repeat' split
  all_goals exact ⟨rfl, rfl⟩

theorem Vi.release_contacts (v : Vi) (t : Nat) : (v.release t).a = v.a ∧ (v.release t).b = v.b := by
  unfold Vi.release
  split <;> exact ⟨rfl, rfl⟩

/-- The input state after the contacts of a read (R250, R253, R254). -/
def State.advanceInput (s : State) (t : Nat) (i : Fin 8) : State :=
  let r := (s.vis[i]).advance (s.viDisc i) t
  let s := s.modVi i (fun _ => r.1.release t)
  if r.2 then s.press i else s

theorem State.advanceInput_keepsContacts (s : State) (t : Nat) (i : Fin 8) : State.KeepsContacts i s (s.advanceInput t i) := by
  have hsame : (s.vis[i]).SameContacts (((s.vis[i]).advance (s.viDisc i) t).1.release t) := by
    obtain ⟨ha, hb⟩ := Vi.release_contacts ((s.vis[i]).advance (s.viDisc i) t).1 t
    obtain ⟨ha', hb'⟩ := (s.vis[i]).advance_contacts (s.viDisc i) t
    unfold Vi.SameContacts
    rw [ha, hb, ha', hb']
    exact ⟨rfl, rfl⟩
  have hkeep := s.modVi_keepsContacts i (f := fun _ => ((s.vis[i]).advance (s.viDisc i) t).1.release t) hsame
  unfold State.advanceInput
  dsimp only
  split
  · exact hkeep.trans (State.press_keepsContacts _ i)
  · exact hkeep

/-! ### One read of one input -/

/-- The reads of both contacts of an input and the count of their disagreements (R247, R249). -/
def Vi.readContacts (t : Nat) (ra rb : ContactRead) (v : Vi) : Vi :=
  let agree := v.a.agrees ra && v.b.agrees rb
  { v with
    evalBad := if agree then 0 else v.evalBad + 1
    evalOkSince := if agree then some (v.evalOkSince.getD t) else none
    a := v.a.read v.gapA ra, b := v.b.read v.gapB rb }

theorem State.readInput_eq (s : State) (t : Nat) (ra rb : ContactRead) (i : Fin 8) : s.readInput t ra rb i =
    (((s.modVi i (Vi.readContacts t ra rb)).gapRead (s.vis[i]).gapA ra i (fun v =>
      { v with a := { v.a with gapsOk := v.a.gapsOk + 1 } })).gapRead (s.vis[i]).gapB rb i (fun v =>
      { v with b := { v.b with gapsOk := v.b.gapsOk + 1 } })).advanceInput t i := by
  rfl

/-- Both contacts of an input follow the rule of a read. -/
def Vi.ReadRule (ra rb : ContactRead) (v w : Vi) : Prop := Contact.ReadRule v.a w.a v.gapA ra ∧ Contact.ReadRule v.b w.b v.gapB rb

theorem State.readInput_step (s : State) (t : Nat) (ra rb : ContactRead) (i : Fin 8) :
    s.InputStep i (Vi.ReadRule ra rb) (s.readInput t ra rb i) := by
  have hread := s.modVi_inputStep i (P := Vi.ReadRule ra rb) (f := Vi.readContacts t ra rb)
    ⟨Contact.read_readRule _ _ _, Contact.read_readRule _ _ _⟩
  have hrest := ((State.gapRead_keepsContacts (s.modVi i (Vi.readContacts t ra rb)) (s.vis[i]).gapA ra i
    (f := fun v => { v with a := { v.a with gapsOk := v.a.gapsOk + 1 } }) fun _ => ⟨rfl, rfl⟩).trans
    (State.gapRead_keepsContacts _ (s.vis[i]).gapB rb i
      (f := fun v => { v with b := { v.b with gapsOk := v.b.gapsOk + 1 } }) fun _ => ⟨rfl, rfl⟩)).trans
    (State.advanceInput_keepsContacts _ t i)
  rw [s.readInput_eq]
  exact hread.trans (fun _ _ _ h k => ⟨h.1.congr k.1, h.2.congr k.2⟩) hrest

/-! ### The commands -/

/-- The clock at the input read of a frame. -/
def State.atInputRead (s : State) : State :=
  { s with clk := { s.clk with elapsed := max s.clk.elapsed (s.clk.tickAt + 125000), inputRead := some s.clk.tickAt } }

theorem exec_inputRead (a b : Vector ContactRead 8) (hr : s.inReset = false) (hread : s.clk.inputRead ≠ some s.clk.tickAt) :
    exec (.inputRead a b) s = .next
      ((allFin 8).foldl (fun s i => s.readInput (s.inFrame 125000) a[i] b[i] i) s.atInputRead) := by
  rw [show exec (.inputRead a b) s = execInputRead a b s from rfl, execInputRead]
  refine State.when_true ?_
  rw [hr, decide_eq_true hread]
  rfl

theorem exec_inputRead_again (a b : Vector ContactRead 8) (hread : s.clk.inputRead = some s.clk.tickAt) :
    exec (.inputRead a b) s = .next s := by
  rw [show exec (.inputRead a b) s = execInputRead a b s from rfl, execInputRead]
  refine State.when_false ?_
  rw [decide_eq_false (not_not.2 hread), Bool.and_false]

theorem foldl_modVi (f : Fin 8 → Vi → Vi) (l : List (Fin 8)) : ∀ s : State,
    l.foldl (fun s i => s.modVi i (f i)) s = { s with vis := l.foldl (fun v i => upd v i (f i)) s.vis } := by
  induction l with
  | nil => exact fun _ => rfl
  | cons a l ih =>
    intro s
    rw [List.foldl_cons, ih]
    rfl

/-- The contacts of input `i` that are gapped in frame `n` of 400 (R248). -/
def Vi.gapped (n : Nat) (i : Fin 8) (v : Vi) : Vi :=
  { v with gapA := decide (n = 25 * i.val), gapB := decide (n = 25 * i.val + 200) }

theorem exec_feedGap (hr : s.inReset = false) : exec .feedGap s = .next { s.upTo (s.inFrame 50000) with
    vis := (allFin 8).foldl (fun v i => upd v i (Vi.gapped (s.tickNo % 400) i)) s.vis } := by
  rw [← State.upTo_vis s (s.inFrame 50000), ← foldl_modVi]
  rw [show exec .feedGap s = execFeedGap s from rfl, execFeedGap]
  refine State.when_true ?_
  rw [hr]
  rfl

end Sys2Proof.Machine

open Sys2Proof Sys2Proof.Machine

/-- Settles O8: the read of one input is a step that follows the rule of a read on both contacts (`State.readInput_step`), and the
eight steps do not touch each other's inputs (`foldl_inputStep`). -/
theorem inputReadDebouncesContacts : Obligations.InputReadDebouncesContacts := by
  unfold Obligations.InputReadDebouncesContacts
  refine ⟨fun s a b hr hread => ?_, fun s a b hread => exec_inputRead_again a b hread, fun s hr => ?_⟩
  · obtain ⟨hhears, hrule⟩ := foldl_inputStep (P := fun i => Vi.ReadRule a[i] b[i])
      (fun s i => s.readInput_step (s.inFrame 125000) a[i] b[i] i) (allFin 8) (allFin_nodup 8) s.atInputRead
    refine ⟨_, exec_inputRead a b hr hread, hhears.clk, ?_, ?_, fun i => (hrule i).1 (mem_allFin i)⟩
    · rw [hhears.clk]
      exact hhears.1
    · obtain ⟨evs, hevs⟩ := hhears.2
      refine ⟨evs, fun e => ?_⟩
      rw [State.late_congr hhears.clk]
      exact (congrArg (fun v : Vector Engine 4 => v[e]) hevs).trans (Vector.getElem_map _ _)
  · exact ⟨_, exec_feedGap hr, rfl, rfl, fun i => (foldl_upd_get _ i _ _ (allFin_nodup 8)).trans (if_pos (mem_allFin i))⟩

end

section
/-! PROOFS. The vital outputs: readback, overcurrent trip and off-pulse tests (R257 to R261). -/

namespace Sys2Proof.Machine

variable {s : State}

/-! ### The switches and the demand of one output (R257) -/

/-- The switches take their position; only what the readbacks have found of the old one goes with it. -/
theorem Vo.switchTo_eq (v : Vo) (h l : Bool) (t : Nat) : ∃ (at' : Nat) (bad : Option Nat) (ep : Bool),
    v.switchTo h l t = { v with hs := h, ls := l, switched := at', badSince := bad, episode := ep } := by
  unfold Vo.switchTo
  split
  next k => exact ⟨v.switched, v.badSince, v.episode, by rw [← k.1, ← k.2]⟩
  · exact ⟨_, _, _, rfl⟩

@[simp] theorem Vo.switchTo_hs (v : Vo) (h l : Bool) (t : Nat) : (v.switchTo h l t).hs = h := by
  obtain ⟨_, _, _, e⟩ := v.switchTo_eq h l t
  rw [e]

@[simp] theorem Vo.switchTo_ls (v : Vo) (h l : Bool) (t : Nat) : (v.switchTo h l t).ls = l := by
  obtain ⟨_, _, _, e⟩ := v.switchTo_eq h l t
  rw [e]

@[simp] theorem Vo.switchTo_test (v : Vo) (h l : Bool) (t : Nat) : (v.switchTo h l t).test = v.test := by
  obtain ⟨_, _, _, e⟩ := v.switchTo_eq h l t
  rw [e]

@[simp] theorem Vo.switchTo_window (v : Vo) (h l : Bool) (t : Nat) : (v.switchTo h l t).window = v.window := by
  obtain ⟨_, _, _, e⟩ := v.switchTo_eq h l t
  rw [e]

/-- What neither a switch nor a demand touches: the lock, the trip, the tests passed and VO_FAULT. -/
def Vo.SameLocks (v w : Vo) : Prop := w.locked = v.locked ∧ w.trip = v.trip ∧ w.passed = v.passed ∧ w.fault = v.fault

theorem Vo.SameLocks.trans {v w x : Vo} (h : v.SameLocks w) (k : w.SameLocks x) : v.SameLocks x :=
  ⟨k.1.trans h.1, k.2.1.trans h.2.1, k.2.2.1.trans h.2.2.1, k.2.2.2.trans h.2.2.2⟩

theorem Vo.switchTo_sameLocks (v : Vo) (h l : Bool) (t : Nat) : v.SameLocks (v.switchTo h l t) := by
  obtain ⟨_, _, _, e⟩ := v.switchTo_eq h l t
  rw [e]
  exact ⟨rfl, rfl, rfl, rfl⟩

/-- Where no test runs, the end of a demand moves the switches alone. -/
theorem Vo.apply_false_idle {v : Vo} (h : v.test = none) (t : Nat) :
    v.apply false t = { v with demand := false }.switchTo false false t := by
  unfold Vo.apply
  dsimp only
  rw [h]

/-- The end of a demand opens both switches and discards a running test (R257, R260). -/
theorem Vo.apply_false (v : Vo) (t : Nat) : (v.apply false t).hs = false ∧ (v.apply false t).ls = false ∧
    (v.apply false t).demand = false ∧ (v.apply false t).test = none ∧ v.SameLocks (v.apply false t) := by
  have hopen (x : Vo) (hd : x.demand = false) (ht : x.test = none) (hk : v.SameLocks x) :
      (x.switchTo false false t).hs = false ∧ (x.switchTo false false t).ls = false ∧ (x.switchTo false false t).demand = false ∧
      (x.switchTo false false t).test = none ∧ v.SameLocks (x.switchTo false false t) := by
    refine ⟨x.switchTo_hs _ _ _, x.switchTo_ls _ _ _, ?_, (x.switchTo_test _ _ _).trans ht, hk.trans (x.switchTo_sameLocks _ _ _)⟩
    obtain ⟨_, _, _, e⟩ := x.switchTo_eq false false t
    rw [e]
    exact hd
  cases ht : v.test with
  | none =>
    rw [Vo.apply_false_idle ht]
    exact hopen _ rfl ht ⟨rfl, rfl, rfl, rfl⟩
  | some x =>
    unfold Vo.apply
    dsimp only
    rw [ht]
    dsimp only
    split
    · exact hopen _ rfl rfl ⟨rfl, rfl, rfl, rfl⟩
    · exact hopen _ rfl rfl ⟨rfl, rfl, rfl, rfl⟩

/-- A demand closes both switches of an output that no test and no open window holds (R261). -/
theorem Vo.apply_true_idle {v : Vo} (h : v.test = none) (hw : v.window = none) (t : Nat) :
    v.apply true t = { v with demand := true }.switchTo true true t := by
  unfold Vo.apply
  dsimp only
  rw [h]
  exact if_neg (by simp [hw])

/-- A demand waits for the end of an open window (R261). -/
theorem Vo.apply_true_waiting {v : Vo} (h : v.test = none) (hw : v.window ≠ none) (t : Nat) :
    v.apply true t = { v with demand := true } := by
  unfold Vo.apply
  dsimp only
  rw [h]
  exact if_pos (Option.isSome_iff_ne_none.2 hw)

theorem Vo.apply_true_testing {v : Vo} {x : PulseTest} (h : v.test = some x) (t : Nat) :
    v.apply true t = { v with demand := true } := by
  unfold Vo.apply
  dsimp only
  rw [h]

theorem Vo.apply_sameLocks (v : Vo) (d : Bool) (t : Nat) : v.SameLocks (v.apply d t) ∧ (v.apply d t).demand = d := by
  cases d with
  | false =>
    obtain ⟨_, _, hd, _, hk⟩ := v.apply_false t
    exact ⟨hk, hd⟩
  | true =>
    cases ht : v.test with
    | some x => exact Vo.apply_true_testing ht t ▸ ⟨⟨rfl, rfl, rfl, rfl⟩, rfl⟩
    | none =>
      by_cases hw : v.window = none
      · rw [Vo.apply_true_idle ht hw]
        obtain ⟨_, _, _, e⟩ := ({ v with demand := true } : Vo).switchTo_eq true true t
        rw [e]
        exact ⟨⟨rfl, rfl, rfl, rfl⟩, rfl⟩
      · exact Vo.apply_true_waiting ht hw t ▸ ⟨⟨rfl, rfl, rfl, rfl⟩, rfl⟩

/-! ### Operations on one output -/

/-- One change of an output changes the outputs, and of them this one. -/
theorem State.modVo_spec (s : State) (j : Fin 8) (f : Vo → Vo) : OthersSame s.vos (s.modVo j f).vos j ∧
    s.modVo j f = { s with vos := (s.modVo j f).vos } ∧ (s.modVo j f).vos[j] = f s.vos[j] :=
  ⟨upd_othersSame _ _ _, rfl, upd_get_same _ _ _⟩

theorem State.modVo_modVo (s : State) (j : Fin 8) (f g : Vo → Vo) : (s.modVo j f).modVo j g = s.modVo j (fun v => g (f v)) := by
  unfold State.modVo
  rw [upd_upd]

/-- The demand on an output that has changed by `f` follows its lock and its trip (R257). -/
theorem State.voDemand_modVo (s : State) (j : Fin 8) (f : Vo → Vo) : (s.modVo j f).voDemand j =
    (s.voUsed j && s.clearLive (s.voSection j) && !(f s.vos[j]).locked && (f s.vos[j]).trip.isNone && !s.inReset &&
      !s.clk.prodTest) := by
  unfold State.voDemand
  rw [(s.modVo_spec j f).2.2]
  rfl

theorem State.modVo_updateVo (s : State) (j : Fin 8) (f : Vo → Vo) {d : Bool} (h : (s.modVo j f).voDemand j = d) :
    (s.modVo j f).updateVo j = s.modVo j (fun v => (f v).apply d s.now) := by
  subst h
  exact s.modVo_modVo j f _

/-- A bit of VO_FAULT is set. -/
def Vo.markFault (bit : Nat) (v : Vo) : Vo := { v with fault := setBit v.fault bit }

/-- An output changes and logs a fault. -/
theorem State.modVo_voFault_spec (s : State) (j : Fin 8) (f : Vo → Vo) (bit : Nat) {code : Nat} (h5 : code ≠ 0x0605)
    (h3 : code ≠ 0x0703) (hc : code < 65536) : OthersSame s.vos ((s.modVo j f).voFault j bit code).vos j ∧
    ({ s with vos := ((s.modVo j f).voFault j bit code).vos } : State).SameButLog ((s.modVo j f).voFault j bit code) ∧
    ((s.modVo j f).voFault j bit code).vos[j] = (f s.vos[j]).markFault bit ∧
    ((s.modVo j f).voFault j bit code).lastFault code j.val := by
  have hsame : (s.modVo j (fun v => (f v).markFault bit)).SameButLog ((s.modVo j f).voFault j bit code) := by
    rw [← s.modVo_modVo]
    exact State.fault_same _ _ _
  refine ⟨?_, ?_, ?_, State.fault_lastFault _ _ _ h5 h3 hc (by omega)⟩
  · rw [hsame.vos]
    exact upd_othersSame _ _ _
  · rw [hsame.vos]
    exact hsame
  · rw [hsame.vos]
    exact upd_get_same _ _ _

/-! ### Readback and overcurrent (R258) -/

theorem exec_outputReadbackSample {dt : Nat} {j : Fin 8} (volt curr : BitVec 16) (hr : s.inReset = false) :
    exec (.outputReadbackSample dt j volt curr) s = .next
      ((s.pass dt).modVo j (fun v => v.readback s.voLevel (s.now + dt) volt curr)) := by
  rw [show exec (.outputReadbackSample dt j volt curr) s = execOutputReadbackSample dt j volt curr s from rfl, execOutputReadbackSample]
  refine State.when_true ?_
  rw [State.pass_inReset, hr]
  rfl

/-- A readback stores its readings and moves no switch. -/
theorem Vo.readback_spec (v : Vo) (level t : Nat) (volt curr : BitVec 16) :
    (v.readback level t volt curr).volt = volt ∧ (v.readback level t volt curr).curr = curr ∧
    (v.readback level t volt curr).energised = (v.hs && v.ls && decide (level ≤ volt.toNat)) ∧
    (v.readback level t volt curr).hs = v.hs ∧ (v.readback level t volt curr).ls = v.ls ∧
    (v.readback level t volt curr).locked = v.locked ∧
    (v.readback level t volt curr).overSince = if 6000 < curr.toNat then some (v.overSince.getD t) else none := by
  unfold Vo.readback
  dsimp only
  generalize (if 6000 < curr.toNat then some (v.overSince.getD t) else none) = since
  split <;> exact ⟨rfl, rfl, rfl, rfl, rfl, rfl, rfl⟩

theorem exec_outputReadbackFault {dt : Nat} {j : Fin 8} {b : Nat} (hr : s.inReset = false) (hb : (s.vos[j]).badSince = some b)
    (hdue : b + 100000 ≤ s.now + dt) (hep : (s.vos[j]).episode = false) : exec (.outputReadbackFault dt j) s = .next
      (if (s.vos[j]).closed then ((s.pass dt).modVo j (fun v => { v with episode := true })).voFault j 1 0x0912
        else ((s.pass dt).modVo j (fun v => { v with episode := true })).voFault j 2 0x0913) := by
  rw [show exec (.outputReadbackFault dt j) s = execOutputReadbackFault dt j s from rfl, execOutputReadbackFault]
  refine State.when_true ?_
  rw [State.pass_inReset, State.pass_vos, hr, hb, hep]
  dsimp only
  rw [decide_eq_true (p := _ ≤ (s.pass dt).now) hdue]
  rfl

/-- Above 600 mA for 1 ms at the instant `t`: both switches are open for 100 ms. -/
def Vo.tripAt (t : Nat) (v : Vo) : Vo := { v with trip := some (t + 100000000), overSince := none }

theorem exec_overcurrentTrip {dt : Nat} {j : Fin 8} {b : Nat} (hr : s.inReset = false) (hb : (s.vos[j]).overSince = some b)
    (hdue : b + 1000000 ≤ s.now + dt) (ht : (s.vos[j]).trip = none) : exec (.overcurrentTrip dt j) s = .next
      (((s.pass dt).modVo j (fun v => (v.tripAt (s.now + dt)).apply false (s.now + dt))).voFault j 3 0x0914) := by
  have hoff : ((s.pass dt).modVo j (Vo.tripAt (s.now + dt))).voDemand j = false := by
    rw [State.voDemand_modVo]
    simp [Vo.tripAt]
  have hap := (s.pass dt).modVo_updateVo j (Vo.tripAt (s.now + dt)) hoff
  rw [State.pass_now] at hap
  rw [← hap]
  rw [show exec (.overcurrentTrip dt j) s = execOvercurrentTrip dt j s from rfl, execOvercurrentTrip]
  refine State.when_true ?_
  rw [State.pass_inReset, State.pass_vos, hr, hb, ht]
  dsimp only
  rw [decide_eq_true (p := _ ≤ (s.pass dt).now) hdue]
  rfl

theorem exec_overcurrentTripEnd {dt : Nat} {j : Fin 8} {b : Nat} (hr : s.inReset = false) (hb : (s.vos[j]).trip = some b)
    (hdue : b ≤ s.now + dt) : exec (.overcurrentTripEnd dt j) s = .next ((s.pass dt).modVo j (fun v =>
      ({ v with trip := none } : Vo).apply
        (s.voUsed j && s.clearLive (s.voSection j) && !(s.vos[j]).locked && !s.clk.prodTest) (s.now + dt))) := by
  have hdem : ((s.pass dt).modVo j (fun v => { v with trip := none })).voDemand j =
      (s.voUsed j && s.clearLive (s.voSection j) && !(s.vos[j]).locked && !s.clk.prodTest) := by
    rw [State.voDemand_modVo, State.pass_inReset, hr, Option.isNone_none, Bool.and_true, Bool.not_false, Bool.and_true]
    rfl
  rw [← State.pass_now, ← State.modVo_updateVo _ j _ hdem]
  rw [show exec (.overcurrentTripEnd dt j) s = execOvercurrentTripEnd dt j s from rfl, execOvercurrentTripEnd]
  refine State.when_true ?_
  rw [State.pass_inReset, State.pass_vos, hr, hb]
  dsimp only
  rw [decide_eq_true (p := _ ≤ (s.pass dt).now) hdue]
  rfl

/-! ### Off-pulse tests (R259 to R261) -/

/-- The off-pulse test of the switch whose turn it is begins at the instant `t`. -/
def Vo.startTest (t : Nat) (v : Vo) : Vo := { v.switchTo v.nextLow (!v.nextLow) t with
  test := some { begin := t, low := v.nextLow }, window := some (t + 300000), nextLow := !v.nextLow }

theorem exec_offPulseTestStart {j : Fin 8} (hr : s.inReset = false) (hn : s.tickNo % 4000 = 500 * j.val)
    (hnow : s.now ≤ s.clk.tickAt + 125000) (hh : (s.vos[j]).hs = true) (hl : (s.vos[j]).ls = true) (ht : (s.vos[j]).test = none)
    (hw : (s.vos[j]).window = none) (hwarn : s.warning = false) : exec (.offPulseTestStart j) s = .next
      (({ s with clk := { s.clk with elapsed := s.clk.tickAt + 125000 } } : State).modVo j
        (Vo.startTest (s.clk.tickAt + 125000))) := by
  have hup : s.upTo (s.inFrame 125000) = { s with clk := { s.clk with elapsed := s.clk.tickAt + 125000 } } := by
    unfold State.upTo
    rw [show max s.clk.elapsed (s.inFrame 125000) = s.clk.tickAt + 125000 from max_eq_right hnow]
  rw [← hup]
  have hstart : (s.upTo (s.inFrame 125000)).now = s.clk.tickAt + 125000 := congrArg State.now hup
  rw [← hstart]
  rw [show exec (.offPulseTestStart j) s = execOffPulseTestStart j s from rfl, execOffPulseTestStart]
  refine State.when_true ?_
  rw [hr, decide_eq_true (show s.tickNo % 4000 = 500 * j.val ∧ s.now ≤ s.inFrame 125000 from ⟨hn, hnow⟩), Vo.closed, hh, hl, ht, hw,
    hwarn]
  rfl

theorem exec_offPulseTestStart_open {j : Fin 8} (h : (s.vos[j]).hs = false ∨ (s.vos[j]).ls = false) :
    exec (.offPulseTestStart j) s = .next s := by
  have hclosed : (s.vos[j]).closed = false := Bool.and_eq_false_iff.2 h
  rw [show exec (.offPulseTestStart j) s = execOffPulseTestStart j s from rfl, execOffPulseTestStart]
  refine State.when_false ?_
  simp only [hclosed, Bool.and_false, Bool.false_and]

/-- The window closes at the instant `t`: the switch under test closes again. -/
def Vo.closeWindow (t : Nat) (v : Vo) : Vo :=
  if v.test.isSome then ({ v with window := none } : Vo).switchTo true true t else { v with window := none }

theorem Vo.closeWindow_window (t : Nat) (v : Vo) : (v.closeWindow t).window = none := by
  unfold Vo.closeWindow
  split
  · rw [Vo.switchTo_window]
  · rfl

theorem Vo.closeWindow_sameLocks (t : Nat) (v : Vo) : v.SameLocks (v.closeWindow t) := by
  unfold Vo.closeWindow
  split
  · exact Vo.SameLocks.trans (w := { v with window := none }) ⟨rfl, rfl, rfl, rfl⟩ (Vo.switchTo_sameLocks _ _ _ _)
  · exact ⟨rfl, rfl, rfl, rfl⟩

theorem Vo.apply_window {v : Vo} (h : v.window = none) (d : Bool) (t : Nat) : (v.apply d t).window = none := by
  unfold Vo.apply
  dsimp only
  repeat' split
  all_goals simp [h]

/-- At the close of the window the switches follow the demand (R261). -/
theorem Vo.closeWindow_apply (t : Nat) (v : Vo) (d : Bool) : ((v.closeWindow t).apply d t).hs = d ∧
    ((v.closeWindow t).apply d t).ls = d := by
  cases d with
  | false =>
    obtain ⟨hh, hl, _⟩ := (v.closeWindow t).apply_false t
    exact ⟨hh, hl⟩
  | true =>
    cases ht : v.test with
    | none =>
      have hc : v.closeWindow t = { v with window := none } := by simp [Vo.closeWindow, ht]
      rw [hc, Vo.apply_true_idle (v := { v with window := none }) ht rfl]
      exact ⟨Vo.switchTo_hs _ _ _ _, Vo.switchTo_ls _ _ _ _⟩
    | some x =>
      have hc : v.closeWindow t = ({ v with window := none } : Vo).switchTo true true t := by simp [Vo.closeWindow, ht]
      have htest : (({ v with window := none } : Vo).switchTo true true t).test = some x := (Vo.switchTo_test _ _ _ _).trans ht
      rw [hc, Vo.apply_true_testing htest]
      exact ⟨Vo.switchTo_hs _ _ _ _, Vo.switchTo_ls _ _ _ _⟩

theorem exec_offPulseWindowClose {dt : Nat} {j : Fin 8} {w : Nat} (hr : s.inReset = false) (hw : (s.vos[j]).window = some w)
    (hdue : w ≤ s.now + dt) : exec (.offPulseWindowClose dt j) s = .next ((s.pass dt).modVo j (fun v =>
      (v.closeWindow (s.now + dt)).apply (s.voDemand j) (s.now + dt))) := by
  have hdem : ((s.pass dt).modVo j (Vo.closeWindow (s.now + dt))).voDemand j = s.voDemand j := by
    obtain ⟨hlock, htrip, _⟩ := (s.vos[j]).closeWindow_sameLocks (s.now + dt)
    rw [State.voDemand_modVo, State.pass_vos, hlock, htrip]
    rfl
  have hap := State.modVo_updateVo _ j _ hdem
  rw [State.pass_now] at hap
  rw [← hap]
  rw [show exec (.offPulseWindowClose dt j) s = execOffPulseWindowClose dt j s from rfl, execOffPulseWindowClose]
  refine State.when_true ?_
  rw [State.pass_inReset, State.pass_vos, hr, hw]
  dsimp only
  rw [decide_eq_true (p := _ ≤ (s.pass dt).now) hdue]
  rfl

/-- An off-pulse test of the switch `low` has passed (R259). -/
def Vo.passTest (low : Bool) (v : Vo) : Vo := { v with test := none, lastRes := 1, lastSwitch := low, passed := v.passed + 1 }

/-- An off-pulse test of the switch `low` has failed at the instant `t` (R259). -/
def Vo.failTest (low : Bool) (t : Nat) (v : Vo) : Vo :=
  ({ v with test := none, window := none, lastRes := 2, lastSwitch := low, locked := true } : Vo).switchTo false false t

theorem Vo.failTest_apply (low : Bool) (t : Nat) (v : Vo) : ∃ (at' : Nat) (bad : Option Nat) (ep : Bool),
    (v.failTest low t).apply false t = { v with
      demand := false, test := none, window := none, lastRes := 2, lastSwitch := low, locked := true, hs := false, ls := false
      switched := at', badSince := bad, episode := ep } := by
  obtain ⟨_, _, _, hfail⟩ :=
    ({ v with test := none, window := none, lastRes := 2, lastSwitch := low, locked := true } : Vo).switchTo_eq false false t
  have hidle : (v.failTest low t).test = none := Vo.switchTo_test _ _ _ _
  rw [Vo.apply_false_idle hidle]
  obtain ⟨at', bad, ep, hsw⟩ := ({ v.failTest low t with demand := false } : Vo).switchTo_eq false false t
  refine ⟨at', bad, ep, hsw.trans ?_⟩
  rw [Vo.failTest, hfail]

/-- A test that has gone well is due after 350 µs, and has passed with the voltage back (R259). -/
theorem Vo.test_passes {v : Vo} {x : PulseTest} {level t : Nat} (hx : v.test = some x) (hf : x.fell = true) (hb : x.bad = false)
    (hdue : x.begin + 350000 ≤ t) (hv : level ≤ v.volt.toNat) : v.testDue t = true ∧ v.testPassed level = true := by
  rw [Vo.testDue, Vo.testPassed, hx]
  dsimp only
  simp only [hdue, hf, hb, hv, decide_true, Bool.or_true, Bool.not_false, Bool.and_true, and_self]

/-- A test is due and has failed once a rule is broken, once the voltage has not fallen by 150 µs, and with the voltage not back after
350 µs (R259). -/
theorem Vo.test_fails {v : Vo} {x : PulseTest} {level t : Nat} (hx : v.test = some x)
    (hbad : x.bad = true ∨ (x.fell = false ∧ x.begin + 150000 ≤ t) ∨ (x.begin + 350000 ≤ t ∧ v.volt.toNat < level)) :
    v.testDue t = true ∧ v.testPassed level = false := by
  rw [Vo.testDue, Vo.testPassed, hx]
  dsimp only
  rcases hbad with h | ⟨h, hdue⟩ | ⟨hdue, h⟩
  · simp only [h, Bool.true_or, Bool.not_true, Bool.and_false, Bool.false_and, and_self]
  · simp only [h, hdue, decide_true, Bool.not_false, Bool.and_true, Bool.or_true, Bool.true_or, Bool.false_and, and_self]
  · simp only [hdue, Nat.not_le.2 h, decide_true, decide_false, Bool.or_true, Bool.and_false, and_self]

section
variable {dt : Nat} {j : Fin 8} {x : PulseTest} (hr : s.inReset = false) (hx : (s.vos[j]).test = some x)
include hr hx

theorem exec_offPulseCheck_passed (hf : x.fell = true) (hb : x.bad = false) (hdue : x.begin + 350000 ≤ s.now + dt)
    (hv : s.sup.vin.toNat * 10 - 300 ≤ (s.vos[j]).volt.toNat) :
    exec (.offPulseCheck dt j) s = .next ((s.pass dt).modVo j (Vo.passTest x.low)) := by
  obtain ⟨hd, hp⟩ := Vo.test_passes (level := s.voLevel) hx hf hb hdue hv
  rw [show exec (.offPulseCheck dt j) s = execOffPulseCheck dt j s from rfl, execOffPulseCheck]
  refine (State.when_true ?_).trans (congrArg Host.Outcome.next ?_)
  · rw [State.pass_inReset, hr]
    exact hd
  · dsimp only
    rw [State.pass_vos, hx]
    exact if_pos hp

theorem exec_offPulseCheck_failed (hbad : x.bad = true ∨ (x.fell = false ∧ x.begin + 150000 ≤ s.now + dt) ∨
      (x.begin + 350000 ≤ s.now + dt ∧ (s.vos[j]).volt.toNat < s.sup.vin.toNat * 10 - 300)) :
    exec (.offPulseCheck dt j) s = .next (((s.pass dt).modVo j (fun v =>
      (v.failTest x.low (s.now + dt)).apply false (s.now + dt))).voFault j 0 0x0911) := by
  obtain ⟨hd, hp⟩ := Vo.test_fails (level := s.voLevel) hx hbad
  have hoff : ((s.pass dt).modVo j (Vo.failTest x.low (s.now + dt))).voDemand j = false := by
    rw [State.voDemand_modVo]
    obtain ⟨hlock, _⟩ := Vo.switchTo_sameLocks
      { (s.pass dt).vos[j] with test := none, window := none, lastRes := 2, lastSwitch := x.low, locked := true } false false (s.now + dt)
    rw [Vo.failTest, hlock]
    simp
  have hap := State.modVo_updateVo _ j _ hoff
  rw [State.pass_now] at hap
  rw [← hap]
  rw [show exec (.offPulseCheck dt j) s = execOffPulseCheck dt j s from rfl, execOffPulseCheck]
  refine (State.when_true ?_).trans (congrArg Host.Outcome.next ?_)
  · rw [State.pass_inReset, hr]
    exact hd
  · dsimp only
    rw [State.pass_vos, hx]
    exact if_neg (by rw [show (s.vos[j]).testPassed (s.pass dt).voLevel = false from hp]; decide)

end

end Sys2Proof.Machine

open Sys2Proof Sys2Proof.Machine

/-- Settles O10: each command is one change of its output (`State.modVo_spec`, `State.modVo_voFault_spec`); where it applies the
demand, the demand is that of R257 (`State.voDemand_modVo`). What ENERGISED shows is the model's reading of R258 (log 75). -/
theorem outputReadbackTripAndOffPulse : Obligations.OutputReadbackTripAndOffPulse := by
  unfold Obligations.OutputReadbackTripAndOffPulse
  refine ⟨fun s dt j volt curr hr => ?_, fun s dt j b hr hb hdue hep => ?_, fun s dt j b hr hb hdue ht => ?_,
    fun s dt j b hr hb hdue => ?_, fun s j hr hn hnow hh hl ht hw hwarn => ?_, fun s j h => exec_offPulseTestStart_open h,
    fun s dt j w hr hw hdue => ?_, fun s dt j x hr hx hf hb hdue hv => ?_, fun s dt j x hr hx hbad => ?_⟩
  · obtain ⟨hoth, hframe, hvo⟩ := (s.pass dt).modVo_spec j (fun v => v.readback s.voLevel (s.now + dt) volt curr)
    obtain ⟨hvolt, hcurr, hen, hhs, hls, hlock, hover⟩ := (s.vos[j]).readback_spec s.voLevel (s.now + dt) volt curr
    refine ⟨_, exec_outputReadbackSample volt curr hr, hoth, hframe, ?_⟩
    rw [hvo]
    exact ⟨hvolt, hcurr, hen, hhs, hls, hlock, fun h => hover.trans (if_pos h), fun h => hover.trans (if_neg (Nat.not_lt.2 h))⟩
  · refine ⟨_, exec_outputReadbackFault hr hb hdue hep, ?_⟩
    cases hc : (s.vos[j]).closed with
    | true =>
      obtain ⟨hoth, hsame, hvo, hlast⟩ := (s.pass dt).modVo_voFault_spec j (fun v => { v with episode := true }) 1
        (code := 0x0912) (by decide) (by decide) (by decide)
      refine ⟨hoth, hsame, fun _ => ⟨hlast, hvo⟩, fun h => ?_⟩
      rw [Vo.closed, Bool.and_eq_true] at hc
      rw [hc.1, hc.2] at h
      simp at h
    | false =>
      obtain ⟨hoth, hsame, hvo, hlast⟩ := (s.pass dt).modVo_voFault_spec j (fun v => { v with episode := true }) 2
        (code := 0x0913) (by decide) (by decide) (by decide)
      refine ⟨hoth, hsame, fun h => ?_, fun _ => ⟨hlast, hvo⟩⟩
      rw [Vo.closed, h.1, h.2] at hc
      cases hc
  · obtain ⟨hoth, hsame, hvo, hlast⟩ := (s.pass dt).modVo_voFault_spec j
      (fun v => (v.tripAt (s.now + dt)).apply false (s.now + dt)) 3 (code := 0x0914) (by decide) (by decide) (by decide)
    obtain ⟨hh, hl, hd, htest, hlock, htrip, _, hfault⟩ := ((s.vos[j]).tripAt (s.now + dt)).apply_false (s.now + dt)
    refine ⟨_, exec_overcurrentTrip hr hb hdue ht, hoth, hsame, ?_⟩
    rw [hvo]
    exact ⟨hh, hl, hd, htest, htrip, congrArg (setBit · 3) hfault, hlock, hlast⟩
  · obtain ⟨hoth, hframe, hvo⟩ := (s.pass dt).modVo_spec j (fun v => ({ v with trip := none } : Vo).apply
      (s.voUsed j && s.clearLive (s.voSection j) && !(s.vos[j]).locked && !s.clk.prodTest) (s.now + dt))
    refine ⟨_, exec_overcurrentTripEnd hr hb hdue, hoth, hframe, ?_⟩
    rw [hvo]
    generalize (s.voUsed j && s.clearLive (s.voSection j) && !(s.vos[j]).locked && !s.clk.prodTest) = d
    obtain ⟨⟨_, htrip, _⟩, hd⟩ := ({ s.vos[j] with trip := none } : Vo).apply_sameLocks d (s.now + dt)
    refine ⟨htrip, hd, fun h => ?_, fun h ht hw => ?_, fun h ht hw => ?_⟩
    · obtain rfl : d = false := hd.symm.trans h
      obtain ⟨hh, hl, _⟩ := ({ s.vos[j] with trip := none } : Vo).apply_false (s.now + dt)
      exact ⟨hh, hl⟩
    · obtain rfl : d = true := hd.symm.trans h
      have hap := Vo.apply_true_idle (v := { s.vos[j] with trip := none }) ht hw (s.now + dt)
      exact hap ▸ ⟨Vo.switchTo_hs _ _ _ _, Vo.switchTo_ls _ _ _ _⟩
    · obtain rfl : d = true := hd.symm.trans h
      have hap := Vo.apply_true_waiting (v := { s.vos[j] with trip := none }) ht hw (s.now + dt)
      exact hap ▸ ⟨rfl, rfl⟩
  · obtain ⟨hoth, hframe, hvo⟩ := State.modVo_spec { s with clk := { s.clk with elapsed := s.clk.tickAt + 125000 } } j
      (Vo.startTest (s.clk.tickAt + 125000))
    refine ⟨_, exec_offPulseTestStart hr hn hnow hh hl ht hw hwarn, hoth, hframe, ?_⟩
    rw [hvo]
    exact ⟨Vo.switchTo_hs _ _ _ _, Vo.switchTo_ls _ _ _ _, rfl, rfl, rfl⟩
  · obtain ⟨hoth, hframe, hvo⟩ := (s.pass dt).modVo_spec j (fun v =>
      (v.closeWindow (s.now + dt)).apply (s.voDemand j) (s.now + dt))
    obtain ⟨hh, hl⟩ := (s.vos[j]).closeWindow_apply (s.now + dt) (s.voDemand j)
    obtain ⟨hlock, _, hpassed, _⟩ := ((s.vos[j]).closeWindow_sameLocks (s.now + dt)).trans
      (((s.vos[j]).closeWindow (s.now + dt)).apply_sameLocks (s.voDemand j) (s.now + dt)).1
    refine ⟨_, exec_offPulseWindowClose hr hw hdue, hoth, hframe, ?_⟩
    rw [hvo]
    exact ⟨Vo.apply_window (Vo.closeWindow_window _ _) _ _, hh, hl, hlock, hpassed⟩
  · exact ⟨_, exec_offPulseCheck_passed hr hx hf hb hdue hv, (s.pass dt).modVo_spec j (Vo.passTest x.low)⟩
  · obtain ⟨hoth, hsame, hvo, hlast⟩ := (s.pass dt).modVo_voFault_spec j
      (fun v => (v.failTest x.low (s.now + dt)).apply false (s.now + dt)) 0 (code := 0x0911) (by decide) (by decide) (by decide)
    obtain ⟨_, _, _, hfail⟩ := (s.vos[j]).failTest_apply x.low (s.now + dt)
    refine ⟨_, exec_offPulseCheck_failed hr hx hbad, hoth, hsame, ?_⟩
    rw [hvo, State.pass_vos, hfail]
    exact ⟨rfl, rfl, rfl, rfl, rfl, rfl, rfl, rfl, rfl, hlast⟩

end

section
/-! PROOFS. The read commands and FAULT_ACK (R254, R323, Table 8-8). -/

namespace Sys2Proof.Machine

variable {s t : State}

/-! ### Sections and axles -/

/-- A section of another module has no local index (R7). -/
theorem Cfg.localSec_foreign {cfg : Cfg} {gid : Word} (h : gid.toNat / 256 ≠ cfg.modAddr.toNat) : cfg.localSec gid = none :=
  if_neg h

theorem State.opGetSection_foreign {gid : Word} (h : gid.toNat / 256 ≠ s.cfg.modAddr.toNat) : s.opGetSection gid = ret stBadParam := by
  rw [State.opGetSection, Cfg.localSec_foreign h]

theorem State.opGetSection_local {gid : Word} {i : Fin 256} {d : SecDef} (hi : s.cfg.localSec gid = some i) (hd : s.cfg.sec i = some d) :
    s.opGetSection gid = some ⟨stOk,
      wordBytes (s.secRegs i) ++ [BitVec.ofNat 8 d.members.length, 0, 0, 0] ++ wordBytes (d.members.map Member.word)⟩ := by
  rw [State.opGetSection, hi]
  dsimp only
  rw [hd]

/-- GET_SECTION has an answer for every section. -/
theorem State.opGetSection_answers (s : State) (gid : Word) : ∃ r, s.opGetSection gid = some r := by
  unfold State.opGetSection
  split <;> exact ⟨_, rfl⟩

theorem State.opGetAxles_bad {gid : Word} {n l : Byte} (f : BitVec 16)
    (h : gid.toNat / 256 ≠ s.cfg.modAddr.toNat ∨ n = 0 ∨ 13 < n.toNat ∨ 1 < l.toNat) : s.opGetAxles gid f n l = ret stBadParam := by
  unfold State.opGetAxles
  split
  · rfl
  next hi => exact if_pos (h.resolve_left fun k => by rw [Cfg.localSec_foreign k] at hi; cases hi)

theorem State.opGetAxles_ledger {gid : Word} {i : Fin 256} {x : Sec} (f : BitVec 16) {n : Byte} (hi : s.cfg.localSec gid = some i)
    (hx : s.pubSec i = some x) (h0 : n ≠ 0) (hn : n.toNat ≤ 13) : s.opGetAxles gid f n 0 = some ⟨stOk, toBytes 2 x.ledger.length ++
      [BitVec.ofNat 8 ((x.ledger.drop f.toNat).take n.toNat).length, if x.st = .disturbed ∧ x.discarded = false then 1 else 0] ++
      ((x.ledger.drop f.toNat).take n.toNat).flatMap AxleRec.toBytes⟩ := by
  have hok : ¬ (n = 0 ∨ 13 < n.toNat ∨ 1 < (0 : Byte).toNat) := by simpa [hn] using h0
  have hfrozen : BitVec.ofNat 8 (b2n (decide (x.st = .disturbed) && !x.discarded)) =
      if x.st = .disturbed ∧ x.discarded = false then 1 else 0 := by
    by_cases hst : x.st = .disturbed <;> cases hd : x.discarded <;> simp [b2n, hst]
  rw [State.opGetAxles, hi]
  dsimp only
  rw [if_neg hok, hx]
  dsimp only
  rw [hfrozen, if_pos rfl]

/-- GET_AXLES has an answer for every section. -/
theorem State.opGetAxles_answers (s : State) (gid : Word) (f : BitVec 16) (n l : Byte) : ∃ r, s.opGetAxles gid f n l = some r := by
  unfold State.opGetAxles
  split
  · exact ⟨_, rfl⟩
  · split <;> exact ⟨_, rfl⟩

/-! ### The recorder (R323) -/

/-- Reading meets no bad page where every page passes its check (R318). -/
theorem State.metBadPages_ok {ring : List Page} (h : ∀ p ∈ ring, p.ok = true) (f : Nat → Bool) : s.metBadPages ring f = s := by
  unfold State.metBadPages
  induction ring with
  | nil => rfl
  | cons p ring ih =>
    rw [List.foldl_cons, h p List.mem_cons_self]
    exact ih fun q hq => h q (List.mem_cons_of_mem p hq)

theorem State.opLogRead_bad {l n : Byte} (f : BitVec 48) (h : 1 < l.toNat ∨ n = 0 ∨ 13 < n.toNat) :
    s.opLogRead l n f = (s, ret stBadParam) := if_pos h

theorem State.opLogRead_ok {l n : Byte} (f : BitVec 48) (hl : l.toNat ≤ 1) (h0 : n ≠ 0) (hn : n.toNat ≤ 13)
    (hok : ∀ p ∈ s.mgt.evtRing ++ s.mgt.axlRing, p.ok = true) : ∃ r es, s.opLogRead l n f = (s, some r) ∧ r.status = stOk ∧
      es = ((s.heldEntries (decide (l = 1))).filter (fun p =>
        decide (f.toNat ≤ p.1) && !s.waitsBelow (decide (l = 1)) f.toNat p.1)).take n.toNat ∧
      r.bytes.drop 6 = [BitVec.ofNat 8 es.length, 0] ++ es.flatMap Prod.snd := by
  have hring : ∀ p ∈ (if l = 1 then s.mgt.axlRing else s.mgt.evtRing), p.ok = true := fun p hp => by
    refine hok p (List.mem_append.2 ?_)
    split at hp
    · exact .inr hp
    · exact .inl hp
  unfold State.opLogRead
  rw [if_neg (by simpa [hl, hn] using h0)]
  dsimp only
  rw [State.metBadPages_ok hring]
  refine ⟨_, _, rfl, rfl, rfl, ?_⟩
  rw [List.append_assoc]
  exact List.drop_left' (toBytes_length 6 _)

/-! ### Released inputs (R254) -/

/-- A sum of powers of two shows its bits, and stays below the next power. -/
theorem foldl_bit_sum {n : Nat} (f : Fin n → Bool) : (allFin n).foldl (fun a i => a + b2n (f i) * 2 ^ i.val) 0 < 2 ^ n ∧
    ∀ i : Fin n, ((allFin n).foldl (fun a i => a + b2n (f i) * 2 ^ i.val) 0).testBit i.val = f i := by
  induction n with
  | zero => exact ⟨Nat.one_pos, fun i => i.elim0⟩
  | succ n ih =>
    obtain ⟨hlt, hbit⟩ := ih fun i => f i.castSucc
    have hsum : (allFin (n + 1)).foldl (fun a i => a + b2n (f i) * 2 ^ i.val) 0 = 2 ^ n * b2n (f (Fin.last n)) +
        (allFin n).foldl (fun a i => a + b2n (f i.castSucc) * 2 ^ i.val) 0 := by
      rw [allFin, List.finRange_succ_last, List.foldl_append, List.foldl_map, Nat.add_comm (2 ^ n * _), Nat.mul_comm (2 ^ n)]
      rfl
    have hb : b2n (f (Fin.last n)) ≤ 1 := by cases f (Fin.last n) <;> decide
    rw [hsum]
    refine ⟨?_, fun i => ?_⟩
    · have hmul := Nat.mul_le_mul_left (2 ^ n) hb
      rw [Nat.pow_succ]
      omega
    · rw [Nat.testBit_two_pow_mul_add _ hlt]
      cases i using Fin.lastCases with
      | last =>
        rw [if_neg (by simp)]
        cases f (Fin.last n) <;> simp [b2n]
      | cast i => rw [if_pos (by simp), ← hbit i]; rfl

/-- The sampling tick notes the inputs that have been released for 1 s. -/
theorem State.snap_released (s : State) (i : Fin 8) : s.snap.released.getLsbD i.val = (s.vis[i]).releasedAt s.now := by
  have hbit := (foldl_bit_sum fun i : Fin 8 => (s.vis[i]).releasedAt s.now).2 i
  rw [← hbit]
  exact (BitVec.getLsbD_ofNat _ _ _).trans (by rw [decide_eq_true i.isLt, Bool.true_and])

/-! ### FAULT_ACK (R254) -/

theorem State.opFaultAck_bad {input : Byte} (h : 5 < input.toNat) (k : Snap) : s.opFaultAck k input = (s, ret stBadParam) :=
  dif_neg (by omega)

/-- FAULT_ACK of an input goes by its reset fault and its release. -/
theorem State.opFaultAck_eq (s : State) {input : Byte} {i : Fin 8} (hi : i.val = input.toNat) (h6 : i.val < 6) :
    s.opFaultAck s.snap input =
      if !(s.vis[i]).resetFault then (s, ret stOk) else if !(s.vis[i]).releasedAt s.now then (s, ret stNotPermitted)
        else (s.modVi i (fun v => { v with resetFault := v.faulty }), ret stOk) := by
  obtain ⟨n, hn⟩ := i
  obtain rfl : n = input.toNat := hi
  rw [State.opFaultAck, dif_pos h6, ← s.snap_released]

/-- A cause of UNPROVEN that begins leaves the section's index. -/
theorem ite_beginU_idx {c : Prop} [Decidable c] (u : UCause) (x : Sec) : (if c then beginU u x else x).idx = x.idx := by
  split
  · unfold beginU
    repeat' split
    all_goals rfl
  · rfl

/-- A section whose reset key is not in reset fault shows KEY_INHIBIT 0 (R145, R254). -/
theorem State.imposed_keyInh {x : Sec} {d : SecDef} (hd : s.cfg.sec x.idx = some d) (hk : s.keyFault d = false) (e : Fin 4) :
    (s.imposed e x).keyInh = false := by
  unfold State.imposed
  simp only [List.foldl_cons, List.foldl_nil, ite_beginU_idx, hd, hk, Bool.and_false]

/-- Only its own reset key puts a section under KEY_INHIBIT (R145). -/
theorem State.keyFault_of_key {d : SecDef} {i : Fin 8} (hd : d.served i = true) (hi : (s.vis[i]).resetFault = false) :
    s.keyFault d = false := by
  have hkey : d.resetKey = i.val := of_decide_eq_true (Bool.and_eq_true_iff.1 hd).2
  refine List.any_eq_false.2 fun k _ => ?_
  by_cases hki : k = i
  · subst hki
    rw [hi, Bool.and_false]
    decide
  · have hne : d.served k = false := by
      rw [SecDef.served, hkey, decide_eq_false fun h => hki (Fin.ext h.symm), Bool.and_false]
    simp [hne]

end Sys2Proof.Machine

open Sys2Proof Sys2Proof.Machine

/-- Settles O35: every command reaches its operation (`exec_answered`), and each operation answers by its own lemma. Which axle
entries one LOG_READ holds is the model's choice (log 101). -/
theorem readsAndFaultAcknowledge : Obligations.ReadsAndFaultAcknowledge := by
  unfold Obligations.ReadsAndFaultAcknowledge
  refine ⟨fun s w h => exec_answered (c := .getStatus w) rfl h rfl rfl, fun s w gid h => ?_, fun s w gid f n l h => ?_,
    fun s w h => exec_answered (c := .timebaseStatus w) rfl h rfl rfl, fun s w l n f h hok => ?_,
    fun s w input h => ⟨fun h5 => ?_, fun i hi h6 => ⟨fun hf => ?_, fun hf hrel => ?_, fun hf hrel => ?_⟩⟩⟩
  · obtain ⟨r, hr⟩ := s.opGetSection_answers gid
    obtain ⟨t, ht, hans⟩ := exec_answered (c := .getSection w gid) rfl h rfl (congrArg (Prod.mk s) hr)
    exact ⟨t, r, ht, hans, fun k => Option.some.inj (hr.symm.trans (State.opGetSection_foreign k)),
      fun i d hi hd => Option.some.inj (hr.symm.trans (State.opGetSection_local hi hd))⟩
  · obtain ⟨r, hr⟩ := s.opGetAxles_answers gid f n l
    obtain ⟨t, ht, hans⟩ := exec_answered (c := .getAxles w gid f n l) rfl h rfl (congrArg (Prod.mk s) hr)
    refine ⟨t, r, ht, hans, fun k => Option.some.inj (hr.symm.trans (State.opGetAxles_bad f k)), ?_⟩
    rintro i x hi hx h0 hn rfl
    exact Option.some.inj (hr.symm.trans (State.opGetAxles_ledger f hi hx h0 hn))
  · by_cases hbad : 1 < l.toNat ∨ n = 0 ∨ 13 < n.toNat
    · obtain ⟨t, ht, hans⟩ := exec_answered (c := .logRead w l n f) rfl h rfl (State.opLogRead_bad f hbad)
      refine ⟨t, _, ht, hans, fun _ => rfl, fun hl h0 hn => absurd hbad ?_⟩
      simpa only [not_or, Nat.not_lt] using And.intro hl (And.intro h0 hn)
    · obtain ⟨hl, h0, hn⟩ : l.toNat ≤ 1 ∧ n ≠ 0 ∧ n.toNat ≤ 13 := by
        simpa only [not_or, Nat.not_lt] using hbad
      obtain ⟨r, es, hr, hst, hes, hbytes⟩ := State.opLogRead_ok f hl h0 hn hok
      obtain ⟨t, ht, hans⟩ := exec_answered (c := .logRead w l n f) rfl h rfl hr
      exact ⟨t, r, ht, hans, fun k => absurd k hbad, fun _ _ _ => ⟨hst, es, hes, hbytes⟩⟩
  · exact exec_answered (c := .faultAck w input) rfl h rfl (State.opFaultAck_bad h5 _)
  · exact exec_answered (c := .faultAck w input) rfl h rfl ((s.opFaultAck_eq hi h6).trans (by rw [hf]; rfl))
  · exact exec_answered (c := .faultAck w input) rfl h rfl ((s.opFaultAck_eq hi h6).trans (by rw [hf, hrel]; rfl))
  · obtain ⟨t, ht, hans⟩ := exec_answered (c := .faultAck w input) rfl h rfl
      ((s.opFaultAck_eq hi h6).trans (by rw [hf, hrel]; rfl))
    have hvis : t.vis = upd s.vis i (fun v => { v with resetFault := v.faulty }) := hans.same.vis
    have hvi : t.vis[i] = { s.vis[i] with resetFault := (s.vis[i]).faulty } := by
      rw [hvis]
      exact upd_get_same _ _ _
    refine ⟨t, ht, ?_, ?_, hvi, fun e x d hfault hd hserved => ?_⟩
    · rw [hvis]
      exact upd_othersSame _ _ _
    · rw [hvis]
      exact hans
    · have hcfg : t.cfg = s.cfg := by
        unfold State.cfg
        rw [show t.img = s.img from hans.same.img]
      exact State.imposed_keyInh (hcfg ▸ hd) (State.keyFault_of_key hserved (by rw [hvi]; exact hfault)) e

end

section
/-! PROOFS. The image stores (R264): what the operations of the model leave unchanged of them. -/

namespace Sys2Proof.Machine
open Sys2Proof

@[simp] theorem foldl_img {α : Type} {f : State → α → State} (h : ∀ s a, (f s a).img = s.img) (l : List α) (s : State) :
    (l.foldl f s).img = s.img := foldl_keeps State.img h l s

@[simp] theorem State.ite_img {c : Prop} [Decidable c] (s t : State) :
    (if c then s else t).img = if c then s.img else t.img := apply_ite State.img c s t

theorem State.SameButSuperframe.img {s t : State} (h : s.SameButSuperframe t) : t.img = s.img := by
  unfold State.SameButSuperframe at h
  rw [h]

section
variable (s : State)

/-! ### Faults, causes and journals -/

@[simp] theorem State.enqueue_img (q : QItem) : (s.enqueue q).img = s.img := by
  simp only [State.enqueue]
  repeat' split
  all_goals simp

@[simp] theorem State.flushDropped_img : s.flushDropped.img = s.img := by simp [State.flushDropped]

@[simp] theorem State.logD_img (code obj : BitVec 16) (detail : BitVec 48) : (s.logD code obj detail).img = s.img := by
  simp [State.logD]

@[simp] theorem State.log_img (code obj : Nat) : (s.log code obj).img = s.img := by simp [State.log]

@[simp] theorem State.prtFault_img (n : Fin 64) (bit code : Nat) : (s.prtFault n bit code).img = s.img := by
  simp [State.prtFault]

@[simp] theorem State.fltFault_img (c : Fin 128) (bit code : Nat) : (s.fltFault c bit code).img = s.img := by
  simp [State.fltFault]

@[simp] theorem State.wduFault_img (n : Fin 64) (bit code : Nat) : (s.wduFault n bit code).img = s.img := by
  simp [State.wduFault]

@[simp] theorem State.cenFault_img (e : Fin 4) (bit code : Nat) : (s.cenFault e bit code).img = s.img := by
  simp [State.cenFault]

@[simp] theorem State.lnkFault_img (k : Fin 8) (bit code : Nat) : (s.lnkFault k bit code).img = s.img := by
  simp [State.lnkFault]

@[simp] theorem State.viFault_img (i : Fin 8) (bit code : Nat) : (s.viFault i bit code).img = s.img := by
  simp [State.viFault]

@[simp] theorem State.voFault_img (j : Fin 8) (bit code : Nat) : (s.voFault j bit code).img = s.img := by
  simp [State.voFault]

@[simp] theorem State.supFault_img (bit code obj : Nat) : (s.supFault bit code obj).img = s.img := by
  simp [State.supFault]

@[simp] theorem State.tbsFault_img (bit code : Nat) : (s.tbsFault bit code).img = s.img := by simp [State.tbsFault]

@[simp] theorem State.cmdFault_img (bit code : Nat) : (s.cmdFault bit code).img = s.img := by simp [State.cmdFault]

@[simp] theorem State.tstFault_img (bit code : Nat) : (s.tstFault bit code).img = s.img := by simp [State.tstFault]

@[simp] theorem State.mgtLog_img (bit code : Nat) : (s.mgtLog bit code).img = s.img := by simp [State.mgtLog]

@[simp] theorem State.secLog_img (l : SecLog) : (s.secLog l).img = s.img := by
  unfold State.secLog
  split <;> simp

@[simp] theorem State.blocked_img (addr : Nat) : (s.blocked addr).img = s.img := by simp [State.blocked]

@[simp] theorem State.postAll_img (f : Journal → Journal) : (s.postAll f).img = s.img := by simp [State.postAll]

@[simp] theorem State.noteBegin_img (u : UCause) (e : Option (Fin 4)) : (s.noteBegin u e).img = s.img := by
  simp [State.noteBegin]

@[simp] theorem State.beginCause_img (u : UCause) : (s.beginCause u).img = s.img := by simp [State.beginCause]

@[simp] theorem State.endCause_img (u : UCause) : (s.endCause u).img = s.img := by simp [State.endCause]

/-! ### Vital inputs -/

@[simp] theorem State.enterResetFault_img (i : Fin 8) : (s.enterResetFault i).img = s.img := by
  simp [State.enterResetFault]

@[simp] theorem State.press_img (i : Fin 8) : (s.press i).img = s.img := by simp [State.press]

@[simp] theorem State.feedFails_img (i : Fin 8) : (s.feedFails i).img = s.img := by simp [State.feedFails]

@[simp] theorem State.readInput_img (t : Nat) (ra rb : ContactRead) (i : Fin 8) :
    (s.readInput t ra rb i).img = s.img := by
  simp [State.readInput]

/-! ### Check-value units -/

@[simp] theorem State.useUnit_img (u : Fin 4) (algo : BitVec 2) (bs : List Byte) (expect : BitVec 64) :
    (s.useUnit u algo bs expect).2.img = s.img := by
  simp only [State.useUnit]
  split <;> simp

@[simp] theorem State.pewterUnit_img (u : Fin 4) (off : Nat) (f : CrcUnit → CrcUnit) :
    (s.pewterUnit u off f).img = s.img := by
  simp [State.pewterUnit]

/-! ### Vital outputs -/

@[simp] theorem State.updateVo_img (j : Fin 8) : (s.updateVo j).img = s.img := by simp [State.updateVo]

@[simp] theorem State.updateVos_img : s.updateVos.img = s.img := by simp [State.updateVos]

@[simp] theorem State.tapSwitch_img (j : Fin 8) (h l : Bool) : (s.tapSwitch j h l).img = s.img := by
  simp [State.tapSwitch]

/-! ### Engines and hand-overs -/

@[simp] theorem State.dropBuf_img (src tgt : Fin 4) : (s.dropBuf src tgt).img = s.img := by simp [State.dropBuf]

@[simp] theorem State.failHandover_img (e : Fin 4) (h : HandOver) : (s.failHandover e h).img = s.img := by
  simp [State.failHandover]

@[simp] theorem State.failHandovers_img (e : Fin 4) : (s.failHandovers e).img = s.img := by simp [State.failHandovers]

@[simp] theorem State.startHandover_img (src tgt : Fin 4) (join : Bool) (secs : List (Fin 256)) :
    (s.startHandover src tgt join secs).img = s.img := by
  simp [State.startHandover]

@[simp] theorem State.commitHandover_img (e : Fin 4) (h : HandOver) : (s.commitHandover e h).img = s.img := by
  simp only [State.commitHandover]
  repeat' split
  all_goals simp

@[simp] theorem State.enterHandover_img (e : Fin 4) (h : HandOver) : (s.enterHandover e h).img = s.img := by
  simp only [State.enterHandover]
  repeat' split
  all_goals simp

@[simp] theorem State.switchHandover_img (src : Fin 4) (h : HandOver) : (s.switchHandover src h).img = s.img := by
  simp [State.switchHandover]

@[simp] theorem State.writePool_img (e : Fin 4) : (s.writePool e).img = s.img := by
  unfold State.writePool
  split <;> simp

@[simp] theorem State.haltEngine_img (e : Fin 4) : (s.haltEngine e).img = s.img := by simp [State.haltEngine]

@[simp] theorem State.failFrame_img (e : Fin 4) (k : FrameFail) : (s.failFrame e k).img = s.img := by
  simp [State.failFrame]

@[simp] theorem State.failFound_img (e : Fin 4) (r : FrameFail × Option Diff) : (s.failFound e r).img = s.img := by
  unfold State.failFound
  split <;> simp

@[simp] theorem State.upset_img (e : Fin 4) (u : Upset) : (s.upset e u).img = s.img := by
  unfold State.upset
  split <;> simp

@[simp] theorem State.attachDebug_img (e : Fin 4) : (s.attachDebug e).img = s.img := by simp [State.attachDebug]

/-! ### Replies -/

@[simp] theorem State.sendPacket_img (path : Path) (bytes : List Byte) (tag : Option Nat) :
    (s.sendPacket path bytes tag).img = s.img := by
  unfold State.sendPacket
  split <;> simp

@[simp] theorem State.releaseTag_img (id : Nat) : (s.releaseTag id).img = s.img := by
  simp only [State.releaseTag]
  repeat' split
  all_goals simp

@[simp] theorem State.discardTag_img (id : Nat) : (s.discardTag id).img = s.img := by simp [State.discardTag]

@[simp] theorem State.replyTag_img (id : Nat) (r : Result) : (s.replyTag id r).img = s.img := by
  simp only [State.replyTag]
  repeat' split
  all_goals simp

@[simp] theorem State.modVote_img (id : Nat) (f : Vote → Vote) : (s.modVote id f).img = s.img := by simp [State.modVote]

@[simp] theorem State.dropVotes_img : s.dropVotes.img = s.img := by simp [State.dropVotes]

@[simp] theorem State.answer_img (ref : Ref) (r : Result) : (s.answer ref r).img = s.img := by
  simp only [State.answer]
  repeat' split
  all_goals simp

@[simp] theorem State.answerSt_img (ref : Ref) (st : Byte) : (s.answerSt ref st).img = s.img := by simp [State.answerSt]

@[simp] theorem State.finish_img (c : Cmd) (r : Result) : (s.finish c r).img = s.img := by simp [State.finish]

/-! ### Frames of the coming slots -/

@[simp] theorem State.modArea_img (i : Nat) (f : Area → Area) : (s.modArea i f).img = s.img := by simp [State.modArea]

@[simp] theorem State.dropReply_img (k : Fin 8) : (s.dropReply k).img = s.img := by
  simp only [State.dropReply]
  repeat' split
  all_goals simp

@[simp] theorem State.armStatus_img (k : Fin 8) (slot : Nat) (tx : Stamp) (e : Fin 4) :
    (s.armStatus k slot tx e).img = s.img := by
  simp [State.armStatus]

@[simp] theorem State.armReply_img (k : Fin 8) (slot : Nat) (tx : Stamp) (e : Fin 4) :
    (s.armReply k slot tx e).img = s.img := by
  simp only [State.armReply]
  repeat' split
  all_goals simp

@[simp] theorem State.armArea_img (k : Fin 8) (slot : Nat) (tx : Stamp) (e : Fin 4) (i : Nat) :
    (s.armArea k slot tx e i).img = s.img := by
  unfold State.armArea
  split <;> simp

@[simp] theorem State.armLink_img (k : Fin 8) : (s.armLink k).img = s.img := by
  simp only [State.armLink]
  repeat' split
  all_goals simp

@[simp] theorem State.rearm_img (k : Fin 8) : (s.rearm k).img = s.img := by
  simp only [State.rearm]
  repeat' split
  all_goals simp

@[simp] theorem State.signCodes_img : s.signCodes.img = s.img := by simp [State.signCodes]

@[simp] theorem State.rearmAll_img : s.rearmAll.img = s.img := by simp [State.rearmAll]

/-! ### The time base -/

@[simp] theorem State.tbEnter_img (st : TbState) : (s.tbEnter st).img = s.img := by simp [State.tbEnter]

@[simp] theorem State.tbLost_img : s.tbLost.img = s.img := by simp [State.tbLost]

@[simp] theorem State.judgeSource_img : s.judgeSource.img = s.img := by
  simp only [State.judgeSource]
  repeat' split
  all_goals simp

@[simp] theorem State.measure_img (k : Fin 8) (theta2 : Int) : (s.measure k theta2).img = s.img := by
  unfold State.measure
  extract_lets b s1 s2 x s3 s4
  have h2 : s2.img = s.img := by
    simp only [s2]
    split <;> simp [s1]
  have h4 : s4.img = s.img := by
    simp only [s4]
    split <;> simp [s3, h2]
  split <;> exact h4

@[simp] theorem State.extCheck_img (tb64 : Nat) : (s.extCheck tb64).img = s.img := by
  unfold State.extCheck
  split <;> simp

@[simp] theorem State.sourceStatus_img (k : Fin 8) (m : Option (Int × Nat)) : (s.sourceStatus k m).img = s.img := by
  simp only [State.sourceStatus]
  repeat' split
  all_goals simp

/-! ### Links -/

@[simp] theorem State.dropFrame_img (k : Fin 8) (f : Link → Link) (bit code : Nat) :
    (s.dropFrame k f bit code).img = s.img := by
  simp [State.dropFrame]

@[simp] theorem State.dropSecond_img (k : Fin 8) (b : List Byte) : (s.dropSecond k b).img = s.img := by
  unfold State.dropSecond
  split <;> simp

@[simp] theorem State.modRx_img (t : StreamRef) (f : Rx → Rx) : (s.modRx t f).img = s.img := by
  unfold State.modRx
  split <;> simp

@[simp] theorem State.takePacket_img (i : Fin 3) (bytes : List Byte) (exempt : Bool) :
    (s.takePacket i bytes exempt).img = s.img := by
  simp [State.takePacket]

@[simp] theorem State.takeSegment_img (k : Fin 8) (b : List Byte) (exempt : Bool) :
    (s.takeSegment k b exempt).img = s.img := by
  simp only [State.takeSegment]
  repeat' split
  all_goals simp

@[simp] theorem State.lbrMessage_img (k : Fin 8) (req no : Byte) : (s.lbrMessage k req no).img = s.img := by
  simp only [State.lbrMessage]
  repeat' split
  all_goals simp

@[simp] theorem State.takeStatus_img (k : Fin 8) (sof : Stamp) (b : List Byte) :
    (s.takeStatus k sof b).img = s.img := by
  simp [State.takeStatus]

@[simp] theorem State.takeRemote_img (k : Fin 8) (r : AxleRec) : (s.takeRemote k r).img = s.img := by
  simp [State.takeRemote]

@[simp] theorem State.takeArea_img (k : Fin 8) (i : Nat) (peer : BitVec 11) (gap : Nat) (first : Bool) (b : List Byte) :
    (s.takeArea k i peer gap first b).img = s.img := by
  unfold State.takeArea
  split <;> simp

@[simp] theorem State.streamLost_img (t : StreamRef) : (s.streamLost t).img = s.img := by
  simp only [State.streamLost]
  repeat' split
  all_goals simp

@[simp] theorem State.endPeriod_img (t : StreamRef) : (s.endPeriod t).img = s.img := by
  unfold State.endPeriod
  split <;> simp

@[simp] theorem State.closePeriods_img (t : StreamRef) : (s.closePeriods t).img = s.img := by
  unfold State.closePeriods
  split <;> simp

@[simp] theorem State.beginConflict_img (k : Fin 8) : (s.beginConflict k).img = s.img := by simp [State.beginConflict]

@[simp] theorem State.acceptFrame_img (k : Fin 8) (sof : Stamp) (b : List Byte) :
    (s.acceptFrame k sof b).img = s.img := by
  simp only [State.acceptFrame]
  repeat' split
  all_goals simp

@[simp] theorem State.storeRelay_img (k : Fin 8) (j : Nat) (r : RelayDef) (b : List Byte) :
    (s.storeRelay k j r b).img = s.img := by
  simp [State.storeRelay]

@[simp] theorem State.realignPeriods_img : s.realignPeriods.img = s.img := by simp [State.realignPeriods]

@[simp] theorem State.endLinkLoop_img (k : Fin 8) (kind : BitVec 2) (res : BitVec 3) (delay : BitVec 24) :
    (s.endLinkLoop k kind res delay).img = s.img := by
  simp [State.endLinkLoop]

@[simp] theorem State.refCrc_img (fs : List (List Byte × List Byte)) : (s.refCrc fs).img = s.img := by
  simp [State.refCrc]

@[simp] theorem State.startLinkLoop_img (k : Fin 8) (kind : LinkLb) : (s.startLinkLoop k kind).img = s.img := by
  unfold State.startLinkLoop
  split <;> simp

/-! ### Point failures and port supplies -/

@[simp] theorem State.settleFail_img (n : Fin 64) : (s.settleFail n).img = s.img := by simp [State.settleFail]

@[simp] theorem State.failPoint_img (n : Fin 64) : (s.failPoint n).img = s.img := by simp [State.failPoint]

@[simp] theorem State.startRamp_img (n : Fin 64) : (s.startRamp n).img = s.img := by simp [State.startRamp]

@[simp] theorem State.supplyOff_img (n : Fin 64) : (s.supplyOff n).img = s.img := by simp [State.supplyOff]

@[simp] theorem State.startPortStage_img (l : List (Fin 64)) (all : Bool) : (s.startPortStage l all).img = s.img := by
  simp [State.startPortStage]

@[simp] theorem State.rampGroups_img : s.rampGroups.img = s.img := by
  unfold State.rampGroups
  refine foldl_img (fun s a => ?_) _ _
  repeat' split
  all_goals simp

@[simp] theorem State.dropStage_img : s.dropStage.img = s.img := by simp [State.dropStage]

@[simp] theorem State.judgeTaps_img (c : Fin 128) (taps : List Int) : (s.judgeTaps c taps).img = s.img := by
  simp [State.judgeTaps]

/-! ### Channels -/

@[simp] theorem State.checkBase_img (c : Fin 128) : (s.checkBase c).img = s.img := by simp [State.checkBase]

@[simp] theorem State.testTaps_img (c : Fin 128) (taps : List Int) : (s.testTaps c taps).img = s.img := by
  simp only [State.testTaps]
  repeat' split
  all_goals simp

@[simp] theorem State.toWdu_img (c : Fin 128) (inst : Nat) : (s.toWdu c inst).img = s.img := by simp [State.toWdu]

@[simp] theorem State.reportOverload_img (c : Fin 128) : (s.reportOverload c).img = s.img := by
  simp [State.reportOverload]

@[simp] theorem State.resetChan_img (c : Fin 128) (load : Bool) : (s.resetChan c load).img = s.img := by
  simp [State.resetChan]

@[simp] theorem State.resetAllChans_img (load : Bool) : (s.resetAllChans load).img = s.img := by
  simp [State.resetAllChans]

@[simp] theorem State.codeChannel_img (period : Nat) (c : Fin 128) (v : CodeVerdict) :
    (s.codeChannel period c v).1.img = s.img := by
  simp only [State.codeChannel]
  repeat' split
  all_goals simp

@[simp] theorem State.codeCond_img (n : Fin 64) (holds residual : Bool) :
    (s.codeCond n holds residual).img = s.img := by
  simp [State.codeCond]

/-! ### Port tests and loopbacks -/

@[simp] theorem State.beginTest_img (n : Fin 64) (y : Sys) : (s.beginTest n y).img = s.img := by simp [State.beginTest]

@[simp] theorem State.endTest_img (r : RunTest) : (s.endTest r).img = s.img := by simp [State.endTest]

@[simp] theorem State.stopTest_img (cross : Bool) (late : Nat) : (s.stopTest cross late).img = s.img := by
  simp only [State.stopTest]
  repeat' split
  all_goals simp

@[simp] theorem State.otherSample_img (n : Fin 64) (y : Sys) (d : Int) (m : Nat) :
    (s.otherSample n y d m).img = s.img := by
  unfold State.otherSample
  split <;> simp

@[simp] theorem State.stepLoop_img (n : Fin 64) (ok : Bool) : (s.stepLoop n ok).img = s.img := by simp [State.stepLoop]

@[simp] theorem State.scmPort_img (n : Fin 64) : (s.scmPort n).img = s.img := by simp [State.scmPort]

@[simp] theorem State.endPortLoop_img (n : Fin 64) : (s.endPortLoop n).img = s.img := by simp [State.endPortLoop]

@[simp] theorem State.lb2Judge_img (c : Fin 128) : (s.lb2Judge c).img = s.img := by simp [State.lb2Judge]

@[simp] theorem State.startPortLoop_img (n : Fin 64) (k : LbKind) : (s.startPortLoop n k).img = s.img := by
  simp [State.startPortLoop]

/-! ### Lanes -/

@[simp] theorem State.laneFault_img (k : Fin 8) : (s.laneFault k).img = s.img := by
  simp only [State.laneFault]
  split
  · rw [State.fault_img, foldl_img fun s c => State.modChan_img s c _]
    rfl
  · rfl

@[simp] theorem State.returnReport_img (r : Fin 2) (failed : Bool) : (s.returnReport r failed).img = s.img := by
  unfold State.returnReport
  refine foldl_img (fun s a => ?_) _ _
  simp

@[simp] theorem State.fieldAtTick_img (old : Nat) : (s.fieldAtTick old).img = s.img := by simp [State.fieldAtTick]

@[simp] theorem State.declareCutoff_img : s.declareCutoff.img = s.img := by simp [State.declareCutoff]

@[simp] theorem State.takeSuperframe_img (k : Fin 8) (ws : List (BitVec 20)) : (s.takeSuperframe k ws).img = s.img :=
  (s.takeSuperframe_spec k ws).1.img

@[simp] theorem State.startEcho_img (k : Fin 8) : (s.startEcho k).img = s.img := by
  unfold State.startEcho
  refine foldl_img (fun s a => ?_) _ _
  simp

@[simp] theorem State.retBack_img (off : Bool) (n : Fin 64) : (s.retBack off n).img = s.img := by simp [State.retBack]

@[simp] theorem State.fieldReadings_img (codes : Vector (BitVec 12) 64) : (s.fieldReadings codes).img = s.img := by
  obtain ⟨u, hu⟩ := s.fieldReadings_eq codes
  rw [hu]

/-! ### Wheel detection units -/

@[simp] theorem State.emitRecord_img (n : Fin 64) (r : AxleRec) (cnt : Nat) : (s.emitRecord n r cnt).img = s.img := by
  simp [State.emitRecord]

@[simp] theorem State.emitEvent_img (n : Fin 64) (ev : WduEv) (inst : Nat) : (s.emitEvent n ev inst).img = s.img := by
  unfold State.emitEvent
  split <;> simp

@[simp] theorem State.realignPoint_img (n : Fin 64) : (s.realignPoint n).img = s.img := by simp [State.realignPoint]

@[simp] theorem State.judgeActive_img (h1 h2 : Half) (c : Fin 128) : (s.judgeActive h1 h2 c).img = s.img := by
  simp [State.judgeActive]

@[simp] theorem State.judgeQuiet_img (n : Fin 64) (h1 h2 : Half) : (s.judgeQuiet n h1 h2).img = s.img := by
  simp [State.judgeQuiet]

@[simp] theorem State.feedLb3_img (n : Fin 64) (inst : Nat) : (s.feedLb3 n inst).img = s.img := by
  simp only [State.feedLb3]
  repeat' split
  all_goals simp

@[simp] theorem State.evalPair_img (n : Fin 64) (x1 x2 : Sample) (inst : Nat) :
    (s.evalPair n x1 x2 inst).img = s.img := by
  simp [State.evalPair]

@[simp] theorem State.startLb3_img (n : Fin 64) : (s.startLb3 n).img = s.img := by simp [State.startLb3]

/-! ### Rails and the cut-off -/

@[simp] theorem State.abortIfIdle_img : s.abortIfIdle.img = s.img := by simp [State.abortIfIdle]

@[simp] theorem State.supplyMeetsTest_img (cause : BitVec 4) : (s.supplyMeetsTest cause).img = s.img := by
  simp [State.supplyMeetsTest]

@[simp] theorem State.beginEpisode_img (r : Rail) (upper : Bool) (reading : BitVec 16) :
    (s.beginEpisode r upper reading).img = s.img := by
  simp [State.beginEpisode]

@[simp] theorem State.writeSnapshot_img (rail : BitVec 2) (dur low : BitVec 16) :
    (s.writeSnapshot rail dur low).img = s.img := by
  simp [State.writeSnapshot]

@[simp] theorem State.endPortStage_img : s.endPortStage.img = s.img := by simp [State.endPortStage]

/-! ### Images -/

@[simp] theorem State.logFresh_img (l : List Sec) : (s.logFresh l).img = s.img := by simp [State.logFresh]

/-! ### Recorder -/

@[simp] theorem State.writePage_img (axles ok : Bool) : (s.writePage axles ok).img = s.img := by simp [State.writePage]

@[simp] theorem State.writeAllPages_img : s.writeAllPages.img = s.img := by simp [State.writeAllPages]

@[simp] theorem State.takeEvent_img (e : Event) : (s.takeEvent e).img = s.img := by simp [State.takeEvent]

@[simp] theorem State.takeEntry_img (q : QItem) : (s.takeEntry q).img = s.img := by
  unfold State.takeEntry
  split <;> simp

@[simp] theorem State.sendReplies_img : s.sendReplies.img = s.img := by simp [State.sendReplies]

@[simp] theorem State.drainQueue_img : s.drainQueue.img = s.img := by simp [State.drainQueue]

@[simp] theorem State.metBadPages_img (ring : List Page) (p : Nat → Bool) : (s.metBadPages ring p).img = s.img := by
  simp [State.metBadPages]

@[simp] theorem State.opLogRead_img (log count : Byte) (first : BitVec 48) :
    (s.opLogRead log count first).1.img = s.img := by
  unfold State.opLogRead
  split <;> simp

/-! ### Pewter -/

@[simp] theorem State.restartPewter_img (watchdog bootBad : Bool) : (s.restartPewter watchdog bootBad).img = s.img := by
  simp [State.restartPewter]

@[simp] theorem State.fieldPower_img : s.fieldPower.img = s.img := by simp [State.fieldPower]

@[simp] theorem State.retireBlock_img (axles : Bool) : (s.retireBlock axles).img = s.img := by simp [State.retireBlock]

@[simp] theorem State.discardFrame_img : s.discardFrame.img = s.img := by simp [State.discardFrame]

@[simp] theorem State.reply_img (ep : Endpoint) (kind : Byte) (body : List Byte) :
    (s.reply ep kind body).img = s.img := by
  simp [State.reply]

@[simp] theorem State.endSession_img (id : Nat) : (s.endSession id).img = s.img := by simp [State.endSession]

@[simp] theorem State.startEthLoop_img (k : EthLoop) (net : Bool) : (s.startEthLoop k net).img = s.img := by
  simp [State.startEthLoop]

@[simp] theorem State.ethLink_img (up : Bool) (mode : BitVec 2) : (s.ethLink up mode).img = s.img := by
  simp [State.ethLink]

/-! ### Operations of the opcodes -/

@[simp] theorem State.opFaultAck_img (snap : Snap) (input : Byte) : (s.opFaultAck snap input).1.img = s.img := by
  simp only [State.opFaultAck]
  repeat' split
  all_goals simp

@[simp] theorem State.modBank_img (b : Bool) (f : Bank → Bank) : (s.modBank b f).img = s.img := by simp [State.modBank]

@[simp] theorem State.opBankLoad_img (snap : Snap) (b : Bool) (first : Byte) (l : List (BitVec 24)) :
    (s.opBankLoad snap b first l).1.img = s.img := by
  simp only [State.opBankLoad]
  repeat' split
  all_goals simp

@[simp] theorem State.opBankClose_img (snap : Snap) (b : Bool) (crc : Word) :
    (s.opBankClose snap b crc).1.img = s.img := by
  simp only [State.opBankClose]
  repeat' split
  all_goals simp

@[simp] theorem State.opBankSwap_img (snap : Snap) (first last : BitVec 6) (b : Bool) :
    (s.opBankSwap snap first last b).1.img = s.img := by
  simp only [State.opBankSwap]
  repeat' split
  any_goals rfl
  exact foldl_img (fun s c => State.modChan_img s c _) _ s

@[simp] theorem State.opPreset_img (first last : BitVec 6) (sel : Option (BitVec 2)) (mode : Option Bool) :
    (s.opPreset first last sel mode).1.img = s.img := by
  simp only [State.opPreset]
  split
  · rfl
  · refine foldl_img (fun s c => ?_) _ s
    cases mode <;> cases sel <;> simp

@[simp] theorem State.opSyncReset_img (first last : BitVec 6) : (s.opSyncReset first last).1.img = s.img := by
  unfold State.opSyncReset
  split <;> simp

@[simp] theorem State.refuseSplit_img (e : Fin 4) : (s.refuseSplit e).1.img = s.img := by simp [State.refuseSplit]

@[simp] theorem State.opSplit_img (src tgt : Fin 4) : (s.opSplit src tgt).1.img = s.img := by
  simp only [State.opSplit]
  repeat' split
  all_goals simp

@[simp] theorem State.opJoin_img (e : Fin 4) : (s.opJoin e).1.img = s.img := by
  simp only [State.opJoin]
  repeat' split
  all_goals simp

@[simp] theorem State.opAttach_img (e : Fin 4) : (s.opAttach e).1.img = s.img := by
  simp only [State.opAttach]
  split <;> simp

@[simp] theorem State.opDetach_img (e : Fin 4) : (s.opDetach e).1.img = s.img := by simp [State.opDetach]

@[simp] theorem State.endAllLoops_img : s.endAllLoops.img = s.img := (State.besidesLoops_eq s.endAllLoops_besides).2.2.2

@[simp] theorem State.opShutdown_img (windowed : Bool) : (s.opShutdown windowed).1.img = s.img := by
  unfold State.opShutdown
  split <;> simp

@[simp] theorem State.opTestPort_img (n : Fin 64) : (s.opTestPort n).1.img = s.img := by
  unfold State.opTestPort
  split <;> simp

@[simp] theorem State.opPortLoop_img (n : Fin 64) (kind : Byte) : (s.opPortLoop n kind).1.img = s.img := by
  simp only [State.opPortLoop]
  repeat' split
  all_goals simp

@[simp] theorem State.opEcho_img (k : Fin 8) : (s.opEcho k).1.img = s.img := by
  unfold State.opEcho
  split <;> simp

@[simp] theorem State.opLinkLoop_img (k : Fin 8) (kind : LinkLb) : (s.opLinkLoop k kind).1.img = s.img := by
  simp only [State.opLinkLoop]
  repeat' split
  all_goals simp

@[simp] theorem State.opLoopback_img (target index kind : Byte) : (s.opLoopback target index kind).1.img = s.img := by
  simp only [State.opLoopback]
  repeat' split
  all_goals simp

@[simp] theorem State.refuseReset_img (gid : Word) : (s.refuseReset gid).1.img = s.img := by simp [State.refuseReset]

@[simp] theorem State.giveReset_img (c : Cmd) (e : Fin 4) : (s.giveReset c e).img = s.img := by simp [State.giveReset]

/-! ### The command interpreter -/

@[simp] theorem State.refusePacket_img (bit code : Nat) : (s.refusePacket bit code).img = s.img := by
  simp [State.refusePacket]

@[simp] theorem State.bounce_img (path : Path) (hdr : List Byte) (st : Byte) : (s.bounce path hdr st).img = s.img := by
  simp [State.bounce]

@[simp] theorem State.duplicate_img (p : Packet) (d : DupEntry) : (s.duplicate p d).img = s.img := by
  simp only [State.duplicate]
  repeat' split
  all_goals simp

@[simp] theorem State.closeVote_img (v : Vote) : (s.closeVote v).img = s.img := by simp [State.closeVote]

/-! ### What shows the last publication -/

@[simp] theorem State.changeList_img : s.changeList.img = s.img := by simp [State.changeList]

@[simp] theorem State.takeSnapshot_img : s.takeSnapshot.img = s.img := by simp [State.takeSnapshot]

@[simp] theorem State.showPublished_img : s.showPublished.img = s.img := by simp [State.showPublished]

/-! ### Start and tests -/

@[simp] theorem State.newEpoch_img (step : Int) : (s.newEpoch step).img = s.img := by simp [State.newEpoch]

@[simp] theorem State.startPorts_img : s.startPorts.img = s.img := by simp [State.startPorts]

@[simp] theorem State.failStart_img : s.failStart.img = s.img := by simp [State.failStart]

@[simp] theorem State.stepFails_img (n : Nat) (sig want : Word) : (s.stepFails n sig want).img = s.img := by
  simp [State.stepFails]

@[simp] theorem State.endStep_img (n : Nat) : (s.endStep n).img = s.img := by simp [State.endStep]

@[simp] theorem State.endShutdown_img : s.endShutdown.img = s.img := by simp [State.endShutdown]

@[simp] theorem State.afterShutdownSegment_img (n : Nat) : (s.afterShutdownSegment n).img = s.img := by
  simp [State.afterShutdownSegment]

@[simp] theorem State.enterRun_img (e : Fin 4) : (s.enterRun e).img = s.img := by simp [State.enterRun]

@[simp] theorem State.enterHalted_img (e : Fin 4) : (s.enterHalted e).img = s.img := by simp [State.enterHalted]

@[simp] theorem State.rootZero_img : s.rootZero.img = s.img := by simp [State.rootZero]

@[simp] theorem State.stepTb_img (d : Int) : (s.stepTb d).img = s.img := by simp [State.stepTb]

/-! ### The tick -/

@[simp] theorem State.toJournals_img (r : AxleRec) : (s.toJournals r).img = s.img := by simp [State.toJournals]

@[simp] theorem State.toStreams_img (n : Fin 64) (r : AxleRec) : (s.toStreams n r).img = s.img := by
  unfold State.toStreams
  refine foldl_img (fun s a => ?_) _ _
  repeat' split
  all_goals simp

@[simp] theorem State.toPewter_img (n : Fin 64) (o : OutRec) : (s.toPewter n o).img = s.img := by simp [State.toPewter]

@[simp] theorem State.foreign_img (r : AxleRec) : (s.foreign r).img = s.img := by simp [State.foreign]

@[simp] theorem State.toDue_img (r : AxleRec) : (s.toDue r).img = s.img := by simp [State.toDue]

@[simp] theorem State.sampleRemote_img : s.sampleRemote.img = s.img := by simp [State.sampleRemote]

@[simp] theorem State.passCommands_img (e : Fin 4) : (s.passCommands e).img = s.img := by simp [State.passCommands]

@[simp] theorem State.dualCommands_img (e : Fin 4) : (s.dualCommands e).img = s.img := by simp [State.dualCommands]

@[simp] theorem State.openEngine_img (sn : Snap) (m : TickMeas) (e : Fin 4) : (s.openEngine sn m e).img = s.img := by
  simp [State.openEngine]

@[simp] theorem State.judgeFrame_img (bad : Bool) (sched : BitVec 16) (e : Fin 4) :
    (s.judgeFrame bad sched e).img = s.img := by
  simp [State.judgeFrame]

@[simp] theorem State.joinProved_img (e : Fin 4) : (s.joinProved e).img = s.img := by simp [State.joinProved]

@[simp] theorem State.detachProved_img (e : Fin 4) : (s.detachProved e).img = s.img := by simp [State.detachProved]

@[simp] theorem State.provedFrame_img (e : Fin 4) : (s.provedFrame e).img = s.img := by
  simp only [State.provedFrame]
  repeat' split
  all_goals simp

@[simp] theorem State.publish_img (e : Fin 4) : (s.publish e).img = s.img := by
  unfold State.publish
  split <;> simp

@[simp] theorem State.publishLogs_img (w : Work) : (s.publishLogs w).img = s.img := by simp [State.publishLogs]

@[simp] theorem State.impose_img (e : Fin 4) : (s.impose e).img = s.img := by simp [State.impose]

@[simp] theorem State.chansAtTick_img : s.chansAtTick.img = s.img := by simp [State.chansAtTick]

@[simp] theorem State.returnLanesAtTick_img : s.returnLanesAtTick.img = s.img := by simp [State.returnLanesAtTick]

@[simp] theorem State.startProving_img : s.startProving.img = s.img := by simp [State.startProving]

@[simp] theorem State.portsAtTick_img : s.portsAtTick.img = s.img := by
  simp only [State.portsAtTick]
  repeat' split
  all_goals simp

@[simp] theorem State.suppliesAtTick_img (m : TickMeas) : (s.suppliesAtTick m).img = s.img := by
  simp [State.suppliesAtTick]

@[simp] theorem State.releaseFrames_img (ok : Vector Bool 4) : (s.releaseFrames ok).img = s.img := by
  simp [State.releaseFrames]

@[simp] theorem State.clockTick_img : s.clockTick.img = s.img := by simp [State.clockTick]

@[simp] theorem State.armAll_img : s.armAll.img = s.img := by simp [State.armAll]

/-! ### Register accesses -/

@[simp] theorem State.modReader_img (rd : Reader) (f : ReaderSt → ReaderSt) : (s.modReader rd f).img = s.img := by
  simp [State.modReader]

@[simp] theorem State.clearRc_img (a : RegAt) (inc : BitVec 4) : (s.clearRc a inc).img = s.img := by
  unfold State.clearRc
  split <;> simp

@[simp] theorem State.refuseAccess_img (rd : Reader) (wr : Bool) : (s.refuseAccess rd wr).img = s.img := by
  simp [State.refuseAccess]

@[simp] theorem State.read32_img (rd : Reader) (addr : Nat) (inc : BitVec 4) : (s.read32 rd addr inc).img = s.img := by
  simp only [State.read32]
  repeat' split
  all_goals simp

@[simp] theorem State.writeEthCtrl_img (v : Word) : (s.writeEthCtrl v).img = s.img := by
  unfold State.writeEthCtrl
  split <;> simp

@[simp] theorem State.writeSlot_img (e : Fin 4) (w : Word) : (s.writeSlot e w).img = s.img := by simp [State.writeSlot]

@[simp] theorem State.writeCrc_img (u : Fin 4) (off : Nat) (v : Word) : (s.writeCrc u off v).img = s.img := by
  unfold State.writeCrc
  split <;> simp

end

/-! ### The image in force and the slot -/

/-- The image in force and the content of the slot are the same. -/
@[reducible] def State.SameImages (s t : State) : Prop := t.img.active = s.img.active ∧ t.img.slot = s.img.slot

section
variable {s t u : State}

@[simp] theorem State.sameImages_iff : s.SameImages t ↔ t.img.active = s.img.active ∧ t.img.slot = s.img.slot := Iff.rfl

theorem State.SameImages.refl (s : State) : s.SameImages s := ⟨rfl, rfl⟩

theorem State.SameImages.trans (h : s.SameImages t) (k : t.SameImages u) : s.SameImages u :=
  ⟨k.1.trans h.1, k.2.trans h.2⟩

theorem State.SameImages.of_img (h : t.img = s.img) : s.SameImages t := ⟨by rw [h], by rw [h]⟩

theorem State.SameImages.foldl {α : Type} {f : State → α → State} (h : ∀ (s : State) a, s.SameImages (f s a)) (l : List α) :
    ∀ s : State, s.SameImages (l.foldl f s) := by
  induction l with
  | nil => exact .refl
  | cons a l ih => exact fun s => (h s a).trans (ih _)

end

section
variable (s : State)

@[simp] theorem State.imgFault_images (bit code : Nat) : s.SameImages (s.imgFault bit code) := by simp [State.imgFault]

@[simp] theorem State.discardStaged_images : s.SameImages s.discardStaged := by
  simp only [State.discardStaged]
  split <;> simp

@[simp] theorem State.opCfgBegin_images (w : Who) (len : Word) : s.SameImages (s.opCfgBegin w len).1 := by
  unfold State.opCfgBegin
  split <;> simp

@[simp] theorem State.opCfgBlock_images (w : Who) (off : Word) (data : List Byte) :
    s.SameImages (s.opCfgBlock w off data).1 := by
  simp only [State.opCfgBlock]
  repeat' split
  all_goals simp

@[simp] theorem State.opCfgEnd_images (c : Cmd) (crc : Word) : s.SameImages (s.opCfgEnd c crc).1 := by
  unfold State.opCfgEnd
  split <;> simp

@[simp] theorem State.failVerify_images (v : Verify) (st : Byte) (reason : Byte) (off : Nat) :
    s.SameImages (s.failVerify v st reason off) := by
  simp [State.failVerify]

@[simp] theorem State.verifyBytes_images (v : Verify) (bs : List Byte) (readBackOk : Bool) :
    s.SameImages (s.verifyBytes v bs readBackOk) := by
  simp only [State.verifyBytes]
  repeat' split
  all_goals simp

@[simp] theorem State.refuseConfirm_images : s.SameImages s.refuseConfirm := by simp [State.refuseConfirm]

@[simp] theorem State.opCfgConfirm_images (w : Who) (check : BitVec 64) : s.SameImages (s.opCfgConfirm w check).1 := by
  simp only [State.opCfgConfirm]
  repeat' split
  all_goals simp

@[simp] theorem State.opCfgRevert_images (c : Cmd) (mode : Byte) : s.SameImages (s.opCfgRevert c mode).1 := by
  simp only [State.opCfgRevert]
  repeat' split
  all_goals simp

@[simp] theorem State.opFwActivate_images (w : Who) (check : BitVec 64) : s.SameImages (s.opFwActivate w check).1 := by
  simp only [State.opFwActivate]
  repeat' split
  all_goals simp

@[simp] theorem State.clearStaging_images (st : FwStage) : s.SameImages (s.clearStaging st) := by
  simp [State.clearStaging]

@[simp] theorem State.opFwStage_images (off : Word) (data : List Byte) : s.SameImages (s.opFwStage off data).1 := by
  simp only [State.opFwStage]
  repeat' split
  all_goals simp

@[simp] theorem State.opFwClose_images (len : Word) : s.SameImages (s.opFwClose len).1 := by
  unfold State.opFwClose
  split <;> simp

@[simp] theorem State.perform_images (c : Cmd) (snap : Snap) : s.SameImages (s.perform c snap).1 := by
  unfold State.perform
  split <;> simp

@[simp] theorem State.runOp_images (c : Cmd) (snap : Snap) : s.SameImages (s.runOp c snap) := by
  simp only [State.runOp]
  repeat' split
  all_goals simp

@[simp] theorem State.haltedAnswer_images (c : Cmd) (snap : Snap) : s.SameImages (s.haltedAnswer c snap) := by
  simp only [State.haltedAnswer]
  repeat' split
  all_goals simp

@[simp] theorem State.tapRun_images (c : Cmd) : s.SameImages (s.tapRun c) := by
  simp only [State.tapRun]
  split <;> simp

@[simp] theorem State.passOn_images (c : Cmd) : s.SameImages (s.passOn c) := by
  simp only [State.passOn]
  repeat' split
  all_goals simp

@[simp] theorem State.answerHalted_images (e : Fin 4) : s.SameImages (s.answerHalted e) := by
  simp only [State.answerHalted]
  split
  · exact .trans ⟨rfl, rfl⟩ (.foldl (fun s c => s.haltedAnswer_images c s.snap) _ _)
  · exact .refl s

@[simp] theorem State.handCommands_images (e : Fin 4) : s.SameImages (s.handCommands e) := by
  simp only [State.handCommands]
  split
  · exact ⟨rfl, rfl⟩
  · exact .trans ⟨rfl, rfl⟩ (.foldl (fun s (w : Waiting) => s.haltedAnswer_images w.cmd s.snap) _ _)

@[simp] theorem State.publishOps_images (w : Work) : s.SameImages (s.publishOps w) :=
  .foldl (fun s (p : Cmd × Snap) => s.runOp_images p.1 p.2) _ s

@[simp] theorem State.publishAll_images (m : TickMeas) (stepFrame : Bool) :
    s.SameImages (s.publishAll m stepFrame) := by
  obtain ⟨ok, news, h⟩ := s.publishAll_eq m stepFrame
  rw [h]
  generalize (s.judgeAll m stepFrame).finished = ws
  have hops (t : State) : t.SameImages (ws.foldl (fun s p => s.publishOps p.2) t) := .foldl (fun s p => s.publishOps_images p.2) ws t
  have hhalt (t : State) : t.SameImages ((allFin 4).foldl State.answerHalted t) := .foldl State.answerHalted_images _ t
  simp [State.afterImages, State.showImages, State.judgeAll, hhalt, hops]

@[simp] theorem State.sampleAll_images (m : TickMeas) : s.SameImages (s.sampleAll m) := by
  have h (t : State) : t.SameImages ((allFin 4).foldl State.handCommands t) := .foldl State.handCommands_images _ t
  simp [State.sampleAll, h]

@[simp] theorem State.mapW1c_images (a : RegAt) (f : Word → Word) : s.SameImages (s.mapW1c a f) := by
  unfold State.mapW1c
  split <;> simp

@[simp] theorem State.writeReg_images (addr : Nat) (a : RegAt) (v : Word) : s.SameImages (s.writeReg addr a v) := by
  simp only [State.writeReg]
  repeat' split
  all_goals simp

@[simp] theorem State.write_images (addr : Nat) (v ev : Word) (wd : Width) : s.SameImages (s.write addr v ev wd) := by
  simp only [State.write]
  repeat' split
  all_goals simp

end

end Sys2Proof.Machine
end
section
/-! PROOFS. O5: what each row of the table leaves of the image in force and of the slot (R264, R265, R279, R335). -/

namespace Sys2Proof.Machine
open Sys2Proof

/-- The slot keeps its content; the image in force stands, unless module reset is asserted, which takes it out of force. -/
def State.KeepsImages (s t : State) : Prop :=
  t.img.slot = s.img.slot ∧ (t.img.active = s.img.active ∨ t.inReset = true ∧ t.img.active = none)

/-- The same for what a row makes of `s`, if it makes a state. -/
def State.RowKeeps (s : State) (o : Out) : Prop := ∀ t, o = .next t → s.KeepsImages t

section
variable {s t u : State}

theorem State.KeepsImages.of_same (h : s.SameImages t) : s.KeepsImages t := ⟨h.2, .inl h.1⟩

theorem State.SameImages.thenKeeps (h : s.SameImages t) (k : t.KeepsImages u) : s.KeepsImages u :=
  ⟨k.1.trans h.2, k.2.imp (·.trans h.1) id⟩

/-- Module reset keeps the slot, and no image is in force under it (R264, R338). -/
theorem State.KeepsImages.reset (h : s.SameImages t) {c : ResetCause} : s.KeepsImages (t.assertReset c) := by
  obtain ⟨hphase, -, -, -, -, -, -, -, -, -, -, -, -, -, -, hactive, hslot, -⟩ := t.assertReset_resetAsserted c
  exact h.thenKeeps ⟨hslot, .inr ⟨decide_eq_true hphase, hactive⟩⟩

theorem State.RowKeeps.next (h : s.KeepsImages t) : s.RowKeeps (.next t) := by
  rintro _ ⟨⟩
  exact h

theorem State.RowKeeps.same (h : t.img = s.img) : s.RowKeeps (.next t) := .next (.of_same (.of_img h))

theorem State.SameImages.thenRow {o : Out} (h : s.SameImages t) (k : t.RowKeeps o) : s.RowKeeps o :=
  fun _ e => h.thenKeeps (k _ e)

theorem State.RowKeeps.ite {p : Prop} [Decidable p] {a b : Out} (ha : s.RowKeeps a) (hb : s.RowKeeps b) :
    s.RowKeeps (if p then a else b) := by
  split <;> assumption

theorem State.RowKeeps.fault (x : Fault) : s.RowKeeps (.fault x) := by
  rintro _ ⟨⟩

/-- A row with a condition (`State.when`), after which time alone may have passed. -/
theorem State.RowKeeps.when {c : Bool} {f : State → State} (hu : u.img = s.img) (hf : s.KeepsImages (f u)) :
    s.RowKeeps (u.when c f) := by
  unfold State.when
  split
  · exact .next hf
  · exact .same hu

/-- Such a row that leaves the image stores alone. -/
theorem State.RowKeeps.whenImg {c : Bool} {f : State → State} (hu : u.img = s.img) (hf : (f u).img = s.img) :
    s.RowKeeps (u.when c f) := .when hu (.of_same (.of_img hf))

theorem State.ite_img_eq {p : Prop} [Decidable p] {a b : State} (ha : a.img = s.img) (hb : b.img = s.img) :
    (if p then a else b).img = s.img := by
  split <;> assumption

end

variable (s : State)

/-! ### Vital inputs -/

theorem execInputRead_keeps (a b : Vector ContactRead 8) : s.RowKeeps (execInputRead a b s) := by
  unfold execInputRead
  exact .whenImg rfl (by simp)

theorem execDiscrepancyTimeout_keeps (dt : Nat) (i : Fin 8) : s.RowKeeps (execDiscrepancyTimeout dt i s) := by
  unfold execDiscrepancyTimeout
  exact .whenImg rfl (by simp [↓State.ite_img])

theorem execDiscrepantEnd_keeps (dt : Nat) (i : Fin 8) : s.RowKeeps (execDiscrepantEnd dt i s) := by
  unfold execDiscrepantEnd
  refine .whenImg rfl ?_
  dsimp only
  split <;> simp

theorem execStuckDeclaration_keeps (dt : Nat) (i : Fin 8) : s.RowKeeps (execStuckDeclaration dt i s) := by
  unfold execStuckDeclaration
  exact .whenImg rfl (by simp)

theorem execEvaluatorFault_keeps (i : Fin 8) : s.RowKeeps (execEvaluatorFault i s) := by
  unfold execEvaluatorFault
  exact .whenImg rfl (by simp)

theorem execEvaluatorFaultEnd_keeps (dt : Nat) (i : Fin 8) : s.RowKeeps (execEvaluatorFaultEnd dt i s) := by
  unfold execEvaluatorFaultEnd
  exact .whenImg rfl (by simp)

theorem execFeedFaultEnd_keeps (i : Fin 8) : s.RowKeeps (execFeedFaultEnd i s) := by
  unfold execFeedFaultEnd
  exact .whenImg rfl (by simp)

theorem execPressReportEnd_keeps (dt : Nat) (i : Fin 8) : s.RowKeeps (execPressReportEnd dt i s) := by
  unfold execPressReportEnd
  exact .whenImg rfl (by simp)

/-! ### Check-value units -/

theorem execCrcStart_keeps (u : Fin 4) : s.RowKeeps (execCrcStart u s) := by
  unfold execCrcStart
  exact .whenImg rfl (by simp)

theorem execCrcData_keeps (u : Fin 4) (w : Word) : s.RowKeeps (execCrcData u w s) := by
  unfold execCrcData
  exact .whenImg rfl (by simp)

theorem execCrcDataB_keeps (u : Fin 4) (b : Byte) : s.RowKeeps (execCrcDataB u b s) := by
  unfold execCrcDataB
  exact .whenImg rfl (by simp)

theorem execCrcFinish_keeps (u : Fin 4) : s.RowKeeps (execCrcFinish u s) := by
  unfold execCrcFinish
  exact .whenImg rfl (by simp)

/-! ### Vital outputs -/

theorem execOutputReadbackSample_keeps (dt : Nat) (j : Fin 8) (volt curr : BitVec 16) :
    s.RowKeeps (execOutputReadbackSample dt j volt curr s) := by
  unfold execOutputReadbackSample
  exact .whenImg rfl (by simp)

theorem execOutputReadbackFault_keeps (dt : Nat) (j : Fin 8) : s.RowKeeps (execOutputReadbackFault dt j s) := by
  unfold execOutputReadbackFault
  exact .whenImg rfl (by simp [↓State.ite_img])

theorem execOvercurrentTrip_keeps (dt : Nat) (j : Fin 8) : s.RowKeeps (execOvercurrentTrip dt j s) := by
  unfold execOvercurrentTrip
  exact .whenImg rfl (by simp)

theorem execOvercurrentTripEnd_keeps (dt : Nat) (j : Fin 8) : s.RowKeeps (execOvercurrentTripEnd dt j s) := by
  unfold execOvercurrentTripEnd
  exact .whenImg rfl (by simp)

theorem execOffPulseTestStart_keeps (j : Fin 8) : s.RowKeeps (execOffPulseTestStart j s) := by
  unfold execOffPulseTestStart
  exact .whenImg rfl (by simp)

theorem execOffPulseWindowClose_keeps (dt : Nat) (j : Fin 8) : s.RowKeeps (execOffPulseWindowClose dt j s) := by
  unfold execOffPulseWindowClose
  exact .whenImg rfl (by simp)

theorem execOffPulseCheck_keeps (dt : Nat) (j : Fin 8) : s.RowKeeps (execOffPulseCheck dt j s) := by
  unfold execOffPulseCheck
  exact .whenImg rfl (by simp [↓State.ite_img])

/-! ### Engines and hand-overs -/

theorem execSplitSlotsStart_keeps (e : Fin 4) : s.RowKeeps (execSplitSlotsStart e s) := by
  unfold execSplitSlotsStart
  exact .whenImg rfl (by simp)

theorem execEccScrub_keeps (word : Fin 524288) (o : EccOutcome) : s.RowKeeps (execEccScrub word o s) := by
  unfold execEccScrub
  refine .whenImg rfl ?_
  dsimp only
  repeat' split
  all_goals simp

theorem execFrameFailure_keeps (e : Fin 4) (k : UpsetKind) (p : Nat) (v : BitVec 64) :
    s.RowKeeps (execFrameFailure e k p v s) := by
  unfold execFrameFailure
  refine .whenImg rfl ?_
  dsimp only
  repeat' split
  all_goals simp

theorem execTokenExpiry_keeps (e : Fin 4) : s.RowKeeps (execTokenExpiry e s) := by
  unfold execTokenExpiry
  exact .whenImg rfl (by simp)

theorem execDebugKeyEnd_keeps : s.RowKeeps (execDebugKeyEnd s) := by
  unfold execDebugKeyEnd
  exact .whenImg rfl (by simp)

/-! ### The time base -/

theorem execHoldoverExpiry_keeps (dt : Nat) : s.RowKeeps (execHoldoverExpiry dt s) := by
  unfold execHoldoverExpiry
  exact .whenImg rfl (by simp)

/-! ### Links -/

theorem execLinkSyncAcquired_keeps (dt : Nat) (k : Fin 8) (pairs : Nat) :
    s.RowKeeps (execLinkSyncAcquired dt k pairs s) := by
  unfold execLinkSyncAcquired
  exact .whenImg rfl (by simp)

theorem execLinkSyncLoss_keeps (dt : Nat) (k : Fin 8) (bad : BitVec 16) : s.RowKeeps (execLinkSyncLoss dt k bad s) := by
  unfold execLinkSyncLoss
  exact .whenImg rfl (by simp)

theorem execStreamPeriodEnd_keeps (dt : Nat) (t : StreamRef) : s.RowKeeps (execStreamPeriodEnd dt t s) := by
  unfold execStreamPeriodEnd
  dsimp only
  split
  · exact .same rfl
  · exact .whenImg rfl (by simp)

theorem execLbaEnd_keeps (dt : Nat) (k : Fin 8) (errs : List (Fin 80 × Fin 2048)) (delay ref : BitVec 24) :
    s.RowKeeps (execLbaEnd dt k errs delay ref s) := by
  unfold execLbaEnd
  exact .whenImg rfl (by simp)

theorem execLbfRun_keeps (dt : Nat) (k : Fin 8) (crc : Word) (sc : Word × Word) :
    s.RowKeeps (execLbfRun dt k crc sc s) := by
  unfold execLbfRun
  exact .whenImg rfl (by simp)

theorem execLbfNoSlot_keeps (dt : Nat) (k : Fin 8) : s.RowKeeps (execLbfNoSlot dt k s) := by
  unfold execLbfNoSlot
  exact .whenImg rfl (by simp)

theorem execLbrRequestTimeout_keeps (dt : Nat) (k : Fin 8) : s.RowKeeps (execLbrRequestTimeout dt k s) := by
  unfold execLbrRequestTimeout
  exact .whenImg rfl (by simp)

theorem execLbrLoopStart_keeps (dt : Nat) (k : Fin 8) : s.RowKeeps (execLbrLoopStart dt k s) := by
  unfold execLbrLoopStart
  exact .whenImg rfl (by simp)

theorem execLbrEnd_keeps (dt : Nat) (k : Fin 8) (errs : List (Fin 200 × Fin 2048)) (delay : BitVec 24) :
    s.RowKeeps (execLbrEnd dt k errs delay s) := by
  unfold execLbrEnd
  dsimp only
  split
  · exact .same rfl
  · exact .whenImg rfl (by simp)

/-! ### Point failures and port supplies -/

theorem execSupplyRampEnd_keeps (dt : Nat) (n : Fin 64) : s.RowKeeps (execSupplyRampEnd dt n s) := by
  unfold execSupplyRampEnd
  dsimp only
  split
  · exact .whenImg rfl (by simp)
  · exact .same rfl

theorem execLoopConditionDetected_keeps (dt : Nat) (n : Fin 64) (q : LoopCond) :
    s.RowKeeps (execLoopConditionDetected dt n q s) := by
  unfold execLoopConditionDetected
  exact .whenImg rfl (by simp)

theorem execPointFailureEnd_keeps (dt : Nat) (n : Fin 64) : s.RowKeeps (execPointFailureEnd dt n s) := by
  unfold execPointFailureEnd
  exact .whenImg rfl (by simp)

theorem execSurgeEnd_keeps (dt : Nat) (n : Fin 64) : s.RowKeeps (execSurgeEnd dt n s) := by
  unfold execSurgeEnd
  exact .whenImg rfl (by simp)

theorem execSurgeLong_keeps (dt : Nat) (x : Fin 64 × Nat) : s.RowKeeps (execSurgeLong dt x s) := by
  unfold execSurgeLong
  exact .whenImg rfl (by simp)

/-! ### Channels -/

theorem execOutputSample_keeps (c : Fin 128) (words : List (BitVec 20)) : s.RowKeeps (execOutputSample c words s) := by
  unfold execOutputSample
  dsimp only
  split
  · exact .fault _
  · exact .whenImg rfl (by simp [↓State.ite_img])

theorem execSaturationEnd_keeps (dt : Nat) (c : Fin 128) : s.RowKeeps (execSaturationEnd dt c s) := by
  unfold execSaturationEnd
  exact .whenImg rfl (by simp)

theorem execScmFillEnd_keeps (dt : Nat) (c : Fin 128) : s.RowKeeps (execScmFillEnd dt c s) := by
  unfold execScmFillEnd
  exact .whenImg rfl (by simp)

theorem execScmChangeover_keeps (dt : Nat) (c : Fin 128) : s.RowKeeps (execScmChangeover dt c s) := by
  unfold execScmChangeover
  exact .whenImg rfl (by simp)

theorem execSyncResetSettled_keeps (c : Fin 128) : s.RowKeeps (execSyncResetSettled c s) := by
  unfold execSyncResetSettled
  exact .whenImg rfl (by simp)

theorem execModulatorOverload_keeps (dt : Nat) (x : Fin 128 × BitVec 64) :
    s.RowKeeps (execModulatorOverload dt x s) := by
  unfold execModulatorOverload
  exact .whenImg rfl (by simp)

/-! ### Port tests and loopbacks -/

theorem execPortTestEligible_keeps (dt : Nat) (n : Fin 64) : s.RowKeeps (execPortTestEligible dt n s) := by
  unfold execPortTestEligible
  exact .whenImg rfl (by simp)

theorem execRuntimeTestStart_keeps (dt : Nat) : s.RowKeeps (execRuntimeTestStart dt s) := by
  unfold execRuntimeTestStart
  dsimp only
  split
  · exact .whenImg rfl (by simp)
  · exact .same rfl

theorem execRuntimeTestWindowOpen_keeps (dt : Nat) : s.RowKeeps (execRuntimeTestWindowOpen dt s) := by
  unfold execRuntimeTestWindowOpen
  dsimp only
  split
  · exact .whenImg rfl (by simp)
  · exact .same rfl

theorem execRuntimeTestSinkStep_keeps (dt : Nat) : s.RowKeeps (execRuntimeTestSinkStep dt s) := by
  unfold execRuntimeTestSinkStep
  dsimp only
  split
  · exact .whenImg rfl (by simp)
  · exact .same rfl

theorem execRuntimeTestSinkOff_keeps (dt : Nat) : s.RowKeeps (execRuntimeTestSinkOff dt s) := by
  unfold execRuntimeTestSinkOff
  dsimp only
  split
  · exact .whenImg rfl (by simp)
  · exact .same rfl

theorem execRuntimeTestSettle_keeps (dt : Nat) : s.RowKeeps (execRuntimeTestSettle dt s) := by
  unfold execRuntimeTestSettle
  dsimp only
  split
  · exact .whenImg rfl (by simp)
  · exact .same rfl

theorem execRuntimeTestComplete_keeps (dt : Nat) : s.RowKeeps (execRuntimeTestComplete dt s) := by
  unfold execRuntimeTestComplete
  dsimp only
  split
  · exact .whenImg rfl (by simp)
  · exact .same rfl

theorem execRuntimeTestCs2Start_keeps (dt : Nat) : s.RowKeeps (execRuntimeTestCs2Start dt s) := by
  unfold execRuntimeTestCs2Start
  dsimp only
  split
  · exact .whenImg rfl (by simp)
  · exact .same rfl

theorem execSurgeDetected_keeps (dt : Nat) (n : Fin 64) (uA : Nat) : s.RowKeeps (execSurgeDetected dt n uA s) := by
  unfold execSurgeDetected
  exact .whenImg rfl (by simp [↓State.ite_img])

theorem execRuntimeTestOverdue_keeps (dt : Nat) (n : Fin 64) : s.RowKeeps (execRuntimeTestOverdue dt n s) := by
  unfold execRuntimeTestOverdue
  exact .whenImg rfl (by simp)

theorem execLb0Step_keeps (dt : Nat) (n : Fin 64) : s.RowKeeps (execLb0Step dt n s) := by
  unfold execLb0Step
  dsimp only
  split <;> exact .same rfl

theorem execLb1Step_keeps (dt : Nat) (n : Fin 64) : s.RowKeeps (execLb1Step dt n s) := by
  unfold execLb1Step
  dsimp only
  split <;> exact .same rfl

theorem execPortLoopbackEnd_keeps (dt : Nat) (n : Fin 64) : s.RowKeeps (execPortLoopbackEnd dt n s) := by
  unfold execPortLoopbackEnd
  dsimp only
  split
  · exact .whenImg rfl (by simp)
  · exact .same rfl

theorem execLb2PhaseChange_keeps (dt : Nat) (n : Fin 64) : s.RowKeeps (execLb2PhaseChange dt n s) := by
  unfold execLb2PhaseChange
  dsimp only
  split
  · exact .whenImg rfl (by simp)
  · exact .same rfl

theorem execLb2End_keeps (dt : Nat) (n : Fin 64) : s.RowKeeps (execLb2End dt n s) := by
  unfold execLb2End
  dsimp only
  split
  · exact .whenImg rfl (by simp)
  · exact .same rfl

/-! ### Lanes -/

theorem execLaneWordFault_keeps (dt : Nat) (k : Fin 8) (chk : Bool) : s.RowKeeps (execLaneWordFault dt k chk s) := by
  unfold execLaneWordFault
  exact .whenImg rfl (by simp)

theorem execLaneResyncTimeout_keeps (dt : Nat) (k : Fin 8) : s.RowKeeps (execLaneResyncTimeout dt k s) := by
  unfold execLaneResyncTimeout
  exact .whenImg rfl (by simp)

theorem execLaneSuperframe_keeps (k : Fin 8) (ws : List (BitVec 20)) : s.RowKeeps (execLaneSuperframe k ws s) := by
  unfold execLaneSuperframe
  dsimp only
  split
  · exact .fault _
  · exact .whenImg rfl (by simp [↓State.ite_img])

theorem execReturnLaneTimeout_keeps (dt : Nat) (r : Fin 2) : s.RowKeeps (execReturnLaneTimeout dt r s) := by
  unfold execReturnLaneTimeout
  exact .whenImg rfl (by simp)

theorem execReturnLaneRestored_keeps (dt : Nat) (r : Fin 2) : s.RowKeeps (execReturnLaneRestored dt r s) := by
  unfold execReturnLaneRestored
  exact .whenImg rfl (by simp)

theorem execSarConversion_keeps (codes : Vector (BitVec 12) 64) : s.RowKeeps (execSarConversion codes s) := by
  unfold execSarConversion
  exact .whenImg rfl (by simp)

theorem execFieldReadingDeviation_keeps (dt : Nat) (n : Fin 64) : s.RowKeeps (execFieldReadingDeviation dt n s) := by
  unfold execFieldReadingDeviation
  exact .whenImg rfl (by simp)

/-! ### Wheel detection units -/

theorem execPairedSample_keeps (n : Fin 64) : s.RowKeeps (execPairedSample n s) := by
  unfold execPairedSample
  exact .whenImg rfl (by simp)

theorem execNegativeDampingTimeout_keeps (dt : Nat) (n : Fin 64) (y : Sys) :
    s.RowKeeps (execNegativeDampingTimeout dt n y s) := by
  unfold execNegativeDampingTimeout
  exact .whenImg rfl (by simp [↓State.ite_img])

theorem execActiveHoldEnd_keeps (dt : Nat) (c : Fin 128) : s.RowKeeps (execActiveHoldEnd dt c s) := by
  unfold execActiveHoldEnd
  exact .whenImg rfl (by simp)

theorem execLb3Run_keeps (dt : Nat) (n : Fin 64) : s.RowKeeps (execLb3Run dt n s) := by
  unfold execLb3Run
  dsimp only
  split
  · exact .whenImg rfl (by simp)
  · exact .same rfl

theorem execLb3End_keeps (dt : Nat) (n : Fin 64) : s.RowKeeps (execLb3End dt n s) := by
  unfold execLb3End
  dsimp only
  split
  · exact .whenImg rfl (by simp)
  · exact .same rfl

theorem execAxleEntryWritten_keeps (n : Fin 64) : s.RowKeeps (execAxleEntryWritten n s) := by
  unfold execAxleEntryWritten
  dsimp only
  split
  · exact .whenImg rfl (by simp)
  · exact .same rfl

/-! ### Rails and the cut-off -/

theorem execRailWarning_keeps (dt : Nat) (r : Rail) (upper : Bool) (reading : BitVec 16) :
    s.RowKeeps (execRailWarning dt r upper reading s) := by
  unfold execRailWarning
  dsimp only
  split
  · exact .whenImg rfl (by simp)
  · exact .same rfl
  · exact .whenImg rfl (by simp)

theorem execRailRecovering_keeps (dt : Nat) (r : Rail) (reading : Nat) :
    s.RowKeeps (execRailRecovering dt r reading s) := by
  unfold execRailRecovering
  exact .whenImg rfl (by simp)

theorem execRailNormal_keeps (dt : Nat) (r : Rail) : s.RowKeeps (execRailNormal dt r s) := by
  unfold execRailNormal
  refine .whenImg rfl ?_
  dsimp only
  split <;> simp

theorem execFieldBusCutoff_keeps (dt : Nat) (above : Bool) : s.RowKeeps (execFieldBusCutoff dt above s) := by
  unfold execFieldBusCutoff
  exact .whenImg rfl (by simp [↓State.ite_img, ↓foldl_img])

theorem execCutoffRelease_keeps (dt reading : Nat) : s.RowKeeps (execCutoffRelease dt reading s) := by
  unfold execCutoffRelease
  exact .whenImg rfl (by simp)

theorem execPortStage_keeps (dt : Nat) : s.RowKeeps (execPortStage dt s) := by
  unfold execPortStage
  exact .whenImg rfl (by simp)

theorem execInputLow_keeps : s.RowKeeps (execInputLow s) := by
  unfold execInputLow
  exact .whenImg rfl (by simp)

/-! ### Pewter -/

theorem execPewterWatchdog_keeps (dt : Nat) : s.RowKeeps (execPewterWatchdog dt s) := by
  unfold execPewterWatchdog
  exact .whenImg rfl (by simp)

theorem execPewterRestartComplete_keeps (dt : Nat) : s.RowKeeps (execPewterRestartComplete dt s) := by
  unfold execPewterRestartComplete
  exact .whenImg rfl (by simp [↓State.ite_img])

theorem execSensorSample_keeps (dt : Nat) (tCore tMgt tInlet humidity : Byte) :
    s.RowKeeps (execSensorSample dt tCore tMgt tInlet humidity s) := by
  unfold execSensorSample
  exact .whenImg rfl (by simp)

theorem execSensorWarning_keeps (dt : Nat) (q : Sensor) : s.RowKeeps (execSensorWarning dt q s) := by
  unfold execSensorWarning
  exact .whenImg rfl (by simp)

theorem execSensorWarningEnd_keeps (dt : Nat) (q : Sensor) : s.RowKeeps (execSensorWarningEnd dt q s) := by
  unfold execSensorWarningEnd
  exact .whenImg rfl (by simp)

theorem execRecorderPageWrite_keeps (dt : Nat) (axles : Bool) (fate : PageFate) :
    s.RowKeeps (execRecorderPageWrite dt axles fate s) := by
  unfold execRecorderPageWrite
  exact .whenImg rfl (by simp)

theorem execHoldCopy_keeps (dt : Nat) (slot : Fin 16) : s.RowKeeps (execHoldCopy dt slot s) := by
  unfold execHoldCopy
  dsimp only
  split
  · exact .same rfl
  · exact .whenImg rfl (by simp)

theorem execSessionOpen_keeps (dt : Nat) (ep : Endpoint) : s.RowKeeps (execSessionOpen dt ep s) := by
  unfold execSessionOpen
  refine .whenImg rfl ?_
  dsimp only
  split <;> simp

theorem execClientTimeout_keeps (dt : Nat) (id : BitVec 4) : s.RowKeeps (execClientTimeout dt id s) := by
  unfold execClientTimeout
  exact .whenImg rfl (by simp)

theorem execSessionTimeout_keeps (dt : Nat) (id : BitVec 3) : s.RowKeeps (execSessionTimeout dt id s) := by
  unfold execSessionTimeout
  exact .whenImg rfl (by simp)

theorem execEthLoopbackMac_keeps (dt : Nat) (net : Bool) : s.RowKeeps (execEthLoopbackMac dt net s) := by
  unfold execEthLoopbackMac
  exact .whenImg rfl (by simp)

theorem execEthLoopbackPhy_keeps (dt : Nat) (net : Bool) : s.RowKeeps (execEthLoopbackPhy dt net s) := by
  unfold execEthLoopbackPhy
  exact .whenImg rfl (by simp)

theorem execEthLoopbackEnd_keeps (dt : Nat) (back : Nat) : s.RowKeeps (execEthLoopbackEnd dt back s) := by
  unfold execEthLoopbackEnd
  exact .whenImg rfl (by simp)

theorem execEthernetFrame_keeps (dt : Nat) (f : EthFrame) : s.RowKeeps (execEthernetFrame dt f s) := by
  unfold execEthernetFrame
  refine .whenImg rfl ?_
  dsimp only
  split <;> simp

/-! ### The command interpreter -/

theorem execVoteWindowEnd_keeps (dt : Nat) : s.RowKeeps (execVoteWindowEnd dt s) := by
  unfold execVoteWindowEnd
  exact .whenImg rfl (by simp)

/-! ### What shows the last publication -/

theorem execHandoverFrame_keeps : s.RowKeeps (execHandoverFrame s) := by
  unfold execHandoverFrame
  exact .whenImg rfl (by simp)

theorem execHandoverSwitch_keeps : s.RowKeeps (execHandoverSwitch s) := by
  unfold execHandoverSwitch
  exact .whenImg rfl (by simp)

/-! ### Start and tests -/

theorem execStartFieldStep_keeps (dt : Nat) : s.RowKeeps (execStartFieldStep dt s) := by
  unfold execStartFieldStep
  exact .whenImg rfl (by simp)

theorem execStartSequenceEnd_keeps (dt : Nat) : s.RowKeeps (execStartSequenceEnd dt s) := by
  unfold execStartSequenceEnd
  exact .whenImg rfl (by simp)

theorem execSelftestFirstSegment_keeps (dt : Nat) : s.RowKeeps (execSelftestFirstSegment dt s) := by
  unfold execSelftestFirstSegment
  exact .whenImg rfl (by simp)

theorem execTestPauseEnd_keeps (dt : Nat) : s.RowKeeps (execTestPauseEnd dt s) := by
  unfold execTestPauseEnd
  exact .whenImg rfl (by simp)

theorem execRestartButtonRelease_keeps (dt : Nat) : s.RowKeeps (execRestartButtonRelease dt s) := by
  unfold execRestartButtonRelease
  dsimp only
  split <;> exact .same rfl

/-! ### The tick -/

theorem execAxleRecordDelivered_keeps (n : Fin 64) : s.RowKeeps (execAxleRecordDelivered n s) := by
  unfold execAxleRecordDelivered
  dsimp only
  split
  · exact .same rfl
  · exact .whenImg rfl (by simp)

/-! ### Register accesses -/

theorem execRcRead_keeps (rd : Reader) (addr : BitVec 20) (inc : BitVec 4) : s.RowKeeps (execRcRead rd addr inc s) := by
  unfold execRcRead
  exact .whenImg rfl (by simp)

theorem execLatchingRead_keeps (rd : Reader) (addr : BitVec 20) : s.RowKeeps (execLatchingRead rd addr s) := by
  unfold execLatchingRead
  exact .whenImg rfl (by simp)

theorem execCenSlotWrite_keeps (e : Fin 4) (w : Word) : s.RowKeeps (execCenSlotWrite e w s) := by
  unfold execCenSlotWrite
  exact .whenImg rfl (by simp)

theorem execUnalignedAccess_keeps (rd : Reader) (addr : BitVec 20) (wd : Width) (wr : Bool) :
    s.RowKeeps (execUnalignedAccess rd addr wd wr s) := by
  unfold execUnalignedAccess
  exact .whenImg rfl (by simp)

theorem execFeedGap_keeps : s.RowKeeps (execFeedGap s) := by
  unfold execFeedGap
  exact .whenImg rfl (foldl_img (fun s i => State.modVi_img s i _) _ _)

theorem execFrameCommit_keeps (e : Fin 4) (token : Word) : s.RowKeeps (execFrameCommit e token s) := by
  unfold execFrameCommit
  split
  · exact .same rfl
  · refine .whenImg rfl ?_
    dsimp only
    split <;> simp

theorem execPendingExitExpiry_keeps (sx : Fin 256) : s.RowKeeps (execPendingExitExpiry sx s) := by
  unfold execPendingExitExpiry
  refine .whenImg rfl (foldl_img (fun s e => ?_) _ _)
  dsimp only
  split
  · exact State.modEngine_img s e _
  · split
    · rfl
    · exact (foldl_img State.secLog_img _ _).trans (State.modEngine_img s e _)

theorem execLinkSlotStart_keeps (k : Fin 8) : s.RowKeeps (execLinkSlotStart k s) := by
  unfold execLinkSlotStart
  split
  · exact .same rfl
  · refine .whenImg rfl ?_
    dsimp only
    split
    · exact (State.modLink_img _ _ _).trans (State.modLink_img _ _ _)
    · split
      · split
        · split <;> simp
        · simp
      · split <;> simp

theorem execFrameReceived_keeps (dt : Nat) (k : Fin 8) (lineOk : Bool) (sof : Stamp) (bytes : List Byte) :
    s.RowKeeps (execFrameReceived dt k lineOk sof bytes s) := by
  unfold execFrameReceived
  refine .ite (.fault _) (.whenImg rfl ?_)
  extract_lets
  split
  · simp
  split
  · exact State.dropFrame_img _ _ _ _ _
  split
  · simp
  split
  · simp
  split
  · simp
  split
  · split <;> simp
  split
  · simp
  split
  · simp
  · simp

theorem execFadeComplete_keeps (c : Fin 128) : s.RowKeeps (execFadeComplete c s) := by
  unfold execFadeComplete
  split
  · exact .whenImg rfl (by simp)
  · exact .same rfl

/-- The channels' evaluations, one after the other with their verdicts. -/
theorem foldl_codeChannel_img (n : Nat) (l : List (Fin 128)) : ∀ a : State × CodeVerdict,
    (l.foldl (fun (a : State × CodeVerdict) c => a.1.codeChannel n c a.2) a).1.img = a.1.img := by
  induction l with
  | nil => exact fun _ => rfl
  | cons c l ih => exact fun a => (ih _).trans (State.codeChannel_img a.1 n c a.2)

theorem execCodePeriodEnd_keeps : s.RowKeeps (execCodePeriodEnd s) := by
  unfold execCodePeriodEnd
  refine .whenImg rfl ?_
  dsimp only
  rw [foldl_img fun s n => State.modPort_img s n _, foldl_img fun s n => State.codeCond_img s n _ _,
    foldl_img fun s n => State.codeCond_img s n _ _, foldl_codeChannel_img]
  rfl

theorem execLaneReturnSyncReset_keeps (k : Fin 8) : s.RowKeeps (execLaneReturnSyncReset k s) := by
  unfold execLaneReturnSyncReset
  split
  · exact .whenImg rfl (by simp)
  · exact .same rfl

theorem execLaneEchoEnd_keeps (dt : Nat) (k : Fin 8) : s.RowKeeps (execLaneEchoEnd dt k s) := by
  unfold execLaneEchoEnd
  dsimp only
  split
  · refine .whenImg rfl ?_
    rw [foldl_img fun s n => State.postPoint_img s _, foldl_img fun s c => State.modChan_img s c _]
    split
    · rw [State.postPoint_img, State.fault_img, foldl_img fun s c => State.modChan_img s c _]
      rfl
    · rfl
  · exact .same rfl

theorem execReturnLaneFailure_keeps (dt : Nat) (r : Fin 2) : s.RowKeeps (execReturnLaneFailure dt r s) := by
  unfold execReturnLaneFailure
  exact .whenImg rfl (foldl_img (fun s n => State.modPort_img s n _) _ _)

theorem execLogicRailReset_keeps (dt : Nat) (core upper : Bool) : s.RowKeeps (execLogicRailReset dt core upper s) := by
  unfold execLogicRailReset
  extract_lets
  split
  · exact .same rfl
  · exact .next (.reset ⟨rfl, rfl⟩)

theorem execCfgVerificationEnd_keeps (dt : Nat) (readBackOk : Bool) : s.RowKeeps (execCfgVerificationEnd dt readBackOk s) := by
  unfold execCfgVerificationEnd
  refine State.SameImages.thenRow (t := s.pass dt) ⟨rfl, rfl⟩ ?_
  generalize s.pass dt = s
  dsimp only
  split
  · exact .same rfl
  · refine .when rfl (.of_same ?_)
    repeat' split
    all_goals simp

theorem execStagedImageExpiry_keeps (dt : Nat) : s.RowKeeps (execStagedImageExpiry dt s) := by
  unfold execStagedImageExpiry
  exact .when rfl (.of_same (by simp))

theorem execFirmwareActivation_keeps : s.RowKeeps (execFirmwareActivation s) := by
  unfold execFirmwareActivation
  exact .when rfl (.reset ⟨rfl, rfl⟩)

theorem execFwStageVerifyEnd_keeps (dt : Nat) (digestOk keyOk sigOk : Bool) :
    s.RowKeeps (execFwStageVerifyEnd dt digestOk keyOk sigOk s) := by
  unfold execFwStageVerifyEnd
  refine .when rfl (.of_same ?_)
  dsimp only
  repeat' split
  all_goals simp

theorem execSelftestAbortComplete_keeps (dt : Nat) : s.RowKeeps (execSelftestAbortComplete dt s) := by
  unfold execSelftestAbortComplete
  exact .when rfl (.reset (by simp))

theorem clockFault_keeps {t : State} (code : BitVec 16) (h : t.img = s.img) : s.RowKeeps (clockFault code t) := by
  unfold clockFault
  refine .when h (.reset ?_)
  exact .of_img h

theorem execTickPeriodFault_keeps (dt : Nat) : s.RowKeeps (execTickPeriodFault dt s) := by
  unfold execTickPeriodFault
  dsimp only
  split
  · exact clockFault_keeps s _ rfl
  · exact .same rfl

theorem execRestartButtonPress_keeps (dt : Nat) : s.RowKeeps (execRestartButtonPress dt s) := by
  unfold execRestartButtonPress
  refine .when rfl ?_
  dsimp only
  split
  · exact .of_same ⟨rfl, rfl⟩
  · exact .reset ⟨rfl, rfl⟩

theorem execPowerOn_keeps (dt : Nat) : s.RowKeeps (execPowerOn dt s) := by
  obtain ⟨hslot, hactive⟩ : s.KeepsImages ((s.pass dt).assertReset .powerOn) := .reset ⟨rfl, rfl⟩
  exact .next ⟨hslot, hactive⟩

theorem execTapInstruction_keeps (dt : Nat) (op : TapOp) : s.RowKeeps (execTapInstruction dt op s) := by
  unfold execTapInstruction
  refine .when rfl ?_
  dsimp only
  split
  · refine .of_same (.of_img ?_)
    split <;> simp
  · exact .reset ⟨rfl, rfl⟩

theorem execTimeBaseStep_keeps : s.RowKeeps (execTimeBaseStep s) := by
  unfold execTimeBaseStep
  split
  · exact .whenImg rfl (by simp)
  · exact .same rfl

theorem execTimeBaseExtLoad_keeps : s.RowKeeps (execTimeBaseExtLoad s) := by
  unfold execTimeBaseExtLoad
  split
  · exact .whenImg rfl (by simp)
  · exact .same rfl

theorem execW1cWrite_keeps (addr : BitVec 20) (v ev : Word) : s.RowKeeps (execW1cWrite addr v ev s) := by
  unfold execW1cWrite
  exact .when rfl (.of_same (by simp))

theorem execRegisterWrite_keeps (addr : BitVec 20) (v : Word) (wd : Width) : s.RowKeeps (execRegisterWrite addr v wd s) := by
  unfold execRegisterWrite
  exact .when rfl (.of_same (by simp))

theorem execEthernetLinkChange_keeps (dt : Nat) (p : EthPartner) : s.RowKeeps (execEthernetLinkChange dt p s) := by
  unfold execEthernetLinkChange
  refine .whenImg rfl ?_
  cases p <;> simp


/-! ### Operations -/

theorem State.normalService_keeps : s.KeepsImages s.normalService := by
  unfold State.normalService
  split
  · exact .reset (.refl s)
  · exact .of_same (by simp)
  · exact .of_same (.refl s)

/-- Every outcome of a command leaves both images, but for the return to normal service (`State.normalService_keeps`). -/
theorem State.giveOp_keeps (w : Who) (o : Op) (ps : List Byte) : s.KeepsImages (s.giveOp w o ps) := by
  simp only [State.giveOp]
  repeat' split
  any_goals (refine .of_same ?_; simp; done)
  exact State.SameImages.thenKeeps (by simp) (State.normalService_keeps _)

theorem opRow_keeps (w : Who) (o : Op) (ps : List Byte) : s.RowKeeps (opRow w o ps s) := by
  unfold opRow
  exact .when rfl (s.giveOp_keeps w o ps)

theorem State.admitVote_keeps (v : Vote) (o : Op) (hdr : List Byte) : s.KeepsImages (s.admitVote v o hdr) := by
  simp only [State.admitVote]
  repeat' split
  any_goals (refine .of_same ?_; simp; done)
  exact State.SameImages.thenKeeps (by simp) (State.normalService_keeps _)

/-- A vote opens, is confirmed, or is admitted (`State.admitVote_keeps`). -/
theorem State.votePacket_keeps (i : Fin 3) (p : Packet) (tag : Nat) (o : Op) : s.KeepsImages (s.votePacket i p tag o) := by
  simp only [State.votePacket]
  repeat' split
  any_goals (refine .of_same ?_; simp; done)
  exact State.SameImages.thenKeeps (by simp) (State.admitVote_keeps _ _ _ _)

theorem State.taggedPacket_keeps (p : Packet) (tag : Nat) (src : BitVec 16) : s.KeepsImages (s.taggedPacket p tag src) := by
  simp only [State.taggedPacket]
  repeat' split
  any_goals (refine .of_same ?_; simp; done)
  all_goals exact s.votePacket_keeps _ _ _ _

/-- A packet is refused, or reaches its operation under its tag (`State.taggedPacket_keeps`). -/
theorem State.packet_keeps (p : Packet) : s.KeepsImages (s.packet p) := by
  simp only [State.packet]
  repeat' split
  any_goals (refine .of_same ?_; simp; done)
  exact State.SameImages.thenKeeps (by simp) (State.taggedPacket_keeps _ _ _ _)

theorem execCommandPacket_keeps (dt : Nat) (p : PacketSrc) : s.RowKeeps (execCommandPacket dt p s) := by
  unfold execCommandPacket
  refine .when rfl ?_
  cases p with
  | waiting =>
    dsimp only
    split
    · exact .of_same (.refl _)
    · exact State.SameImages.thenKeeps (by simp) (State.packet_keeps _ _)
  | direct path bytes =>
    dsimp only
    split
    · exact .of_same (.refl _)
    · exact State.SameImages.thenKeeps (by simp) (State.packet_keeps _ _)

/-! ### Datagrams -/

theorem State.hear_img {ep : Endpoint} {w : Who} {t : State} (h : s.hear ep = some (w, t)) : t.img = s.img := by
  unfold State.hear at h
  split at h
  · cases h; rfl
  · split at h
    · cases h; rfl
    · split at h
      · cases h; rfl
      · cases h

theorem datagram_keeps {dt : Nat} {ep : Endpoint} {f : Who → State → State} (h : ∀ w t, (f w t).img = t.img) :
    s.RowKeeps (datagram dt ep f s) := by
  unfold datagram
  refine .whenImg rfl ?_
  split
  · split
    case h_1 hear => rw [h, State.hear_img _ hear, State.pass_img]
    case h_2 => simp
  · simp

theorem execMgtCommand_keeps (dt : Nat) (ep : Endpoint) (bytes : List Byte) : s.RowKeeps (execMgtCommand dt ep bytes s) :=
  datagram_keeps s fun _ _ => rfl

theorem execSessionClose_keeps (dt : Nat) (ep : Endpoint) (id : BitVec 16) : s.RowKeeps (execSessionClose dt ep id s) :=
  datagram_keeps s fun _ _ => by simp

theorem execRecorderRead_keeps (dt : Nat) (ep : Endpoint) (num : BitVec 48) : s.RowKeeps (execRecorderRead dt ep num s) :=
  datagram_keeps s fun _ _ => by
    dsimp only
    split <;> simp

theorem execClockSet_keeps (dt : Nat) (ep : Endpoint) (utc : BitVec 48) : s.RowKeeps (execClockSet dt ep utc s) :=
  datagram_keeps s fun _ _ => by simp

theorem execHold_keeps (dt : Nat) (ep : Endpoint) (inst : Stamp) : s.RowKeeps (execHold dt ep inst s) := by
  refine datagram_keeps s fun _ t => ?_
  have h := t.openHold_img inst
  split
  case h_1 i u hu => rw [hu] at h; simpa using h
  case h_2 u hu => rw [hu] at h; simpa using h

theorem execRelease_keeps (dt : Nat) (ep : Endpoint) (slot : Byte) : s.RowKeeps (execRelease dt ep slot s) :=
  datagram_keeps s fun _ _ => by
    split
    · split <;> simp
    · rfl

theorem execFwRestart_keeps (dt : Nat) (ep : Endpoint) (bootOk : Bool) : s.RowKeeps (execFwRestart dt ep bootOk s) :=
  datagram_keeps s fun _ _ => by
    split
    · simp
    · rfl

theorem execNetSet_keeps (dt : Nat) (ep : Endpoint) (addr : Word) (plen : Byte) (gw : Word) :
    s.RowKeeps (execNetSet dt ep addr plen gw s) :=
  datagram_keeps s fun _ _ => by simp

/-! ### The tick -/

theorem State.beforePublication_img (m : TickMeas) : (s.beforePublication m).img = s.img := by
  simp only [State.beforePublication, State.portsAtTick_img, State.returnLanesAtTick_img]
  have h : (m.sessions.foldl (fun (t : State) p => t.modEngine p.1 (Engine.debugAct p.2)) s.clockTick).img = s.img :=
    (foldl_img (fun t (p : Fin 4 × DebugAct) => State.modEngine_img t p.1 _) _ _).trans s.clockTick_img
  split <;> simpa using h

theorem State.afterPublication_images (m : TickMeas) : s.SameImages (s.afterPublication m) := by
  simp [State.afterPublication]

theorem execTick_keeps (m : TickMeas) : s.RowKeeps (execTick m s) := by
  rintro t h
  by_cases hl : s.now ≤ s.clk.tickAt + 525000
  · by_cases hr : s.inReset = true
    · rw [execTick, if_neg (Nat.not_lt.mpr hl)] at h
      simp only [State.when, hr] at h
      cases h
      exact .of_same (.refl s)
    · obtain ⟨u, hu, ht⟩ := exec_tick m (Bool.eq_false_iff.mpr hr) hl
      have hsu : s.SameImages u :=
        hu ▸ (State.SameImages.of_img (s.beforePublication_img m)).trans (State.publishAll_images _ _ _)
      cases ht.symm.trans h
      split
      · exact .of_same hsu
      · exact .of_same (hsu.trans (u.afterPublication_images m))
  · rw [execTick, if_pos (Nat.not_le.mp hl)] at h
    exact clockFault_keeps s _ rfl t h

/-! ### The start check -/

theorem State.checkSlot_of_slotOk (h : s.img.slotBad = false) : s.checkSlot = s := by
  unfold State.checkSlot
  rw [if_neg (by simp [h])]

/-- After the last segment of a start step, the start check that finds no difference (R279). -/
theorem State.afterStartStep_img (h : s.img.slotBad = false) : s.afterStartStep.img = s.img := by
  unfold State.afterStartStep
  split
  · simp
  · dsimp only
    have hv : (if s.tst.stepNow.isNone = true then { s with tst := { s.tst with startVerdict := 1 } } else s).img = s.img := by
      split <;> rfl
    generalize (if s.tst.stepNow.isNone = true then { s with tst := { s.tst with startVerdict := 1 } } else s) = u at hv ⊢
    rw [← hv] at h ⊢
    split
    · split
      · rw [State.checkSlot_of_slotOk _ (by exact h)]
      · rfl
    · split
      · exact State.startPorts_img _
      · rfl
    · exact State.startPorts_img _
    · rfl
    · rfl

theorem State.afterStartStep_img_of {s u : State} (h : s.img.slotBad = false) (hu : u.img = s.img) :
    u.afterStartStep.img = s.img := (u.afterStartStep_img (hu ▸ h)).trans hu

theorem execTestSegmentEnd_keeps (dt : Nat) (r : Word) (h : s.img.slotBad = false) :
    s.RowKeeps (execTestSegmentEnd dt r s) := by
  unfold execTestSegmentEnd
  refine State.SameImages.thenRow (t := s.pass dt) ⟨rfl, rfl⟩ ?_
  replace h : (s.pass dt).img.slotBad = false := h
  generalize s.pass dt = s at h ⊢
  dsimp only
  split
  · exact .same rfl
  next n segs _ =>
    refine .whenImg rfl ?_
    have hstep {p : Prop} [Decidable p] {u : State} (hu : u.img = s.img) : (if p then u.endStep n else u).img = s.img :=
      State.ite_img_eq ((u.endStep_img n).trans hu) hu
    have hheld {p : Prop} [Decidable p] {u : State} (hu : u.img = s.img) :
        (if p then { u with tst := { u.tst with running := false } } else u).img = s.img := State.ite_img_eq hu hu
    exact State.ite_img_eq ((State.afterShutdownSegment_img _ n).trans (hstep rfl))
      (State.ite_img_eq (State.afterStartStep_img_of h (hheld (hstep rfl))) (hheld (hstep rfl)))

/-! ### All rows -/

/-- Every row but the activation of an image, the release of module reset and the start check that finds a difference. -/
theorem exec_keepsImages (c : Instr) (hact : c ≠ .imageActivation) (hrel : ∀ dt a b, c ≠ .moduleResetRelease dt a b)
    (hseg : ∀ dt r, c = .testSegmentEnd dt r → s.img.slotBad = false) : s.RowKeeps (exec c s) := by
  cases hop : asOp c with
  | some x =>
    rw [exec_opRow c x.1 x.2.1 x.2.2 s hop]
    exact opRow_keeps s _ _ _
  | none =>
    cases c with
    | imageActivation => exact absurd rfl hact
    | moduleResetRelease dt a b => exact absurd rfl (hrel dt a b)
    | testSegmentEnd dt r => exact execTestSegmentEnd_keeps s dt r (hseg dt r rfl)
    | startFieldStep => exact execStartFieldStep_keeps s _
    | startSequenceEnd => exact execStartSequenceEnd_keeps s _
    | tick => exact execTick_keeps s _
    | pendingExitExpiry => exact execPendingExitExpiry_keeps s _
    | frameCommit => exact execFrameCommit_keeps s _ _
    | frameFailure => exact execFrameFailure_keeps s _ _ _ _
    | tokenExpiry => exact execTokenExpiry_keeps s _
    | handoverFrame => exact execHandoverFrame_keeps s
    | handoverSwitch => exact execHandoverSwitch_keeps s
    | splitSlotsStart => exact execSplitSlotsStart_keeps s _
    | debugKeyEnd => exact execDebugKeyEnd_keeps s
    | eccScrub => exact execEccScrub_keeps s _ _
    | referenceAbsent => exact clockFault_keeps s _ rfl
    | rootPllOutOfLock => exact clockFault_keeps s _ rfl
    | tickPeriodFault => exact execTickPeriodFault_keeps s _
    | timeBaseStep => exact execTimeBaseStep_keeps s
    | timeBaseExtLoad => exact execTimeBaseExtLoad_keeps s
    | laneSuperframe => exact execLaneSuperframe_keeps s _ _
    | laneResyncTimeout => exact execLaneResyncTimeout_keeps s _ _
    | laneReturnSyncReset => exact execLaneReturnSyncReset_keeps s _
    | returnLaneFailure => exact execReturnLaneFailure_keeps s _ _
    | returnLaneTimeout => exact execReturnLaneTimeout_keeps s _ _
    | returnLaneRestored => exact execReturnLaneRestored_keeps s _ _
    | supplyRampEnd => exact execSupplyRampEnd_keeps s _ _
    | sarConversion => exact execSarConversion_keeps s _
    | loopConditionDetected => exact execLoopConditionDetected_keeps s _ _ _
    | pointFailureEnd => exact execPointFailureEnd_keeps s _ _
    | codePeriodEnd => exact execCodePeriodEnd_keeps s
    | portTestEligible => exact execPortTestEligible_keeps s _ _
    | runtimeTestStart => exact execRuntimeTestStart_keeps s _
    | runtimeTestWindowOpen => exact execRuntimeTestWindowOpen_keeps s _
    | runtimeTestSinkStep => exact execRuntimeTestSinkStep_keeps s _
    | runtimeTestSinkOff => exact execRuntimeTestSinkOff_keeps s _
    | runtimeTestSettle => exact execRuntimeTestSettle_keeps s _
    | runtimeTestComplete => exact execRuntimeTestComplete_keeps s _
    | runtimeTestCs2Start => exact execRuntimeTestCs2Start_keeps s _
    | runtimeTestOverdue => exact execRuntimeTestOverdue_keeps s _ _
    | surgeDetected => exact execSurgeDetected_keeps s _ _ _
    | surgeEnd => exact execSurgeEnd_keeps s _ _
    | surgeLong => exact execSurgeLong_keeps s _ _
    | lb0Step => exact execLb0Step_keeps s _ _
    | lb1Step => exact execLb1Step_keeps s _ _
    | portLoopbackEnd => exact execPortLoopbackEnd_keeps s _ _
    | modulatorOverload => exact execModulatorOverload_keeps s _ _
    | outputSample => exact execOutputSample_keeps s _ _
    | saturationEnd => exact execSaturationEnd_keeps s _ _
    | fadeComplete => exact execFadeComplete_keeps s _
    | scmFillEnd => exact execScmFillEnd_keeps s _ _
    | scmChangeover => exact execScmChangeover_keeps s _ _
    | syncResetSettled => exact execSyncResetSettled_keeps s _
    | lb2PhaseChange => exact execLb2PhaseChange_keeps s _ _
    | lb2End => exact execLb2End_keeps s _ _
    | lb3Run => exact execLb3Run_keeps s _ _
    | lb3End => exact execLb3End_keeps s _ _
    | laneEchoEnd => exact execLaneEchoEnd_keeps s _ _
    | pairedSample => exact execPairedSample_keeps s _
    | negativeDampingTimeout => exact execNegativeDampingTimeout_keeps s _ _ _
    | activeHoldEnd => exact execActiveHoldEnd_keeps s _ _
    | axleRecordDelivered => exact execAxleRecordDelivered_keeps s _
    | linkSyncAcquired => exact execLinkSyncAcquired_keeps s _ _ _
    | linkSyncLoss => exact execLinkSyncLoss_keeps s _ _ _
    | linkSlotStart => exact execLinkSlotStart_keeps s _
    | frameReceived => exact execFrameReceived_keeps s _ _ _ _ _
    | streamPeriodEnd => exact execStreamPeriodEnd_keeps s _ _
    | holdoverExpiry => exact execHoldoverExpiry_keeps s _
    | voteWindowEnd => exact execVoteWindowEnd_keeps s _
    | lbaEnd => exact execLbaEnd_keeps s _ _ _ _ _
    | lbfRun => exact execLbfRun_keeps s _ _ _ _
    | lbfNoSlot => exact execLbfNoSlot_keeps s _ _
    | lbrRequestTimeout => exact execLbrRequestTimeout_keeps s _ _
    | lbrLoopStart => exact execLbrLoopStart_keeps s _ _
    | lbrEnd => exact execLbrEnd_keeps s _ _ _ _
    | commandPacket => exact execCommandPacket_keeps s _ _
    | cfgVerificationEnd => exact execCfgVerificationEnd_keeps s _ _
    | stagedImageExpiry => exact execStagedImageExpiry_keeps s _
    | fwStageVerifyEnd => exact execFwStageVerifyEnd_keeps s _ _ _ _
    | firmwareActivation => exact execFirmwareActivation_keeps s
    | crcStart => exact execCrcStart_keeps s _
    | crcData => exact execCrcData_keeps s _ _
    | crcDataB => exact execCrcDataB_keeps s _ _
    | crcFinish => exact execCrcFinish_keeps s _
    | inputRead => exact execInputRead_keeps s _ _
    | feedGap => exact execFeedGap_keeps s
    | discrepancyTimeout => exact execDiscrepancyTimeout_keeps s _ _
    | discrepantEnd => exact execDiscrepantEnd_keeps s _ _
    | stuckDeclaration => exact execStuckDeclaration_keeps s _ _
    | evaluatorFault => exact execEvaluatorFault_keeps s _
    | evaluatorFaultEnd => exact execEvaluatorFaultEnd_keeps s _ _
    | feedFaultEnd => exact execFeedFaultEnd_keeps s _
    | pressReportEnd => exact execPressReportEnd_keeps s _ _
    | outputReadbackFault => exact execOutputReadbackFault_keeps s _ _
    | overcurrentTrip => exact execOvercurrentTrip_keeps s _ _
    | overcurrentTripEnd => exact execOvercurrentTripEnd_keeps s _ _
    | offPulseTestStart => exact execOffPulseTestStart_keeps s _
    | offPulseWindowClose => exact execOffPulseWindowClose_keeps s _ _
    | offPulseCheck => exact execOffPulseCheck_keeps s _ _
    | restartButtonPress => exact execRestartButtonPress_keeps s _
    | restartButtonRelease => exact execRestartButtonRelease_keeps s _
    | railWarning => exact execRailWarning_keeps s _ _ _ _
    | railRecovering => exact execRailRecovering_keeps s _ _ _
    | railNormal => exact execRailNormal_keeps s _ _
    | logicRailReset => exact execLogicRailReset_keeps s _ _ _
    | fieldBusCutoff => exact execFieldBusCutoff_keeps s _ _
    | cutoffRelease => exact execCutoffRelease_keeps s _ _
    | portStage => exact execPortStage_keeps s _
    | fieldReadingDeviation => exact execFieldReadingDeviation_keeps s _ _
    | inputLow => exact execInputLow_keeps s
    | selftestFirstSegment => exact execSelftestFirstSegment_keeps s _
    | testPauseEnd => exact execTestPauseEnd_keeps s _
    | pewterWatchdog => exact execPewterWatchdog_keeps s _
    | pewterRestartComplete => exact execPewterRestartComplete_keeps s _
    | sensorSample => exact execSensorSample_keeps s _ _ _ _ _
    | sensorWarning => exact execSensorWarning_keeps s _ _
    | sensorWarningEnd => exact execSensorWarningEnd_keeps s _ _
    | recorderPageWrite => exact execRecorderPageWrite_keeps s _ _ _
    | axleEntryWritten => exact execAxleEntryWritten_keeps s _
    | holdCopy => exact execHoldCopy_keeps s _ _
    | mgtCommand => exact execMgtCommand_keeps s _ _ _
    | sessionOpen => exact execSessionOpen_keeps s _ _
    | sessionClose => exact execSessionClose_keeps s _ _ _
    | recorderRead => exact execRecorderRead_keeps s _ _ _
    | clockSet => exact execClockSet_keeps s _ _ _
    | hold => exact execHold_keeps s _ _ _
    | release => exact execRelease_keeps s _ _ _
    | fwRestart => exact execFwRestart_keeps s _ _ _
    | netSet => exact execNetSet_keeps s _ _ _ _ _
    | clientTimeout => exact execClientTimeout_keeps s _ _
    | sessionTimeout => exact execSessionTimeout_keeps s _ _
    | ethLoopbackMac => exact execEthLoopbackMac_keeps s _ _
    | ethLoopbackPhy => exact execEthLoopbackPhy_keeps s _ _
    | ethLoopbackEnd => exact execEthLoopbackEnd_keeps s _ _
    | cenSlotWrite => exact execCenSlotWrite_keeps s _ _
    | rcRead => exact execRcRead_keeps s _ _ _
    | latchingRead => exact execLatchingRead_keeps s _ _
    | w1cWrite => exact execW1cWrite_keeps s _ _ _
    | registerWrite => exact execRegisterWrite_keeps s _ _ _
    | unalignedAccess => exact execUnalignedAccess_keeps s _ _ _ _
    | tapInstruction => exact execTapInstruction_keeps s _ _
    | laneWordFault => exact execLaneWordFault_keeps s _ _ _
    | outputReadbackSample => exact execOutputReadbackSample_keeps s _ _ _ _
    | powerOn => exact execPowerOn_keeps s _
    | ethernetFrame => exact execEthernetFrame_keeps s _ _
    | ethernetLinkChange => exact execEthernetLinkChange_keeps s _ _
    | selftestAbortComplete => exact execSelftestAbortComplete_keeps s _
    | _ => nomatch hop

theorem State.cfg_of_active {s t : State} (h : t.img.active = s.img.active) : t.cfg = s.cfg := by
  rw [State.cfg, State.cfg, h]

theorem State.cfg_of_none {s : State} (h : s.img.active = none) : s.cfg = Cfg.reset := by
  rw [State.cfg, h]
end Sys2Proof.Machine

open Sys2Proof Sys2Proof.Machine
/-- Settles O5: the rows leave both images alone, operation by operation, but for those that assert module reset. That the release
loads the image from the slot and the start check puts it out of force later is the model's reading (log 44): the statement leaves
both out. -/
theorem configurationChangesAtActivation : Obligations.ConfigurationChangesAtActivation := by
  intro c s t hact hrel hseg h
  obtain ⟨hslot, hactive | ⟨hreset, hnone⟩⟩ := exec_keepsImages s c hact hrel hseg t h
  · exact ⟨hslot, .inl ⟨hactive, State.cfg_of_active hactive⟩⟩
  · exact ⟨hslot, .inr ⟨hreset, hnone, State.cfg_of_none hnone⟩⟩

end

section
/-! PROOFS. O37: loading an image (R269, R270). -/

namespace Sys2Proof.Machine
open Sys2Proof

/-! ### What was loaded, under verification or staged is discarded -/

/-- The image stores with nothing loading or staged. -/
def Images.cleared (i : Images) : Images :=
  { i with staged := none, loadBuf := [], loadLen := 0, stage := .empty, revert := false, verify := none }

theorem State.endCause_causes (s : State) (u : UCause) : (s.endCause u).causes = s.causes.erase u := by
  unfold State.endCause
  split
  · rfl
  case isFalse h => exact (List.erase_of_not_mem (by simpa using h)).symm

/-- What `State.discardStaged` leaves before the cause of the image ends: an abandoned verification is answered. -/
def State.dropStaged (s : State) : State :=
  match s.img.verify with
  | some v => { s with img := s.img.cleared }.finish v.cmd { status := stCheckFail }
  | none => { s with img := s.img.cleared }

theorem State.discardStaged_eq (s : State) :
    s.discardStaged = if s.dropStaged.hasImage then s.dropStaged.endCause .image else s.dropStaged := by
  unfold State.discardStaged State.dropStaged
  cases s.img.verify <;> rfl

section
variable (s : State)

theorem State.dropStaged_img : s.dropStaged.img = s.img.cleared := by
  unfold State.dropStaged
  split
  · exact State.finish_img _ _ _
  · rfl

theorem State.dropStaged_hasImage : s.dropStaged.hasImage = s.hasImage := by
  rw [State.hasImage, State.dropStaged_img]
  rfl

@[simp] theorem State.discardStaged_img : s.discardStaged.img = s.img.cleared := by
  rw [State.discardStaged_eq, ← State.dropStaged_img]
  split
  · exact State.endCause_img _ _
  · rfl

variable {s}

/-- A verification whose command has no packet to answer is abandoned in the last reply alone. -/
theorem State.dropStaged_same (h : ∀ v, s.img.verify = some v → v.cmd.ref = .none) :
    ∃ r, ({ s with img := s.img.cleared, cmd := { s.cmd with lastReply := r } } : State).SameButLog s.dropStaged := by
  unfold State.dropStaged
  split
  case h_1 v hv =>
    obtain ⟨⟨w, o, ref⟩, crc, revert, begin⟩ := v
    obtain rfl : ref = .none := h _ hv
    exact ⟨_, State.finish_answered _ w o _⟩
  · exact ⟨_, .refl _⟩

theorem State.discardStaged_causes (h : ∀ v, s.img.verify = some v → v.cmd.ref = .none) (hi : s.hasImage = true) :
    s.discardStaged.causes = s.causes.erase .image := by
  obtain ⟨r, hr⟩ := State.dropStaged_same h
  rw [State.discardStaged_eq, State.dropStaged_hasImage, if_pos hi, State.endCause_causes, hr.causes]

/-- What is discarded shows in the image stores, and in the cause that ends. -/
theorem State.discardStaged_same (h : ∀ v, s.img.verify = some v → v.cmd.ref = .none) :
    ∃ r, ({ s with
      img := s.img.cleared, causes := s.discardStaged.causes, engines := s.discardStaged.engines
      cmd := { s.cmd with lastReply := r } } : State).SameButLog s.discardStaged := by
  obtain ⟨r, hr⟩ := State.dropStaged_same h
  refine ⟨r, ?_⟩
  rw [State.discardStaged_eq]
  split
  · rw [State.endCause_frame]
    unfold State.SameButLog at hr ⊢
    rw [hr]
  · rw [hr.causes, hr.engines]
    exact hr

/-- A command that discards and then changes the image stores is answered. -/
theorem State.discardStaged_answered {t : State} {i : Images} {r : Result} (h : ∀ v, s.img.verify = some v → v.cmd.ref = .none)
    (k : ({ s.discardStaged with img := i } : State).answered t r) :
    ({ s with img := i, causes := t.causes, engines := t.engines } : State).answered t r ∧ t.img = i ∧
      t.causes = s.discardStaged.causes := by
  obtain ⟨q, hq⟩ := State.discardStaged_same h
  have hc : t.causes = s.discardStaged.causes := k.same.causes
  have he : t.engines = s.discardStaged.engines := k.same.engines
  refine ⟨?_, k.same.img, hc⟩
  rw [hc, he]
  unfold State.answered State.SameButLog at k ⊢
  unfold State.SameButLog at hq
  rw [k, hq]

end

/-! ### CFG_BEGIN and CFG_BLOCK -/

section
variable {s : State} {id : BitVec 3}

theorem State.opCfgBegin_opens {w : Who} {len : Word} (hlo : 64 ≤ len.toNat) (hhi : len.toNat ≤ 1048576) :
    s.opCfgBegin w len = ({ s.discardStaged with img := { s.img.cleared with
      stage := .loading, loadLen := len.toNat, owner := w.session } }, ret stOk) := by
  rw [State.opCfgBegin, if_neg (by omega), ← State.discardStaged_img]

theorem cfgBegin_opens {len : Word} (h : s.admits (.tool id) (.cfgBegin len) []) (hlo : 64 ≤ len.toNat)
    (hhi : len.toNat ≤ 1048576) (hv : ∀ v, s.img.verify = some v → v.cmd.ref = .none) :
    ∃ t, exec (.cfgBegin (.tool id) len) s = .next t ∧
      ({ s with img := t.img, causes := t.causes, engines := t.engines } : State).answered t { status := stOk } ∧
      t.img = { s.img.cleared with stage := .loading, loadLen := len.toNat, owner := id } ∧
      t.causes = s.discardStaged.causes := by
  obtain ⟨t, ht, hans⟩ := exec_answered (c := .cfgBegin (.tool id) len) rfl h rfl (State.opCfgBegin_opens hlo hhi)
  obtain ⟨hsame, himg, hcauses⟩ := State.discardStaged_answered hv hans
  exact ⟨t, ht, himg ▸ hsame, himg, hcauses⟩

theorem State.ownedBy_owner (h : s.img.owner = id) : s.ownedBy (.tool id) = true := by
  simp [State.ownedBy, h]

theorem State.ownedBy_other (he : s.img.stage ≠ .empty) (h : s.img.owner ≠ id) : s.ownedBy (.tool id) = false := by
  simp [State.ownedBy, he, h]

variable {off : Word} {data : List Byte}

theorem blockLen_ok (hd : data ≠ []) (hl : data.length ≤ 236) : ¬ (data.isEmpty = true ∨ 236 < data.length) := by
  simp [hd, hl]

/-- A block of a load of its own session. -/
theorem State.opCfgBlock_owner (hd : data ≠ []) (hl : data.length ≤ 236) (hs : s.img.stage = .loading) (ho : s.img.owner = id) :
    s.opCfgBlock (.tool id) off data =
      if s.img.loadLen < off.toNat + data.length then (s, ret stBadParam)
      else ({ s with img := { s.img with loadBuf := Memory.writeBytes s.img.loadBuf off.toNat data } }, ret stOk) := by
  rw [State.opCfgBlock, if_neg (blockLen_ok hd hl), if_neg (by simp [hs]), if_neg (by simp [hs, State.ownedBy_owner ho])]

theorem State.opCfgBlock_other (hd : data ≠ []) (hl : data.length ≤ 236) (hs : s.img.stage ≠ .empty) (ho : s.img.owner ≠ id) :
    s.opCfgBlock (.tool id) off data = (s, ret stNotPermitted) := by
  rw [State.opCfgBlock, if_neg (blockLen_ok hd hl), if_neg hs, if_pos (.inl (State.ownedBy_other hs ho))]

theorem cfgBlock_writes (h : s.admits (.tool id) (.cfgBlock off data) []) (hd : data ≠ []) (hl : data.length ≤ 236)
    (hs : s.img.stage = .loading) (ho : s.img.owner = id) (hend : off.toNat + data.length ≤ s.img.loadLen) :
    ∃ t, exec (.cfgBlock (.tool id) off data) s = .next t ∧
      ({ s with img := { s.img with loadBuf := t.img.loadBuf } } : State).answered t { status := stOk } ∧
      t.img.loadBuf = Memory.writeBytes s.img.loadBuf off.toNat data := by
  have hop := (State.opCfgBlock_owner hd hl hs ho).trans (if_neg (Nat.not_lt.mpr hend))
  obtain ⟨t, ht, hans⟩ := exec_answered (c := .cfgBlock (.tool id) off data) rfl h rfl hop
  have hbuf : t.img.loadBuf = Memory.writeBytes s.img.loadBuf off.toNat data := congrArg Images.loadBuf hans.same.img
  exact ⟨t, ht, hbuf ▸ hans, hbuf⟩

end

end Sys2Proof.Machine

open Sys2Proof Sys2Proof.Machine
/-- Settles O37: CFG_BEGIN is `State.discardStaged` and a new load, CFG_BLOCK a write of its bytes into the load buffer. -/
theorem imageLoading : Obligations.ImageLoading := by
  unfold Obligations.ImageLoading
  refine ⟨fun s id len h hlo hhi hv => ?_, fun s id off data h hd hl hs ho hend => ?_,
    fun s id off data h hd hl hs ho hend => ?_, fun s id off data h hd hl hs ho => ?_⟩
  · obtain ⟨t, ht, hans, himg, hcauses⟩ := cfgBegin_opens h hlo hhi hv
    refine ⟨t, ht, hans, himg, fun hi hc => ?_⟩
    rw [hcauses, State.discardStaged_causes hv hi, List.erase_of_not_mem hc]
  · obtain ⟨t, ht, hans, hbuf⟩ := cfgBlock_writes h hd hl hs ho hend
    refine ⟨t, ht, hans, fun j hj => ?_, fun a ha => ?_⟩
    · rw [hbuf, Memory.read_writeBytes_in _ _ _ _ hj]
    · rw [hbuf, Memory.read_writeBytes_out _ _ _ _ ha]
  · exact exec_answered (c := .cfgBlock (.tool id) off data) rfl h rfl
      ((State.opCfgBlock_owner hd hl hs ho).trans (if_pos hend))
  · exact exec_answered (c := .cfgBlock (.tool id) off data) rfl h rfl (State.opCfgBlock_other hd hl hs ho)

end

section
/-! PROOFS. O38: confirming, verifying and reverting an image (R271, R275, R277, R278). -/

namespace Sys2Proof.Machine
open Sys2Proof

/-! ### The CRC-64 by a check-value unit (R241) -/

theorem crcDone_crc64 (bs : List Byte) : crcDone 3 (bs.foldl (crcFeed 3) (crcInit 3)) = crc64 bs := by
  have hfeed (l : List Byte) : ∀ a, l.foldl (crcFeed 3) a = l.foldl (crcByteR poly64) a := by
    induction l with
    | nil => exact fun _ => rfl
    | cons b l ih => exact fun a => ih _
  exact congrArg (· ^^^ 0xFFFFFFFFFFFFFFFF) (hfeed bs _)

/-- A check-value unit raises its interrupt to Pewter. -/
def State.raiseUnit (s : State) (u : Fin 4) : State :=
  { s with mdl := { s.mdl with irqCheck := s.mdl.irqCheck ||| (1 <<< u.val) } }

section
variable (s : State) (u : Fin 4) {algo : BitVec 2} {bs : List Byte} {check : BitVec 64}

theorem State.useUnit_match_eq (h : crcDone algo (bs.foldl (crcFeed algo) (crcInit algo)) = check) :
    s.useUnit u algo bs check = (true, s.modCrc u (CrcUnit.matched algo bs check)) := if_pos h

/-- Another check value also raises the interrupt to Pewter and is logged. -/
theorem State.useUnit_mismatch_eq (h : crcDone algo (bs.foldl (crcFeed algo) (crcInit algo)) ≠ check) :
    s.useUnit u algo bs check =
      (false, ((s.modCrc u (CrcUnit.mismatched algo bs check)).raiseUnit u).fault (0x0A20 + u.val) u.val) := if_neg h

theorem State.useUnit_crc64_match (h : check = crc64 bs) :
    s.useUnit u 3 bs check = (true, s.modCrc u (CrcUnit.matched 3 bs check)) :=
  s.useUnit_match_eq u ((crcDone_crc64 bs).trans h.symm)

theorem State.useUnit_crc64_mismatch (h : check ≠ crc64 bs) : s.useUnit u 3 bs check =
    (false, ((s.modCrc u (CrcUnit.mismatched 3 bs check)).raiseUnit u).fault (0x0A20 + u.val) u.val) :=
  s.useUnit_mismatch_eq u fun e => h (e.symm.trans (crcDone_crc64 bs))

end

section
variable {s : State} {id : BitVec 3}

/-! ### CFG_END (R271) -/

theorem cfgEnd_begins {crc : Word} (h : s.admits (.tool id) (.cfgEnd crc) []) (hs : s.img.stage = .loading) (ho : s.img.owner = id) :
    exec (.cfgEnd (.tool id) crc) s = .next { s with img := { s.img with
      stage := .verifying
      verify := some { cmd := { who := .tool id, op := .cfgEnd crc, ref := .none }, crc := crc, revert := false, begin := s.now } } } := by
  refine exec_unanswered (c := .cfgEnd (.tool id) crc) rfl h rfl ?_
  exact if_neg (by simp [hs, State.ownedBy_owner ho])

/-- A stage other than that which a command asks for, or another session. -/
theorem State.notOwned (h : s.img.stage ≠ .loading ∨ s.img.owner ≠ id) :
    s.ownedBy (.tool id) = false ∨ s.img.stage ≠ .loading := by
  by_cases hs : s.img.stage = .loading
  · exact .inl (State.ownedBy_other (by simp [hs]) (h.resolve_left (not_not_intro hs)))
  · exact .inr hs

theorem cfgEnd_refused {crc : Word} (h : s.admits (.tool id) (.cfgEnd crc) []) (hs : s.img.stage ≠ .loading ∨ s.img.owner ≠ id) :
    ∃ t, exec (.cfgEnd (.tool id) crc) s = .next t ∧ s.answered t { status := stNotPermitted } :=
  exec_answered (c := .cfgEnd (.tool id) crc) rfl h rfl (if_pos (State.notOwned hs))

/-! ### CFG_CONFIRM (R275) -/

variable {v : BitVec 64} {i : CfgImage}

theorem State.opCfgConfirm_judges (hs : s.img.stage = .staged) (hi : s.img.staged = some i) (ho : s.img.owner = id) {m : Bool}
    {t : State} (hu : s.useUnit 1 3 i.bytes v = (m, t)) : s.opCfgConfirm (.tool id) v =
      if m then ({ t with img := { t.img with stage := .activating } }, ret stOk) else (t.refuseConfirm, ret stCheckFail) := by
  rw [State.opCfgConfirm, hi]
  dsimp only
  rw [if_neg (by simp [hs, State.ownedBy_owner ho]), hu]

theorem cfgConfirm_right (h : s.admits (.tool id) (.cfgConfirm v) []) (hs : s.img.stage = .staged) (hi : s.img.staged = some i)
    (ho : s.img.owner = id) (hv : v = crc64 i.bytes) :
    ∃ t, exec (.cfgConfirm (.tool id) v) s = .next t ∧ OthersSame s.crc t.crc 1 ∧
      ({ s with crc := t.crc, img := { s.img with stage := .activating } } : State).answered t { status := stOk } := by
  have hop := (State.opCfgConfirm_judges hs hi ho (s.useUnit_crc64_match 1 hv)).trans (if_pos rfl)
  obtain ⟨t, ht, hans⟩ := exec_answered (c := .cfgConfirm (.tool id) v) rfl h rfl hop
  have hcrc : t.crc = upd s.crc 1 (CrcUnit.matched 3 i.bytes v) := hans.same.crc
  refine ⟨t, ht, hcrc ▸ upd_othersSame _ _ _, ?_⟩
  rw [hcrc]
  exact hans

/-- A refused confirmation on top of logging. -/
theorem State.SameButLog.refuseConfirm {t u : State} (h : t.SameButLog u) : t.refuseConfirm.SameButLog u.refuseConfirm := by
  unfold State.SameButLog State.refuseConfirm at *
  rw [h]

theorem cfgConfirm_wrong (h : s.admits (.tool id) (.cfgConfirm v) []) (hs : s.img.stage = .staged) (hi : s.img.staged = some i)
    (ho : s.img.owner = id) (hv : v ≠ crc64 i.bytes) :
    ∃ t, exec (.cfgConfirm (.tool id) v) s = .next t ∧ OthersSame s.crc t.crc 1 ∧
      ({ s with
        crc := t.crc, mdl := { s.mdl with irqCheck := s.mdl.irqCheck ||| 2 }
        img := { s.img with refused := s.img.refused + 1, fault := setBit s.img.fault 4 } } : State).answered t
          { status := stCheckFail } ∧ t.lastFault 0x0A21 1 := by
  have hop := (State.opCfgConfirm_judges hs hi ho (s.useUnit_crc64_mismatch 1 hv)).trans (if_neg Bool.false_ne_true)
  obtain ⟨r, hr⟩ : ∃ r, (s.modCrc 1 (CrcUnit.mismatched 3 i.bytes v)).raiseUnit 1 = r := ⟨_, rfl⟩
  rw [hr] at hop
  have hfin : exec (.cfgConfirm (.tool id) v) s =
      .next ((r.fault 0x0A21 1).refuseConfirm.finish { who := .tool id, op := .cfgConfirm v, ref := .none } { status := stCheckFail }) :=
    exec_finished rfl h rfl hop
  have hsame := (r.fault_same 0x0A21 1).refuseConfirm
  have hans := hsame.answered (State.finish_answered _ (.tool id) (.cfgConfirm v) { status := stCheckFail })
  have hlast := State.finish_lastFault (s := (r.fault 0x0A21 1).refuseConfirm) (r.fault_flushed (by decide) (by decide)) (.tool id)
    (.cfgConfirm v) { status := stCheckFail } (r.fault_lastFault 0x0A21 1 (by decide) (by decide) (by decide) (by decide))
  subst hr
  have hcrc := hans.same.crc
  refine ⟨_, hfin, ?_, ?_, hlast⟩
  · rw [hcrc]
    exact upd_othersSame _ _ _
  · rw [hcrc]
    exact hans

/-! ### CFG_REVERT (R277, R278) -/

theorem cfgRevert_discards (h : s.admits (.tool id) (.cfgRevert 0) []) (hs : s.img.stage = .staged) (ho : s.img.owner = id)
    (hv : s.img.verify = none) :
    ∃ t, exec (.cfgRevertDiscard (.tool id)) s = .next t ∧
      ({ s with img := t.img, causes := t.causes, engines := t.engines } : State).answered t { status := stOk } ∧
      t.img = s.img.cleared ∧ t.causes = s.discardStaged.causes := by
  have hop : s.opCfgRevert { who := .tool id, op := .cfgRevert 0, ref := .none } 0 = (s.discardStaged, ret stOk) := by
    rw [State.opCfgRevert, if_neg (by decide), if_neg (by simp [State.ownedBy_owner ho]), if_pos rfl, if_pos hs]
  obtain ⟨t, ht, hans⟩ := exec_answered (c := .cfgRevertDiscard (.tool id)) rfl h rfl hop
  rw [show s.discardStaged = { s.discardStaged with img := s.img.cleared } by rw [← State.discardStaged_img]] at hans
  obtain ⟨hsame, himg, hcauses⟩ := State.discardStaged_answered (by simp [hv]) hans
  exact ⟨t, ht, himg ▸ hsame, himg, hcauses⟩

/-- Without a verification nothing is answered as the staged image is discarded. -/
theorem State.discardStaged_silent (hv : s.img.verify = none) : s.discardStaged =
    { s with img := s.img.cleared, causes := s.discardStaged.causes, engines := s.discardStaged.engines } := by
  have hd : s.dropStaged = { s with img := s.img.cleared } := by rw [State.dropStaged, hv]
  rw [State.discardStaged_eq, hd]
  split
  · exact State.endCause_frame _ _
  · rfl

theorem cfgRevert_previous {p : CfgImage} (h : s.admits (.tool id) (.cfgRevert 1) []) (hs : s.img.stage = .empty)
    (hp : s.img.previous = some p) (hv : s.img.verify = none) :
    ∃ t, exec (.cfgRevertPrevious (.tool id)) s = .next t ∧
      t = { s with img := t.img, causes := t.causes, engines := t.engines } ∧
      t.img = { s.img.cleared with
        stage := .verifying, owner := id, revert := true
        verify := some { cmd := { who := .tool id, op := .cfgRevert 1, ref := .none }, crc := 0, revert := true, begin := s.now } } := by
  have hown : s.ownedBy (.tool id) = true := by simp [State.ownedBy, hs]
  have hop : s.opCfgRevert { who := .tool id, op := .cfgRevert 1, ref := .none } 1 =
      ({ s.discardStaged with img := { s.discardStaged.img with
          stage := .verifying, owner := id, revert := true
          verify := some
            { cmd := { who := .tool id, op := .cfgRevert 1, ref := .none }, crc := 0, revert := true, begin := s.discardStaged.now } } },
        none) := by
    rw [State.opCfgRevert, if_neg (by decide), if_neg (by simp [hown]), if_neg (by decide), if_neg (by simp [hp, hs])]
    rfl
  have hex := exec_unanswered (c := .cfgRevertPrevious (.tool id)) rfl h rfl hop
  rw [State.discardStaged_silent hv] at hex
  exact ⟨_, hex, rfl, rfl⟩

end

end Sys2Proof.Machine

open Sys2Proof Sys2Proof.Machine
/-- Settles O38: each command reaches its operation, which unit 1 decides for CFG_CONFIRM. Two clauses are the model's choice: that
the session of CFG_REVERT 01h becomes the owner (log 12), and that CFG_END without a load of its session is NOT_PERMITTED (log 65). -/
theorem imageConfirmation : Obligations.ImageConfirmation := by
  unfold Obligations.ImageConfirmation
  refine ⟨fun s id crc h hs ho => cfgEnd_begins h hs ho, fun s id crc h hs => cfgEnd_refused h hs,
    fun s id v i h hs hi ho => ⟨fun hv => cfgConfirm_right h hs hi ho hv, fun hv => cfgConfirm_wrong h hs hi ho hv⟩,
    fun s id h hs ho hv => ?_, fun s id p h hs hp hv => cfgRevert_previous h hs hp hv⟩
  obtain ⟨t, ht, hans, himg, hcauses⟩ := cfgRevert_discards h hs ho hv
  refine ⟨t, ht, hans, ?_, fun hi hn => ?_⟩
  · rw [himg]
    exact congrArg (fun v => ({ s.img.cleared with verify := v } : Images)) hv.symm
  · rw [hcauses, State.discardStaged_causes (by simp [hv]) hi]
    exact fun hm => ((hn.mem_erase_iff).1 hm).1 rfl

end

section
/-! PROOFS. O43: the verification of a loaded image (R271, R277, Table 10-4). -/

namespace Sys2Proof.Machine
open Sys2Proof

/-! ### A command that is answered later, by whatever way it came -/

theorem State.answer_mdl (s : State) (ref : Ref) (r : Result) : (s.answer ref r).mdl = s.mdl := by
  cases ref with
  | none => rfl
  | tag id => exact (s.replyTag_replies id r).mdl
  | vote id =>
    cases hv : s.cmd.vote id with
    | none => rw [State.answer, hv]
    | some v =>
      rw [State.answer_vote hv]
      exact (s.answerTags_replies v id r).mdl

theorem State.answer_voting (s : State) (ref : Ref) (r : Result) : s.SameButVoting (s.answer ref r) := by
  cases ref with
  | none => rfl
  | tag id => exact (s.replyTag_replies id r).voting
  | vote id => exact (s.answer_vote_spec id r).1

theorem State.SameButLog.voting {s t : State} (h : s.SameButLog t) : s.SameButVoting t := by
  unfold State.SameButVoting State.SameButLog at *
  rw [h]

/-- What finishing a command leaves: replies and the log, which for a command without a packet is the last reply. -/
def State.Finishes (s : State) (c : Cmd) (r : Result) (t : State) : Prop :=
  s.SameButVoting t ∧ (c.ref = .none → t.cmd = { s.cmd with lastReply := some r } ∧ t.links = s.links)

theorem State.finish_voting (s : State) (c : Cmd) (r : Result) : s.SameButVoting (s.finish c r) := by
  unfold State.finish
  dsimp only
  split
  · exact s.answer_voting _ _
  · exact (State.event_same _ _ _ _).voting.trans (State.answer_voting _ _ _)

theorem State.SameButLog.finishes {s u : State} (h : s.SameButLog u) (c : Cmd) (r : Result) : s.Finishes c r (u.finish c r) := by
  refine ⟨h.voting.trans (u.finish_voting c r), fun hc => ?_⟩
  obtain ⟨w, o, ref⟩ := c
  obtain rfl : ref = .none := hc
  have hans := h.answered (u.finish_answered w o r)
  exact ⟨hans.same.cmd, hans.same.links⟩

/-- The event of a command leaves the last fault as it is, where nothing dropped waits. -/
theorem State.finish_lastFault_of_flushed {s : State} (hs : s.flushed) (c : Cmd) (r : Result) {code obj : Nat} (h : s.lastFault code obj) :
    (s.finish c r).lastFault code obj := by
  refine h.congr ?_
  unfold State.finish
  dsimp only
  rw [State.answer_mdl]
  split
  · rfl
  · rw [State.event, State.flushDropped_of_flushed hs, State.enqueue_mdl]

/-! ### Unit 1 and a CRC-32C -/

section
variable (s : State) (u : Fin 4) {bs : List Byte} {crc : Word}

theorem State.useUnit_crc32c_match (h : crc = crc32c bs) :
    s.useUnit u 2 bs (crc.setWidth 64) = (true, s.modCrc u (CrcUnit.matched 2 bs (crc.setWidth 64))) :=
  s.useUnit_match_eq u ((crcDone_crc32c bs).trans (setWidth64_inj.2 h.symm))

theorem State.useUnit_crc32c_mismatch (h : crc ≠ crc32c bs) : s.useUnit u 2 bs (crc.setWidth 64) =
    (false, ((s.modCrc u (CrcUnit.mismatched 2 bs (crc.setWidth 64))).raiseUnit u).fault (0x0A20 + u.val) u.val) :=
  s.useUnit_mismatch_eq u fun e => h (setWidth64_inj.1 (e.symm.trans (crcDone_crc32c bs)))

end

/-! ### A verification that fails -/

/-- The image stores after a verification that failed. -/
def Images.failed (reason : Byte) (off : Nat) (i : Images) : Images :=
  { i.cleared with errReason := reason, errOffset := BitVec.ofNat 21 off }

/-- The bit of a fault in MOD_CFG_FAULT. -/
def Images.markFault (bit : Nat) (i : Images) : Images := { i with fault := setBit i.fault bit }

theorem State.imgFault_same (s : State) (bit code : Nat) :
    ({ s with img := s.img.markFault bit } : State).SameButLog (s.imgFault bit code) := State.fault_same _ _ _

/-- A change of the image stores on top of logging. -/
theorem State.SameButLog.withImg {s t : State} (h : s.SameButLog t) (i : Images) :
    ({ s with img := i } : State).SameButLog { t with img := i } := by
  unfold State.SameButLog at h ⊢
  rw [h]

theorem State.failVerify_eq (s : State) (v : Verify) (reason : Byte) : s.failVerify v stCheckFail reason 0 =
    { s with img := s.img.failed reason 0 }.finish v.cmd { status := stCheckFail } := rfl

section
variable {s : State} {v : Verify}

/-- A verification that ends with a fault which has just been logged. -/
theorem State.failVerify_spec {f : State} (i : Images) (reason : Byte) (h : s.SameButLog f) (hflush : f.flushed) {code obj : Nat}
    (hlast : f.lastFault code obj) :
    ({ s with img := i.failed reason 0 } : State).Finishes v.cmd { status := stCheckFail }
      (({ f with img := i } : State).failVerify v stCheckFail reason 0) ∧
      (({ f with img := i } : State).failVerify v stCheckFail reason 0).lastFault code obj := by
  rw [State.failVerify_eq]
  exact ⟨(h.withImg (i.failed reason 0)).finishes v.cmd _,
    State.finish_lastFault_of_flushed (s := { f with img := i.failed reason 0 }) hflush _ _ hlast⟩

variable (hr : s.inReset = false) (hv : s.img.verify = some v)
include hr hv

theorem execCfgVerificationEnd_unwritten (dt : Nat) (rb : Bool) (hrev : v.revert = false)
    (hbuf : Memory.readBytes s.img.loadBuf 0 s.img.loadLen = none) :
    exec (.cfgVerificationEnd dt rb) s = .next (((s.pass dt).imgFault 1 0x0A30).failVerify v stCheckFail 1 0) := by
  have hexec : exec (.cfgVerificationEnd dt rb) s = execCfgVerificationEnd dt rb s := rfl
  rw [hexec, execCfgVerificationEnd, State.pass_img, hv]
  dsimp only
  rw [State.when_true (by rw [State.pass_inReset, hr]; rfl), if_neg (by simp [hrev]), State.pass_img, hbuf]

/-- Step 2 of Table 10-4, on the bytes of a load. -/
theorem execCfgVerificationEnd_loaded (dt : Nat) (rb : Bool) (hrev : v.revert = false) {bs : List Byte}
    (hbuf : Memory.readBytes s.img.loadBuf 0 s.img.loadLen = some bs) {m : Bool} {t : State}
    (hu : (s.pass dt).useUnit 1 2 bs (v.crc.setWidth 64) = (m, t)) :
    exec (.cfgVerificationEnd dt rb) s = .next (if m then t.verifyBytes v bs rb
      else ({ t with img := t.img.markFault 0 } : State).failVerify v stCheckFail 2 0) := by
  have hexec : exec (.cfgVerificationEnd dt rb) s = execCfgVerificationEnd dt rb s := rfl
  rw [hexec, execCfgVerificationEnd, State.pass_img, hv]
  dsimp only
  rw [State.when_true (by rw [State.pass_inReset, hr]; rfl), if_neg (by simp [hrev]), State.pass_img, hbuf]
  dsimp only
  rw [hu]
  cases m <;> rfl

theorem execCfgVerificationEnd_previous (dt : Nat) (rb : Bool) (hrev : v.revert = true) {p : CfgImage} (hp : s.img.previous = some p) :
    exec (.cfgVerificationEnd dt rb) s = .next ((s.pass dt).verifyBytes v p.bytes rb) := by
  have hexec : exec (.cfgVerificationEnd dt rb) s = execCfgVerificationEnd dt rb s := rfl
  rw [hexec, execCfgVerificationEnd, State.pass_img, hv]
  dsimp only
  rw [State.when_true (by rw [State.pass_inReset, hr]; rfl), if_pos hrev, State.pass_img, hp]

end

/-! ### An image that passes every step -/

/-- The state in which an image with these bytes has been staged. -/
def State.stageImage (s : State) (bs : List Byte) (items : List Item) (revert : Bool) : State :=
  { s.modCrc 1 (CrcUnit.matched 3 bs (crc64 bs)) with img := { s.img with
      staged := some { bytes := bs, cfg := cfgOf bs items, check := crc64 bs }, stage := .staged, stagedAt := s.now
      revert := revert, verify := none } }

/-- The reply of a verification that passes: CFG_END gives the CRC-64 of what it loaded (R271). -/
def stagedReply (bs : List Byte) (revert : Bool) : Result :=
  { status := stOk, bytes := if revert then [] else toBytes 8 (crc64 bs).toNat }

section
variable {s : State} {v : Verify} {bs : List Byte} {items : List Item} (hparse : parseImage bs = .inl items)
    (hid : identityBad s.img.fwLine bs = none)
    (hser : v.revert = false → ∀ i, s.img.active = some i → i.cfg.serial.toNat < (cfgOf bs items).serial.toNat)
    (hlim : firstBreak (cfgOf bs items) items = none)
include hparse hid hser hlim

theorem State.verifyBytes_passes : s.verifyBytes v bs true =
    ((s.stageImage bs items v.revert).beginCause .image).finish v.cmd (stagedReply bs v.revert) := by
  rw [State.verifyBytes, hparse]
  dsimp only
  rw [hid]
  dsimp only
  rw [if_neg, hlim, State.useUnit_crc64_match _ _ rfl]
  · rfl
  · cases hrev : v.revert
    · cases hact : s.img.active with
      | none => simp
      | some i => simpa using hser hrev i hact
    · simp

/-- An image that passes is staged, its cause begins, and its command is answered. -/
theorem State.verifyBytes_stages : ∃ t, s.verifyBytes v bs true = t ∧ OthersSame s.crc t.crc 1 ∧
    ({ s with img := t.img, cmd := t.cmd, links := t.links, crc := t.crc, causes := t.causes,
              begun := t.begun, engines := t.engines } : State).SameButLog t ∧
    t.img = { s.img with
      staged := some { bytes := bs, cfg := cfgOf bs items, check := crc64 bs }, stage := .staged, stagedAt := s.now
      revert := v.revert, verify := none } ∧
    UCause.image ∈ t.causes ∧
    (v.cmd.ref = .none → t.cmd = { s.cmd with lastReply := some (stagedReply bs v.revert) } ∧ t.links = s.links) := by
  obtain ⟨t, ht⟩ : ∃ t, s.verifyBytes v bs true = t := ⟨_, rfl⟩
  refine ⟨t, ht, ?_⟩
  rw [State.verifyBytes_passes hparse hid hser hlim] at ht
  obtain ⟨hvote, hreply⟩ := (State.SameButLog.refl ((s.stageImage bs items v.revert).beginCause .image)).finishes v.cmd
    (stagedReply bs v.revert)
  rw [ht] at hvote hreply
  have hmem := (s.stageImage bs items v.revert).beginCause_mem .image
  rw [State.beginCause_frame] at hvote hreply
  generalize (s.stageImage bs items v.revert).beginCause .image = u at hvote hreply hmem
  have hcrc : t.crc = upd s.crc 1 (CrcUnit.matched 3 bs (crc64 bs)) := hvote.crc
  have hcauses : t.causes = u.causes := hvote.causes
  refine ⟨hcrc ▸ upd_othersSame _ _ _, ?_, hvote.img, hcauses ▸ hmem, hreply⟩
  rw [hvote.img, hcrc, hcauses, hvote.begun, hvote.engines]
  exact hvote

end

/-! ### The verifications -/

section
variable {s : State} {v : Verify} (dt : Nat) (hr : s.inReset = false) (hv : s.img.verify = some v)
include hr hv

theorem verification_unwritten (rb : Bool) (hrev : v.revert = false) (hbuf : Memory.readBytes s.img.loadBuf 0 s.img.loadLen = none) :
    ∃ t, exec (.cfgVerificationEnd dt rb) s = .next t ∧
      ({ s.pass dt with img := (s.img.markFault 1).failed 1 0 } : State).Finishes v.cmd { status := stCheckFail } t ∧
      t.lastFault 0x0A30 0xFFFF := by
  refine ⟨_, execCfgVerificationEnd_unwritten hr hv dt rb hrev hbuf, ?_⟩
  have hsame := (s.pass dt).imgFault_same 1 0x0A30
  have hlast : ((s.pass dt).imgFault 1 0x0A30).lastFault 0x0A30 0xFFFF :=
    State.fault_lastFault _ 0x0A30 0xFFFF (by decide) (by decide) (by decide) (by decide)
  have h := State.failVerify_spec (v := v) (s.img.markFault 1) 1 hsame (State.fault_flushed _ (by decide) (by decide)) hlast
  have himg : ((s.pass dt).imgFault 1 0x0A30).img = s.img.markFault 1 := hsame.img
  rw [← himg] at h ⊢
  exact h

theorem verification_wrongCrc (rb : Bool) (hrev : v.revert = false) {bs : List Byte}
    (hbuf : Memory.readBytes s.img.loadBuf 0 s.img.loadLen = some bs) (hcrc : v.crc ≠ crc32c bs) :
    ∃ t u, exec (.cfgVerificationEnd dt rb) s = .next t ∧ OthersSame s.crc u 1 ∧
      ({ s.pass dt with crc := u, mdl := { s.mdl with irqCheck := s.mdl.irqCheck ||| 2 }, img := (s.img.markFault 0).failed 2 0 } :
        State).Finishes v.cmd { status := stCheckFail } t ∧ t.lastFault 0x0A21 1 := by
  let r := ((s.pass dt).modCrc 1 (CrcUnit.mismatched 2 bs (v.crc.setWidth 64))).raiseUnit 1
  have hu : (s.pass dt).useUnit 1 2 bs (v.crc.setWidth 64) = (false, r.fault 0x0A21 1) :=
    (s.pass dt).useUnit_crc32c_mismatch 1 hcrc
  have hex := execCfgVerificationEnd_loaded hr hv dt rb hrev hbuf hu
  have himg : (r.fault 0x0A21 1).img = s.img := (r.fault_same 0x0A21 1).img
  rw [if_neg Bool.false_ne_true, himg] at hex
  exact ⟨_, _, hex, upd_othersSame _ _ _, State.failVerify_spec (s.img.markFault 0) 2 (r.fault_same 0x0A21 1)
    (r.fault_flushed (by decide) (by decide)) (r.fault_lastFault 0x0A21 1 (by decide) (by decide) (by decide) (by decide))⟩

end

end Sys2Proof.Machine

open Sys2Proof Sys2Proof.Machine
/-- Settles O43: the row is `State.failVerify` for bytes never written and for a wrong CRC-32C, and `State.verifyBytes` otherwise,
which stages an image that passes. That the read-back is an operand is the model's choice (log 82). -/
theorem imageVerification : Obligations.ImageVerification := by
  unfold Obligations.ImageVerification
  refine ⟨fun s dt rb v hr hv hrev hbuf => ?_, fun s dt rb v bs hr hv hrev hbuf hcrc => ?_,
    fun s dt v bs items hr hv hrev hbuf hcrc hparse hid hser hlim => ?_,
    fun s dt v p items hr hv hrev hp hparse hid hlim => ?_⟩
  · obtain ⟨t, ht, ⟨hvote, hreply⟩, hlast⟩ := verification_unwritten dt hr hv rb hrev hbuf
    refine ⟨t, ht, ?_, hvote.img, hlast, hreply⟩
    rw [hvote.img]
    exact hvote
  · obtain ⟨t, u, ht, hu, ⟨hvote, hreply⟩, hlast⟩ := verification_wrongCrc dt hr hv rb hrev hbuf hcrc
    have hcrcs : t.crc = u := hvote.crc
    refine ⟨t, ht, hcrcs ▸ hu, ?_, hvote.img, hlast, hreply⟩
    rw [hvote.img, hcrcs]
    exact hvote
  · have hex := execCfgVerificationEnd_loaded hr hv dt true hrev hbuf ((s.pass dt).useUnit_crc32c_match 1 hcrc)
    obtain ⟨t, ht, hcrcs, hsame, himg, hmem, hreply⟩ := State.verifyBytes_stages hparse (v := v)
      (s := (s.pass dt).modCrc 1 (CrcUnit.matched 2 bs (v.crc.setWidth 64))) hid (fun _ => hser) hlim
    rw [if_pos rfl, ht] at hex
    rw [hrev] at himg hreply
    exact ⟨t, hex, (upd_othersSame _ _ _).trans hcrcs, hsame, himg, hmem, hreply⟩
  · obtain ⟨t, ht, hcrc, hsame, himg, hmem, -⟩ := State.verifyBytes_stages hparse (v := v) (s := s.pass dt) hid
      (fun k => absurd (hrev.symm.trans k) (by decide)) hlim
    have hex := execCfgVerificationEnd_previous hr hv dt true hrev hp
    rw [ht] at hex
    rw [hrev] at himg
    exact ⟨t, hex, hcrc, hsame, himg, hmem⟩

end

section
/-! PROOFS. O45: vital firmware and Pewter's checks of a staged file (R280, R326). -/

namespace Sys2Proof.Machine
open Sys2Proof

/-! ### Activation of firmware (R280) -/

/-- The file that has been accepted is the running one from here on. -/
def State.runStaged (s : State) : State :=
  { s with img := { s.img with
    fwPrev := s.img.fwRunning, fwPrevLine := s.img.fwLine, fwRunning := s.img.fwCheck
    fwLine := byteAt s.mgt.fwBytes 5, fwFallback := false } }

section
variable {s : State}

theorem State.noHandover (h : ∀ e : Fin 4, (s.engines[e]).ho = []) : (allFin 4).all (fun e => (s.engines[e]).ho.isEmpty) = true :=
  List.all_eq_true.2 fun e _ => by rw [h e]; rfl

theorem execFirmwareActivation_runs (hr : s.inReset = false) (ht : s.now = s.clk.tickAt) (hp : s.img.fwPending = true)
    (hho : ∀ e : Fin 4, (s.engines[e]).ho = []) : exec .firmwareActivation s = .next (s.runStaged.assertReset .firmware) := by
  have hexec : exec .firmwareActivation s = execFirmwareActivation s := rfl
  rw [hexec, execFirmwareActivation, State.when_true (by simp only [hr, State.atTick, ht, hp, State.noHandover hho]; rfl)]
  rfl

/-- Module reset keeps which firmware runs, and nothing of a file that waits. -/
theorem State.assertReset_firmware (s : State) (c : ResetCause) : (s.assertReset c).img.fwRunning = s.img.fwRunning ∧
    (s.assertReset c).img.fwPrev = s.img.fwPrev ∧ (s.assertReset c).img.fwPending = false ∧
    (s.assertReset c).img.fwFallback = s.img.fwFallback := by
  unfold State.assertReset
  split <;> exact ⟨rfl, rfl, rfl, rfl⟩

/-! ### Pewter's checks of a staged file (R326) -/

variable {bs : List Byte} {a b c : Bool} (dt : Nat)

/-- The checks in their order, on a file that has been read. -/
theorem State.fwFirstFail_read (s : State) (bs : List Byte) (a b c : Bool) : s.fwFirstFail (some bs) a b c =
    if fwHeaderOk s.mgt.fwTotal bs = false then 1 else if crc32c bs ≠ (s.crc[(3 : Fin 4)]).result.setWidth 32 then 2
    else if a = false then 3 else if b = false then 4 else if c = false then 5 else 0 := by
  unfold State.fwFirstFail
  simp only [Bool.not_eq_true', ne_eq]
  rfl

/-- A file that passes. -/
def State.fwPassed (s : State) (bs : List Byte) : State :=
  { s with
    mgt := { s.mgt with fwState := .verified, fwVital := decide (byteAt bs 4 = 1), fwFail := 0, fwBytes := bs }
    img := { s.img with fwVerified := decide (byteAt bs 4 = 1) } }

/-- The store after a check that fails. -/
def State.fwFailed (s : State) (f : BitVec 4) : State :=
  { s.clearStaging .failed with mgt := { (s.clearStaging .failed).mgt with fwFail := f } }

theorem execFwStageVerifyEnd_read (hon : s.pewterOn = true) (hst : s.mgt.fwState = .verifying)
    (hbuf : Memory.readBytes s.mgt.fwStore 0 s.mgt.fwTotal = some bs) : exec (.fwStageVerifyEnd dt a b c) s = .next
      (if s.fwFirstFail (some bs) a b c = 0 then (s.pass dt).fwPassed bs
        else ((s.pass dt).fwFailed (s.fwFirstFail (some bs) a b c)).mgtLog 3 0x0B20) := by
  have hexec : exec (.fwStageVerifyEnd dt a b c) s = execFwStageVerifyEnd dt a b c s := rfl
  have hc : ((s.pass dt).pewterOn && decide ((s.pass dt).mgt.fwState = FwStage.verifying)) = true :=
    Bool.and_eq_true_iff.2 ⟨hon, decide_eq_true hst⟩
  have hread : Memory.readBytes (s.pass dt).mgt.fwStore 0 (s.pass dt).mgt.fwTotal = some bs := hbuf
  rw [hexec, execFwStageVerifyEnd, State.when_true hc, hread]
  rfl

end

end Sys2Proof.Machine

open Sys2Proof Sys2Proof.Machine
/-- Settles O45: the activation is `State.runStaged` and module reset, and the end of the checks is decided by the first that fails. -/
theorem firmwareInTime : Obligations.FirmwareInTime := by
  unfold Obligations.FirmwareInTime
  refine ⟨fun s hr ht hp hho => ?_, fun s dt a b c bs hon hst hbuf => ⟨fun hhdr hcrc ha hb hc => ?_, fun f hf => ?_⟩⟩
  · obtain ⟨hrun, hprev, hpend, hfall⟩ := s.runStaged.assertReset_firmware .firmware
    exact ⟨_, execFirmwareActivation_runs hr ht hp hho, s.runStaged.assertReset_resetAsserted .firmware, hrun, hprev, hpend, hfall⟩
  · have hpass : s.fwFirstFail (some bs) a b c = 0 := by
      rw [State.fwFirstFail_read, if_neg (by simp [hhdr]), if_neg (not_not_intro hcrc), if_neg (by simp [ha]),
        if_neg (by simp [hb]), if_neg (by simp [hc])]
    refine ⟨_, execFwStageVerifyEnd_read dt hon hst hbuf, ?_⟩
    rw [if_pos hpass]
    rfl
  · have hfail : s.fwFirstFail (some bs) a b c = f ∧ f ≠ 0 := by
      rw [State.fwFirstFail_read]
      rcases hf with ⟨hhdr, rfl⟩ | ⟨hhdr, hcrc, rfl⟩ | ⟨hhdr, hcrc, ⟨ha, rfl⟩ | ⟨ha, hb, rfl⟩ | ⟨ha, hb, hc, rfl⟩⟩
      · rw [if_pos hhdr]
        exact ⟨rfl, by decide⟩
      · rw [if_neg (by simp [hhdr]), if_pos hcrc]
        exact ⟨rfl, by decide⟩
      all_goals rw [if_neg (by simp [hhdr]), if_neg (not_not_intro hcrc)]
      · rw [if_pos ha]
        exact ⟨rfl, by decide⟩
      · rw [if_neg (by simp [ha]), if_pos hb]
        exact ⟨rfl, by decide⟩
      · rw [if_neg (by simp [ha]), if_neg (by simp [hb]), if_pos hc]
        exact ⟨rfl, by decide⟩
    have hlast : (((s.pass dt).fwFailed f).mgtLog 3 0x0B20).lastFault 0x0B20 0xFFFF :=
      State.fault_lastFault _ 0x0B20 0xFFFF (by decide) (by decide) (by decide) (by decide)
    have hex := execFwStageVerifyEnd_read (a := a) (b := b) (c := c) dt hon hst hbuf
    rw [hfail.1, if_neg hfail.2] at hex
    exact ⟨_, hex, (State.mgtFault_same _ 3).trans (State.fault_same _ _ _), hlast⟩

end

section
/-! PROOFS. O44: the activation of a confirmed image, and the expiry of a staged one (R265, R276, R278, Table 10-5). -/

namespace Sys2Proof.Machine
open Sys2Proof

/-! ### What an activation gives a new setting -/

/-- `t` is `s` but for what an activation gives a new setting or posts to: ports, channels, banks, sections, links, streams, outputs
and the log. -/
def State.SameButSettings (s t : State) : Prop :=
  ({ s with
    ports := t.ports, chans := t.chans, banks := t.banks, engines := t.engines, secFault := t.secFault, links := t.links
    areas := t.areas, relays := t.relays, tbs := t.tbs, vos := t.vos, sup := t.sup, begun := t.begun, parked := t.parked
    pool := t.pool, cmd := { t.cmd with waiting := s.cmd.waiting }, mdl := { s.mdl with pub := t.mdl.pub }
    mgt := { s.mgt with posted := t.mgt.posted } } : State).SameButLog t

section
variable {s t u : State}

theorem State.SameButSettings.refl (s : State) : s.SameButSettings s := rfl

theorem State.SameButSettings.trans (h : s.SameButSettings t) (k : t.SameButSettings u) : s.SameButSettings u := by
  unfold State.SameButSettings State.SameButLog at *
  rw [k, h]

theorem State.SameButSettings.foldl {α : Type} {f : State → α → State} (h : ∀ (s : State) a, s.SameButSettings (f s a)) (l : List α) :
    ∀ s : State, s.SameButSettings (l.foldl f s) := by
  induction l with
  | nil => exact fun s => .refl s
  | cons a l ih => exact fun s => (h s a).trans (ih _)

theorem State.SameButLog.settings (h : s.SameButLog t) : s.SameButSettings t := by
  unfold State.SameButSettings State.SameButLog at *
  rw [h]

theorem State.SameButShown.settings (h : s.SameButShown t) : s.SameButSettings t := by
  unfold State.SameButSettings State.SameButShown State.SameButLog at *
  rw [h]

/-- The points take other values. -/
theorem State.SameButSettings.withWdus (h : s.SameButSettings t) (v : Vector Wdu 64) :
    ({ s with wdus := v } : State).SameButSettings { t with wdus := v } := by
  unfold State.SameButSettings State.SameButLog at *
  rw [h]

theorem State.SameButSettings.wdus (h : s.SameButSettings t) : t.wdus = s.wdus := by
  have hlog : State.SameButLog _ t := h
  exact hlog.wdus

theorem State.SameButSettings.img (h : s.SameButSettings t) : t.img = s.img := by
  have hlog : State.SameButLog _ t := h
  exact hlog.img

theorem State.SameButSettings.cfg (h : s.SameButSettings t) : t.cfg = s.cfg := by
  rw [State.cfg, State.cfg, h.img]

theorem State.SameButSettings.ite {p : Prop} [Decidable p] (ht : s.SameButSettings t) (hu : s.SameButSettings u) :
    s.SameButSettings (if p then t else u) := by
  split <;> assumption

theorem State.startRamp_settings (s : State) (n : Fin 64) : s.SameButSettings (s.startRamp n) := by
  unfold State.startRamp
  exact .ite rfl rfl

theorem State.startPortStage_settings (s : State) (l : List (Fin 64)) (all : Bool) : s.SameButSettings (s.startPortStage l all) := by
  refine State.SameButSettings.trans (.foldl (fun s n => ?_) l s) rfl
  exact .ite rfl rfl

theorem State.activateBanks_settings (s : State) : s.SameButSettings s.activateBanks := rfl

theorem State.activateChans_settings (s : State) (old : Cfg) : s.SameButSettings (s.activateChans old) := by
  refine .foldl (fun s c => ?_) _ s
  exact .ite rfl rfl

theorem State.activateStreams_settings (s : State) (old : Cfg) : s.SameButSettings (s.activateStreams old) := rfl

theorem State.postLink_settings (s : State) (ev : LinkEv) : s.SameButSettings (s.postLink ev) := rfl

theorem State.tbEnter_settings (s : State) (x : TbState) : s.SameButSettings (s.tbEnter x) := by
  unfold State.tbEnter
  dsimp only
  split
  · rfl
  · exact State.SameButSettings.trans (by rfl) (State.postLink_settings _ _)

theorem State.tbStart_settings (s : State) : s.SameButSettings s.tbStart := by
  unfold State.tbStart
  dsimp only
  split <;> exact State.SameButSettings.trans (by rfl) (State.tbEnter_settings _ _)

theorem State.tbLost_settings (s : State) : s.SameButSettings s.tbLost := by
  unfold State.tbLost
  split
  · exact .refl s
  · exact s.postLink_settings _

theorem State.secLog_settings (s : State) (l : SecLog) : s.SameButSettings (s.secLog l) := by
  have h := s.secLog_same l
  unfold State.SameButSettings State.SameButLog at *
  rw [h]

theorem State.logFresh_settings (s : State) (l : List Sec) : s.SameButSettings (s.logFresh l) :=
  .foldl (fun s _ => s.secLog_settings _) _ s

theorem State.updateVos_settings (s : State) : s.SameButSettings s.updateVos := by
  rw [State.updateVos_frame]
  rfl

theorem State.writePool_settings (s : State) (e : Fin 4) : s.SameButSettings (s.writePool e) := by
  rw [State.writePool_frame]
  rfl

theorem State.assignSections_settings (s : State) : s.SameButSettings s.assignSections := by
  refine State.SameButSettings.trans (State.SameButSettings.trans (by rfl) (.foldl (fun t e => ?_) _ _)) (State.logFresh_settings _ _)
  exact .ite rfl rfl

end

/-! ### Fixing the frames of the coming slots keeps the commands that wait -/

section
variable (s : State) (k : Fin 8) (e : Fin 4) (id slot : Nat) (tx : Stamp)

@[simp] theorem State.modLink_waiting (f : Link → Link) : (s.modLink k f).cmd.waiting = s.cmd.waiting := rfl

@[simp] theorem State.modArea_waiting (i : Nat) (f : Area → Area) : (s.modArea i f).cmd.waiting = s.cmd.waiting := rfl

@[simp] theorem State.discardTag_waiting : (s.discardTag id).cmd.waiting = s.cmd.waiting := rfl

@[simp] theorem State.armStatus_waiting : (s.armStatus k slot tx e).cmd.waiting = s.cmd.waiting := rfl

@[simp] theorem State.sendPacket_waiting (path : Path) (bytes : List Byte) (tag : Option Nat) :
    (s.sendPacket path bytes tag).cmd.waiting = s.cmd.waiting := by
  cases path with
  | lane i => rfl
  | mailbox =>
    unfold State.sendPacket
    dsimp only
    split <;> rfl

@[simp] theorem State.releaseTag_waiting : (s.releaseTag id).cmd.waiting = s.cmd.waiting := by
  unfold State.releaseTag
  split
  · rfl
  · dsimp only
    split
    · exact State.sendPacket_waiting _ _ _ _
    · rfl

@[simp] theorem State.dropReply_waiting : (s.dropReply k).cmd.waiting = s.cmd.waiting := by
  unfold State.dropReply
  split
  · rfl
  · dsimp only
    split <;> simp

@[simp] theorem State.armReply_waiting : (s.armReply k slot tx e).cmd.waiting = s.cmd.waiting := by
  unfold State.armReply
  split
  · rfl
  · dsimp only
    split <;> simp

@[simp] theorem State.armArea_waiting (i : Nat) : (s.armArea k slot tx e i).cmd.waiting = s.cmd.waiting := by
  unfold State.armArea
  split
  · exact (State.modLink_waiting _ k _).trans (s.modArea_waiting i _)
  · rfl

@[simp] theorem State.armLink_waiting : (s.armLink k).cmd.waiting = s.cmd.waiting := by
  unfold State.armLink
  dsimp only
  split
  · rfl
  · split
    · rfl
    · split
      · simp
      · split
        · simp
        · split <;> simp
    · split <;> simp

theorem State.rearm_waiting : (s.rearm k).cmd.waiting = s.cmd.waiting := by
  unfold State.rearm
  split
  · simp
  · rfl
  · rfl
  · split
    · split <;> rfl
    · rfl

theorem State.signCodes_cmd : s.signCodes.cmd = s.cmd := rfl

theorem State.rearmAll_settings : s.SameButSettings s.rearmAll := by
  have hfold : ((allFin 8).foldl State.rearm s).cmd.waiting = s.cmd.waiting :=
    foldl_keeps (fun s => s.cmd.waiting) (fun s k => s.rearm_waiting k) (allFin 8) s
  have hw : s.rearmAll.cmd.waiting = s.cmd.waiting := by
    rw [State.rearmAll, State.signCodes_cmd, hfold]
  have h := s.rearmAll_frame
  generalize s.rearmAll = t at hw h ⊢
  unfold State.SameButSettings State.SameButLog
  rw [← hw, h]

end

/-! ### Ports and points -/

/-- An activation at one port that was or is assigned, with the field bus cut off or not. -/
def State.activatePort (s : State) (old : Cfg) (cut : Bool) (n : Fin 64) : State :=
  if (old.prtCfg[n]).getLsbD 31 = true ∧ (s.cfg.prtCfg[n]).getLsbD 31 = false then
    ((s.supplyOff n).modPort n (fun p => { p with stageAt := none, stageOn := false, quietSince := none, eligible := false })).modWdu n
      (fun w => { outQ := w.outQ, snips := w.snips, lb3Res := w.lb3Res, lb3Speed := w.lb3Speed })
  else if (old.prtCfg[n]).getLsbD 31 = true ∧ (s.cfg.prtCfg[n]).getLsbD 31 = true ∧ old.prtCfg[n] ≠ s.cfg.prtCfg[n] ∧
      cut = false then s.startRamp n
  else s

/-- `t` is `s` but for its points and what an activation gives a new setting. -/
def State.SameButPoints (s t : State) : Prop := ({ s with wdus := t.wdus } : State).SameButSettings t

section
variable {s t u : State}

theorem State.SameButSettings.points (h : s.SameButSettings t) : s.SameButPoints t := by
  unfold State.SameButPoints
  rw [h.wdus]
  exact h

theorem State.SameButPoints.trans (h : s.SameButPoints t) (k : t.SameButPoints u) : s.SameButPoints u :=
  (State.SameButSettings.withWdus h u.wdus).trans k

theorem State.SameButPoints.settings (h : s.SameButPoints t) : ({ s with wdus := t.wdus } : State).SameButSettings t := h

theorem State.SameButPoints.img (h : s.SameButPoints t) : t.img = s.img := h.settings.img

theorem State.SameButPoints.foldl {α : Type} {f : State → α → State} (h : ∀ (s : State) a, s.SameButPoints (f s a)) (l : List α) :
    ∀ s : State, s.SameButPoints (l.foldl f s) := by
  induction l with
  | nil => exact fun s => (State.SameButSettings.refl s).points
  | cons a l ih => exact fun s => (h s a).trans (ih _)

theorem State.SameButPoints.cfg (h : s.SameButPoints t) : t.cfg = s.cfg := by
  rw [State.cfg, State.cfg, h.img]

end

section
variable (s : State) (old : Cfg) (cut : Bool)

theorem State.activatePort_points (n : Fin 64) : s.SameButPoints (s.activatePort old cut n) := by
  unfold State.activatePort
  split
  · rfl
  · split
    · exact (s.startRamp_settings n).points
    · rfl

/-- A point whose port was not assigned, or goes on being assigned, keeps what it holds. -/
theorem State.activatePort_wdu (m : Fin 64) {n : Fin 64}
    (h : (old.prtCfg[n]).getLsbD 31 = false ∨ (s.cfg.prtCfg[n]).getLsbD 31 = true) :
    (s.activatePort old cut m).wdus[n] = s.wdus[n] := by
  unfold State.activatePort
  split
  next hoff =>
    have hne : n ≠ m := by
      rintro rfl
      obtain ⟨hold, hnew⟩ := hoff
      rcases h with h | h
      · exact Bool.false_ne_true (h.symm.trans hold)
      · exact Bool.false_ne_true (hnew.symm.trans h)
    exact upd_get_ne _ _ _ _ hne
  · have hw : (s.startRamp m).wdus = s.wdus := (s.startRamp_settings m).wdus
    split
    · exact congrArg (fun v => v[n]) hw
    · rfl

theorem State.activatePort_engines (n : Fin 64) : (s.activatePort old cut n).engines = s.engines := by
  unfold State.activatePort
  split
  · rfl
  · split
    · exact s.startRamp_engines n
    · rfl

/-- The ports, but for those that become assigned. -/
def State.activateUsed : State := (allFin 64).foldl (fun s n => s.activatePort old cut n) s

theorem State.activateUsed_points : s.SameButPoints (s.activateUsed old cut) :=
  .foldl (fun s n => s.activatePort_points old cut n) _ s

theorem State.activateUsed_wdu {n : Fin 64} (h : (old.prtCfg[n]).getLsbD 31 = false ∨ (s.cfg.prtCfg[n]).getLsbD 31 = true) :
    (s.activateUsed old cut).wdus[n] = s.wdus[n] := by
  unfold State.activateUsed
  generalize allFin 64 = l
  induction l generalizing s with
  | nil => rfl
  | cons m l ih =>
    rw [List.foldl_cons, ih, s.activatePort_wdu old cut m h]
    rwa [(s.activatePort_points old cut m).cfg]

theorem State.activatePorts_settings :
    (s.activateUsed old (decide (s.sup.field.st = .cutoff))).SameButSettings (s.activatePorts old) := by
  have hnew (l : List (Fin 64)) (t : State) : t.SameButSettings
      (l.foldl (fun s n => s.modPort n (fun p => { p with assignedAt := s.now })) t) := .foldl (fun s n => by rfl) l t
  exact .ite (hnew _ _) ((hnew _ _).trans (State.startPortStage_settings _ _ _))

theorem State.activatePorts_engines : (s.activatePorts old).engines = s.engines := by
  have hused : (s.activateUsed old (decide (s.sup.field.st = .cutoff))).engines = s.engines :=
    foldl_keeps State.engines (fun s n => s.activatePort_engines old _ n) _ s
  have hnew (l : List (Fin 64)) (t : State) :
      (l.foldl (fun s n => s.modPort n (fun p => { p with assignedAt := s.now })) t).engines = t.engines :=
    foldl_keeps State.engines (fun s n => by rfl) l t
  rw [← hused]
  unfold State.activatePorts
  dsimp only
  split
  · exact hnew _ _
  · exact (State.startPortStage_engines _ _ _).trans (hnew _ _)

/-- The settings of a point differ (Table 10-5). -/
def pointChanged (old new : Cfg) (n : Fin 64) : Bool :=
  decide (old.wduHead[n] ≠ new.wduHead[n] ∨ old.wduLevels[n] ≠ new.wduLevels[n] ∨ old.wduThr1[n] ≠ new.wduThr1[n] ∨
    old.wduThr2[n] ≠ new.wduThr2[n] ∨ old.modAddr ≠ new.modAddr)

/-- A channel takes other filter settings. -/
def chanChanged (old new : Cfg) (c : Fin 128) : Bool :=
  decide (old.fltCfg[c] ≠ new.fltCfg[c] ∨ old.fltPhase[c] ≠ new.fltPhase[c])

/-- A point under a new image. -/
def Wdu.resettle (old new : Cfg) (n : Fin 64) (w : Wdu) : Wdu :=
  { w with
    ctx := if pointChanged old new n then { w.ctx with phase := .spent } else w.ctx
    realignNow := w.realignNow || chanChanged old new (chanOf n .cs1) || chanChanged old new (chanOf n .cs2) }

theorem pointChanged_of_head {old new : Cfg} {n : Fin 64} (h : old.wduHead[n] ≠ new.wduHead[n]) : pointChanged old new n = true := by
  rw [pointChanged, decide_eq_true_eq]
  exact .inl h

theorem Wdu.resettle_spent {old new : Cfg} {n : Fin 64} (w : Wdu) (h : pointChanged old new n = true) :
    (w.resettle old new n).ctx.phase = .spent := by
  rw [Wdu.resettle, h]
  rfl

theorem Wdu.resettle_ctx {old new : Cfg} {n : Fin 64} (w : Wdu) (h : pointChanged old new n = false) :
    (w.resettle old new n).ctx = w.ctx := by
  rw [Wdu.resettle, h]
  rfl

theorem foldl_modWdu_cfg (f : Cfg → Fin 64 → Wdu → Wdu) (l : List (Fin 64)) : ∀ s : State,
    l.foldl (fun s n => s.modWdu n (f s.cfg n)) s = { s with wdus := l.foldl (fun v n => upd v n (f s.cfg n)) s.wdus } := by
  induction l with
  | nil => exact fun s => rfl
  | cons n l ih =>
    intro s
    rw [List.foldl_cons, ih]
    rfl

theorem State.activatePoints_eq : s.activatePoints old =
    { s with wdus := (allFin 64).foldl (fun v n => upd v n (Wdu.resettle old s.cfg n)) s.wdus } :=
  foldl_modWdu_cfg (Wdu.resettle old) (allFin 64) s

theorem State.activatePoints_wdu (n : Fin 64) : (s.activatePoints old).wdus[n] = (s.wdus[n]).resettle old s.cfg n := by
  rw [State.activatePoints_eq]
  exact (foldl_upd_get _ n _ _ (allFin_nodup 64)).trans (if_pos (mem_allFin n))

theorem State.activatePoints_points : s.SameButPoints (s.activatePoints old) := by
  rw [State.activatePoints_eq]
  rfl

theorem State.activateChans_engines : (s.activateChans old).engines = s.engines := by
  refine foldl_keeps State.engines (fun s c => ?_) _ s
  exact (apply_ite State.engines _ _ _).trans (ite_self _)

theorem State.activatePoints_engines : (s.activatePoints old).engines = s.engines := by
  rw [State.activatePoints_eq]

theorem State.activateBanks_engines : s.activateBanks.engines = s.engines := rfl

theorem State.activateStreams_engines : (s.activateStreams old).engines = s.engines := rfl

/-! ### All settings of an image -/

/-- The settings of the image in force, where `old` were those before. -/
def State.applySettings : State :=
  let s := ((((s.activatePorts old).activateBanks).activateChans old).activatePoints old).activateStreams old
  if old.tbsCfg ≠ s.cfg.tbsCfg then s.tbStart else s

theorem State.applySettings_points : s.SameButPoints (s.applySettings old) := by
  have hports : s.SameButPoints (s.activatePorts old) := (s.activateUsed_points old _).trans (s.activatePorts_settings old).points
  have hchans := (s.activatePorts old).activateBanks_settings.trans (State.activateChans_settings _ old)
  have hpoints := (hports.trans hchans.points).trans ((State.activatePoints_points _ old).trans (State.activateStreams_settings _ old).points)
  unfold State.applySettings
  dsimp only
  split
  · exact hpoints.trans (State.tbStart_settings _).points
  · exact hpoints

theorem State.applySettings_wdu (n : Fin 64) :
    (s.applySettings old).wdus[n] = ((s.activateUsed old (decide (s.sup.field.st = .cutoff))).wdus[n]).resettle old s.cfg n := by
  have hports : s.SameButPoints (s.activatePorts old) := (s.activateUsed_points old _).trans (s.activatePorts_settings old).points
  have hchans := (s.activatePorts old).activateBanks_settings.trans (State.activateChans_settings _ old)
  generalize hu : (s.activatePorts old).activateBanks.activateChans old = u at hchans
  have hw : u.wdus = (s.activateUsed old (decide (s.sup.field.st = .cutoff))).wdus :=
    hchans.wdus.trans (s.activatePorts_settings old).wdus
  have hstreams : ((u.activatePoints old).activateStreams old).wdus[n] = (u.wdus[n]).resettle old s.cfg n := by
    rw [← hports.cfg, ← hchans.cfg]
    exact u.activatePoints_wdu old n
  rw [← hw, ← hstreams]
  unfold State.applySettings
  rw [hu]
  dsimp only
  split
  · exact congrArg (fun v => v[n]) (State.tbStart_settings _).wdus
  · rfl

/-- What is posted to a journal leaves the mode and the published image of its engine. -/
theorem Engine.post_published (late : Bool) (f : Journal → Journal) (g : Engine) : (g.post late f).mode = g.mode ∧
    (g.post late f).joining = g.joining ∧ (g.post late f).published = g.published := by
  cases late <;> exact ⟨rfl, rfl, rfl⟩

theorem State.postLink_engine (ev : LinkEv) (e : Fin 4) : (s.postLink ev).engines[e] =
    (s.engines[e]).post s.late (fun j => { j with links := j.links ++ [ev] }) := by
  simp [State.postLink, State.postAll]

/-- Every engine keeps its mode, and whether it joins. -/
def State.SameModes (s t : State) : Prop :=
  ∀ e : Fin 4, (t.engines[e]).mode = (s.engines[e]).mode ∧ (t.engines[e]).joining = (s.engines[e]).joining

theorem State.SameModes.of_engines {s t : State} (h : t.engines = s.engines) : s.SameModes t := fun e => by
  rw [h]
  exact ⟨rfl, rfl⟩

theorem State.SameModes.trans {s t u : State} (h : s.SameModes t) (k : t.SameModes u) : s.SameModes u :=
  fun e => ⟨(k e).1.trans (h e).1, (k e).2.trans (h e).2⟩

theorem State.postLink_modes (ev : LinkEv) : s.SameModes (s.postLink ev) := fun e => by
  obtain ⟨hmode, hjoin, -⟩ := Engine.post_published s.late (fun j => { j with links := j.links ++ [ev] }) s.engines[e]
  rw [State.postLink_engine]
  exact ⟨hmode, hjoin⟩

theorem State.tbStart_modes : s.SameModes s.tbStart := by
  have henter (t : State) (x : TbState) (ht : t.engines = s.engines) : s.SameModes (t.tbEnter x) := by
    unfold State.tbEnter
    dsimp only
    split
    · exact .of_engines ht
    · exact State.SameModes.trans (.of_engines ht) (State.postLink_modes _ _)
  unfold State.tbStart
  dsimp only
  split <;> exact henter _ _ rfl

theorem State.applySettings_modes : s.SameModes (s.applySettings old) := by
  have hpoints : s.SameModes ((((s.activatePorts old).activateBanks).activateChans old).activatePoints old) := by
    refine .of_engines ?_
    rw [State.activatePoints_engines, State.activateChans_engines, State.activateBanks_engines, State.activatePorts_engines]
  have hstreams := hpoints.trans (State.SameModes.of_engines (State.activateStreams_engines _ old))
  unfold State.applySettings
  dsimp only
  split
  · exact hstreams.trans (State.tbStart_modes _)
  · exact hstreams

end

/-! ### Sections at their home engines (R265) -/

section
variable (s : State) (e : Fin 4)

/-- The sections of an engine's own, out of service. -/
def State.homeFresh : List Sec :=
  (s.cfg.homeSecs e).map (fun d => s.freshSec d (if (s.engines[e]).mode = .debug ∨ (s.engines[e]).detaching = true then some e else none))

/-- What an activation gives an engine. -/
def State.placed : List Sec :=
  if (s.engines[e]).away then [] else if (s.engines[e]).mode = .halted then haltSecs (s.homeFresh e) else s.homeFresh e

theorem State.logFresh_engines (l : List Sec) : (s.logFresh l).engines = s.engines :=
  foldl_keeps State.engines (fun s _ => (s.secLog_same _).engines) _ s

theorem State.assignSections_published : ((s.assignSections).engines[e]).published.secs = s.placed e := by
  unfold State.assignSections
  dsimp only
  rw [State.logFresh_engines, foldl_keeps State.engines]
  · have hget (f : Fin 4 → Engine) : (Vector.ofFn f)[e] = f e := by simp
    exact congrArg (fun g => g.published.secs) (hget _)
  · intro t e
    exact (apply_ite State.engines _ _ _).trans (ite_self _)

/-- Every section is out of service with an empty ledger. -/
theorem State.homeFresh_disturbed {x : Sec} (h : x ∈ s.homeFresh e) : x.st = .disturbed ∧ x.cause = 0x0C ∧ x.ledger = [] := by
  obtain ⟨d, -, rfl⟩ := List.mem_map.1 h
  exact ⟨rfl, rfl, rfl⟩

theorem haltSecs_disturbed {l : List Sec} (hl : ∀ x ∈ l, x.st = .disturbed) {x : Sec} (h : x ∈ haltSecs l) :
    x.st = .disturbed ∧ (x.causes = [] → x.cause = 9) := by
  obtain ⟨y, hy, rfl⟩ := List.mem_map.1 h
  split
  next hc =>
    refine ⟨hl y hy, fun hnil => ?_⟩
    rw [hnil] at hc
    rcases hc with hc | hc <;> cases hc
  · exact ⟨rfl, fun _ => rfl⟩

theorem haltSecs_idx (l : List Sec) : (haltSecs l).map Sec.idx = l.map Sec.idx := by
  rw [haltSecs, List.map_map]
  refine List.map_congr_left fun x _ => ?_
  exact (apply_ite Sec.idx _ _ _).trans (ite_self _)

theorem State.homeFresh_idx : (s.homeFresh e).map Sec.idx = (s.cfg.homeSecs e).map (fun d => d.idx) := by
  rw [State.homeFresh, List.map_map]
  rfl

theorem State.placed_idx (hm : (s.engines[e]).mode ≠ .split) (hj : (s.engines[e]).joining = false) :
    (s.placed e).map Sec.idx = (s.cfg.homeSecs e).map (fun d => d.idx) := by
  have haway : (s.engines[e]).away = false := by
    rw [Engine.away, hj, decide_eq_false hm]
    rfl
  rw [State.placed, haway, if_neg Bool.false_ne_true, ← s.homeFresh_idx e]
  split
  · exact haltSecs_idx _
  · rfl

theorem State.placed_disturbed {x : Sec} (h : x ∈ s.placed e) (hm : (s.engines[e]).mode ≠ .halted) :
    x.st = .disturbed ∧ x.cause = 0x0C ∧ x.ledger = [] := by
  unfold State.placed at h
  split at h
  · cases h
  · exact s.homeFresh_disturbed e h

theorem State.placed_halted {x : Sec} (h : x ∈ s.placed e) (hm : (s.engines[e]).mode = .halted) :
    x.st = .disturbed ∧ (x.causes = [] → x.cause = 9) := by
  unfold State.placed at h
  split at h
  · cases h
  · exact haltSecs_disturbed (fun y hy => (s.homeFresh_disturbed e hy).1) h

end

/-! ### What follows the assignment of the sections -/

section
variable (s : State) (e : Fin 4)

/-- The open frame of every engine is opened anew. -/
def State.reopenAll : State := (allFin 4).foldl (fun s e =>
  (s.modEngine e (fun g => g.reopen s.cfg s.hasImage (fun j => j))).writePool e) s

/-- What ends an activation. -/
def State.finishActivation : State := s.reopenAll.tbLost.updateVos.showPublished.rearmAll

theorem State.reopenAll_settings : s.SameButSettings s.reopenAll :=
  .foldl (fun s e => State.SameButSettings.trans (by rfl) (State.writePool_settings _ e)) _ s

theorem State.finishActivation_settings : s.SameButSettings s.finishActivation :=
  (s.reopenAll_settings.trans (State.tbLost_settings _)).trans ((State.updateVos_settings _).trans
    ((State.showPublished_shown _).settings.trans (State.rearmAll_settings _)))

theorem Engine.reopen_published (cfg : Cfg) (image : Bool) (f : Journal → Journal) (g : Engine) :
    (g.reopen cfg image f).published = g.published := by
  unfold Engine.reopen
  split <;> rfl

theorem State.reopenAll_published : (s.reopenAll.engines[e]).published = (s.engines[e]).published := by
  refine foldl_keeps (fun s => (s.engines[e]).published) (fun s k => ?_) _ s
  rw [State.writePool_frame]
  dsimp only
  rw [State.modEngine_engines, upd_get]
  split
  · exact Engine.reopen_published _ _ _ _
  · rfl

theorem State.tbLost_published : (s.tbLost.engines[e]).published = (s.engines[e]).published := by
  unfold State.tbLost
  split
  · rfl
  · rw [State.postLink_engine]
    exact (Engine.post_published _ _ _).2.2

theorem State.finishActivation_published : (s.finishActivation.engines[e]).published = (s.engines[e]).published := by
  obtain ⟨hrearm, -⟩ := s.reopenAll.tbLost.updateVos.showPublished.rearmAll_engine e
  rw [State.finishActivation, hrearm]
  dsimp only
  rw [State.showPublished_engine, State.updateVos_frame]
  dsimp only
  rw [State.tbLost_published, State.reopenAll_published]

/-! ### The activation -/

/-- The image comes into force: the image stores, the causes and the commissioning record. -/
def State.takeImage (i : CfgImage) : State :=
  { s with
    img := { s.img with
      active := some i, slot := some i, previous := s.img.slot, staged := none, loadBuf := [], loadLen := 0, stage := .empty
      revert := false, confirmed := s.img.confirmed + 1 }
    conflict := false
    causes := s.causes.filter (fun u => decide (u ≠ UCause.image ∧ u ≠ UCause.conflict))
    mgt := { s.mgt with commissioning := (if s.mgt.commissioning.length < 60 then s.mgt.commissioning
      else s.mgt.commissioning.drop 1) ++ [(i.check, s.stamp, i.bytes)] } }

/-- The state in which an image has been activated. -/
def State.activated (i : CfgImage) : State :=
  ((s.takeImage i).applySettings s.cfg).assignSections.finishActivation

variable {s} {i : CfgImage}

theorem execImageActivation_activates (hr : s.inReset = false) (hi : s.img.staged = some i) (hst : s.img.stage = .activating)
    (ht : s.now = s.clk.tickAt) (hho : ∀ e : Fin 4, (s.engines[e]).ho = []) :
    exec .imageActivation s = .next (s.activated i) := by
  have hexec : exec .imageActivation s = execImageActivation s := rfl
  rw [hexec, execImageActivation, hi]
  dsimp only
  rw [State.when_true (by simp only [hr, State.atTick, ht, hst, State.noHandover hho]; rfl)]
  rfl

variable (s) (i)

theorem State.activated_points : (s.takeImage i).SameButPoints (s.activated i) :=
  ((s.takeImage i).applySettings_points s.cfg).trans
    ((State.assignSections_settings _).trans (State.finishActivation_settings _)).points

theorem State.activated_wdu (n : Fin 64) : (s.activated i).wdus[n] =
    (((s.takeImage i).activateUsed s.cfg (decide (s.sup.field.st = .cutoff))).wdus[n]).resettle s.cfg i.cfg n := by
  have hw : (s.activated i).wdus = ((s.takeImage i).applySettings s.cfg).wdus :=
    ((State.assignSections_settings _).trans (State.finishActivation_settings _)).wdus
  rw [hw]
  exact (s.takeImage i).applySettings_wdu s.cfg n

theorem State.takeImage_cfg : (s.takeImage i).cfg = i.cfg := rfl

theorem State.takeImage_wdus : (s.takeImage i).wdus = s.wdus := rfl

/-- A point whose settings stay, and whose port is not given up, goes on. -/
theorem State.activated_ctx {n : Fin 64} (h : pointChanged s.cfg i.cfg n = false)
    (hport : s.assigned n = false ∨ (i.cfg.prtCfg[n]).getLsbD 31 = true) : ((s.activated i).wdus[n]).ctx = (s.wdus[n]).ctx := by
  rw [State.assigned, ← s.takeImage_cfg i] at hport
  rw [s.activated_wdu, Wdu.resettle_ctx _ h, State.activateUsed_wdu _ _ _ hport, State.takeImage_wdus]

theorem State.activated_published (e : Fin 4) :
    ((s.activated i).engines[e]).published.secs = ((s.takeImage i).applySettings s.cfg).placed e := by
  rw [State.activated, State.finishActivation_published]
  exact State.assignSections_published _ e

theorem State.activated_modes : s.SameModes ((s.takeImage i).applySettings s.cfg) :=
  State.SameModes.trans (.of_engines rfl) ((s.takeImage i).applySettings_modes s.cfg)

theorem State.activated_cfg : ((s.takeImage i).applySettings s.cfg).cfg = i.cfg := ((s.takeImage i).applySettings_points s.cfg).cfg

/-- What stands beside the settings. -/
theorem State.activated_rest : (s.activated i).img = (s.takeImage i).img ∧ (s.activated i).conflict = false ∧
    (s.activated i).causes = (s.takeImage i).causes ∧ (s.activated i).clk = s.clk ∧ (s.activated i).vis = s.vis ∧
    (s.activated i).cmd.waiting = s.cmd.waiting ∧ (s.activated i).crc = s.crc ∧ (s.activated i).tst = s.tst ∧
    (s.activated i).lanes = s.lanes ∧ (s.activated i).mgt.commissioning = (s.takeImage i).mgt.commissioning := by
  have h := s.activated_points i
  generalize s.activated i = t at h ⊢
  have hlog : State.SameButLog _ t := h
  exact ⟨hlog.img, hlog.conflict, hlog.causes, hlog.clk, hlog.vis, congrArg (fun c => c.waiting) hlog.cmd, hlog.crc, hlog.tst,
    hlog.lanes, hlog.mgt_commissioning⟩

end

/-! ### When nothing is activated, and the end of a staged image -/

theorem execImageActivation_waits {s : State} {e : Fin 4} (h : (s.engines[e]).ho ≠ [] ∨ s.now ≠ s.clk.tickAt) :
    exec .imageActivation s = .next s := by
  have hexec : exec .imageActivation s = execImageActivation s := rfl
  rw [hexec, execImageActivation]
  split
  · rfl
  · refine State.when_false ?_
    rcases h with h | h
    · have hall : (allFin 4).all (fun e => (s.engines[e]).ho.isEmpty) = false := by
        refine List.all_eq_false.2 ⟨e, mem_allFin e, ?_⟩
        rwa [List.isEmpty_iff]
      rw [hall, Bool.and_false]
    · rw [State.atTick, decide_eq_false h]
      simp

/-- A staged image that nobody confirmed in time. -/
theorem execStagedImageExpiry_expires {s : State} {dt : Nat} (hr : s.inReset = false) (hst : s.img.stage = .staged)
    (hdue : s.img.stagedAt + 3600000000000 ≤ s.now + dt) :
    exec (.stagedImageExpiry dt) s = .next ((s.pass dt).discardStaged.imgFault 5 0x0A33) := by
  have hexec : exec (.stagedImageExpiry dt) s = execStagedImageExpiry dt s := rfl
  have hc : (!(s.pass dt).inReset && decide ((s.pass dt).img.stage = .staged ∧ (s.pass dt).img.stagedAt + 3600000000000 ≤ (s.pass dt).now))
      = true := Bool.and_eq_true_iff.2 ⟨by rw [State.pass_inReset, hr]; rfl, decide_eq_true ⟨hst, hdue⟩⟩
  rw [hexec, execStagedImageExpiry, State.when_true hc]

theorem stagedImage_expires {s : State} {dt : Nat} (hr : s.inReset = false) (hst : s.img.stage = .staged)
    (hdue : s.img.stagedAt + 3600000000000 ≤ s.now + dt) (hv : s.img.verify = none) :
    ∃ t, exec (.stagedImageExpiry dt) s = .next t ∧
      ({ s.pass dt with img := t.img, causes := t.causes, engines := t.engines } : State).SameButLog t ∧
      t.img = { s.img with
        staged := none, loadBuf := [], loadLen := 0, stage := .empty, revert := false
        fault := setBit s.img.fault 5 } ∧ t.lastFault 0x0A33 0xFFFF := by
  refine ⟨_, execStagedImageExpiry_expires hr hst hdue, ?_⟩
  have hlast : ((s.pass dt).discardStaged.imgFault 5 0x0A33).lastFault 0x0A33 0xFFFF :=
    State.fault_lastFault _ 0x0A33 0xFFFF (by decide) (by decide) (by decide) (by decide)
  have hsame := (s.pass dt).discardStaged.imgFault_same 5 0x0A33
  have hsilent := State.discardStaged_silent (s := s.pass dt) hv
  have hcleared := (s.pass dt).discardStaged_img
  generalize (s.pass dt).discardStaged.imgFault 5 0x0A33 = t at hlast hsame ⊢
  generalize (s.pass dt).discardStaged = d at hsame hsilent hcleared
  have himg : t.img = s.img.cleared.markFault 5 := hsame.img.trans (congrArg (Images.markFault 5) hcleared)
  have hd (x : Images) : ({ s.pass dt with img := x, causes := d.causes, engines := d.engines } : State) = { d with img := x } := by
    rw [hsilent]
  refine ⟨?_, himg.trans ?_, hlast⟩
  · rw [hsame.img, hsame.causes, hsame.engines, hd]
    exact hsame
  · exact congrArg (fun v => ({ s.img.cleared.markFault 5 with verify := v } : Images)) hv.symm

end Sys2Proof.Machine

open Sys2Proof Sys2Proof.Machine
/-- Settles O44: the activation is the new image in force, its settings (`State.applySettings`), the sections at their home engines
(`State.assignSections`) and the open frames anew; no setting reaches what the statement keeps. That an address conflict ends at the
activation is the model's reading (log 63). -/
theorem imageActivated : Obligations.ImageActivated := by
  unfold Obligations.ImageActivated
  refine ⟨fun s i hr hi hst ht hho => ?_, fun s e h => execImageActivation_waits h, fun s dt hr hst hdue hv => ?_⟩
  · obtain ⟨himg, hconf, hcauses, hclk, hvis, hwait, hcrc, htst, hlanes, hcom⟩ := s.activated_rest i
    have hgone (x : UCause) (hx : x = .image ∨ x = .conflict) : x ∉ (s.activated i).causes := by
      rw [hcauses]
      rcases hx with rfl | rfl <;> simp [State.takeImage]
    refine ⟨s.activated i, execImageActivation_activates hr hi hst ht hho, ?_⟩
    rw [himg, hcom]
    refine ⟨rfl, rfl, rfl, rfl, rfl, rfl, hconf, hgone _ (.inl rfl), hgone _ (.inr rfl), hclk, hvis, hwait, hcrc, htst, hlanes,
      List.getLast?_concat, fun e hm hj => ?_, fun e x hx hm => ?_, fun e x hx hm => ?_, fun n hn => ?_,
      fun n hhead hlev hthr1 hthr2 haddr hport => ?_⟩
    · obtain ⟨hmode, hjoin⟩ := s.activated_modes i e
      rw [s.activated_published, State.placed_idx _ _ (fun k => hm (hmode.symm.trans k)) (hjoin.trans hj), s.activated_cfg]
    · rw [s.activated_published] at hx
      exact State.placed_disturbed _ e hx fun k => hm ((s.activated_modes i e).1.symm.trans k)
    · rw [s.activated_published] at hx
      exact State.placed_halted _ e hx ((s.activated_modes i e).1.trans hm)
    · have hchanged : pointChanged s.cfg i.cfg n = true := pointChanged_of_head hn
      rw [s.activated_wdu]
      exact Wdu.resettle_spent _ hchanged
    · exact s.activated_ctx i (decide_eq_false (by simp [hhead, hlev, hthr1, hthr2, haddr])) hport
  · exact stagedImage_expires hr hst hdue hv

end
